-- ==== Sys2Proof/Word.lean ====
section
/-! DEFINITION. The words, names and operand records of the SCM-960 module: bytes, the lifecycle and power-state
names, session roles, and the records that commands carry. Plain data only. -/

namespace Sys2Proof

/-- One byte (R4: multi-byte fields are little-endian lists of these). -/
abbrev Byte := BitVec 8
/-- A string of bytes, lowest address first. -/
abbrev Bytes := List Byte
/-- A sparse table by number: an unlisted key reads as the reader's default. -/
abbrev SMap (α : Type) := List (Nat × α)

/-- Four like things: channels CH0-CH3, rings, lanes, clusters, axes, strings. -/
structure Four (α : Type) where
  a : α
  b : α
  c : α
  d : α
  deriving DecidableEq, Repr

/-- Lifecycle states, Table 1.8. -/
inductive Lifecycle where
  | boot | selftest | negotiate | standby | active | safe | update | replay | isolated
  deriving DecidableEq, Repr

/-- Power states, Table 3.1. -/
inductive PState where
  | p0 | p1 | p2 | p3 | p4 | p5
  deriving DecidableEq, Repr

/-- Session roles, Table 4.6. -/
inductive Role where
  | view | operate | service | safety | update
  deriving DecidableEq, Repr

/-- WCP transports, R74. -/
inductive Transport where
  | plant | svc | host
  deriving DecidableEq, Repr

/-- What reception found of a packet's 16-byte tag (R78): none sent, wrong, or correct. -/
inductive TagState where
  | absent | wrong | good
  deriving DecidableEq, Repr

/-- The header of one WCP request as reception hands it to the packet checks (Tables 4.2 to 4.4). -/
structure Hdr where
  transport : Transport
  /-- source address (plant and SVC); 0 on the host link -/
  peer : Nat
  /-- sync bytes and CRC-32C right (check 1) -/
  crcOk : Bool
  /-- LENGTH at most 4,096 and equal to the received size (check 2) -/
  sizeOk : Bool
  version : Byte
  flags : Byte
  seq : BitVec 16
  session : BitVec 16
  target : Byte
  /-- reserved header bytes 13 to 15 -/
  resv : BitVec 24
  tag : TagState
  deriving DecidableEq, Repr

/-- A time80 value (R6). -/
structure Time80 where
  sec : BitVec 48
  ns : BitVec 32
  deriving DecidableEq, Repr

/-- SESSION_OPEN's request payload (Table 4.7), with the results of the standards' own computations on it. -/
structure OpenReq where
  role : Byte
  hostNonce : Bytes
  hostKey : Bytes
  cert : Bytes
  sig : Bytes
  deriving DecidableEq, Repr

/-- PARAM_GET request entry (Table 4.11). -/
structure GetEntry where
  id : BitVec 16
  inst : Byte
  options : Byte
  deriving DecidableEq, Repr

/-- PARAM_SET request entry (Table 4.11). -/
structure SetEntry where
  id : BitVec 16
  inst : Byte
  value : Bytes
  deriving DecidableEq, Repr

/-- The crossings' far dies, Table 1.1. -/
inductive Die where
  | controlSoc | turnip | mixedSignal | field | nonVolatile | memory
  deriving DecidableEq, Repr

/-- Clock islands and regions, Table 1.4. -/
inductive Region where
  | app | loop | est | net | can | ring | pwm | turnip | ao | field | act
  deriving DecidableEq, Repr

/-- What the near side of a crossing asks of the far side, Table 1.5; of a FIFO stream, the entries that wait. -/
inductive XingUse where
  | read
  | write
  | fifo (entries : Nat)
  deriving DecidableEq, Repr

/-- What the bitstreams of one channel brought since the latch before (R207, R209, R210): the bits of DSI, DSV and DSB in order, up to the one that the
boundary latches, with its capture stamp. -/
structure DsSample where
  bits : List (Bool × Bool × Bool)
  stamp : BitVec 32
  /-- how many of the bits had come at each point of the 20 µs grid in the period just ended (R212) -/
  grid : List Nat
  /-- GD_FLTn is low -/
  gdLow : Bool
  deriving DecidableEq, Repr

/-- How a node's frame came in (R109, R113): the port (QRX, else PRX), characters 1 to 5 of the idle set before it, its TAG, whether it ends with
K29.7 with LEN and CRC right, and the code violations in it. -/
structure Rx where
  q : Bool
  idle : Bytes
  tag : Byte
  whole : Bool
  viol : Nat
  deriving DecidableEq, Repr

/-- The part a SWEEP_DATA frame carries after reception (Table 5.5): 16 cell codes, 4 temperatures and the rest. -/
structure SweepPayload where
  sweep : BitVec 16
  v : List (BitVec 16)
  t : List (BitVec 16)
  pairIdx : Byte
  calId : Byte
  pairV : BitVec 16
  calV : BitVec 16
  balMask : BitVec 16
  status : BitVec 16
  epoch : Byte
  dflags : Byte
  deriving DecidableEq, Repr

/-- A node's reply to AUTH_CHALLENGE OP 2 (Table 11.5) with its chain and history block as fetched (R326, R330). -/
structure AuthData where
  serial : Bytes
  epoch : Byte
  nvgen : BitVec 32
  certId : Bytes
  histDigest : Bytes
  sig : Bytes
  cert : Bytes
  issuer : Bytes
  history : Bytes
  deriving DecidableEq, Repr

/-- What comes with every frame over Shallot (13 Table 13.1): its SEQ, and whether its CRC is right. -/
structure Link where
  seq : BitVec 16
  crcOk : Bool
  deriving DecidableEq, Repr

/-- What a channel reads back around a switch pulse, in mV (12 Table 12.3): SO_24V; the mid-node between pulses and 100 µs into the pulse; the output
before the pulse, 100 µs into it and 100 µs after it. -/
structure SwitchLevels where
  supply : Nat
  idle : Nat
  mid : Nat
  before : Nat
  out : Nat
  after : Nat
  deriving DecidableEq, Repr

/-- CAN frame entry (Table 15.2). -/
structure CanEntry where
  id : BitVec 32
  fmt : Byte
  dlc : Byte
  handle : BitVec 16
  data : Bytes
  deriving DecidableEq, Repr

/-- How a CAN frame's transmission stands or ended (R433 to R436). -/
inductive CanOutcome where
  /-- start of frame sent -/
  | started
  /-- arbitration won -/
  | arbWon
  | arbLost
  /-- ts32 of the start of frame; loop delay measured, in clocks (R431) -/
  | success (stamp : BitVec 32) (clocks : Nat)
  /-- an error as transmitter -/
  | error
  /-- no acknowledgement came, and no dominant bit during the error flag (ISO 11898-1) -/
  | noAck
  /-- the transmitter loop delay is measured, in clocks of 12.5 ns (R431) -/
  | measured (clocks : Nat)
  deriving DecidableEq, Repr

/-- A standard input as a scan finds it (R445, R446, R449): voltage in mV and the current it draws in µA. -/
structure DiIn where
  mv : Nat
  ua : Nat
  deriving DecidableEq, Repr

/-- A standard output as a scan measures it (R445, Table 16.1): current in mA, output and supply voltage in mV, whether its current limit is in force,
and its switch's junction temperature in °C. -/
structure DoIn where
  ma : BitVec 16
  mv : Nat
  supplyMv : Nat
  limit : Bool
  temp : Int
  deriving DecidableEq, Repr

/-- One scan's samples from the field die (R445). -/
structure ScanData where
  di : List DiIn
  si : Byte
  dout : List DoIn
  /-- a valid frame reached the field die from the logic side -/
  frameOk : Bool
  /-- the field die's reply reached the logic side -/
  replyOk : Bool
  /-- SO mid-node and output levels, FIO_STATUS order -/
  so : BitVec 16
  deriving DecidableEq, Repr

/-- Standard output diagnostics, Table 16.1. -/
inductive DoDiag where
  | overload | overTemp | openOn | offHigh | supplyLow | supplyOk | openOnEnd | offHighEnd
  deriving DecidableEq, Repr

/-- What went wrong with a frame on the bus as a receiver sees it (15 R428, R439): nothing, a recessive res bit, an error. -/
inductive CanFlaw where
  | none | res | error
  deriving DecidableEq, Repr

/-- The lines of a channel read back over one period (8 R222): of each commanded edge how far it lies from its place, ps, none where it is missing;
and how many other edges there are. -/
structure Readback where
  edges : List (Option Int)
  others : Nat
  deriving DecidableEq, Repr

/-- The end of a logic test (17 R461): its signature is the expected one; patterns completed and expected. -/
structure LaneTest where
  sigOk : Bool
  count : Nat
  expected : Nat
  deriving DecidableEq, Repr

/-- Answers to a re-request (R123). -/
inductive ReadBack where
  | frame (rx : Rx) (p : SweepPayload)
  | notHeld
  | expired
  deriving DecidableEq, Repr

/-- A PTP Announce data set: what the comparison of R416 looks at. -/
structure AnnounceData where
  identity : Bytes
  prio1 : Nat
  clockClass : Nat
  accuracy : Nat
  variance : Nat
  prio2 : Nat
  steps : Nat
  /-- ns; the Announce interval -/
  interval : Nat
  deriving DecidableEq, Repr

/-- An Ethernet frame as a port receives it (14 R402): whether its check sequence holds, its 802.1Q tags, and whether it is the content of a frame
that PRP_FRAME has passed on (14 R407). -/
structure EthIn where
  port : Nat
  fcsOk : Bool
  tags : List (BitVec 16)
  passed : Bool
  deriving DecidableEq, Repr

/-- The head of a PTP message (14 R413, IEEE 1588-2019): messageType, domain, and its transport, UDP over IPv4 or Layer 2. -/
structure PtpHdr where
  type : Nat
  domain : Nat
  udp : Bool
  deriving DecidableEq, Repr

/-- Safety cross-demands, R339. -/
inductive DemandKind where
  | stringTrip | runStop | stringLockout | moduleLockout | fire
  deriving DecidableEq, Repr

/-- A part entry of a Renica bundle (Table 19.3). -/
structure PartEntry where
  type : Nat
  scope : Byte
  version : BitVec 32
  offset : Nat
  length : Nat
  digest : Bytes
  compat : List (Nat × Nat × Nat × Nat)
  deriving DecidableEq, Repr

/-- What a CONTROL frame brings (Table 13.2, R64, R65, R104, R412, R420). -/
inductive CtlMsg where
  | snapshot (num : BitVec 16) (t : Time80)
  | wake
  | p0Report
  | time (t : Time80) (linkNs : Nat)
  | step (at_ : Time80) (ns : Int)
  /-- the twin's latched counters of a snapshot -/
  | counters (num : BitVec 16) (values : List (Nat × Nat))
  /-- eligibility (0 none, 1 standby, 2 active), SYS.PREFER_SLOT, the carrier serial, and the entries of the running parts -/
  | eligible (level prefer : Nat) (serial : Bytes) (parts : List PartEntry)
  /-- the state of the ladder the active takes the pair to -/
  | ladder (target : Nat)
  /-- the twin asks for running parts -/
  | wantParts (mask : Nat)
  /-- a step of the manifest transaction failed -/
  | undo
  deriving DecidableEq, Repr

/-- LOOP_COPY channel record (Table 13.4): what is carried, in machine numbers. -/
structure ChanCopy where
  duty : Int
  winner : Nat
  dir : Bool
  injGate : Bool
  injFull : Bool
  ilHeld : Bool
  chState : Nat
  sweepNo : BitVec 16
  partialSet : Bool
  staleSet : Bool
  estStale : Bool
  estStamp : BitVec 32
  i1 : Int
  i2 : Int
  i3 : Int
  i5 : Int
  iIl : Int
  x1 : Int
  x2 : Int
  y1 : Int
  y2 : Int
  c7 : Int
  a6 : Int
  phase : List (BitVec 32)
  fade : Int
  rearm : Nat
  staleMs : Nat
  pgX : Int
  pgV : Int
  pgT : Int
  profStatus : BitVec 32
  deriving DecidableEq, Repr

/-- LOOP_COPY common part (Table 13.3) and its four records. -/
structure LoopCopy where
  period : BitVec 32
  stamp : BitVec 32
  generation : BitVec 32
  flags : Byte
  digest : Bytes
  ch : Four ChanCopy
  deriving DecidableEq, Repr

/-- AXIS_COPY record of one axis (Table 13.2, R250). -/
structure AxisRec where
  x : Int
  v : Int
  t : Int
  status : BitVec 32
  deriving DecidableEq, Repr

/-- The state of a WSF connection in SAFETY_COPY (R367, R368): of a produce connection, `last` is the last SEQ sent and `started` that its
START was sent. -/
structure WsfCopy where
  state : Nat
  last : BitVec 16
  deadline : Nat
  started : Bool
  locked : Bool
  good : Nat
  data : BitVec 32
  pending : BitVec 32
  deriving DecidableEq, Repr

/-- SAFETY_COPY (Table 13.2): SAFE.STATUS, SAFE.LATCH, and the state of each WSF connection. -/
structure SafetyCopyMsg where
  status : BitVec 32
  latch : Four (BitVec 32)
  wsf : Four WsfCopy
  deriving DecidableEq, Repr

/-- SWEEP_FINAL (Table 13.2). -/
structure SweepFinalMsg where
  ring : Nat
  complete : Bool
  sweep : BitVec 16
  stamp : BitVec 32
  rxMask : BitVec 32
  crcs : List (BitVec 16)
  deriving DecidableEq, Repr

/-- EST_DIGEST (Table 13.2). -/
structure EstDigestMsg where
  cycle : BitVec 32
  crc : Four (BitVec 32)
  hDis : Four Int
  hChg : Four Int
  deriving DecidableEq, Repr

/-- One image segment from the twin (R511): the part's descriptor entry with the result of the R501 signature checks
on its kept signature block, and the payload. -/
structure ImageMsg where
  entry : PartEntry
  sigBlock : Bytes
  payload : Bytes
  /-- false: a part a twin restores; true: a PAIR bundle forwarded under R518 -/
  bundle : Bool
  deriving DecidableEq, Repr

end Sys2Proof
end

