-- ==== Sys2Proof/Syntax.lean ====
section
/-! DEFINITION. The commands of the SCM-960 block: one constructor for each row of the operation table, in its order.
Operands the table leaves out are what the row's text says arrives with it: the WCP header and payload fields, the received
frame, the sampled values. `h` is always the packet header of a WCP request. -/

namespace Sys2Proof

/-- A command: a WCP request, a received frame, or an event of a clock, a pin or a detector. -/
inductive Instr where
  /-- PING (R87) -/
  | ping (h : Hdr)
  /-- SESSION_OPEN (R89) -/
  | sessionOpen (h : Hdr) (req : OpenReq)
  /-- SESSION_CLOSE (R90) -/
  | sessionClose (h : Hdr)
  /-- GET_IDENTITY (R87) -/
  | getIdentity (h : Hdr)
  /-- EVENT_SUBSCRIBE (R102) -/
  | eventSubscribe (h : Hdr) (mask : BitVec 32) (minSev : Byte)
  /-- EVENT_ACK (R103) -/
  | eventAck (h : Hdr) (batch : BitVec 32)
  /-- FAULT_STATUS (R534) -/
  | faultStatus (h : Hdr)
  /-- POWER_SET (R62) -/
  | powerSet (h : Hdr) (target : Byte)
  /-- RESET (R69) -/
  | reset (h : Hdr)
  /-- PARAM_GET (R96) -/
  | paramGet (h : Hdr) (entries : List GetEntry)
  /-- PARAM_SET (R96) -/
  | paramSet (h : Hdr) (entries : List SetEntry)
  /-- CLUSTER_STATUS_W1C (R13) -/
  | clusterStatusW1c (h : Hdr) (inst : Byte) (value : BitVec 32)
  /-- CLUSTER_UNFENCE (R13) -/
  | clusterUnfence (h : Hdr) (inst : Byte) (value : Byte)
  /-- RESET_CAUSE_W1C (R67) -/
  | resetCauseW1c (h : Hdr) (value : BitVec 16)
  /-- COMMIT (R99) -/
  | commit (h : Hdr)
  /-- COMMIT_APPLIED (R100) -/
  | commitApplied
  /-- DISCARD (R9) -/
  | discard (h : Hdr)
  /-- PARAM_DESCRIBE (R95) -/
  | paramDescribe (h : Hdr) (id : BitVec 16)
  /-- PARAM_LIST (R94) -/
  | paramList (h : Hdr) (subsystem : Byte) (start : Byte)
  /-- PARAM_STORE (R101) -/
  | paramStore (h : Hdr)
  /-- SNAPSHOT_AT (R104) -/
  | snapshotAt (h : Hdr) (instant : Time80)
  /-- SNAPSHOT_INSTANT (R104) -/
  | snapshotInstant (num : Nat)
  /-- SNAPSHOT_READ (R105) -/
  | snapshotRead (h : Hdr) (num : BitVec 16) (source : Byte) (offset : BitVec 32)
  /-- SNAPSHOT_RELEASE (R104) -/
  | snapshotRelease (h : Hdr) (num : BitVec 16)
  /-- HOST_LINK_WRITE (R76) -/
  | hostLinkWrite (cmd : Byte) (bytes : Bytes) (cut : Bool)
  /-- HOST_LINK_READ (R76) -/
  | hostLinkRead (cut : Bool)
  /-- UDP_DATAGRAM (R75) -/
  | udpDatagram (f : EthIn) (dst : BitVec 32) (dport : Nat) (peer : Nat) (key : Nat) (offset : Nat) (more : Bool) (bytes : Bytes)
  /-- REASSEMBLY_TIMEOUT (R75) -/
  | reassemblyTimeout (key : Nat)
  /-- SPLIT_REQUEST_TIMEOUT (R81) -/
  | splitRequestTimeout (session : Nat)
  /-- SESSION_IDLE_TIMEOUT (R90) -/
  | sessionIdleTimeout (session : Nat)
  /-- EVENT_BATCH (R102) -/
  | eventBatch (session : Nat)
  /-- EVENT_BATCH_RETRY (R103) -/
  | eventBatchRetry (session : Nat)
  /-- MATING_QUALIFIED (R51) -/
  | matingQualified (slotId : Bool) (slotIdn : Bool) (eeprom : Option Bytes)
  /-- MATE_DETECT_OPEN (R52) -/
  | mateDetectOpen (ns : Nat)
  /-- POWER_FAIL_WARNING (R40) -/
  | powerFailWarning
  /-- POWER_FAIL_WARNING_CLEAR (R40) -/
  | powerFailWarningClear
  /-- BROWNOUT (R40) -/
  | brownout
  /-- AO_POWER_LOSS (R67) -/
  | aoPowerLoss
  /-- VIN_RESTART (R40) -/
  | vinRestart
  /-- NRST_IN (R68) -/
  | nrstIn (ns : Nat)
  /-- APP_WDOG_EXPIRY (R68) -/
  | appWdogExpiry
  /-- DIE_RESET (R20) -/
  | dieReset (die : Die)
  /-- OSCILLATOR_FAULT (R17) -/
  | oscillatorFault
  /-- CROSSING_TIMEOUT (R19) -/
  | crossingTimeout (far : Region) (how : XingUse)
  /-- CORRECTED_ERROR (R11) -/
  | correctedError (cluster : Nat)
  /-- UNCORRECTABLE_ERROR (R11) -/
  | uncorrectableError (cluster : Nat) (unit : Nat) (sram : Bool)
  /-- LANE_LOCKSTEP (R16) -/
  | laneLockstep (ch : Nat)
  /-- ROLE_CONFLICT (R29) -/
  | roleConflict
  /-- ROLE_IN_LOW (R389) -/
  | roleInLow
  /-- WAKE_IN (R65) -/
  | wakeIn
  /-- RTC_ALARM (R65) -/
  | rtcAlarm
  /-- POWER_STEP_DONE (R66) -/
  | powerStepDone
  /-- POWER_TRANSITION_ABANDONED (R63) -/
  | powerTransitionAbandoned (ch : Nat)
  /-- STANDBY_P0_TIMEOUT (R64) -/
  | standbyP0Timeout
  /-- CHECK_VISIT (R60) -/
  | checkVisit
  /-- IMAGE_VERIFIED (R70) -/
  | imageVerified (valid : Bool) (confirmed : Bool) (dict : BitVec 2)
  /-- SELFTEST_SLOT_END (R462) -/
  | selftestSlotEnd (slot : Nat) (results : List (Nat × Bool × Nat × Nat))
  /-- SELFTEST_COMPLETE (R463) -/
  | selftestComplete
  /-- NEGOTIATE_ROLE (R71) -/
  | negotiateRole
  /-- NEGOTIATE_SILENCE (R71) -/
  | negotiateSilence
  /-- START_READY (R70) -/
  | startReady
  /-- RING_START (R136) -/
  | ringStart (h : Hdr) (mask : Byte)
  /-- RING_STOP (R136) -/
  | ringStop (h : Hdr) (mask : Byte)
  /-- RING_ENUMERATE (R136) -/
  | ringEnumerate (h : Hdr) (ring : Byte)
  /-- NODE_COUNTERS (R136) -/
  | nodeCounters (h : Hdr) (ring : Byte) (node : Byte) (source : Byte)
  /-- NODE_PORTS (R136) -/
  | nodePorts (h : Hdr) (ring : Byte) (node : Byte)
  /-- ENUM_RESULT (R117) -/
  | enumResult (ring : Nat) (fromP : Nat) (fromQ : Option Nat) (unaddressed : Bool)
  /-- DELAY_MEASURED (R118) -/
  | delayMeasured (ring : Nat) (lps : Nat) (lps2 : Nat)
  /-- SWEEP_SYNC (R120) -/
  | sweepSync (ring : Nat)
  /-- SWEEP_DATA (R121) -/
  | sweepData (ring : Nat) (addr : Byte) (rx : Rx) (p : SweepPayload)
  /-- READ_RETAINED (R123) -/
  | readRetained (ring : Nat) (node : Nat) (answer : ReadBack)
  /-- SWEEP_FINALISED (R124) -/
  | sweepFinalised (ring : Nat)
  /-- LINK_EVENT (R131) -/
  | linkEvent (ring : Nat) (addr : Byte) (rx : Rx) (port : Nat) (event : Nat) (status : BitVec 16)
  /-- NODE_REPLY (R114) -/
  | nodeReply (ring : Nat) (addr : Byte) (rx : Rx) (status : Byte) (data : Bytes)
  /-- PORT_STATUS_TIMEOUT (R131) -/
  | portStatusTimeout (ring : Nat) (node : Nat)
  /-- MASTER_PORT_LOCK_LOSS (R130) -/
  | masterPortLockLoss (ring : Nat) (q : Bool)
  /-- HEARTBEAT_LOSS (R127) -/
  | heartbeatLoss (ring : Nat) (node : Nat)
  /-- OSET_ERROR_RATE (R137) -/
  | osetErrorRate (ring : Nat) (errors : Nat)
  /-- CELL_VALUES (R167) -/
  | cellValues (h : Hdr) (ring : Byte) (node : Byte)
  /-- BALANCE_MANUAL (R167) -/
  | balanceManual (h : Hdr) (ring : Byte) (node : Byte) (payload : Bytes)
  /-- OPEN_WIRE_RUN (R167) -/
  | openWireRun (h : Hdr) (ring : Byte) (node : Byte) (tap : Byte)
  /-- OPEN_WIRE_RESULT (R152): RESULT and the two changes of Table 6.7 -/
  | openWireResult (ring : Nat) (node : Nat) (result : Nat) (below : Int) (above : Int)
  /-- WIRE_FAULT_CLEAR (R155) -/
  | wireFaultClear (h : Hdr) (ring : Byte) (node : Byte) (tap : Byte)
  /-- CMP_TEST_RUN (R167) -/
  | cmpTestRun (h : Hdr) (ring : Byte) (node : Byte) (cell : Byte)
  /-- CMP_TEST_DUE (R160) -/
  | cmpTestDue (ring : Nat) (fired : Bool)
  /-- CMP_READBACK (R158) -/
  | cmpReadback (ring : Nat) (ov : Nat) (uv : Nat) (hyst : Nat)
  /-- BALANCE_POLICY_TICK (R164) -/
  | balancePolicyTick (ring : Nat)
  /-- CONTROL_BOUNDARY (R172) -/
  | controlBoundary (samples : Four DsSample)
  /-- RELEASE_INSTANT (R172) -/
  | releaseInstant (late : Nat)
  /-- APPLICATION_INSTANT (R214) -/
  | applicationInstant
  /-- SLOW_STALE_TRIP (R195) -/
  | slowStaleTrip (ch : Nat)
  /-- DUTY_SATURATED (R192) -/
  | dutySaturated (ch : Nat)
  /-- LIMIT_ACTIVE (R205) -/
  | limitActive (ch : Nat)
  /-- LOOP_STATUS (R202) -/
  | loopStatus (h : Hdr) (mask : Byte)
  /-- CH_START (R231) -/
  | chStart (h : Hdr) (mask : Byte)
  /-- CH_STOP_RAMP (R233) -/
  | chStopRamp (h : Hdr) (mask : Byte)
  /-- CH_STOP_IMMEDIATE (R233) -/
  | chStopImmediate (h : Hdr) (mask : Byte)
  /-- STOP_COMPLETE (R233) -/
  | stopComplete (ch : Nat)
  /-- STOP_TIMEOUT (R233) -/
  | stopTimeout (ch : Nat)
  /-- PSI_FAULT_CLEAR (R235) -/
  | psiFaultClear (h : Hdr) (mask : Byte)
  /-- LOOPBACK_RUN (R224) -/
  | loopbackRun (h : Hdr) (mask : Byte)
  /-- LOOPBACK_DUE (R224) -/
  | loopbackDue (edges : List (List (Option Int)))
  /-- PSI_STATUS (R236) -/
  | psiStatus (h : Hdr) (mask : Byte)
  /-- DS_CLOCK_LOSS (R207) -/
  | dsClockLoss (ch : Nat)
  /-- DS_CLOCK_RANGE (R207) -/
  | dsClockRange (ch : Nat)
  /-- DS_STUCK (R225) -/
  | dsStuck (ch : Nat) (line : Nat)
  /-- DS_FROZEN (R226) -/
  | dsFrozen (ch : Nat) (line : Nat)
  /-- TURNIP_DS_STUCK (R227) -/
  | turnipDsStuck (ch : Nat)
  /-- GATE_DRIVER_FAULT (R221): for how long GD_FLTn has been low, ns -/
  | gateDriverFault (ch : Nat) (lowNs : Nat)
  /-- READBACK_ACTIVE (R222): the channel's lines read back over the latest periods, oldest first -/
  | readbackActive (ch : Nat) (rb : List Readback)
  /-- READBACK_SHADOW (R223): likewise on the standby, against the edges of its shadow duty -/
  | readbackShadow (ch : Nat) (rb : List Readback)
  /-- OVERCURRENT (R344): the bits of DSI that Turnip's filter spans, newest first -/
  | overcurrent (ch : Nat) (bits : List Bool)
  /-- OC_TIME_EXCEEDED (R344): DSCLK as Turnip measures it, Hz -/
  | ocTimeExceeded (ch : Nat) (hz : Nat)
  /-- PROF_TARGET (R245) -/
  | profTarget (h : Hdr) (gen : Byte) (target : BitVec 64)
  /-- PROF_ESTOP (R247) -/
  | profEstop (h : Hdr) (mask : Byte)
  /-- PROF_STATUS (R266) -/
  | profStatus (h : Hdr) (mask : Byte)
  /-- POSITION_TICK (R243) -/
  | positionTick
  /-- AXIS_ENABLE (R255) -/
  | axisEnable (h : Hdr) (mask : Byte) (enable : Byte)
  /-- AXIS_HOME (R261) -/
  | axisHome (h : Hdr) (axis : Byte) (dir : Byte)
  /-- AXIS_SET_POS (R266) -/
  | axisSetPos (h : Hdr) (axis : Byte) (pos : BitVec 64)
  /-- AXIS_CALIBRATE (R260) -/
  | axisCalibrate (h : Hdr) (axis : Byte) (speed : BitVec 32)
  /-- AXIS_STATUS (R266) -/
  | axisStatus (h : Hdr) (mask : Byte)
  /-- HOLD_DELAY_EXPIRY (R254) -/
  | holdDelayExpiry (axis : Nat)
  /-- LOAD_ANGLE_SAMPLE (R257) -/
  | loadAngleSample (axis : Nat) (emf : Int) (settled : Bool)
  /-- BRIDGE_OVERCURRENT (R256) -/
  | bridgeOvercurrent (axis : Nat)
  /-- COIL_OPEN (R256) -/
  | coilOpen (axis : Nat) (phase : Nat)
  /-- ACT_SUPPLY_LOW (R256): the actuator supply measured, mV -/
  | actSupplyLow (mv : Nat)
  /-- BRIDGE_HOT (R256) -/
  | bridgeHot (level : Nat)
  /-- SF4_INCOMPLETE (R264) -/
  | sf4Incomplete (axis : Nat)
  /-- ESTIMATOR_CYCLE (R270) -/
  | estimatorCycle
  /-- EST_CYCLE_COMPLETE (R273) -/
  | estCycleComplete (late : Bool)
  /-- ESTIMATOR_PERSIST (R301) -/
  | estimatorPersist (bad : BitVec 4)
  /-- EST_CELLS (R305) -/
  | estCells (h : Hdr) (ring : Byte) (node : Byte)
  /-- EST_STRING (R305) -/
  | estString (h : Hdr) (mask : Byte)
  /-- EST_RESET (R305) -/
  | estReset (h : Hdr) (ring : Byte) (node : Byte) (mask : BitVec 16)
  /-- IMP_RUN (R309) -/
  | impRun (h : Hdr) (mask : Byte)
  /-- IMP_STOP (R334) -/
  | impStop (h : Hdr) (mask : Byte)
  /-- IMP_SCHEDULE_DUE (R309) -/
  | impScheduleDue (ring : Nat)
  /-- IMP_WINDOW_END (R313) -/
  | impWindowEnd (ring : Nat)
  /-- IMP_RUN_END (R310) -/
  | impRunEnd (ring : Nat)
  /-- PRECURSOR_CLEARED (R324) -/
  | precursorCleared (ring : Nat)
  /-- IMP_TABLE (R334) -/
  | impTable (h : Hdr) (ring : Byte) (node : Byte) (cell : Byte)
  /-- IMP_HEALTH (R334) -/
  | impHealth (h : Hdr) (ring : Byte) (node : Byte)
  /-- NODE_IDENTITY (R334) -/
  | nodeIdentity (h : Hdr) (ring : Byte) (node : Byte)
  /-- NODE_REAUTH (R334) -/
  | nodeReauth (h : Hdr) (ring : Byte) (node : Byte)
  /-- IMP_NODE_SYNC (R332) -/
  | impNodeSync (h : Hdr) (mask : Byte)
  /-- AUTH_CHALLENGE_DUE (R325) -/
  | authChallengeDue (node : Nat) (nonce : Bytes)
  /-- AUTH_ANSWER (R328) -/
  | authAnswer (node : Nat) (answer : Option AuthData)
  /-- NODE_SYNC_DUE (R332) -/
  | nodeSyncDue (ring : Nat)
  /-- SAFETY_HEARTBEAT_LOSS (R340) -/
  | safetyHeartbeatLoss
  /-- SAFETY_LOCKSTEP (R340) -/
  | safetyLockstep
  /-- CROSS_DEMAND (R339) -/
  | crossDemand (kind : DemandKind) (strings : Nat) (fromTurnip : Bool)
  /-- CROSS_DEMAND_TIMEOUT (R356) -/
  | crossDemandTimeout
  /-- CHANNEL_DISCREPANCY (R357) -/
  | channelDiscrepancy (string : Nat)
  /-- SI_DEMAND (R353) -/
  | siDemand (pair : Nat) (turnip : Bool)
  /-- SI_DISCREPANCY (R353) -/
  | siDiscrepancy (pair : Nat)
  /-- SI_TEST_PULSE (R354): µs from the pulse until the input is low, where it goes low, and whether it moved in its partner's pulse -/
  | siTestPulse (input : Nat) (lowUs : Option Nat) (moved : Bool)
  /-- OFF_PULSE (R351): switch 0 P, 1 T, and what both channels read back -/
  | offPulse (out : Nat) (sw : Nat) (core turnip : SwitchLevels)
  /-- ON_PULSE (R352) -/
  | onPulse (out : Nat) (sw : Nat) (core turnip : SwitchLevels)
  /-- SO_OVERLOAD (R347) -/
  | soOverload (out : Nat)
  /-- SO_OPEN_LOAD (R347) -/
  | soOpenLoad (out : Nat)
  /-- STRING_CLOSE (R350) -/
  | stringClose (h : Hdr) (mask : Byte)
  /-- PRECHARGE_ELAPSED (R350) -/
  | prechargeElapsed (string : Nat)
  /-- STRING_OPEN_STOPPED (R350) -/
  | stringOpenStopped (h : Hdr) (mask : Byte)
  /-- STRING_OPEN_RUNNING (R350) -/
  | stringOpenRunning (h : Hdr) (mask : Byte)
  /-- SAFETY_STATUS (R371) -/
  | safetyStatus (h : Hdr)
  /-- SAFETY_RESET (R358) -/
  | safetyReset (h : Hdr) (scope : Byte) (mask : Byte)
  /-- RESET_ARM_TIMEOUT (R358) -/
  | resetArmTimeout
  /-- RESET_INPUT_EDGE (R358) -/
  | resetInputEdge (input : Nat) (lowMs : Nat) (skewMs : Nat)
  /-- RESET_LAPSED (R358) -/
  | resetLapsed
  /-- CONFIRM_SAFETY_CONFIG (R362) -/
  | confirmSafetyConfig (h : Hdr) (crc : BitVec 32)
  /-- COMMISSIONING_TEST_START (R364) -/
  | commissioningTestStart (h : Hdr) (ch : Byte)
  /-- COMMISSIONING_TEST_STOP (R364) -/
  | commissioningTestStop (h : Hdr) (ch : Byte)
  /-- CT_TIME_EXPIRY (R364) -/
  | ctTimeExpiry (ch : Nat)
  /-- SAFE_BLOCK_APPLY (R361) -/
  | safeBlockApply
  /-- WSF_PDU (R367) -/
  | wsfPdu (transport : Nat) (peer : Nat) (bytes : Bytes)
  /-- WSF_WATCHDOG (R367) -/
  | wsfWatchdog (conn : Nat)
  /-- WSF_PRODUCE (R368) -/
  | wsfProduce (conn : Nat)
  /-- SHALLOT_KEEPALIVE (R377) -/
  | shallotKeepalive (f : Link) (lifecycle : Lifecycle) (power : PState) (state : BitVec 32) (ts : BitVec 32) (timeState : Nat)
  /-- KEEPALIVE_DUE (R377) -/
  | keepaliveDue
  /-- LOOP_COPY (R378) -/
  | loopCopy (f : Link) (c : LoopCopy)
  /-- AXIS_COPY (R250) -/
  | axisCopy (f : Link) (recs : Four AxisRec)
  /-- ARB_START (R386) -/
  | arbStart (f : Link) (cause : Byte)
  /-- ARB_RESULT (R388) -/
  | arbResult (f : Link) (mask : Byte)
  /-- ARB_HANDOVER (R392) -/
  | arbHandover (f : Link) (period : BitVec 32) (drill : Bool)
  /-- KAT_COMPLETE (R387) -/
  | katComplete (lanes : Four LaneTest)
  /-- SAFETY_COPY (R355) -/
  | safetyCopy (f : Link) (m : SafetyCopyMsg)
  /-- SHALLOT_CONTROL (R412) -/
  | shallotControl (f : Link) (m : CtlMsg)
  /-- SWEEP_FINAL (R379) -/
  | sweepFinal (f : Link) (m : SweepFinalMsg)
  /-- SWEEP_NEED (R379) -/
  | sweepNeed (f : Link) (ring : Nat) (sweep : BitVec 16) (need : BitVec 32)
  /-- SWEEP_FRAME (R379) -/
  | sweepFrame (f : Link) (ring : Nat) (sweep : BitVec 16) (node : Nat) (p : SweepPayload)
  /-- EST_COPY (R380) -/
  | estCopy (f : Link) (block : Nat) (data : Bytes)
  /-- EST_DIGEST (R381) -/
  | estDigest (f : Link) (m : EstDigestMsg)
  /-- PARAM_MIRROR (R92) -/
  | paramMirror (f : Link) (session : Nat) (entries : List SetEntry)
  /-- DICT_COPY (R396) -/
  | dictCopy (f : Link) (index : Nat) (last : Bool) (values : List SetEntry) (digestOk : Bool)
  /-- WCP_FWD (R91) -/
  | wcpFwd (f : Link) (reply : Bool) (h : Hdr) (role : Role) (opcode : Nat) (payload : Bytes)
  /-- STATE_XFER (R70) -/
  | stateXfer (f : Link) (kind : Nat) (data : Bytes) (last : Bool)
  /-- STANDBY_REPORT (R526) -/
  | standbyReport (f : Link) (code : Nat) (inst : Nat) (sev : Nat) (data : Bytes)
  /-- SHALLOT_SEND_WATCH (R375) -/
  | shallotSendWatch
  /-- SHALLOT_SILENCE (R386) -/
  | shallotSilence
  /-- SHALLOT_LOCK_LOSS (R376) -/
  | shallotLockLoss
  /-- SILENCE_ROLE_HELD (R388) -/
  | silenceRoleHeld
  /-- AHEAD_TIMEOUT (R374) -/
  | aheadTimeout
  /-- UNCOMPARED_RUN (R383) -/
  | uncomparedRun (ch : Nat)
  /-- SUSPECT_CLEAR (R388) -/
  | suspectClear
  /-- TWIN_STATUS (R398) -/
  | twinStatus (h : Hdr)
  /-- TWIN_HANDOVER (R392) -/
  | twinHandover (h : Hdr)
  /-- TWIN_ISOLATE (R395) -/
  | twinIsolate (h : Hdr) (slot : Byte)
  /-- TWIN_JOIN (R395) -/
  | twinJoin (h : Hdr)
  /-- TWIN_CLEAR_SUSPECT (R388) -/
  | twinClearSuspect (h : Hdr)
  /-- TWIN_PROMOTE (R397) -/
  | twinPromote (h : Hdr)
  /-- SWAP_DRILL_DUE (R393) -/
  | swapDrillDue
  /-- SWAP_WATCH_END (R394) -/
  | swapWatchEnd
  /-- SWAP_HANDED_BACK (R394) -/
  | swapHandedBack (code : Nat)
  /-- ETH_LINK_CHANGE (R408) -/
  | ethLinkChange (port : Nat) (link : Nat)
  /-- ARP_REQUEST (R404) -/
  | arpRequest (f : EthIn) (ip : BitVec 32) (mac : Bytes)
  /-- ICMP_ECHO (R402) -/
  | icmpEcho (f : EthIn) (dst : BitVec 32) (src : BitVec 32) (data : Bytes)
  /-- GRATUITOUS_ARP (R404) -/
  | gratuitousArp
  /-- PRP_SUPERVISION (R406) -/
  | prpSupervision
  /-- PRP_FRAME (R407) -/
  | prpFrame (f : EthIn) (src : Nat) (seq : BitVec 16) (lan : Nat)
  /-- PTP_ANNOUNCE (R416) -/
  | ptpAnnounce (f : EthIn) (m : PtpHdr) (a : AnnounceData)
  /-- PTP_ANNOUNCE_TIMEOUT (R416) -/
  | ptpAnnounceTimeout (port : Nat)
  /-- PTP_SYNC (R417) -/
  | ptpSync (f : EthIn) (m : PtpHdr) (t1 : Nat) (t2 : Nat) (corr : Int) (interval : Nat) (master : Bytes)
  /-- PTP_DELAY_RESP (R415) -/
  | ptpDelayResp (f : EthIn) (m : PtpHdr) (t2 : Nat) (t3 : Nat) (t4 : Nat) (corr : Int)
  /-- PTP_PDELAY_REQ (R413) -/
  | ptpPdelayReq (f : EthIn) (m : PtpHdr) (rx : Nat)
  /-- DELAY_REQ_DUE (R415) -/
  | delayReqDue (port : Nat)
  /-- HOLDOVER_LONG (R417) -/
  | holdoverLong
  /-- TIME_STEP (R420) -/
  | timeStep
  /-- WHOLE_SECOND (R410) -/
  | wholeSecond
  /-- TIME_JUMP_ACCEPT (R419) -/
  | timeJumpAccept (h : Hdr)
  /-- TIME_JUMP_REJECT (R419) -/
  | timeJumpReject (h : Hdr)
  /-- NET_STATUS (R425) -/
  | netStatus (h : Hdr)
  /-- PTP_STATUS (R425) -/
  | ptpStatus (h : Hdr)
  /-- LAUNCH_TIME (R421) -/
  | launchTime (port : Nat) (frame : Bytes) (launch : Nat)
  /-- CAN_TX (R433) -/
  | canTx (h : Hdr) (ctl : Byte) (entries : List CanEntry)
  /-- CAN_TX_ABORT (R436) -/
  | canTxAbort (h : Hdr) (ctl : Byte) (handle : BitVec 16)
  /-- CAN_TX_FLUSH (R437) -/
  | canTxFlush (h : Hdr) (ctl : Byte)
  /-- CAN_TX_RESULTS (R434) -/
  | canTxResults (h : Hdr) (ctl : Byte) (max : Byte)
  /-- CAN_RX_READ (R439) -/
  | canRxRead (h : Hdr) (ctl : Byte) (fifo : Byte) (max : Byte)
  /-- CAN_RECOVER (R440) -/
  | canRecover (h : Hdr) (ctl : Byte)
  /-- CAN_STATUS (R442) -/
  | canStatus (h : Hdr) (ctl : Byte)
  /-- CAN_TX_DONE (R434) -/
  | canTxDone (ctl : Nat) (outcome : CanOutcome)
  /-- CAN_RX_FRAME (R438) -/
  | canRxFrame (ctl : Nat) (f : CanEntry) (sof : BitVec 32) (flaw : CanFlaw)
  /-- CAN_BUS_OFF (R440) -/
  | canBusOff (ctl : Nat)
  /-- CAN_RECOVERED (R440) -/
  | canRecovered (ctl : Nat)
  /-- FIELD_SCAN (R445) -/
  | fieldScan (d : ScanData)
  /-- DI_OPEN_WIRE (R449) -/
  | diOpenWire (n : Nat) (isOpen : Bool)
  /-- DO_DIAGNOSTIC (R451) -/
  | doDiagnostic (n : Nat) (d : DoDiag)
  /-- FIELD_WATCHDOG (R454) -/
  | fieldWatchdog
  /-- BARRIER_LINK_LOST (R454) -/
  | barrierLinkLost
  /-- FIELD_SUPPLY_LOW (R453) -/
  | fieldSupplyLow
  /-- FIO_STATUS (R457) -/
  | fioStatus (h : Hdr)
  /-- FIO_EDGES (R448) -/
  | fioEdges (h : Hdr) (max : Byte)
  /-- FIO_DO_CLEAR (R452) -/
  | fioDoClear (h : Hdr) (mask : Byte)
  /-- THERMAL_EVALUATION (R470) -/
  | thermalEvaluation (rows : List (List (Option Int)))
  /-- THERMAL_SHUTDOWN (R471) -/
  | thermalShutdown
  /-- THERMAL_HOLD_POLL (R472) -/
  | thermalHoldPoll (readings : List (Option Int))
  /-- THERM_STATUS (R476) -/
  | thermStatus (h : Hdr)
  /-- THERM_CLEAR (R473) -/
  | thermClear (h : Hdr)
  /-- BIST_RUN (R468) -/
  | bistRun (h : Hdr) (codes : Bytes)
  /-- BIST_STATUS (R476) -/
  | bistStatus (h : Hdr) (codes : Bytes)
  /-- BIST_COMPLETE (R461) -/
  | bistComplete (code : Nat) (sigOk : Bool) (count : Nat) (expected : Nat)
  /-- SCRUB_DUE (R464) -/
  | scrubDue (kind : Nat)
  /-- CLUSTER_ROTATION_DUE (R466) -/
  | clusterRotationDue
  /-- STANDBY_KAT_DUE (R465) -/
  | standbyKatDue (lanes : Four LaneTest)
  /-- FAULT_ACCEPTED (R527) -/
  | faultAccepted
  /-- FAULT_HANDLING (R524) -/
  | faultHandling
  /-- HANDLER_DEADLINE (R530) -/
  | handlerDeadline
  /-- RECORD_WRITE (R481) -/
  | recordWrite (good : Bool)
  /-- REC_INFO (R495) -/
  | recInfo (h : Hdr) (part : Byte)
  /-- REC_READ (R484) -/
  | recRead (h : Hdr) (part : Byte) (count : Byte) (slot : BitVec 32)
  /-- REC_CLEAR_GENERAL (R485) -/
  | recClearGeneral (h : Hdr) (seq : BitVec 32)
  /-- REC_CLEAR_SAFETY (R485) -/
  | recClearSafety (h : Hdr) (seq : BitVec 32)
  /-- REC_CLEAR_CONFIRM (R485) -/
  | recClearConfirm (h : Hdr) (seq : BitVec 32)
  /-- CLEAR_LAPSED (R485) -/
  | clearLapsed
  /-- FB_TRIGGER (R489) -/
  | fbTrigger (h : Hdr)
  /-- FB_FROZEN (R489) -/
  | fbFrozen
  /-- FB_CHECKPOINT (R488) -/
  | fbCheckpoint
  /-- FB_AUTO_RELEASE (R491) -/
  | fbAutoRelease
  /-- FB_STATUS (R495) -/
  | fbStatus (h : Hdr)
  /-- FB_EXPORT (R492) -/
  | fbExport (h : Hdr) (offset : BitVec 32) (length : BitVec 16)
  /-- FB_RELEASE (R491) -/
  | fbRelease (h : Hdr)
  /-- REPLAY_OPEN (R493) -/
  | replayOpen (h : Hdr) (source : Byte) (length : BitVec 32)
  /-- REPLAY_LOAD (R493) -/
  | replayLoad (h : Hdr) (offset : BitVec 32) (bytes : Bytes)
  /-- REPLAY_START (R494) -/
  | replayStart (h : Hdr) (cp : BitVec 32) (end_ : Time80) (mode : Byte)
  /-- REPLAY_END (R494) -/
  | replayEnd
  /-- REPLAY_STATUS (R495) -/
  | replayStatus (h : Hdr)
  /-- REPLAY_CLOSE (R493) -/
  | replayClose (h : Hdr)
  /-- UPD_STATUS (R521) -/
  | updStatus (h : Hdr)
  /-- UPD_BEGIN (R505) -/
  | updBegin (h : Hdr) (length : BitVec 32)
  /-- UPD_DATA (R505) -/
  | updData (h : Hdr) (offset : BitVec 32) (bytes : Bytes)
  /-- UPD_VERIFY (R502) -/
  | updVerify (h : Hdr)
  /-- UPD_VERIFY_DONE (R502) -/
  | updVerifyDone
  /-- UPD_ACTIVATE (R507) -/
  | updActivate (h : Hdr) (mask : Byte)
  /-- SPROUT_ACTIVATION (R507) -/
  | sproutActivation (cut : Option (Nat × Nat))
  /-- UPD_CONFIRM (R509) -/
  | updConfirm (h : Hdr)
  /-- UPD_ABORT (R505) -/
  | updAbort (h : Hdr)
  /-- UPD_ROLLBACK (R510) -/
  | updRollback (h : Hdr) (mask : Byte)
  /-- UPD_FROM_TWIN (R511) -/
  | updFromTwin (h : Hdr) (mask : Byte)
  /-- SHALLOT_IMAGE (R511) -/
  | shallotImage (f : Link) (m : ImageMsg)
  /-- TRIAL_READY_TIMEOUT (R508) -/
  | trialReadyTimeout
  /-- CONFIRM_EXPIRED (R508) -/
  | confirmExpired
  /-- NODE_STEP_COMPLETE (R514) -/
  | nodeStepComplete (good : Bool) (node : Nat)
  /-- MIXED_PAIR_LONG (R504) -/
  | mixedPairLong
  /-- SAFETY_SWITCH_FRAME_LOSS (R455) -/
  | safetySwitchFrameLoss (sw : Bool)
  /-- FREEWHEEL_TO_CLAMP (R338) -/
  | freewheelToClamp (out : Nat)
  deriving DecidableEq, Repr

end Sys2Proof
end

