-- ==== Sys2Proof/Decode.lean ====
section
/-! DEFINITION. The reading of the table's words. -/

namespace Sys2Proof

/-- The command a word of the operation table spells: none, since no row of the table gives bits (assumption log 4). -/
def decodeTableWord (_nbits _w : Nat) : Option Instr := none

end Sys2Proof
end

