-- ==== Sys2Proof/Machine/Bits.lean ====
section
/-! DEFINITION. Bytes, checksums, hashes and roundings: little-endian fields (R4), CRC-32C (R77), the Welfer Safe Frame's
CRC-32 (R360, R366), SHA-256, HMAC and HKDF (R78, R89), binary32 values and round-half-to-even. -/

namespace Sys2Proof.Machine
open Sys2Proof

/-- The low `n` bytes of a number, lowest first (R4). -/
def leBytes : Nat → Nat → Bytes
  | 0, _ => []
  | n + 1, v => BitVec.ofNat 8 v :: leBytes n (v / 256)

/-- The number a little-endian field holds (R4). -/
def ofLe : Bytes → Nat
  | [] => 0
  | b :: bs => b.toNat + 256 * ofLe bs

/-- The number a big-endian field holds. -/
def ofBe (bs : Bytes) : Nat := ofLe bs.reverse

/-- The low `n` bytes of a number, highest first. -/
def beBytes (n v : Nat) : Bytes := (leBytes n v).reverse

def u8 (v : Nat) : Bytes := leBytes 1 v
def u16 (v : Nat) : Bytes := leBytes 2 v
def u32 (v : Nat) : Bytes := leBytes 4 v
def u64 (v : Nat) : Bytes := leBytes 8 v

/-- Two's-complement field of `n` bytes. -/
def sBytes (n : Nat) (v : Int) : Bytes := leBytes n (v % (256 ^ n : Nat)).toNat

/-- The signed value of an unsigned field of `bits` bits. -/
def toSigned (bits v : Nat) : Int := if v % 2 ^ bits < 2 ^ (bits - 1) then (v % 2 ^ bits : Nat) else (v % 2 ^ bits : Nat) - (2 ^ bits : Nat)

/-- `n` bytes from offset `o`; short when the string ends. -/
def slice (bs : Bytes) (o n : Nat) : Bytes := (bs.drop o).take n

/-- The little-endian field of `n` bytes at offset `o`. -/
def fieldAt (bs : Bytes) (o n : Nat) : Nat := ofLe (slice bs o n)

/-- A string brought to exactly `n` bytes, zero-padded. -/
def padTo (n : Nat) (bs : Bytes) : Bytes := (bs ++ List.replicate (n - bs.length) 0).take n

/-- Bytes `o …` of a string replaced. -/
def patch (bs : Bytes) (o : Nat) (p : Bytes) : Bytes := bs.take o ++ p ++ bs.drop (o + p.length)

/-- ASCII bytes of a name. -/
def ascii (s : String) : Bytes := s.toList.map fun c => BitVec.ofNat 8 c.toNat

def bitOf (v i : Nat) : Bool := v.testBit i

/-- A word from flags, bit 0 first. -/
def ofBits : List Bool → Nat
  | [] => 0
  | b :: bs => (if b then 1 else 0) + 2 * ofBits bs

/-- The numbers below `n` whose bit is set. -/
def bitsSet (n v : Nat) : List Nat := (List.range n).filter fun i => v.testBit i

/-- The word with exactly the listed bits. -/
def ofBitList (l : List Nat) : Nat := l.foldl (fun a i => a ||| 2 ^ i) 0

/-! ### Checksums -/

def crcStep (poly : Nat) : Nat → Nat → Nat
  | 0, c => c
  | n + 1, c => crcStep poly n (if c % 2 = 1 then (c / 2) ^^^ poly else c / 2)

/-- A reflected 32-bit CRC with initial value and final inversion of ones. -/
def crcReflected (poly : Nat) (bs : Bytes) : Nat :=
  (bs.foldl (fun c b => crcStep poly 8 (c ^^^ b.toNat)) 0xFFFFFFFF) ^^^ 0xFFFFFFFF

/-- CRC-32C (R77). -/
def crc32c (bs : Bytes) : Nat := crcReflected 0x82F63B78 bs

def crcUpStep (width poly : Nat) : Nat → Nat → Nat
  | 0, c => c
  | n + 1, c => crcUpStep width poly n
      (if c.testBit (width - 1) then ((c * 2) % 2 ^ width) ^^^ poly else (c * 2) % 2 ^ width)

/-- A CRC of `width` bits, most significant bit first, with the given initial value. -/
def crcUp (width poly init : Nat) (bs : Bytes) : Nat :=
  bs.foldl (fun c b => crcUpStep width poly 8 (c ^^^ (b.toNat * 2 ^ (width - 8)))) init

/-! ### SHA-256, HMAC, HKDF

The hash function is named by R78 and R89. Its two tables are computed from their rule (fractional parts of roots of the first primes), and
its eight registers are kept as two histories of four words, newest first: the round number t appends one word to each. -/

/-- The largest number below 2^bits added to `r` whose k-th power stays within `n`, found bit by bit from the top. -/
def rootBits (k n : Nat) : Nat → Nat → Nat
  | 0, r => r
  | b + 1, r => rootBits k n b (if (r + 2 ^ b) ^ k ≤ n then r + 2 ^ b else r)

/-- The first 32 bits after the binary point of the k-th root of a prime below 512. -/
def rootFraction (k p : Nat) : BitVec 32 := BitVec.ofNat 32 (rootBits k (p * 2 ^ (32 * k)) 37 0)

/-- The primes up to 311, the 64th: no divisor from 2 up to 17. -/
def hashPrimes : List Nat :=
  ((List.range 312).drop 2).filter fun n => (((List.range 18).drop 2).all fun d => n ≤ d || n % d != 0)

/-- The 64 round constants. -/
def hashConsts : List (BitVec 32) := hashPrimes.map (rootFraction 3)

/-- Rotations of a word combined. -/
def rotMix (x : BitVec 32) (by_ : List Nat) : BitVec 32 := by_.foldl (fun a n => a ^^^ x.rotateRight n) 0

/-- The registers: the last four words of each history, newest first. -/
structure HashRegs where
  up : List (BitVec 32)
  low : List (BitVec 32)

/-- The registers before the first block: roots of the first eight primes. -/
def hashStart : HashRegs :=
  let ws := (hashPrimes.take 8).map (rootFraction 2)
  ⟨ws.take 4, ws.drop 4⟩

/-- One round with its constant and message word added. -/
def HashRegs.round (r : HashRegs) (x : BitVec 32) : HashRegs :=
  let u := fun i => r.up.getD i 0
  let v := fun i => r.low.getD i 0
  let t := x + v 3 + rotMix (v 0) [6, 11, 25] + (v 2 ^^^ (v 0 &&& (v 1 ^^^ v 2)))
  let maj := (u 0 &&& (u 1 ||| u 2)) ||| (u 1 &&& u 2)
  ⟨[t + maj + rotMix (u 0) [2, 13, 22], u 0, u 1, u 2], [t + u 3, v 0, v 1, v 2]⟩

/-- The rounds over the constants, with the next 16 message words at hand, oldest first. -/
def HashRegs.rounds : List (BitVec 32) → List (BitVec 32) → HashRegs → HashRegs
  | [], _, r => r
  | k :: ks, w, r =>
    let g := fun i => w.getD i 0
    let next := g 0 + g 9 + (rotMix (g 1) [7, 18] ^^^ (g 1 >>> 3)) + (rotMix (g 14) [17, 19] ^^^ (g 14 >>> 10))
    HashRegs.rounds ks (w.drop 1 ++ [next]) (r.round (k + g 0))

/-- One block of 64 bytes. -/
def HashRegs.absorb (r : HashRegs) (blk : Bytes) : HashRegs :=
  let words := (List.range 16).map fun i => BitVec.ofNat 32 (ofBe (slice blk (4 * i) 4))
  let q := HashRegs.rounds hashConsts words r
  ⟨List.zipWith (· + ·) r.up q.up, List.zipWith (· + ·) r.low q.low⟩

def HashRegs.absorbAll : Nat → Bytes → HashRegs → HashRegs
  | 0, _, r => r
  | n + 1, m, r => HashRegs.absorbAll n (m.drop 64) (r.absorb (m.take 64))

/-- SHA-256, 32 bytes: the message, a one bit, zeros and its length in bits fill whole blocks. -/
def sha256 (m : Bytes) : Bytes :=
  let blocks := (m.length + 72) / 64
  let r := HashRegs.absorbAll blocks (padTo (64 * blocks - 8) (m ++ [0x80]) ++ beBytes 8 (8 * m.length)) hashStart
  (r.up ++ r.low).flatMap fun w => beBytes 4 w.toNat

/-- HMAC-SHA-256. -/
def hmac (key m : Bytes) : Bytes :=
  let k := padTo 64 (if key.length > 64 then sha256 key else key)
  sha256 (k.map (· ^^^ 0x5c) ++ sha256 (k.map (· ^^^ 0x36) ++ m))

/-- HKDF-SHA-256 with 64 output bytes (R89). -/
def hkdf64 (secret salt info : Bytes) : Bytes :=
  let prk := hmac salt secret
  let t1 := hmac prk (info ++ [1])
  t1 ++ hmac prk (t1 ++ info ++ [2])

/-! ### Roundings and binary32 -/

/-- Integer quotient rounded to nearest, ties to even (denominator positive). -/
def rheDiv (n d : Int) : Int :=
  let q := n / d
  let r2 := 2 * (n % d)
  if r2 > d ∨ (r2 = d ∧ q % 2 = 1) then q + 1 else q

/-- A rational rounded to the nearest integer, ties to even. -/
def rhe (q : ℚ) : Int := rheDiv q.num q.den

/-- `2 ^ e` for any integer exponent. -/
def pow2 (e : Int) : ℚ := if 0 ≤ e then ((2 ^ e.toNat : Nat) : ℚ) else mkRat 1 (2 ^ (-e).toNat)

/-- The value of a finite binary32 word; none for an infinity or a NaN. -/
def f32Val (w : Nat) : Option ℚ :=
  let e : Nat := w / 2 ^ 23 % 256
  let m : Nat := w % 2 ^ 23
  let v := if e = 0 then mkRat m 1 * pow2 (-149) else mkRat ((m + 2 ^ 23 : Nat) : Int) 1 * pow2 ((e : Int) - 150)
  if e = 255 then none else some (if w.testBit 31 then -v else v)

/-- The value of a binary32 word, 0 where it is not finite. -/
def f32 (w : Nat) : ℚ := (f32Val w).getD 0

/-- The binary32 word nearest a rational, ties to even; beyond the range, an infinity. -/
def toF32 (q : ℚ) : Nat :=
  let a := |q|
  let sgn := if q < 0 then 2 ^ 31 else 0
  if a = 0 then 0 else
    let e0 : Int := (Nat.log2 a.num.toNat : Int) - Nat.log2 a.den
    let e := if pow2 e0 ≤ a then e0 else e0 - 1
    let e := max e (-126)
    let m := (rhe (a / pow2 (e - 23))).toNat
    let (m, e) := if m ≥ 2 ^ 24 then (m / 2, e + 1) else (m, e)
    if e > 127 then sgn + 0x7F800000
    else if m < 2 ^ 23 then sgn + m
    else sgn + ((e + 127).toNat * 2 ^ 23 + (m - 2 ^ 23))

/-- Brought into a range. -/
def clampI (lo hi v : Int) : Int := max lo (min hi v)

end Sys2Proof.Machine

namespace Sys2Proof

/-! ### Sparse tables -/

/-- The entry of a sparse table, or the default. -/
def SMap.at {α : Type} (m : SMap α) (k : Nat) (d : α) : α :=
  match m with
  | [] => d
  | (k', v) :: t => if k' = k then v else SMap.at t k d

def SMap.find {α : Type} (m : SMap α) (k : Nat) : Option α :=
  match m with
  | [] => none
  | (k', v) :: t => if k' = k then some v else SMap.find t k

/-- A sparse table with one entry written, keys rising. -/
def SMap.set {α : Type} (m : SMap α) (k : Nat) (v : α) : SMap α :=
  match m with
  | [] => [(k, v)]
  | (k', v') :: t => if k < k' then (k, v) :: (k', v') :: t
      else if k = k' then (k, v) :: t else (k', v') :: SMap.set t k v

def SMap.del {α : Type} (m : SMap α) (k : Nat) : SMap α := m.filter fun p => p.1 != k

/-! ### Four like things -/

/-- Member by number; a number above 3 reads the last. -/
def Four.get {α : Type} (f : Four α) (i : Nat) : α :=
  match i with | 0 => f.a | 1 => f.b | 2 => f.c | _ => f.d

/-- One member replaced; a number above 3 changes nothing. -/
def Four.set {α : Type} (f : Four α) (i : Nat) (v : α) : Four α :=
  match i with
  | 0 => { f with a := v } | 1 => { f with b := v } | 2 => { f with c := v } | 3 => { f with d := v } | _ => f

def Four.upd {α : Type} (f : Four α) (i : Nat) (g : α → α) : Four α := f.set i (g (f.get i))

def Four.map {α β : Type} (f : Four α) (g : α → β) : Four β := ⟨g f.a, g f.b, g f.c, g f.d⟩

def Four.mapIdx {α β : Type} (f : Four α) (g : Nat → α → β) : Four β := ⟨g 0 f.a, g 1 f.b, g 2 f.c, g 3 f.d⟩

def Four.toList {α : Type} (f : Four α) : List α := [f.a, f.b, f.c, f.d]

def Four.const {α : Type} (v : α) : Four α := ⟨v, v, v, v⟩

end Sys2Proof
end

