-- ==== Sys2Proof/Machine/Calc.lean ====
section
/-! DEFINITION. The functions of analysis the estimator and impedance formulas name (10 R275, R293; 11 R315, R323), as rational
series far finer than the formats they feed, and small statistics. -/

namespace Sys2Proof.Machine
open Sys2Proof

/-- e^(-x) for 0 ≤ x ≤ 1/2, to x^13. -/
def expSeries (x : ℚ) : ℚ := (List.range 13).foldr (fun k acc => 1 - x / (k + 1 : Nat) * acc) 1

/-- e^(-x) of a non-negative x, by halving the argument; 0 beyond 64. -/
def expNeg (x : ℚ) : ℚ :=
  if x ≤ 0 then 1 else if 64 < x then 0 else (expSeries (x / 128)) ^ 128

/-- 2^(-x). -/
def exp2Neg (x : ℚ) : ℚ := expNeg (x * (693147180559945 / 1000000000000000))

/-- arctan of t with |t| at most 1/2, to t^39. -/
def atanSeries (t : ℚ) : ℚ :=
  t * (List.range 20).foldr (fun k acc => 1 / (2 * k + 1 : Nat) - t * t * acc) 0

def piQ : ℚ := 3141592653589793 / 1000000000000000

/-- arctan of 0 ≤ t ≤ 1. -/
def atanUnit (t : ℚ) : ℚ := if 2 * t ≤ 1 then atanSeries t else piQ / 4 - atanSeries ((1 - t) / (1 + t))

/-- The angle of (x, y) in radians. -/
def atan2Q (y x : ℚ) : ℚ :=
  let a := if |y| ≤ |x| then (if x = 0 then 0 else atanUnit (|y| / |x|)) else piQ / 2 - atanUnit (|x| / |y|)
  let a := if x < 0 then piQ - a else a
  if y < 0 then -a else a

/-- The phase of a complex number in 0.01°, nearest. -/
def phaseCdeg (re im : Int) : Int := rhe (atan2Q im re * 18000 / piQ)

/-- The square root, to twelve decimal places. -/
def sqrtQ (q : ℚ) : ℚ := if q ≤ 0 then 0 else ((Nat.sqrt (q * 1000000000000000000000000).floor.toNat : Nat) : ℚ) / 1000000000000

/-- Linear interpolation in a list of equally spaced values over [0, 1]; the ends hold outside. -/
def interpUnit (tbl : List ℚ) (z : ℚ) : ℚ :=
  let n := tbl.length - 1
  let p := (max 0 (min 1 z)) * n
  let i := min (n - 1) p.floor.toNat
  let a := tbl.getD i 0
  a + (tbl.getD (i + 1) a - a) * (p - i)

/-- The two bins that bracket a value and the weight of the second (R276). -/
def bracket (centres : List ℚ) (t : ℚ) : Nat × Nat × ℚ :=
  match (List.range centres.length).find? fun i => decide (t ≤ centres.getD i 0) with
  | none => (centres.length - 1, centres.length - 1, 0)
  | some 0 => (0, 0, 0)
  | some (i + 1) => (i, i + 1, (t - centres.getD i 0) / (centres.getD (i + 1) 1 - centres.getD i 0))

def minQ (l : List ℚ) : ℚ := match l with
  | [] => 0
  | a :: t => t.foldl min a

def maxQ (l : List ℚ) : ℚ := match l with
  | [] => 0
  | a :: t => t.foldl max a

/-- Least-squares slope of (x, y) points; 0 without two distinct x. -/
def slopeQ (ps : List (ℚ × ℚ)) : ℚ :=
  let n : ℚ := ps.length
  let mx := (ps.map (·.1)).sum / n
  let my := (ps.map (·.2)).sum / n
  let sxx := (ps.map fun p => (p.1 - mx) * (p.1 - mx)).sum
  if sxx = 0 then 0 else (ps.map fun p => (p.1 - mx) * (p.2 - my)).sum / sxx

/-- Insertion into an ascending list. -/
def insertQ (a : ℚ) : List ℚ → List ℚ
  | [] => [a]
  | b :: t => if a ≤ b then a :: b :: t else b :: insertQ a t

/-- The median; of an even count, the mean of the two middle values. -/
def medianQ (l : List ℚ) : ℚ :=
  let s := l.foldl (fun acc a => insertQ a acc) []
  let n := s.length
  if n % 2 = 1 then s.getD (n / 2) 0 else (s.getD (n / 2 - 1) 0 + s.getD (n / 2) 0) / 2

/-- The series of the cosine to the term of x^18, x in radians within a quarter turn. -/
def cosSeries (x : ℚ) : ℚ :=
  let y := x * x
  (List.range 9).foldr (fun k acc => 1 - y / ((2 * k + 1) * (2 * k + 2) : Nat) * acc) 1

/-- The cosine of an angle in turns. -/
def cosTurn (x : ℚ) : ℚ :=
  let f := x - x.floor
  if 4 * f ≤ 1 then cosSeries (2 * piQ * f)
  else if 4 * f ≤ 3 then -cosSeries (2 * piQ * |f - 1 / 2|)
  else cosSeries (2 * piQ * (1 - f))

/-- The sine of an angle in turns. -/
def sinTurn (x : ℚ) : ℚ := cosTurn (x - 1 / 4)

def dotQ (a b : List ℚ) : ℚ := (List.zipWith (fun x y => x * y) a b).sum

/-- The solution of n linear equations in n unknowns, each given as its coefficients and its right side, by elimination; none where there is no single
one. -/
def solveQ : Nat → List (List ℚ) → Option (List ℚ)
  | 0, _ => some []
  | n + 1, rows =>
    match rows.find? fun r => r.headD 0 != 0 with
    | none => none
    | some p =>
      let rest := rows.eraseIdx (rows.findIdx fun r => r.headD 0 != 0)
      let below := rest.map fun r => (List.zipWith (fun a b => a - b * (r.headD 0 / p.headD 0)) r p).drop 1
      (solveQ n below).map fun xs => (p.getLastD 0 - dotQ (p.drop 1) xs) / p.headD 0 :: xs

/-- The least-squares coefficients of the columns for values given beside their rows of column values. -/
def leastSquares (n : Nat) (ps : List (List ℚ × ℚ)) : Option (List ℚ) :=
  solveQ n ((List.range n).map fun i =>
    ((List.range n).map fun j => (ps.map fun p => p.1.getD i 0 * p.1.getD j 0).sum) ++ [(ps.map fun p => p.1.getD i 0 * p.2).sum])


end Sys2Proof.Machine
end

