-- ==== Sys2Proof/Config.lean ====
section
/-! DEFINITION. What the spec leaves to the hardware or does not state: free values (no body, so no proof can see them) and
the results of the public-key standards, which this model takes as uninterpreted functions. -/

namespace Sys2Proof.Config

/-- Free value number n of 32 bits (assumption log 2): a value the spec leaves open, drawn by the state's counter. -/
opaque free32 : Nat → BitVec 32
/-- Free rational number n (assumption log 2). -/
opaque freeQ : Nat → ℚ
/-- Free choice number n (assumption log 2). -/
opaque freeBool : Nat → Bool
/-- Free byte string number n (assumption log 2), such as a nonce. -/
opaque freeBytes : Nat → Bytes

/-- 04 R89: the subject of a certificate that chains to the plant owner's root, with the role codes its organisational-unit
attribute lists; none where it does not chain (X.509 and ECDSA P-256 are standards of their own). -/
opaque certRoles : Bytes → Option (Bytes × List Nat)
/-- 04 R89: whether an ECDSA P-256 signature over a SHA-256 hash verifies under a certificate's key. -/
opaque ecdsaOk : (cert : Bytes) → (hash : Bytes) → (sig : Bytes) → Bool
/-- 04 R89: the module's ephemeral public key number n (65 bytes). -/
opaque ephemeralKey : Nat → Bytes
/-- 04 R89: the x-coordinate of the ECDH result of ephemeral key n with a host key; none where the point is not valid. -/
opaque ecdhX : Nat → Bytes → Option Bytes
/-- 04 R89: the module device certificate, DER. -/
opaque deviceCert : Bytes
/-- 04 R89: the module's signature over a hash (64 bytes). -/
opaque moduleSign : Nat → Bytes → Bytes
/-- 01 R22, 04 Table 4.9: the module's serial, 16 bytes ASCII. -/
opaque serial : Bytes
/-- 14 Table 14.7: the factory MAC addresses, instance 0 and 2. -/
opaque factoryMac : Nat → Bytes
/-- 04 R95: the 8-byte unit field of a parameter whose unit is not ASCII of at most 8 characters. -/
opaque unitField : Nat → Bytes
/-- 10 R277, 19 R513: a model table of an installed table set (its payload; empty for the set the module came with), by parameter ID and
instance. -/
opaque installedTable : Bytes → Nat → Nat → Bytes
/-- 19 R501: whether a certificate chain verifies to the Oldulith image root in boot ROM, and the signature over a hash under it. -/
opaque vendorOk : (chain hash sig : Bytes) → Bool
/-- 19 R501: the same for the plant owner's root of 04 R89. -/
opaque ownerOk : (chain hash sig : Bytes) → Bool
/-- 19 R511: whether the signatures of a descriptor (part entry and signature block) hold under R501. -/
opaque descriptorOk : (entry sigBlock : Bytes) → Bool
/-- 07, 11 R311: entry i of the 1,024-entry Q15 sine table (rounding of its entries not stated). -/
opaque sineEntry : Nat → Int

/-- What a cell filter's update takes (10 R275, R279 to R283, R287): its state, factor and inputs, the applied model tables. -/
structure FilterIn where
  x : List ℚ
  fac : List ℚ
  dtNs : Nat
  chargeAs : ℚ
  b : ℚ
  sb2 : ℚ
  curSigma : ℚ
  qnR : ℚ
  qnQ : ℚ
  inputBoost : ℚ
  walkBoost : ℚ
  temp : ℚ
  gate : ℚ
  tables : List (List (BitVec 8))
  /-- measured voltage, its variance and the paired current -/
  meas : Option (ℚ × ℚ × ℚ)
  /-- further updates: state index, mean, variance (11 R318) -/
  extra : List (Nat × ℚ × ℚ)
  deriving DecidableEq, Repr, Inhabited

/-- What it leaves: posterior mean, factor, standard deviations; the innovation, its variance before the gate, the sensitivity to b;
per further update whether it lay within the gate; and whether a downdate lost positive definiteness (10 R285). -/
structure FilterOut where
  x : List ℚ
  fac : List ℚ
  sd : List ℚ
  nu : ℚ
  s : ℚ
  g : ℚ
  extraOk : List Bool
  lost : Bool
  deriving DecidableEq, Repr, Inhabited

/-- 10 R279: one update of the square-root sigma-point filter in binary32. The order of its operations is fixed by the firmware and
not stated, so its result is a free function of its inputs. -/
opaque filterUpdate : FilterIn → FilterOut
/-- 10 R286: standard deviation of a cell's predicted terminal voltage (V), from its factor; the propagation's order is not stated. -/
opaque predictSd : FilterIn → ℚ
/-- 11 R327: whether a node's chain verifies to the plant owner's root and its subject serial number is the given one. -/
opaque nodeChainOk : (chain : List (BitVec 8)) → (serial : List (BitVec 8)) → (checkDates : Bool) → Bool
/-- 11 R318: the variance of a run result, whose formula is not stated. -/
opaque runVariance : (mean : ℚ) → (windows : Nat) → ℚ

/-- 01 R11: the code of the fault that a unit's uncorrectable error reports (assumption log 53). -/
opaque unitFault : Nat

/-- 04 Table 4.9: the version of Sprout, which stands in boot ROM (19 R499) and is stated nowhere. -/
opaque sproutVersion : Nat

/-- 14 R412: the frequency correction (ppb) by which a standby steers after a boundary stamp, from the one before and the stamp's difference in ns;
its law is not stated. -/
opaque twinPpb : ℚ → Int → ℚ

/-- 13 R392: by how many periods beyond 3 a handover's period h lies ahead. -/
opaque handLead : Nat

end Sys2Proof.Config
end

