-- ==== Sys2Proof/Machine/Dict.lean ====
section
/-! DEFINITION. The parameter dictionary (04 R94, R95 and the parameter tables of every chapter): one row per parameter ID.
A binary32 bound or default is its 32-bit word; a blob row gives its length in place of the minimum. -/

namespace Sys2Proof.Machine

/-- One dictionary row (R95, Table 4.12): type code, class (0 read-only, 1 L, 2 S, 3 H), marks (1 W1C, 2 WO), instances, bounds,
default, and the ID whose applied value is the maximum where the table names a parameter there (0 none). -/
structure PRow where
  id : Nat
  name : String
  ty : Nat
  unit : String
  cls : Nat
  marks : Nat
  inst : Nat
  lo : Nat
  hi : Nat
  dflt : Nat
  hiRef : Nat
  deriving DecidableEq, Repr

/-- Parameters of chapter 1. -/
def rows01a : List PRow := [
  ⟨0x0010, "SYS.LIFECYCLE", 0, "", 0, 0, 1, 0, 8, 0, 0⟩,
  ⟨0x0011, "SYS.POWER_STATE", 0, "", 0, 0, 1, 0, 5, 0, 0⟩,
  ⟨0x0012, "SYS.CLUSTER_STATUS", 2, "", 1, 1, 8, 0, 4294967295, 0, 0⟩,
  ⟨0x0013, "SYS.CLUSTER_UNFENCE", 0, "", 1, 2, 8, 1, 1, 0, 0⟩,
  ⟨0x0014, "SYS.XING_TIMEOUTS", 2, "count", 0, 0, 1, 0, 4294967295, 0, 0⟩,
  ⟨0x0015, "SYS.ROLE_LINES", 0, "", 0, 0, 1, 0, 7, 0, 0⟩]

/-- Parameters of chapter 2. -/
def rows02a : List PRow := [
  ⟨0x0016, "SYS.MATE_GLITCHES", 2, "count", 0, 0, 1, 0, 4294967295, 0, 0⟩,
  ⟨0x001D, "SYS.CARRIER_ID", 8, "", 0, 0, 1, 64, 0, 0, 0⟩]

/-- Parameters of chapter 3. -/
def rows03a : List PRow := [
  ⟨0x0017, "SYS.RESET_CAUSE", 1, "", 1, 1, 1, 0, 1023, 0, 0⟩,
  ⟨0x0018, "SYS.START_PHASE", 0, "", 0, 0, 1, 0, 8, 0, 0⟩,
  ⟨0x0019, "SYS.WATCH_CHECK_S", 1, "s", 1, 0, 1, 10, 3600, 60, 0⟩,
  ⟨0x001A, "SYS.RTC_WAKE", 6, "", 1, 0, 1, 0, 0, 0, 0⟩,
  ⟨0x001B, "SYS.APP_WDOG_MS", 1, "ms", 3, 0, 1, 10, 1000, 100, 0⟩,
  ⟨0x001C, "SYS.PREFER_SLOT", 0, "", 2, 0, 1, 1, 2, 1, 0⟩]

/-- Parameters of chapter 4. -/
def rows04a : List PRow := [
  ⟨0x0030, "SYS.WCP_IDLE_S", 1, "s", 1, 0, 1, 5, 3600, 60, 0⟩,
  ⟨0x0031, "SYS.WCP_VIEW_PLAIN", 0, "", 3, 0, 1, 0, 1, 0, 0⟩,
  ⟨0x0032, "SYS.WCP_EVENT_RETRY_MS", 1, "ms", 1, 0, 1, 50, 2000, 200, 0⟩,
  ⟨0x0033, "SYS.WCP_CRC_FAILS", 2, "count", 0, 0, 1, 0, 4294967295, 0, 0⟩,
  ⟨0x0034, "SYS.WCP_AUTH_FAILS", 2, "count", 0, 0, 1, 0, 4294967295, 0, 0⟩,
  ⟨0x0035, "SYS.WCP_REPLAY_DROPS", 2, "count", 0, 0, 1, 0, 4294967295, 0, 0⟩,
  ⟨0x0036, "SYS.WCP_FRAMING_ERRS", 2, "count", 0, 0, 1, 0, 4294967295, 0, 0⟩,
  ⟨0x0037, "SYS.CONFIG_GENERATION", 2, "count", 0, 0, 1, 0, 4294967295, 0, 0⟩]

/-- Parameters of chapter 5. -/
def rows05a : List PRow := [
  ⟨0x0200, "RING.SWEEP_HZ", 1, "Hz", 2, 0, 4, 1, 1000, 50, 0⟩,
  ⟨0x0201, "RING.NODE_COUNT", 0, "count", 3, 0, 4, 0, 28, 0, 0⟩,
  ⟨0x0202, "RING.SYNC_OFFSET_NS", 1, "ns", 3, 0, 4, 20000, 60000, 40000, 0⟩,
  ⟨0x0203, "RING.FINAL_MS", 0, "ms", 2, 0, 4, 1, 100, 5, 0⟩,
  ⟨0x0204, "RING.MODE", 0, "", 0, 0, 4, 0, 4, 0, 0⟩,
  ⟨0x0205, "RING.BREAK", 1, "", 0, 0, 4, 0, 65535, 65535, 0⟩,
  ⟨0x0206, "RING.LOOP_PS", 2, "ps", 0, 0, 4, 0, 4294967295, 0, 0⟩,
  ⟨0x0207, "RING.HB_SEEN", 2, "", 0, 0, 4, 0, 4294967295, 0, 0⟩,
  ⟨0x0210, "RING.FRAMES_RX", 2, "count", 0, 0, 4, 0, 4294967295, 0, 0⟩,
  ⟨0x0211, "RING.CRC_ERRS", 2, "count", 0, 0, 4, 0, 4294967295, 0, 0⟩,
  ⟨0x0212, "RING.CODE_VIOL", 2, "count", 0, 0, 4, 0, 4294967295, 0, 0⟩,
  ⟨0x0213, "RING.SWEEPS_COMPLETE", 2, "count", 0, 0, 4, 0, 4294967295, 0, 0⟩,
  ⟨0x0214, "RING.SWEEPS_PARTIAL", 2, "count", 0, 0, 4, 0, 4294967295, 0, 0⟩,
  ⟨0x0215, "RING.REREQUESTS", 2, "count", 0, 0, 4, 0, 4294967295, 0, 0⟩,
  ⟨0x0216, "RING.BREAKS", 2, "count", 0, 0, 4, 0, 4294967295, 0, 0⟩,
  ⟨0x0217, "RING.OSET_CHK_ERRS", 2, "count", 0, 0, 4, 0, 4294967295, 0, 0⟩]

/-- Parameters of chapter 6. -/
def rows06a : List PRow := [
  ⟨0x0280, "CELL.BAL_POLICY", 0, "", 2, 0, 4, 0, 2, 1, 0⟩,
  ⟨0x0281, "CELL.BAL_DEADBAND", 1, "0.01 % SOC", 1, 0, 4, 10, 1000, 100, 0⟩,
  ⟨0x0282, "CELL.BAL_DEADBAND_MV", 1, "mV", 1, 0, 4, 2, 100, 10, 0⟩,
  ⟨0x0283, "CELL.BAL_REST_A", 1, "0.1 A", 1, 0, 4, 0, 500, 20, 0⟩,
  ⟨0x0284, "CELL.BAL_MAX_CELLS", 0, "count", 2, 0, 4, 1, 8, 8, 0⟩,
  ⟨0x0285, "CELL.BAL_CELL_TMAX", 0, "°C", 2, 0, 4, 30, 70, 55, 0⟩,
  ⟨0x0286, "CELL.BAL_DERATE_C", 0, "°C", 2, 0, 4, 60, 95, 85, 0⟩,
  ⟨0x0287, "CELL.BAL_STOP_C", 0, "°C", 2, 0, 4, 70, 105, 95, 0⟩,
  ⟨0x0288, "CELL.SLEEP_TARGET_MV", 1, "mV", 2, 0, 4, 0, 4300, 0, 0⟩,
  ⟨0x0289, "CELL.SLEEP_BAL_MAX_H", 1, "h", 2, 0, 4, 1, 500, 72, 0⟩,
  ⟨0x028A, "CELL.SLEEP_CHECK_S", 1, "s", 2, 0, 4, 10, 3600, 60, 0⟩,
  ⟨0x0290, "CELL.CAL_AVG_CYCLES", 0, "cycles", 2, 0, 4, 4, 64, 16, 0⟩,
  ⟨0x0291, "CELL.CAL_SLEW_UV_S", 1, "µV/s", 2, 0, 4, 5, 1000, 50, 0⟩,
  ⟨0x0292, "CELL.REF_TOL_PPM", 1, "ppm", 2, 0, 4, 200, 5000, 1000, 0⟩,
  ⟨0x0293, "CELL.PAIR_TOL_MV", 0, "mV", 2, 0, 4, 2, 50, 6, 0⟩,
  ⟨0x0294, "CELL.PRED_TOL_MV", 0, "mV", 2, 0, 4, 5, 200, 20, 0⟩,
  ⟨0x0295, "CELL.SPLIT_FALLBACK_MV", 1, "mV", 2, 0, 4, 20, 1000, 100, 0⟩,
  ⟨0x0296, "CELL.PAIR_PERSIST", 0, "visits", 2, 0, 4, 1, 20, 3, 0⟩,
  ⟨0x0297, "CELL.OW_THRESH_MV", 1, "mV", 2, 0, 4, 100, 1000, 300, 0⟩,
  ⟨0x0298, "CELL.WIRE_MARGIN_MV", 1, "mV", 2, 0, 4, 0, 500, 50, 0⟩,
  ⟨0x0299, "CELL.CMP_TEST_H", 1, "h", 2, 0, 4, 1, 720, 24, 0⟩,
  ⟨0x029A, "CELL.TEMP_SUBST_K", 0, "K", 2, 0, 4, 0, 20, 5, 0⟩,
  ⟨0x029B, "CELL.CAL_CYCLES", 2, "count", 0, 0, 4, 0, 4294967295, 0, 0⟩,
  ⟨0x029C, "CELL.PAIR_CHECKS", 2, "count", 0, 0, 4, 0, 4294967295, 0, 0⟩,
  ⟨0x029D, "CELL.OW_TESTS", 2, "count", 0, 0, 4, 0, 4294967295, 0, 0⟩]

/-- Parameters of chapter 6. -/
def rows06b : List PRow := [
  ⟨0x029E, "CELL.CMP_TESTS", 2, "count", 0, 0, 4, 0, 4294967295, 0, 0⟩,
  ⟨0x02A0, "CELL.UNMEASURED", 1, "", 0, 0, 112, 0, 65535, 0, 0⟩,
  ⟨0x02A1, "CELL.WIRE_FAULT", 2, "", 0, 0, 112, 0, 131071, 0, 0⟩,
  ⟨0x02A2, "CELL.CAL_OFFSET", 5, "V", 0, 0, 112, 0, 0, 0, 0⟩,
  ⟨0x02A3, "CELL.CAL_GAIN", 5, "", 0, 0, 112, 0, 0, 1065353216, 0⟩,
  ⟨0x02A4, "CELL.CAL_MISMATCH", 8, "", 0, 0, 112, 64, 0, 0, 0⟩,
  ⟨0x02A5, "CELL.CAL_SETTLED", 0, "", 0, 0, 112, 0, 1, 0, 0⟩,
  ⟨0x02A6, "CELL.REF_RATIO", 5, "", 0, 0, 112, 0, 0, 1065353216, 0⟩]

/-- Parameters of chapter 7. -/
def rows07a : List PRow := [
  ⟨0x0300, "LOOP.PERIOD_NS", 2, "ns", 3, 0, 1, 10000, 100000, 20000, 0⟩,
  ⟨0x0301, "LOOP.ENABLE", 0, "", 3, 0, 4, 0, 126, 126, 0⟩,
  ⟨0x0302, "LOOP.I_FS", 5, "A", 3, 0, 4, 1092616192, 1165623296, 1140457472, 0⟩,
  ⟨0x0303, "LOOP.V_FS", 5, "V", 3, 0, 4, 1112014848, 1157234688, 1153138688, 0⟩,
  ⟨0x0304, "LOOP.I_RATED", 5, "A", 3, 0, 4, 1065353216, 0, 1137180672, 770⟩,
  ⟨0x0305, "LOOP.I_MAX_DIS", 5, "A", 2, 0, 4, 0, 0, 1137180672, 770⟩,
  ⟨0x0306, "LOOP.I_MAX_CHG", 5, "A", 2, 0, 4, 0, 0, 1137180672, 770⟩,
  ⟨0x0307, "LOOP.D_MIN", 3, "", 2, 0, 4, 0, 16383, 655, 0⟩,
  ⟨0x0308, "LOOP.D_MAX", 3, "", 2, 0, 4, 16384, 32767, 32113, 0⟩,
  ⟨0x0309, "LOOP.FF_GAIN", 4, "", 2, 0, 4, 0, 0, 81920, 0⟩,
  ⟨0x030A, "LOOP.TRACK_MARGIN", 3, "", 2, 0, 4, 0, 3276, 128, 0⟩,
  ⟨0x030B, "LOOP.VB_MIN", 5, "V", 2, 0, 4, 0, 0, 1128792064, 771⟩,
  ⟨0x0310, "LOOP.L1.VS_MIN", 5, "V", 2, 0, 4, 0, 0, 1143930880, 771⟩,
  ⟨0x0311, "LOOP.L1.VS_MAX", 5, "V", 2, 0, 4, 0, 0, 1150271488, 771⟩,
  ⟨0x0312, "LOOP.L1.KP_TABLE", 8, "", 2, 0, 4, 70, 0, 0, 0⟩,
  ⟨0x0313, "LOOP.L1.KI", 4, "", 2, 0, 4, 0, 0, 32, 0⟩,
  ⟨0x0318, "LOOP.L2.V_LIM", 5, "V", 2, 0, 4, 1073741824, 1084227584, 1082445005, 0⟩,
  ⟨0x0319, "LOOP.L2.KP_TABLE", 8, "", 2, 0, 4, 70, 0, 0, 0⟩,
  ⟨0x031A, "LOOP.L2.KI", 4, "", 2, 0, 4, 0, 0, 1638, 0⟩,
  ⟨0x0320, "LOOP.L3.V_LIM", 5, "V", 2, 0, 4, 1069547520, 1082130432, 1077306982, 0⟩,
  ⟨0x0321, "LOOP.L3.KP_TABLE", 8, "", 2, 0, 4, 70, 0, 0, 0⟩,
  ⟨0x0322, "LOOP.L3.KI", 4, "", 2, 0, 4, 0, 0, 1638, 0⟩,
  ⟨0x0328, "LOOP.L4.T_START", 5, "°C", 2, 0, 4, 0, 1120403456, 1110704128, 0⟩,
  ⟨0x0329, "LOOP.L4.T_END", 5, "°C", 2, 0, 4, 1084227584, 1123024896, 1113325568, 0⟩,
  ⟨0x0330, "LOOP.L5.VB_LO", 5, "V", 2, 0, 4, 0, 0, 1150271488, 771⟩]

/-- Parameters of chapter 7. -/
def rows07b : List PRow := [
  ⟨0x0331, "LOOP.L5.VB_HI", 5, "V", 2, 0, 4, 0, 0, 1152729088, 771⟩,
  ⟨0x0332, "LOOP.L5.KP_TABLE", 8, "", 2, 0, 4, 70, 0, 0, 0⟩,
  ⟨0x0333, "LOOP.L5.KI", 4, "", 2, 0, 4, 0, 0, 256, 0⟩,
  ⟨0x0338, "LOOP.IL.KP_TABLE", 8, "", 2, 0, 4, 70, 0, 0, 0⟩,
  ⟨0x0339, "LOOP.IL.KI", 4, "", 2, 0, 4, 0, 0, 256, 0⟩,
  ⟨0x0340, "LOOP.NOTCH_COEF", 8, "", 2, 0, 4, 20, 0, 0, 0⟩,
  ⟨0x0348, "LOOP.STALE_SWEEPS", 0, "sweeps", 2, 0, 4, 2, 10, 3, 0⟩,
  ⟨0x0349, "LOOP.STALE_RAMP_APS", 5, "A/s", 2, 0, 4, 1092616192, 1203982336, 1148846080, 0⟩,
  ⟨0x034A, "LOOP.STALE_TRIP_MS", 1, "ms", 2, 0, 4, 50, 5000, 500, 0⟩,
  ⟨0x034B, "LOOP.EST_STALE_CYCLES", 0, "cycles", 2, 0, 4, 2, 10, 3, 0⟩,
  ⟨0x034C, "LOOP.EST_STALE_FRAC", 3, "", 2, 0, 4, 0, 32767, 8192, 0⟩,
  ⟨0x0350, "LOOP.INJ_REARM", 1, "periods", 2, 0, 4, 16, 4096, 64, 0⟩,
  ⟨0x0351, "LOOP.INJ_FADE", 1, "periods", 2, 0, 4, 0, 4096, 256, 0⟩,
  ⟨0x0360, "LOOP.STATUS", 2, "", 0, 0, 4, 0, 4294967295, 15, 0⟩,
  ⟨0x0361, "LOOP.WIN_PERIODS", 2, "count", 0, 0, 32, 0, 4294967295, 0, 0⟩,
  ⟨0x0362, "LOOP.STALE_EVENTS", 2, "count", 0, 0, 4, 0, 4294967295, 0, 0⟩,
  ⟨0x0363, "LOOP.INJ_SUSPENSIONS", 2, "count", 0, 0, 4, 0, 4294967295, 0, 0⟩,
  ⟨0x0364, "LOOP.DUTY_SAT_PERIODS", 2, "count", 0, 0, 4, 0, 4294967295, 0, 0⟩,
  ⟨0x0365, "LOOP.DEADLINE_MISSES", 2, "count", 0, 0, 4, 0, 4294967295, 0, 0⟩]

/-- Parameters of chapter 8. -/
def rows08a : List PRow := [
  ⟨0x0380, "PSI.DS_FCLK_HZ", 2, "Hz", 3, 0, 4, 5000000, 20000000, 20000000, 0⟩,
  ⟨0x0381, "PSI.DS_FCLK_TOL_PPM", 1, "ppm", 2, 0, 4, 1000, 50000, 20000, 0⟩,
  ⟨0x0382, "PSI.DS_M", 1, "bits", 3, 0, 4, 16, 512, 128, 0⟩,
  ⟨0x0383, "PSI.DSI_GAIN", 5, "A", 2, 0, 4, 3351465984, 1203982336, 1142702080, 0⟩,
  ⟨0x0384, "PSI.DSI_OFFSET", 5, "A", 2, 0, 4, 3313106944, 1165623296, 0, 0⟩,
  ⟨0x0385, "PSI.DSV_GAIN", 5, "V", 2, 0, 4, 3351465984, 1203982336, 1157234688, 0⟩,
  ⟨0x0386, "PSI.DSV_OFFSET", 5, "V", 2, 0, 4, 3304718336, 1157234688, 0, 0⟩,
  ⟨0x0387, "PSI.DSB_GAIN", 5, "V", 2, 0, 4, 3351465984, 1203982336, 1157234688, 0⟩,
  ⟨0x0388, "PSI.DSB_OFFSET", 5, "V", 2, 0, 4, 3304718336, 1157234688, 0, 0⟩,
  ⟨0x0389, "PSI.FROZEN_PERIODS", 1, "periods", 2, 0, 4, 10, 10000, 500, 0⟩,
  ⟨0x038A, "PSI.PWM_MODE", 0, "", 3, 0, 4, 0, 2, 0, 0⟩,
  ⟨0x038B, "PSI.DEADTIME_NS", 1, "ns", 2, 0, 4, 20, 2000, 100, 0⟩,
  ⟨0x038C, "PSI.MIN_PULSE_NS", 1, "ns", 2, 0, 4, 0, 1000, 100, 0⟩,
  ⟨0x038D, "PSI.GDF_FILTER_NS", 1, "ns", 2, 0, 4, 50, 5000, 200, 0⟩,
  ⟨0x038E, "PSI.STOP_I_A", 5, "A", 2, 0, 4, 1036831949, 1112014848, 1073741824, 0⟩,
  ⟨0x038F, "PSI.STOP_TIMEOUT_MS", 1, "ms", 2, 0, 4, 10, 10000, 100, 0⟩,
  ⟨0x0390, "PSI.LOOPBACK_S", 1, "s", 2, 0, 4, 1, 3600, 10, 0⟩,
  ⟨0x0391, "PSI.RB_TOL_NS", 0, "ns", 2, 0, 4, 5, 100, 20, 0⟩,
  ⟨0x03A0, "PSI.CH_STATE", 0, "", 0, 0, 4, 0, 4, 0, 0⟩,
  ⟨0x03A1, "PSI.DS_STATUS", 2, "", 0, 0, 4, 0, 4294967295, 0, 0⟩,
  ⟨0x03A2, "PSI.DS_FCLK_MEAS", 2, "Hz", 0, 0, 4, 0, 4294967295, 0, 0⟩,
  ⟨0x03B0, "PSI.STUCK_EVENTS", 2, "count", 0, 0, 4, 0, 4294967295, 0, 0⟩,
  ⟨0x03B1, "PSI.FROZEN_EVENTS", 2, "count", 0, 0, 4, 0, 4294967295, 0, 0⟩,
  ⟨0x03B2, "PSI.CLK_ERRORS", 2, "count", 0, 0, 4, 0, 4294967295, 0, 0⟩,
  ⟨0x03B3, "PSI.GDF_EVENTS", 2, "count", 0, 0, 4, 0, 4294967295, 0, 0⟩]

/-- Parameters of chapter 8. -/
def rows08b : List PRow := [
  ⟨0x03B4, "PSI.RB_MISMATCHES", 2, "count", 0, 0, 4, 0, 4294967295, 0, 0⟩,
  ⟨0x03B5, "PSI.LOOPBACK_FAILS", 2, "count", 0, 0, 4, 0, 4294967295, 0, 0⟩,
  ⟨0x03B6, "PSI.OC_TRIPS", 2, "count", 0, 0, 4, 0, 4294967295, 0, 0⟩,
  ⟨0x03B7, "PSI.STARTS", 2, "count", 0, 0, 4, 0, 4294967295, 0, 0⟩]

/-- Parameters of chapter 9. -/
def rows09a : List PRow := [
  ⟨0x0400, "PROF.V_MAX", 5, "u/s", 1, 0, 8, 1036831949, 1232348160, 1140457472, 0⟩,
  ⟨0x0401, "PROF.V_START", 5, "u/s", 1, 0, 8, 0, 0, 1101004800, 1027⟩,
  ⟨0x0402, "PROF.V_STOP", 5, "u/s", 1, 0, 8, 0, 0, 1101004800, 1027⟩,
  ⟨0x0403, "PROF.V_BREAK", 5, "u/s", 1, 0, 8, 0, 0, 1140457472, 1024⟩,
  ⟨0x0404, "PROF.A1", 5, "u/s²", 1, 0, 8, 1065353216, 1287568416, 1157234688, 0⟩,
  ⟨0x0405, "PROF.A2", 5, "u/s²", 1, 0, 8, 1065353216, 1287568416, 1157234688, 0⟩,
  ⟨0x0406, "PROF.D1", 5, "u/s²", 1, 0, 8, 1065353216, 1287568416, 1157234688, 0⟩,
  ⟨0x0407, "PROF.D2", 5, "u/s²", 1, 0, 8, 1065353216, 1287568416, 1157234688, 0⟩,
  ⟨0x0408, "PROF.D_EM", 5, "u/s²", 1, 0, 8, 0, 1287568416, 1184645120, 0⟩,
  ⟨0x0410, "PROF.STATUS", 2, "", 0, 0, 8, 0, 4294967295, 192, 0⟩,
  ⟨0x0411, "PROF.REPLANS", 2, "count", 0, 0, 8, 0, 4294967295, 0, 0⟩,
  ⟨0x0412, "PROF.ESTOPS", 2, "count", 0, 0, 8, 0, 4294967295, 0, 0⟩,
  ⟨0x0413, "PROF.OVERSHOOTS", 2, "count", 0, 0, 8, 0, 4294967295, 0, 0⟩,
  ⟨0x0440, "ACT.I_PEAK_A", 5, "A", 2, 0, 4, 1028443341, 1066443735, 1066443735, 0⟩,
  ⟨0x0441, "ACT.HOLD_PCT", 0, "%", 1, 0, 4, 0, 100, 50, 0⟩,
  ⟨0x0442, "ACT.HOLD_DELAY_MS", 1, "ms", 1, 0, 4, 10, 10000, 500, 0⟩,
  ⟨0x0443, "ACT.DECAY", 0, "", 3, 0, 4, 0, 2, 1, 0⟩,
  ⟨0x0444, "ACT.USTEP_TABLE", 8, "", 2, 0, 4, 512, 0, 0, 0⟩,
  ⟨0x0445, "ACT.KE", 5, "V per 1,000 full steps/s", 2, 0, 4, 0, 1120403456, 0, 0⟩,
  ⟨0x0446, "ACT.STALL_DEG", 0, "°", 2, 0, 4, 30, 170, 80, 0⟩,
  ⟨0x0447, "ACT.STALL_STEPS", 0, "full steps", 2, 0, 4, 1, 16, 4, 0⟩,
  ⟨0x0448, "ACT.STALL_MIN_SPEED", 5, "microstep/s", 2, 0, 4, 1187512320, 1232732160, 1195900928, 0⟩,
  ⟨0x0449, "ACT.STALL_ACTION", 0, "", 2, 0, 4, 0, 2, 1, 0⟩,
  ⟨0x044A, "ACT.HOME_INPUT", 0, "", 2, 0, 4, 0, 255, 255, 0⟩,
  ⟨0x044B, "ACT.HOME_SPEED", 5, "microstep/s", 2, 0, 4, 1132462080, 1232732160, 1195900928, 0⟩]

/-- Parameters of chapter 9. -/
def rows09b : List PRow := [
  ⟨0x044C, "ACT.HOME_MAX", 2, "microstep", 2, 0, 4, 256, 4294967295, 1048576, 0⟩,
  ⟨0x044D, "ACT.SOFT_LIMITS", 8, "microstep", 2, 0, 4, 12, 0, 0, 0⟩,
  ⟨0x0450, "ACT.STATUS", 2, "", 0, 0, 4, 0, 4294967295, 16711688, 0⟩,
  ⟨0x0451, "ACT.STALLS", 2, "count", 0, 0, 4, 0, 4294967295, 0, 0⟩,
  ⟨0x0452, "ACT.LOST_STEPS", 2, "microstep", 0, 0, 4, 0, 4294967295, 0, 0⟩,
  ⟨0x0453, "ACT.BEMF_INVALID", 2, "count", 0, 0, 4, 0, 4294967295, 0, 0⟩,
  ⟨0x0454, "ACT.OC_TRIPS", 2, "count", 0, 0, 4, 0, 4294967295, 0, 0⟩]

/-- Parameters of chapter 10. -/
def rows10a : List PRow := [
  ⟨0x0500, "EST.FILTER_HZ", 0, "Hz", 2, 0, 1, 1, 50, 10, 0⟩,
  ⟨0x0501, "EST.FILTER_HZ_RUN", 0, "Hz", 0, 0, 1, 1, 50, 10, 0⟩,
  ⟨0x0502, "EST.RES_NOM", 5, "mΩ", 2, 0, 4, 1008981770, 1120403456, 1053609165, 0⟩,
  ⟨0x0503, "EST.CAP_NOM", 5, "Ah", 2, 0, 4, 1065353216, 1157234688, 1133248512, 0⟩,
  ⟨0x0504, "EST.T_BINS", 8, "", 2, 0, 1, 16, 0, 0, 0⟩,
  ⟨0x0505, "EST.OCV_TABLE", 8, "", 2, 0, 8, 202, 0, 0, 0⟩,
  ⟨0x0506, "EST.HYST_TABLE", 8, "", 2, 0, 8, 42, 0, 0, 0⟩,
  ⟨0x0507, "EST.R_SHAPE", 8, "", 2, 0, 8, 22, 0, 0, 0⟩,
  ⟨0x0508, "EST.RC_TABLE", 8, "", 2, 0, 8, 24, 0, 0, 0⟩,
  ⟨0x0510, "EST.MEAS_SIGMA_MV", 5, "mV", 2, 0, 1, 1056964608, 1101004800, 1073741824, 0⟩,
  ⟨0x0511, "EST.CUR_SIGMA_A", 5, "A", 2, 0, 1, 0, 1112014848, 1056964608, 0⟩,
  ⟨0x0512, "EST.QN_R_PCT", 5, "% per √day", 2, 0, 1, 0, 1092616192, 1045220557, 0⟩,
  ⟨0x0513, "EST.QN_Q_PCT", 5, "% per √day", 2, 0, 1, 0, 1092616192, 1036831949, 0⟩,
  ⟨0x0514, "EST.QN_B_A", 5, "A per √h", 2, 0, 1, 0, 1092616192, 1028443341, 0⟩,
  ⟨0x0518, "EST.GATE_SIGMA", 5, "σ", 2, 0, 1, 1073741824, 1092616192, 1077936128, 0⟩,
  ⟨0x0519, "EST.GATE_PERSIST_S", 1, "s", 2, 0, 1, 10, 3600, 60, 0⟩,
  ⟨0x051A, "EST.OFFSET_QUORUM_PCT", 0, "%", 2, 0, 1, 10, 100, 50, 0⟩,
  ⟨0x051B, "EST.OFFSET_BOOST", 1, "", 2, 0, 1, 1, 10000, 100, 0⟩,
  ⟨0x051C, "EST.OFFSET_LIMIT_A", 5, "A", 2, 0, 1, 1036831949, 1120403456, 1084227584, 0⟩,
  ⟨0x0520, "EST.ANCHOR_LO", 0, "% SOC", 2, 0, 1, 0, 30, 15, 0⟩,
  ⟨0x0521, "EST.ANCHOR_HI", 0, "% SOC", 2, 0, 1, 70, 100, 90, 0⟩,
  ⟨0x0522, "EST.ANCHOR_SIGMA", 1, "0.01 % SOC", 2, 0, 1, 50, 1000, 200, 0⟩,
  ⟨0x0523, "EST.CONF_HALF_H", 1, "h", 2, 0, 1, 1, 2000, 48, 0⟩,
  ⟨0x0524, "EST.ANCHOR_REQUEST_H", 1, "h", 2, 0, 1, 1, 2000, 96, 0⟩,
  ⟨0x0525, "EST.ANCHOR_TARGET", 0, "% SOC", 2, 0, 1, 80, 100, 95, 0⟩]

/-- Parameters of chapter 10. -/
def rows10b : List PRow := [
  ⟨0x0528, "EST.EOD_WARN_MV", 8, "mV", 2, 0, 1, 6, 0, 0, 0⟩,
  ⟨0x0529, "EST.EOC_WARN_MV", 8, "mV", 2, 0, 1, 6, 0, 0, 0⟩,
  ⟨0x052A, "EST.WARN_HYST_MV", 1, "mV", 2, 0, 1, 5, 100, 10, 0⟩,
  ⟨0x052B, "EST.R_COMP_MAX_FRAC", 5, "", 2, 0, 1, 1065353216, 1082130432, 1073741824, 0⟩,
  ⟨0x052C, "EST.COMP_MAX_MV", 1, "mV", 2, 0, 1, 50, 1000, 300, 0⟩,
  ⟨0x0530, "EST.HR_HORIZON_S", 5, "s", 2, 0, 1, 1065353216, 1123024896, 1092616192, 0⟩,
  ⟨0x0531, "EST.HR_MARGIN_MV", 1, "mV", 2, 0, 1, 0, 500, 100, 0⟩,
  ⟨0x0532, "EST.HR_SOC_S", 1, "s", 2, 0, 1, 10, 3600, 60, 0⟩,
  ⟨0x0533, "EST.SOC_MIN", 0, "% SOC", 2, 0, 1, 0, 30, 5, 0⟩,
  ⟨0x0534, "EST.SOC_MAX", 0, "% SOC", 2, 0, 1, 70, 100, 97, 0⟩,
  ⟨0x0535, "EST.UNTRUSTED_DERATE", 3, "", 2, 0, 1, 0, 32767, 26214, 0⟩,
  ⟨0x0538, "EST.PERSIST_S", 1, "s", 2, 0, 1, 10, 3600, 60, 0⟩,
  ⟨0x0539, "EST.SELFDIS_PCT_DAY", 5, "% SOC per day", 2, 0, 1, 0, 1073741824, 1022739087, 0⟩,
  ⟨0x053A, "EST.IDLE_SIGMA_PCT_DAY", 5, "% SOC per day", 2, 0, 1, 0, 1084227584, 1036831949, 0⟩,
  ⟨0x053B, "EST.RESET_SIGMA_SOC", 1, "0.01 % SOC", 2, 0, 1, 500, 5000, 3000, 0⟩,
  ⟨0x0540, "EST.STRING_STATUS", 2, "", 0, 0, 4, 0, 4294967295, 0, 0⟩,
  ⟨0x0550, "EST.CYCLES", 2, "count", 0, 0, 1, 0, 4294967295, 0, 0⟩,
  ⟨0x0551, "EST.OVERRUNS", 2, "count", 0, 0, 1, 0, 4294967295, 0, 0⟩,
  ⟨0x0552, "EST.GATED_UPDATES", 2, "count", 0, 0, 1, 0, 4294967295, 0, 0⟩,
  ⟨0x0553, "EST.SKIPPED_UPDATES", 2, "count", 0, 0, 1, 0, 4294967295, 0, 0⟩,
  ⟨0x0554, "EST.RESETS", 2, "count", 0, 0, 1, 0, 4294967295, 0, 0⟩,
  ⟨0x0555, "EST.PERSIST_WRITES", 2, "count", 0, 0, 1, 0, 4294967295, 0, 0⟩]

/-- Parameters of chapter 11. -/
def rows11a : List PRow := [
  ⟨0x0580, "IMP.TONES", 8, "0.1 Hz", 2, 0, 1, 10, 0, 0, 0⟩,
  ⟨0x0581, "IMP.TONE_WEIGHT", 8, "", 2, 0, 1, 10, 0, 0, 0⟩,
  ⟨0x0582, "IMP.WINDOW_S", 0, "s", 2, 0, 1, 2, 20, 2, 0⟩,
  ⟨0x0583, "IMP.RUN_WINDOWS", 0, "windows", 2, 0, 1, 4, 64, 16, 0⟩,
  ⟨0x0584, "IMP.WINDOWS_MIN", 0, "windows", 2, 0, 1, 2, 0, 8, 1411⟩,
  ⟨0x0585, "IMP.RUN_MAX_S", 1, "s", 2, 0, 1, 30, 3600, 120, 0⟩,
  ⟨0x0586, "IMP.INTERVAL_H", 1, "h", 2, 0, 4, 0, 720, 24, 0⟩,
  ⟨0x0587, "IMP.DRIFT_A", 5, "A", 2, 0, 1, 1065353216, 1140457472, 1101004800, 0⟩,
  ⟨0x0588, "IMP.MISS_MAX", 1, "sweeps", 2, 0, 1, 0, 200, 20, 0⟩,
  ⟨0x0589, "IMP.TEMP_SPAN_K", 5, "K", 2, 0, 1, 1036831949, 1084227584, 1056964608, 0⟩,
  ⟨0x058A, "IMP.V_RESID_MV", 5, "mV", 2, 0, 1, 1050253722, 1101004800, 1069547520, 0⟩,
  ⟨0x058B, "IMP.TABLE_AVG", 0, "", 2, 0, 1, 1, 64, 4, 0⟩,
  ⟨0x058C, "IMP.Z_LSB_NOHM", 1, "nΩ", 3, 0, 4, 100, 10000, 500, 0⟩,
  ⟨0x0590, "IMP.RUNAWAY_RATE_KPM", 5, "K/min", 2, 0, 1, 1056964608, 1092616192, 1073741824, 0⟩,
  ⟨0x0591, "IMP.PHASE_DRIFT_CDEG", 1, "0.01°", 2, 0, 1, 20, 3000, 200, 0⟩,
  ⟨0x0592, "IMP.PHASE_FRESH_S", 1, "s", 2, 0, 1, 30, 3600, 300, 0⟩,
  ⟨0x0593, "IMP.ANCHOR_ENABLE", 0, "", 2, 0, 1, 0, 1, 1, 0⟩,
  ⟨0x0594, "IMP.ANCHOR_SLOPE", 5, "per unit SOC", 2, 0, 1, 1056964608, 1112014848, 1073741824, 0⟩,
  ⟨0x0595, "IMP.TRACK_SLOPE", 5, "per unit SOC", 2, 0, 1, 1028443341, 0, 1056964608, 1428⟩,
  ⟨0x0596, "IMP.TREND_EFC", 1, "cycles", 2, 0, 1, 10, 1000, 50, 0⟩,
  ⟨0x0597, "IMP.SOH_Q_WARN_PCT", 0, "%", 2, 0, 1, 50, 100, 80, 0⟩,
  ⟨0x0598, "IMP.SOH_R_WARN_PCT", 1, "%", 2, 0, 1, 100, 500, 200, 0⟩,
  ⟨0x0599, "IMP.OUTLIER_PCT", 0, "%", 2, 0, 1, 5, 200, 30, 0⟩,
  ⟨0x05A0, "IMP.AUTH_RETRY_S", 1, "s", 2, 0, 1, 60, 3600, 600, 0⟩,
  ⟨0x05A1, "IMP.REAUTH_H", 1, "h", 2, 0, 1, 1, 8760, 168, 0⟩]

/-- Parameters of chapter 11. -/
def rows11b : List PRow := [
  ⟨0x05A2, "IMP.NODE_SYNC_H", 1, "h", 2, 0, 1, 1, 720, 24, 0⟩,
  ⟨0x05A8, "IMP.STATUS", 2, "", 0, 0, 4, 0, 4294967295, 0, 0⟩,
  ⟨0x05A9, "IMP.NODE_AUTH", 2, "", 0, 0, 112, 0, 4294967295, 0, 0⟩,
  ⟨0x05AA, "IMP.NODE_SERIAL", 8, "", 0, 0, 112, 16, 0, 0, 0⟩,
  ⟨0x05AB, "IMP.EFC", 8, "0.001 cycle", 0, 0, 112, 64, 0, 0, 0⟩,
  ⟨0x05AC, "IMP.STRING_EFC", 2, "0.001 cycle", 0, 0, 4, 0, 4294967295, 0, 0⟩,
  ⟨0x05B0, "IMP.RUNS", 2, "count", 0, 0, 1, 0, 4294967295, 0, 0⟩,
  ⟨0x05B1, "IMP.WINDOWS_ACCEPTED", 2, "count", 0, 0, 1, 0, 4294967295, 0, 0⟩,
  ⟨0x05B2, "IMP.WINDOWS_REJECTED", 2, "count", 0, 0, 1, 0, 4294967295, 0, 0⟩,
  ⟨0x05B3, "IMP.AUTH_FAILS", 2, "count", 0, 0, 1, 0, 4294967295, 0, 0⟩,
  ⟨0x05B4, "IMP.PRECURSORS", 2, "count", 0, 0, 1, 0, 4294967295, 0, 0⟩]

/-- Parameters of chapter 12. -/
def rows12a : List PRow := [
  ⟨0x0600, "SAFE.CELL_OV_MV", 1, "mV", 2, 0, 1, 3000, 5000, 4200, 0⟩,
  ⟨0x0601, "SAFE.CELL_UV_MV", 1, "mV", 2, 0, 1, 1500, 3500, 2800, 0⟩,
  ⟨0x0602, "SAFE.CMP_HYST_MV", 1, "mV", 2, 0, 1, 10, 200, 50, 0⟩,
  ⟨0x0603, "SAFE.EOD_TRIP_MV", 1, "mV", 2, 0, 1, 1500, 4500, 2900, 0⟩,
  ⟨0x0604, "SAFE.EOC_TRIP_MV", 1, "mV", 2, 0, 1, 3000, 5000, 4180, 0⟩,
  ⟨0x0605, "SAFE.CELL_TMAX_C", 5, "°C", 2, 0, 1, 1106247680, 1119092736, 1114636288, 0⟩,
  ⟨0x0606, "SAFE.CELL_TRATE_KPM", 5, "K/min", 2, 0, 1, 1065353216, 1101004800, 1084227584, 0⟩,
  ⟨0x0608, "SAFE.OC_M", 0, "bits", 2, 0, 4, 4, 64, 16, 0⟩,
  ⟨0x0609, "SAFE.OC_DIS_A", 5, "A", 2, 0, 4, 1065353216, 1165623296, 1138819072, 0⟩,
  ⟨0x060A, "SAFE.OC_CHG_A", 5, "A", 2, 0, 4, 1065353216, 1165623296, 1138819072, 0⟩,
  ⟨0x060B, "SAFE.OC_DSI_GAIN", 5, "A", 2, 0, 4, 3351465984, 1203982336, 1142702080, 0⟩,
  ⟨0x060C, "SAFE.OC_DSI_OFFSET", 5, "A", 2, 0, 4, 3313106944, 1165623296, 0, 0⟩,
  ⟨0x0610, "SAFE.SO_MAP", 8, "", 2, 0, 1, 8, 0, 0, 0⟩,
  ⟨0x0611, "SAFE.PRECHARGE_MS", 1, "ms", 2, 0, 1, 10, 10000, 500, 0⟩,
  ⟨0x0618, "SAFE.SI_FUNC", 8, "", 2, 0, 1, 16, 0, 0, 0⟩,
  ⟨0x0619, "SAFE.SI_FILTER_MS", 0, "ms", 2, 0, 1, 1, 50, 3, 0⟩,
  ⟨0x061A, "SAFE.SI_DISC_MS", 1, "ms", 2, 0, 1, 10, 2000, 100, 0⟩,
  ⟨0x061B, "SAFE.RESET_INPUT", 0, "", 2, 0, 1, 0, 255, 15, 0⟩,
  ⟨0x061C, "SAFE.REMOTE_RESET", 0, "", 2, 0, 1, 0, 1, 0, 0⟩,
  ⟨0x0620, "SAFE.FIRE_AXIS", 8, "", 2, 0, 1, 64, 0, 0, 0⟩,
  ⟨0x0621, "SAFE.FIRE_TIME_S", 1, "s", 2, 0, 1, 1, 300, 60, 0⟩,
  ⟨0x0628, "SAFE.WSF_CONN", 8, "", 2, 0, 1, 64, 0, 0, 0⟩,
  ⟨0x0629, "SAFE.WSF_SEQ_GAP", 0, "", 2, 0, 1, 1, 8, 2, 0⟩,
  ⟨0x062A, "SAFE.WSF_RESTART", 0, "", 2, 0, 1, 0, 1, 1, 0⟩,
  ⟨0x0630, "SAFE.CT_I_MAX_A", 5, "A", 2, 0, 1, 1065353216, 1165623296, 1101004800, 0⟩]

/-- Parameters of chapter 12. -/
def rows12b : List PRow := [
  ⟨0x0631, "SAFE.CT_OC_A", 5, "A", 2, 0, 1, 1065353216, 1165623296, 1109393408, 0⟩,
  ⟨0x0632, "SAFE.CT_TIME_S", 1, "s", 2, 0, 1, 60, 3600, 900, 0⟩,
  ⟨0x0680, "SAFE.BLOCK_CRC", 2, "", 0, 0, 1, 0, 4294967295, 0, 0⟩,
  ⟨0x0681, "SAFE.STATUS", 2, "", 0, 0, 1, 0, 4294967295, 0, 0⟩,
  ⟨0x0682, "SAFE.LATCH", 2, "", 0, 0, 4, 0, 4294967295, 0, 0⟩,
  ⟨0x0690, "SAFE.TRIPS", 2, "count", 0, 0, 1, 0, 4294967295, 0, 0⟩,
  ⟨0x0691, "SAFE.SWITCH_TESTS", 2, "count", 0, 0, 1, 0, 4294967295, 0, 0⟩,
  ⟨0x0692, "SAFE.WSF_RX", 2, "count", 0, 0, 1, 0, 4294967295, 0, 0⟩,
  ⟨0x0693, "SAFE.WSF_CRC_FAILS", 2, "count", 0, 0, 1, 0, 4294967295, 0, 0⟩,
  ⟨0x0694, "SAFE.WSF_SEQ_ERRS", 2, "count", 0, 0, 1, 0, 4294967295, 0, 0⟩,
  ⟨0x0695, "SAFE.WSF_WD_EXPIRIES", 2, "count", 0, 0, 1, 0, 4294967295, 0, 0⟩,
  ⟨0x0696, "SAFE.RESETS", 2, "count", 0, 0, 1, 0, 4294967295, 0, 0⟩]

/-- Parameters of chapter 13. -/
def rows13a : List PRow := [
  ⟨0x0700, "TWIN.SWAP_ENABLE", 0, "", 1, 0, 1, 0, 1, 1, 0⟩,
  ⟨0x0701, "TWIN.SWAP_DAYS", 0, "d", 1, 0, 1, 1, 30, 7, 0⟩,
  ⟨0x0702, "TWIN.SWAP_TIME_S", 2, "s", 1, 0, 1, 0, 86399, 7200, 0⟩,
  ⟨0x0703, "TWIN.SWAP_WATCH_S", 1, "s", 1, 0, 1, 10, 3600, 60, 0⟩,
  ⟨0x0704, "TWIN.AHEAD_MAX_MS", 1, "ms", 1, 0, 1, 10, 1000, 100, 0⟩,
  ⟨0x0705, "TWIN.UNCOMPARED_MAX", 2, "periods", 1, 0, 1, 100, 1000000, 50000, 0⟩,
  ⟨0x0706, "TWIN.SUSPECT_CLEAR_H", 1, "h", 1, 0, 1, 1, 720, 24, 0⟩,
  ⟨0x0710, "TWIN.STATE", 2, "", 0, 0, 1, 0, 4294967295, 16711680, 0⟩,
  ⟨0x0711, "TWIN.LAST_SWAP", 6, "", 0, 0, 1, 0, 0, 0, 0⟩,
  ⟨0x0720, "TWIN.COMPARED", 2, "count", 0, 0, 1, 0, 4294967295, 0, 0⟩,
  ⟨0x0721, "TWIN.MISMATCHES", 2, "count", 0, 0, 1, 0, 4294967295, 0, 0⟩,
  ⟨0x0722, "TWIN.UNCOMPARED", 2, "count", 0, 0, 1, 0, 4294967295, 0, 0⟩,
  ⟨0x0723, "TWIN.EST_DIFFS", 2, "count", 0, 0, 1, 0, 4294967295, 0, 0⟩,
  ⟨0x0724, "TWIN.LINK_CRC_ERRS", 2, "count", 0, 0, 1, 0, 4294967295, 0, 0⟩,
  ⟨0x0725, "TWIN.ARBITRATIONS", 2, "count", 0, 0, 1, 0, 4294967295, 0, 0⟩,
  ⟨0x0726, "TWIN.TAKEOVERS", 2, "count", 0, 0, 1, 0, 4294967295, 0, 0⟩,
  ⟨0x0727, "TWIN.SWAPS", 2, "count", 0, 0, 1, 0, 4294967295, 0, 0⟩]

/-- Parameters of chapter 14. -/
def rows14a : List PRow := [
  ⟨0x0800, "NET.PORT_ENABLE", 0, "", 1, 0, 3, 0, 1, 1, 0⟩,
  ⟨0x0801, "NET.MAC", 8, "", 0, 0, 3, 6, 0, 0, 0⟩,
  ⟨0x0802, "NET.IP_ADDR", 2, "", 3, 0, 3, 0, 4294967295, 0, 0⟩,
  ⟨0x0803, "NET.IP_MASK", 2, "", 3, 0, 3, 0, 4294967295, 4294967040, 0⟩,
  ⟨0x0804, "NET.GATEWAY", 2, "", 3, 0, 3, 0, 4294967295, 0, 0⟩,
  ⟨0x0805, "NET.PAIR_IP", 2, "", 3, 0, 1, 0, 4294967295, 0, 0⟩,
  ⟨0x0806, "NET.VLAN", 1, "", 3, 0, 1, 0, 65535, 0, 0⟩,
  ⟨0x0807, "NET.PRP_ENABLE", 0, "", 3, 0, 1, 0, 1, 1, 0⟩,
  ⟨0x0808, "NET.PRP_FORGET_MS", 1, "ms", 3, 0, 1, 10, 1000, 400, 0⟩,
  ⟨0x0809, "NET.PRP_SUPERVISION_MS", 1, "ms", 1, 0, 1, 500, 10000, 2000, 0⟩,
  ⟨0x080A, "NET.RX_CORR_NS", 1, "ns", 1, 0, 2, 0, 10000, 0, 0⟩,
  ⟨0x080B, "NET.TX_CORR_NS", 1, "ns", 1, 0, 2, 0, 10000, 0, 0⟩,
  ⟨0x080C, "NET.LAUNCH_LATE_NS", 2, "ns", 1, 0, 1, 100, 1000000, 10000, 0⟩,
  ⟨0x080D, "NET.LINK_STATE", 0, "", 0, 0, 3, 0, 2, 0, 0⟩,
  ⟨0x0840, "NET.RX_FRAMES", 2, "count", 0, 0, 3, 0, 4294967295, 0, 0⟩,
  ⟨0x0841, "NET.TX_FRAMES", 2, "count", 0, 0, 3, 0, 4294967295, 0, 0⟩,
  ⟨0x0842, "NET.RX_CRC_ERRS", 2, "count", 0, 0, 3, 0, 4294967295, 0, 0⟩,
  ⟨0x0843, "NET.RX_DROPS", 2, "count", 0, 0, 3, 0, 4294967295, 0, 0⟩,
  ⟨0x0844, "NET.LINK_ERRS", 2, "count", 0, 0, 3, 0, 4294967295, 0, 0⟩,
  ⟨0x0845, "NET.PRP_DUP_DISCARDS", 2, "count", 0, 0, 1, 0, 4294967295, 0, 0⟩,
  ⟨0x0846, "NET.PRP_WRONG_LAN", 2, "count", 0, 0, 1, 0, 4294967295, 0, 0⟩,
  ⟨0x0847, "NET.PRP_UNTRACKED", 2, "count", 0, 0, 1, 0, 4294967295, 0, 0⟩,
  ⟨0x0848, "NET.LAUNCH_LATE", 2, "count", 0, 0, 2, 0, 4294967295, 0, 0⟩,
  ⟨0x0849, "NET.LAUNCH_REPLACED", 2, "count", 0, 0, 2, 0, 4294967295, 0, 0⟩,
  ⟨0x0860, "PTP.ENABLE", 0, "", 1, 0, 1, 0, 3, 3, 0⟩]

/-- Parameters of chapter 14. -/
def rows14b : List PRow := [
  ⟨0x0861, "PTP.PROFILE", 0, "", 3, 0, 1, 0, 1, 0, 0⟩,
  ⟨0x0862, "PTP.DELAY_MECH", 0, "", 3, 0, 1, 0, 1, 0, 0⟩,
  ⟨0x0863, "PTP.TRANSPORT", 0, "", 3, 0, 1, 0, 1, 0, 0⟩,
  ⟨0x0864, "PTP.DOMAIN", 0, "", 3, 0, 1, 0, 127, 0, 0⟩,
  ⟨0x0865, "PTP.DELAY_REQ_MS", 1, "ms", 1, 0, 1, 125, 16000, 1000, 0⟩,
  ⟨0x0866, "PTP.ANNOUNCE_TIMEOUT", 0, "intervals", 1, 0, 1, 2, 10, 3, 0⟩,
  ⟨0x0867, "PTP.SERVO_KP", 5, "", 1, 0, 1, 0, 1092616192, 1060320051, 0⟩,
  ⟨0x0868, "PTP.SERVO_KI", 5, "", 1, 0, 1, 0, 1092616192, 1050253722, 0⟩,
  ⟨0x0869, "PTP.FREQ_LIMIT_PPB", 2, "ppb", 1, 0, 1, 1000, 45000, 30000, 0⟩,
  ⟨0x086A, "PTP.LOCK_NS", 2, "ns", 1, 0, 1, 50, 100000, 1000, 0⟩,
  ⟨0x086B, "PTP.JUMP_NS", 2, "ns", 1, 0, 1, 1000, 1000000000, 100000, 0⟩,
  ⟨0x086C, "PTP.JUMP_CONFIRM", 0, "Syncs", 1, 0, 1, 2, 16, 4, 0⟩,
  ⟨0x086D, "PTP.JUMP_AUTO", 0, "", 1, 0, 1, 0, 1, 0, 0⟩,
  ⟨0x086E, "PTP.HOLDOVER_S", 2, "s", 1, 0, 1, 10, 86400, 3600, 0⟩,
  ⟨0x086F, "PTP.DELAY_FILTER", 0, "measurements", 1, 0, 1, 1, 64, 8, 0⟩,
  ⟨0x0870, "PTP.PORT_DIFF_NS", 2, "ns", 1, 0, 1, 50, 1000000, 1000, 0⟩,
  ⟨0x0871, "PTP.PPS_ENABLE", 0, "", 1, 0, 1, 0, 1, 1, 0⟩,
  ⟨0x0880, "PTP.STATUS", 2, "", 0, 0, 1, 0, 4294967295, 65280, 0⟩,
  ⟨0x0881, "PTP.FREQ_PPB", 5, "ppb", 0, 0, 1, 0, 0, 0, 0⟩,
  ⟨0x08A0, "PTP.SYNC_RX", 2, "count", 0, 0, 1, 0, 4294967295, 0, 0⟩,
  ⟨0x08A1, "PTP.OUTLIERS", 2, "count", 0, 0, 1, 0, 4294967295, 0, 0⟩,
  ⟨0x08A2, "PTP.IGNORED", 2, "count", 0, 0, 1, 0, 4294967295, 0, 0⟩,
  ⟨0x08A3, "PTP.ANNOUNCE_TIMEOUTS", 2, "count", 0, 0, 1, 0, 4294967295, 0, 0⟩,
  ⟨0x08A4, "PTP.STEPS", 2, "count", 0, 0, 1, 0, 4294967295, 0, 0⟩,
  ⟨0x08A5, "PTP.PORT_SWITCHES", 2, "count", 0, 0, 1, 0, 4294967295, 0, 0⟩]

/-- Parameters of chapter 15. -/
def rows15a : List PRow := [
  ⟨0x08C0, "CAN.ENABLE", 0, "", 1, 0, 2, 0, 1, 0, 0⟩,
  ⟨0x08C1, "CAN.NBT", 8, "", 3, 0, 2, 8, 0, 0, 0⟩,
  ⟨0x08C2, "CAN.DBT", 8, "", 3, 0, 2, 8, 0, 0, 0⟩,
  ⟨0x08C3, "CAN.TDC", 1, "", 3, 0, 2, 0, 65535, 3073, 0⟩,
  ⟨0x08C4, "CAN.TDC_MAX_NS", 1, "ns", 3, 0, 2, 50, 1500, 500, 0⟩,
  ⟨0x08C5, "CAN.PEX", 0, "", 3, 0, 2, 0, 1, 1, 0⟩,
  ⟨0x08C6, "CAN.ONE_SHOT", 0, "", 2, 0, 2, 0, 1, 0, 0⟩,
  ⟨0x08C7, "CAN.BUSOFF_RECOVERY", 0, "", 2, 0, 2, 0, 1, 0, 0⟩,
  ⟨0x08C8, "CAN.TX_DEPTH", 0, "frames", 3, 0, 2, 1, 32, 32, 0⟩,
  ⟨0x08C9, "CAN.FILTERS", 8, "", 2, 0, 2, 384, 0, 0, 0⟩,
  ⟨0x08CA, "CAN.RX_DEFAULT", 0, "", 2, 0, 2, 1, 3, 1, 0⟩,
  ⟨0x08D0, "CAN.STATUS", 2, "", 0, 0, 2, 0, 4294967295, 12, 0⟩,
  ⟨0x08E0, "CAN.TX_FRAMES", 2, "count", 0, 0, 2, 0, 4294967295, 0, 0⟩,
  ⟨0x08E1, "CAN.RX_FRAMES", 2, "count", 0, 0, 2, 0, 4294967295, 0, 0⟩,
  ⟨0x08E2, "CAN.ARB_LOSSES", 2, "count", 0, 0, 2, 0, 4294967295, 0, 0⟩,
  ⟨0x08E3, "CAN.ERROR_FRAMES", 2, "count", 0, 0, 2, 0, 4294967295, 0, 0⟩,
  ⟨0x08E4, "CAN.BUSOFFS", 2, "count", 0, 0, 2, 0, 4294967295, 0, 0⟩,
  ⟨0x08E5, "CAN.RX_OVERFLOWS", 2, "count", 0, 0, 2, 0, 4294967295, 0, 0⟩,
  ⟨0x08E6, "CAN.TDC_ERRS", 2, "count", 0, 0, 2, 0, 4294967295, 0, 0⟩,
  ⟨0x08E7, "CAN.PEX_COUNT", 2, "count", 0, 0, 2, 0, 4294967295, 0, 0⟩]

/-- Parameters of chapter 16. -/
def rows16a : List PRow := [
  ⟨0x0480, "FIO.DI_FILTER", 1, "scans", 1, 0, 16, 1, 1000, 30, 0⟩,
  ⟨0x0481, "FIO.DI_OW_MASK", 1, "", 1, 0, 1, 0, 65535, 0, 0⟩,
  ⟨0x0482, "FIO.DO_SET", 0, "", 1, 0, 1, 0, 255, 0, 0⟩,
  ⟨0x0483, "FIO.DO_DIAG_MASK", 0, "", 1, 0, 1, 0, 255, 255, 0⟩,
  ⟨0x0484, "FIO.DO_OVL_MS", 0, "ms", 2, 0, 1, 1, 100, 10, 0⟩,
  ⟨0x0485, "FIO.DO_SAFE", 8, "", 2, 0, 1, 8, 0, 0, 0⟩,
  ⟨0x0486, "FIO.WDOG_MS", 1, "ms", 3, 0, 1, 1, 1000, 10, 0⟩,
  ⟨0x0490, "FIO.DI_STATE", 1, "", 0, 0, 1, 0, 65535, 0, 0⟩,
  ⟨0x0491, "FIO.DI_OPEN", 1, "", 0, 0, 1, 0, 65535, 0, 0⟩,
  ⟨0x0492, "FIO.DO_STATUS", 2, "", 0, 0, 8, 0, 4294967295, 0, 0⟩,
  ⟨0x04A0, "FIO.DI_EDGES", 2, "count", 0, 0, 1, 0, 4294967295, 0, 0⟩,
  ⟨0x04A1, "FIO.EDGE_OVERFLOWS", 2, "count", 0, 0, 1, 0, 4294967295, 0, 0⟩,
  ⟨0x04A2, "FIO.DO_TRIPS", 2, "count", 0, 0, 1, 0, 4294967295, 0, 0⟩,
  ⟨0x04A3, "FIO.WDOG_EXPIRIES", 2, "count", 0, 0, 1, 0, 4294967295, 0, 0⟩]

/-- Parameters of chapter 17. -/
def rows17a : List PRow := [
  ⟨0x0A00, "BIST.SCRUB_SRAM_S", 1, "s", 1, 0, 1, 1, 600, 10, 0⟩,
  ⟨0x0A01, "BIST.SCRUB_DRAM_H", 0, "h", 1, 0, 1, 1, 48, 4, 0⟩,
  ⟨0x0A02, "BIST.SCRUB_NV_H", 1, "h", 1, 0, 1, 1, 720, 24, 0⟩,
  ⟨0x0A03, "BIST.CLUSTER_ROT_H", 1, "h", 1, 0, 1, 1, 720, 24, 0⟩,
  ⟨0x0A04, "BIST.STANDBY_KAT_S", 1, "s", 1, 0, 1, 1, 3600, 60, 0⟩,
  ⟨0x0A10, "BIST.RESULT", 2, "", 0, 0, 256, 0, 4294967295, 0, 0⟩,
  ⟨0x0A20, "BIST.RUNS", 2, "count", 0, 0, 1, 0, 4294967295, 0, 0⟩,
  ⟨0x0A21, "BIST.FAILS", 2, "count", 0, 0, 1, 0, 4294967295, 0, 0⟩,
  ⟨0x0A22, "BIST.ABORTS", 2, "count", 0, 0, 1, 0, 4294967295, 0, 0⟩,
  ⟨0x0A80, "THERM.TJ_WARN_C", 5, "°C", 2, 0, 1, 1118437376, 1121714176, 1120403456, 0⟩,
  ⟨0x0A81, "THERM.MODULE_RATE_KPS", 5, "K/s", 2, 0, 1, 1065353216, 1101004800, 1084227584, 0⟩,
  ⟨0x0A82, "THERM.CELL_TWARN_C", 5, "°C", 2, 0, 1, 1106247680, 1119092736, 1113325568, 0⟩,
  ⟨0x0A83, "THERM.CELL_RATE_WARN_KPM", 5, "K/min", 2, 0, 1, 1045220557, 1092616192, 1065353216, 0⟩,
  ⟨0x0A90, "THERM.STATUS", 2, "", 0, 0, 1, 0, 4294967295, 0, 0⟩,
  ⟨0x0A91, "THERM.MODULE_MAX", 5, "°C", 0, 0, 1, 3260809216, 1125515264, 0, 0⟩,
  ⟨0x0A92, "THERM.SENSORS", 8, "0.01 °C", 0, 0, 1, 14, 0, 0, 0⟩,
  ⟨0x0AA0, "THERM.WARNINGS", 2, "count", 0, 0, 1, 0, 4294967295, 0, 0⟩,
  ⟨0x0AA1, "THERM.SHUTDOWNS", 2, "count", 0, 0, 1, 0, 4294967295, 0, 0⟩]

/-- Parameters of chapter 18. -/
def rows18a : List PRow := [
  ⟨0x0900, "REC.FB_ENABLE", 0, "", 1, 0, 1, 0, 1, 1, 0⟩,
  ⟨0x0901, "REC.FB_TRIGGER_MASK", 2, "", 1, 0, 1, 0, 4294967295, 0, 0⟩,
  ⟨0x0902, "REC.FB_CHECKPOINT_S", 0, "s", 1, 0, 1, 1, 30, 5, 0⟩,
  ⟨0x0903, "REC.FB_AUTO_RELEASE_H", 1, "h", 1, 0, 1, 0, 8760, 0, 0⟩,
  ⟨0x0904, "REC.SAFETY_WARN_PCT", 0, "%", 1, 0, 1, 50, 99, 90, 0⟩,
  ⟨0x0910, "REC.FB_STATE", 0, "", 0, 0, 1, 0, 3, 0, 0⟩,
  ⟨0x0920, "REC.RECORDS_WRITTEN", 2, "count", 0, 0, 1, 0, 4294967295, 0, 0⟩,
  ⟨0x0921, "REC.DROPPED", 2, "count", 0, 0, 1, 0, 4294967295, 0, 0⟩,
  ⟨0x0922, "REC.WRITE_FAILS", 2, "count", 0, 0, 1, 0, 4294967295, 0, 0⟩,
  ⟨0x0923, "REC.AUDIT_TOTAL", 2, "count", 0, 0, 1, 0, 4294967295, 0, 0⟩,
  ⟨0x0924, "REC.FB_TRIGGERS", 2, "count", 0, 0, 1, 0, 4294967295, 0, 0⟩,
  ⟨0x0925, "REC.FB_MISSED", 2, "count", 0, 0, 1, 0, 4294967295, 0, 0⟩]

/-- Parameters of chapter 19. -/
def rows19a : List PRow := [
  ⟨0x0B00, "UPD.MODE", 0, "", 3, 0, 1, 0, 1, 0, 0⟩,
  ⟨0x0B01, "UPD.CONFIRM_MIN", 1, "min", 1, 0, 1, 5, 1440, 30, 0⟩,
  ⟨0x0B02, "UPD.TRIAL_READY_S", 1, "s", 1, 0, 1, 30, 600, 60, 0⟩,
  ⟨0x0B03, "UPD.OWNER_SIG", 0, "", 3, 0, 1, 0, 1, 0, 0⟩,
  ⟨0x0B04, "UPD.MIXED_MAX_H", 1, "h", 1, 0, 1, 1, 720, 24, 0⟩,
  ⟨0x0B10, "UPD.STATE", 0, "", 0, 0, 1, 0, 255, 0, 0⟩,
  ⟨0x0B11, "UPD.FLOOR", 2, "", 0, 0, 1, 0, 4294967295, 0, 0⟩,
  ⟨0x0B12, "UPD.TRIAL_FAILS", 0, "count", 0, 0, 1, 0, 3, 0, 0⟩,
  ⟨0x0B13, "UPD.CONFIRM_DEADLINE", 6, "", 0, 0, 1, 0, 0, 0, 0⟩,
  ⟨0x0B14, "UPD.PARTS", 8, "", 0, 0, 1, 32, 0, 0, 0⟩,
  ⟨0x0B20, "UPD.ACTIVATIONS", 2, "count", 0, 0, 1, 0, 4294967295, 0, 0⟩,
  ⟨0x0B21, "UPD.ROLLBACKS", 2, "count", 0, 0, 1, 0, 4294967295, 0, 0⟩,
  ⟨0x0B22, "UPD.VERIFY_FAILS", 2, "count", 0, 0, 1, 0, 4294967295, 0, 0⟩]

/-- Parameters of chapter 20. -/
def rows20a : List PRow := [
  ⟨0x0040, "SYS.FAULTS_HANDLED", 2, "count", 0, 0, 1, 0, 4294967295, 0, 0⟩,
  ⟨0x0041, "SYS.FAULT_PREEMPTIONS", 2, "count", 0, 0, 1, 0, 4294967295, 0, 0⟩,
  ⟨0x0042, "SYS.FAULT_REPEATS", 2, "count", 0, 0, 1, 0, 4294967295, 0, 0⟩,
  ⟨0x0043, "SYS.FAULT_ESCALATIONS", 2, "count", 0, 0, 1, 0, 4294967295, 0, 0⟩,
  ⟨0x0044, "SYS.FAULT_QUEUE_PEAK", 0, "count", 0, 0, 1, 0, 16, 0, 0⟩]

/-- The whole dictionary. -/
def dictionary : List PRow :=
  rows01a ++ rows02a ++ rows03a ++ rows04a ++ rows05a ++ rows06a ++ rows06b ++ rows07a ++ rows07b ++ rows08a ++ rows08b ++ rows09a ++ rows09b ++ rows10a ++ rows10b ++ rows11a ++ rows11b ++ rows12a ++ rows12b ++ rows13a ++ rows14a ++ rows14b ++ rows15a ++ rows16a ++ rows17a ++ rows18a ++ rows19a ++ rows20a

end Sys2Proof.Machine
end

