-- ==== Sys2Proof/Machine/Operands.lean ====
section
/-! DEFINITION. Operand forms: the encodings of parameter values (R10, R95), their access marks and write roles (R535), and
the range each value must keep (the parameter tables). -/

namespace Sys2Proof.Machine
open Sys2Proof

/-- Bytes a value of a type takes (R95); 0 for a blob. -/
def typeSize (ty : Nat) : Nat := [1, 2, 4, 2, 4, 4, 10, 4, 0].getD ty 0

def PRow.find (id : Nat) : Option PRow := dictionary.find? fun r => r.id == id

def PRow.size (r : PRow) : Nat := if r.ty = 8 then r.lo else typeSize r.ty

/-- A fixed-point coefficient of R10: mantissa and shift. -/
structure Q15x where
  m : Int
  s : Nat
  deriving DecidableEq, Repr

/-- The coefficient a q15x word holds (Table 0.3). -/
def q15xDec (w : Nat) : Q15x := ⟨toSigned 16 w, w / 65536 % 8⟩

/-- A value as q15x with the smallest sufficient shift; beyond the range, the largest magnitude with shift 7 (R183). -/
def q15xOf (v : ℚ) : Q15x :=
  match (List.range 8).find? fun s => let m := rhe (v * 32768 / 2 ^ s); decide (-32768 ≤ m ∧ m ≤ 32767) with
  | some s => ⟨rhe (v * 32768 / 2 ^ s), s⟩
  | none => ⟨if v < 0 then -32768 else 32767, 7⟩

/-- An engineering value as Q15 of its full scale (R178). -/
def q15Of (v fs : ℚ) : Int := if fs = 0 then 0 else clampI (-32768) 32767 (rhe (v / fs * 32768))

/-- Total nanoseconds of a time80 field (R6). -/
def time80Ns (bs : Bytes) : Nat := fieldAt bs 0 6 * 1000000000 + fieldAt bs 6 4

/-- A time as a time80 field (R6). -/
def time80Bytes (ns : Nat) : Bytes := leBytes 6 (ns / 1000000000) ++ leBytes 4 (ns % 1000000000)

def t80 (t : Time80) : Nat := t.sec.toNat * 1000000000 + t.ns.toNat

/-- Pair-coherent parameters (R92 and the notes of their chapters; R397, R426, R458, R477). -/
def pairCoherent (id : Nat) (cls : Nat) : Bool :=
  (0x200 ≤ id ∧ id < 0x480) ∨ (0x500 ≤ id ∧ id < 0x700) ∨ id = 0x1C
  ∨ (cls ≠ 0 ∧ ((0x700 ≤ id ∧ id < 0x800) ∨ (0x860 ≤ id ∧ id < 0x900) ∨ (0x480 ≤ id ∧ id < 0x4C0)))
  ∨ id = 0x805 ∨ id = 0xA82 ∨ id = 0xA83

/-- Write role (R535): 0 none, 1 OPERATE, 2 SERVICE, 3 SAFETY. -/
def writeRole (r : PRow) : Nat :=
  if r.cls = 0 then 0 else if 0x600 ≤ r.id ∧ r.id < 0x700 then 3
  else if (0x400 ≤ r.id ∧ r.id < 0x440) ∨ r.id = 0x482 then 1 else 2

/-- Whether a session of a role may write a parameter of a write role (R535, Table 4.6). -/
def mayWrite (role : Role) (wr : Nat) : Bool :=
  match role with
  | .operate => wr == 1
  | .service => wr == 1 || wr == 2
  | .safety => wr == 3
  | _ => false

/-- Stored by PARAM_STORE (R101). -/
def isStored (r : PRow) : Bool :=
  r.cls != 0 && r.marks == 0 && r.id != 0x482 && !(0x600 ≤ r.id && r.id < 0x700)

/-- An instance the parameter has (R94); some network parameters skip the second port (14 Table 14.7). -/
def hasInstance (r : PRow) (inst : Nat) : Bool :=
  inst < r.inst && !((r.id == 0x801 || r.id == 0x802 || r.id == 0x803 || r.id == 0x804) && inst == 1)

/-- A gain table blob (07 Table 7.6) with the given mantissa and shift in every entry. -/
def flatTable (t shift : Nat) : Bytes := (List.replicate 33 (u16 t)).flatten ++ [BitVec.ofNat 8 shift, 0, 0, 0]

/-- Entry k of the default micro-step table: the sine of 09 R252 over a quarter period, full scale 65,535. -/
def ustepDefault : List Nat :=
  [201, 603, 1005, 1407, 1809, 2211, 2613, 3015, 3416, 3818, 4219, 4621, 5022, 5422, 5823, 6223, 6624, 7024, 7423, 7823, 8222, 8620, 9019, 9417, 9815, 10212, 10609, 11006, 11402, 11798, 12193, 12588] ++
  [12982, 13376, 13770, 14163, 14555, 14947, 15338, 15729, 16119, 16508, 16897, 17285, 17673, 18060, 18446, 18831, 19216, 19600, 19984, 20366, 20748, 21129, 21509, 21889, 22267, 22645, 23022, 23398, 23773, 24147, 24521, 24893] ++
  [25265, 25635, 26005, 26374, 26741, 27108, 27473, 27838, 28201, 28564, 28925, 29286, 29645, 30003, 30360, 30716, 31070, 31424, 31776, 32127, 32477, 32826, 33173, 33519, 33864, 34208, 34550, 34891, 35231, 35569, 35906, 36242] ++
  [36576, 36909, 37241, 37571, 37900, 38227, 38553, 38877, 39200, 39522, 39842, 40161, 40478, 40793, 41107, 41419, 41730, 42039, 42347, 42653, 42958, 43261, 43562, 43861, 44159, 44456, 44750, 45043, 45334, 45624, 45912, 46198] ++
  [46482, 46765, 47046, 47325, 47602, 47877, 48151, 48423, 48693, 48961, 49228, 49492, 49755, 50016, 50274, 50531, 50787, 51040, 51291, 51540, 51788, 52033, 52277, 52518, 52758, 52995, 53231, 53464, 53696, 53925, 54153, 54378] ++
  [54602, 54823, 55042, 55260, 55475, 55688, 55899, 56108, 56314, 56519, 56721, 56922, 57120, 57316, 57510, 57702, 57891, 58079, 58264, 58447, 58628, 58806, 58983, 59157, 59329, 59498, 59666, 59831, 59994, 60155, 60313, 60469] ++
  [60623, 60775, 60924, 61071, 61216, 61358, 61498, 61636, 61772, 61905, 62035, 62164, 62290, 62414, 62535, 62654, 62771, 62886, 62998, 63107, 63214, 63319, 63422, 63522, 63620, 63715, 63808, 63898, 63986, 64072, 64155, 64236] ++
  [64315, 64391, 64464, 64535, 64604, 64671, 64734, 64796, 64855, 64911, 64966, 65017, 65066, 65113, 65158, 65199, 65239, 65276, 65310, 65342, 65372, 65399, 65424, 65446, 65466, 65483, 65498, 65510, 65520, 65527, 65532, 65535]

/-- The default of a blob, and of the values that differ by instance. -/
def blobDefault (tables : Bytes) (id inst n : Nat) : Bytes :=
  match id with
  | 0x312 => flatTable 8192 0
  | 0x319 => flatTable 16384 5
  | 0x321 => flatTable 16384 5
  | 0x332 => flatTable 16384 2
  | 0x338 => flatTable 8192 0
  | 0x340 => u32 0x14000 ++ List.replicate 16 0
  | 0x444 => ustepDefault.flatMap u16
  | 0x44D => sBytes 6 (-(2 ^ 47)) ++ sBytes 6 (2 ^ 47 - 1)
  | 0x504 => (List.range 8).flatMap fun i => sBytes 2 ((i : Int) * 1000 - 2000)
  | 0x505 => padTo n (Config.installedTable tables id inst)
  | 0x506 => padTo n (Config.installedTable tables id inst)
  | 0x507 => padTo n (Config.installedTable tables id inst)
  | 0x508 => padTo n (Config.installedTable tables id inst)
  | 0x528 => [150, 100, 50].flatMap u16
  | 0x529 => [100, 60, 30].flatMap u16
  | 0x580 => [5, 20, 80, 320, 1280].flatMap u16
  | 0x581 => [4915, 4915, 4915, 6553, 11469].flatMap u16
  | 0x610 => [4, 4, 5, 5, 6, 6, 7, 7]
  | 0x801 => padTo 6 (Config.factoryMac inst)
  | 0x8C1 => [2] ++ u16 63 ++ [16, 16, 0, 0, 0]
  | 0x8C2 => [1] ++ u16 11 ++ [4, 4, 0, 0, 0]
  | _ => List.replicate n 0

/-- The default of a parameter's instance (parameter tables; R267 for the position generators), model tables from the applied set. -/
def PRow.base (r : PRow) (tables : Bytes) (slot inst : Nat) : Bytes :=
  if r.ty = 8 then blobDefault tables r.id inst r.lo
  else leBytes (typeSize r.ty) (
    match r.id with
    | 0x400 => if inst ≥ 4 then toF32 102400 else r.dflt
    | 0x401 => if inst ≥ 4 then toF32 12800 else r.dflt
    | 0x402 => if inst ≥ 4 then toF32 12800 else r.dflt
    | 0x403 => if inst ≥ 4 then toF32 51200 else r.dflt
    | 0x404 => if inst ≥ 4 then toF32 409600 else r.dflt
    | 0x405 => if inst ≥ 4 then toF32 204800 else r.dflt
    | 0x406 => if inst ≥ 4 then toF32 409600 else r.dflt
    | 0x407 => if inst ≥ 4 then toF32 204800 else r.dflt
    | 0x408 => if inst ≥ 4 then toF32 1638400 else r.dflt
    | 0x802 => if inst = 2 then (if slot = 2 then 0xC0A8600C else 0xC0A8600B) else r.dflt
    | _ => r.dflt)

end Sys2Proof.Machine
end

