-- ==== Sys2Proof/Machine/State.lean ====
section
/-! DEFINITION. The state of the SCM-960 module as plain data, chapter by chapter of the manual; faults and refusals; the
state right after reset. Every field's docstring gives its width, the file and rule of spec/ that names it and its reset
value ("choice" marks a value the spec does not give: assumption log 1). -/

namespace Sys2Proof.Machine
open Sys2Proof

/-- What stops a step on a fault. No command of this block does: every error the manual names is a reply, a counter, a
record or an event. -/
inductive Fault where
  /-- raised by no command; there for the interface (safe) -/
  | none
  deriving DecidableEq, Repr

/-- What stops a step by refusal. -/
inductive Refusal where
  /-- a command without its meaning yet, by mnemonic (safe) -/
  | notModelled (mnemonic : String)
  deriving DecidableEq, Repr

/-- The request an operation answers when it completes (R536, Table 4.18). -/
structure OpRef where
  session : Nat
  opcode : Nat
  seq : Nat
  deriving DecidableEq, Repr

/-! ### Chapter 1 to 3: units, role lines, supply, power ladder, start-up -/

/-- One cluster status word (01 Table 1.3) and the self-test result its unfencing needs. -/
structure Cluster where
  /-- 8 bits; 01 Table 1.3 UNIT_ERR, R11; reset 0x00 -/
  unitErr : BitVec 8 := 0
  /-- 1 bit; 01 Table 1.3 FENCED, R12; reset 0 -/
  fenced : Bool := false
  /-- 8 bits; 01 R11, R12, Table 1.3 DEGRADED: units out of service; reset 0 -/
  unitsOut : BitVec 8 := 0
  /-- 1 bit; 01 Table 1.3 RETEST_PENDING, R13; reset 0 -/
  retest : Bool := false
  /-- 16 bits, saturating; 01 Table 1.3 CORR_COUNT, R11; reset 0 -/
  corr : Nat := 0
  /-- 1 bit; 01 R13, self-test passed since fencing with matching signature and complete count; reset 0 choice -/
  testOk : Bool := false
  deriving DecidableEq, Repr

/-- The result of the start-up self-test for eligibility (17 R463). -/
inductive SelfTest where
  | notRun | passed | standbyOnly | ineligible
  deriving DecidableEq, Repr

/-- Causes that keep the module from active-eligibility until they clear. -/
structure NotActive where
  /-- 1 bit; 08 R224, a loop-back fail; reset 0 choice -/
  loopback : Bool := false
  /-- 1 bit; 13 R388, a lane's known-answer test failed; reset 0 choice -/
  lanes : Bool := false
  /-- 1 bit; 04 R100, dictionary digest differed and the copy is not complete; reset 0 choice -/
  dictionary : Bool := false
  /-- 1 bit; 13 R394, handed back in a swap drill; reset 0 choice -/
  handback : Bool := false
  /-- 1 bit; 20 R526, a severity 3 block has not passed its self-test; reset 0 choice -/
  faulted : Bool := false
  /-- block codes whose self-test that awaits, 0xFF a restart's; 20 R526; reset none -/
  blocks : List Nat := []
  /-- 1 bit; 12 R363, the safety block CRCs of the two channels differ; reset 0 choice -/
  block : Bool := false
  deriving DecidableEq, Repr

/-- Chapters 1 to 3. -/
structure SysSt where
  /-- 8 states; 01 R22 Table 1.8 SYS.LIFECYCLE; reset BOOT -/
  lifecycle : Lifecycle := .boot
  /-- 8 states; 01 R22, the AO logic's lifecycle mirror, kept through a brown-out (R40); reset BOOT -/
  mirror : Lifecycle := .boot
  /-- 6 states; 03 R56 SYS.POWER_STATE; reset P0 -/
  power : PState := .p0
  /-- optional power state; 03 R66, the target of a transition in progress; reset none -/
  target : Option PState := none
  /-- optional request; 03 R62, the POWER_SET the transition answers; reset none -/
  targetOp : Option OpRef := none
  /-- 1 bit; 01 R26, last transition recorded as aborted; reset 0 choice -/
  aborted : Bool := false
  /-- 1 bit; 03 R62, this module moves alone (a POWER_SET that named its slot), not with the pair; reset 0 choice -/
  alone : Bool := false
  /-- 1 bit; 01 R27, a standby below P1 whose active has failed rises to P0 to take ACTIVE there; reset 0 choice -/
  riseActive : Bool := false
  /-- 1 bit; 03 R63, the power stages are being prepared for a descent; reset 0 choice -/
  preparing : Bool := false
  /-- time, ns; 03 R63, when that preparation began; reset 0 choice -/
  prepSince : Nat := 0
  /-- four words of 32 bits; 01 Table 1.3 SYS.CLUSTER_STATUS instances 0-3; reset 0 -/
  est : Four Cluster := ⟨{}, {}, {}, {}⟩
  /-- four words of 32 bits; 01 Table 1.3 SYS.CLUSTER_STATUS instances 4-7; reset 0 -/
  lane : Four Cluster := ⟨{}, {}, {}, {}⟩
  /-- 8 bits; 01 Table 1.2, R11, status bit of each ring transceiver: ring × 2 + port (0 P, 1 Q), out of service; reset 0 -/
  trxErr : BitVec 8 := 0
  /-- 24 bits; 01 Table 1.2, R11, status bit of each field channel: DI0 to DI15, then DO0 to DO7, out of service; reset 0 -/
  fieldErr : BitVec 24 := 0
  /-- 01 R19 Table 1.5, what the last crossing access that was not served answered the near side: error response, read data; reset none -/
  xingAnswer : Option (Bool × Nat) := none
  /-- count; 01 R19 Table 1.5, dropped entries of FIFO streams counted by the producer; reset 0 choice -/
  xingDropped : Nat := 0
  /-- 1 bit; 02 R38 ROLE_OUT, SYS.ROLE_LINES bit 0; reset 0 -/
  roleOut : Bool := false
  /-- 1 bit; 02 R38 ROLE_IN, SYS.ROLE_LINES bit 1; reset 0 choice (a pin; the carrier pulls it down) -/
  roleIn : Bool := false
  /-- 1 bit; 01 R29, drive barred until one line is deasserted and the arbitration has completed; reset 0 choice -/
  conflict : Bool := false
  /-- 1 bit; 13 R375, drive ended by Turnip since the last permit; reset 0 choice -/
  driveEnded : Bool := false
  /-- 1 bit; 01 R17, an oscillator fault stands; reset 0 choice -/
  oscFault : Bool := false
  /-- 6 bits; 01 R20, dies lost: control SoC, Turnip, mixed-signal, field, non-volatile, memory; reset 0 choice -/
  diesLost : BitVec 6 := 0
  /-- 1 bit; 02 R37 pin SLOT_ID as read (pulled up); reset 1 choice -/
  slotId : Bool := true
  /-- 1 bit; 02 R37 pin SLOT_IDN as read (pulled up); reset 1 choice -/
  slotIdn : Bool := true
  /-- 0 none, 1 A, 2 B; 02 R37, the slot read in BOOT; reset 0 choice -/
  slot : Nat := 0
  /-- 1 bit; 02 R51, the three mating detects closed for 100 ms: resets released; reset 0 -/
  mated : Bool := false
  /-- 1 bit; 02 R52, a mating detect open for 50 us or longer; reset 0 choice -/
  mateOpen : Bool := false
  /-- 1 bit; 02 R40, power-fail warning stands; reset 0 -/
  vinWarn : Bool := false
  /-- 1 bit; 02 R40, VIN below the brown-out threshold; reset 0 choice -/
  vinLow : Bool := false
  /-- 1 bit; 02 R40, the AO logic lost power (VIN below 3.0 V); reset 0 choice -/
  aoLost : Bool := false
  /-- 64 bytes; 02 R55 SYS.CARRIER_ID; reset zeros choice -/
  carrierId : Bytes := List.replicate 64 0
  /-- optional 64 bytes; 02 R55, what the socket's identity EEPROM answers, none without an acknowledge; reset none choice -/
  eeprom : Option Bytes := none
  /-- time, ns; 03 R67, R411, the AO logic's real-time clock; reset 0 choice -/
  rtc : Nat := 0
  /-- 16 bits; 03 R67 Table 3.4 SYS.RESET_CAUSE; reset POR set at first power -/
  resetCause : BitVec 16 := 1
  /-- time, ns; 03 R70, R73, the release of resets from which start-up runs; reset 0 choice -/
  bootAt : Nat := 0
  /-- 0 to 8; 03 R73 SYS.START_PHASE; reset 0 -/
  startPhase : Nat := 0
  /-- 8 bits; 03 R59, the field die's hold register of switch P; reset 0 choice -/
  holdReg : BitVec 8 := 0
  /-- 1 bit; 03 R59, the hold register is in force (P3); reset 0 choice -/
  holdOn : Bool := false
  /-- 1 bit; 03 R60, a check visit is in progress; reset 0 choice -/
  checkVisit : Bool := false
  /-- time, ns; 03 R60, the last check visit; reset 0 choice -/
  lastVisit : Nat := 0
  /-- 1 bit; 03 R64, the active awaits the standby's P0 report; reset 0 choice -/
  awaitP0 : Bool := false
  /-- 1 bit; 03 R64, the standby reported P0 since leaving; reset 0 choice -/
  twinP0 : Bool := false
  /-- power state left, for twice its exit time (03 R64); reset P0 choice -/
  leftState : PState := .p0
  /-- 1 bit; 03 R71, a valid image was found; reset 0 choice -/
  imageValid : Bool := false
  /-- 1 bit; 03 R71, that image is confirmed (not on trial); reset 0 choice -/
  imageConfirmed : Bool := false
  /-- 4 states; 17 R463, start-up self-test result; reset not run -/
  selfTest : SelfTest := .notRun
  /-- 6 flags; 08 R224, 13 R388, R394, 04 R100, 12 R363, 20 R526; reset 0 -/
  notActive : NotActive := {}
  /-- 1 bit; 03 R71, the start-up role has been judged once by Table 3.6; reset 0 choice -/
  judged : Bool := false
  /-- time; 03 R71, the start of NEGOTIATE; reset 0 choice -/
  negSince : Nat := 0
  /-- 1 bit; 03 R69, the module is held in BOOT by Sprout and answers on SVC only; reset 0 choice -/
  bootHold : Bool := false
  deriving DecidableEq, Repr

/-! ### Chapter 4: the command protocol -/

/-- One WCP packet the module sends (Table 4.2): `seq` is the extended sequence of its direction. -/
structure Packet where
  transport : Transport
  peer : Nat
  reply : Bool
  error : Bool
  safety : Bool
  seq : Nat
  opcode : Nat
  session : Nat
  target : Nat
  payload : Bytes
  /-- module-to-host key when the packet carries a tag (R78, R88) -/
  key : Option Bytes
  deriving DecidableEq, Repr

/-- One event of a batch (Table 4.13). -/
structure Event where
  stamp : BitVec 32
  code : Nat
  sev : Nat
  inst : Nat
  seq : Nat
  data : Bytes
  deriving DecidableEq, Repr

/-- One event batch sent and not yet acknowledged (R103). -/
structure Batch where
  bseq : Nat
  epoch : Nat
  quality : Nat
  gap : Bool
  events : List Event
  resends : Nat
  /-- when it was last sent, ns -/
  sent : Nat
  deriving DecidableEq, Repr

/-- One entry of a shadow set (R99). -/
structure Shadow where
  id : Nat
  inst : Nat
  value : Bytes
  deriving DecidableEq, Repr

/-- One WCP session (R86 to R90, R99, R102, R103). -/
structure Sess where
  id : Nat
  role : Role
  transport : Transport
  peer : Nat
  /-- highest accepted extended request sequence (R80) -/
  hi : Nat := 0
  /-- extended sequences accepted within the last 1,024 (R80) -/
  seen : List Nat := []
  /-- the last 8 accepted sequences with their cached replies (R80) -/
  cache : List (Nat × Packet) := []
  /-- extended sequence of the module's own packets to the host -/
  txSeq : Nat := 0
  /-- host-to-module key, 32 bytes (R89) -/
  keyIn : Bytes := []
  /-- module-to-host key, 32 bytes (R89) -/
  keyOut : Bytes := []
  /-- first 8 bytes of the SHA-256 of the host certificate's subject (R486) -/
  user : Bytes := []
  /-- the shadow set, in order of entry (R99) -/
  shadow : List Shadow := []
  /-- subscription mask (R102) -/
  mask : BitVec 32 := 0
  /-- minimum severity (R102) -/
  minSev : Nat := 0
  subscribed : Bool := false
  /-- events of the batch being collected (R102) -/
  collecting : List Event := []
  /-- time of the first of them -/
  collectSince : Nat := 0
  /-- sequence of the last batch sent (R103) -/
  bseq : Nat := 0
  unacked : List Batch := []
  /-- batches that carried GAP since it was set, by sequence (R103) -/
  gap : Bool := false
  /-- a split request in progress: opcode, sequence, bytes, since (R81) -/
  split : Option (Nat × Nat × Bytes × Nat) := none
  /-- opcode and sequence of a split request dropped for time (R81) -/
  splitDropped : Option (Nat × Nat) := none
  /-- time of the last accepted request (R90) -/
  lastReq : Nat := 0
  deriving DecidableEq, Repr

/-- A packet that passed reception and waits for execution (R79). -/
structure Waiting where
  hdr : Hdr
  opcode : Nat
  payload : Bytes
  deriving DecidableEq, Repr

/-- A split request without a session (R81, R87): its sender, opcode, sequence, bytes, since, and whether it was dropped for time. -/
structure Split0 where
  transport : Transport
  peer : Nat
  opcode : Nat
  seq : Nat
  bytes : Bytes
  since : Nat
  dropped : Bool
  deriving DecidableEq, Repr

/-- One incomplete IPv4 reassembly (R75): key, fragments (offset, bytes), total length once the last has come, since. -/
structure Reasm where
  key : Nat
  frags : List (Nat × Bytes)
  total : Option Nat
  since : Nat
  deriving DecidableEq, Repr

/-- One snapshot set (R104, R105): counters keyed ID × 256 + instance. -/
structure Snap where
  num : Nat
  instant : Nat
  session : Nat
  latched : Bool := false
  mask : BitVec 32 := 0
  module : SMap Nat := []
  twin : SMap Nat := []
  nodes : SMap (List Nat) := []
  /-- its slot at the nodes, 0 to 3 (05 Table 5.2) -/
  slot : Nat := 0
  /-- the rings on which SNAP rode on a regular sweep's SYNC (05 R135) -/
  rode : List Nat := []
  deriving DecidableEq, Repr

/-- One stored dictionary copy in MRAM (R101). -/
structure ParamCopy where
  generation : Nat
  valid : Bool
  values : SMap Bytes
  deriving DecidableEq, Repr

/-- The frames whose next copy carries a block's committed values (R100): LOOP_COPY, a ring's SWEEP_FINAL, EST_DIGEST, SAFETY_COPY, any
frame of the twin link; none for a block of which no state is copied. -/
inductive CopyPart where
  | loop | ring (r : Nat) | est | safety | link | none
  deriving DecidableEq, Repr

/-- A COMMIT placed in a state copy and not yet applied by every block (R100). -/
structure Commit where
  op : OpRef
  hdr : Hdr
  /-- entries not yet applied -/
  entries : List Shadow
  /-- the whole set, for its digest (R100) -/
  whole : List Shadow
  since : Nat
  /-- accepted-pending was already answered -/
  pending : Bool
  /-- the copies that have carried it, or that nothing sends (R100) -/
  placed : List CopyPart := []
  deriving DecidableEq, Repr

/-- Chapter 4. -/
structure WcpSt where
  /-- up to 16 sessions; 04 R86; reset none -/
  sessions : List Sess := []
  /-- session ids that have ended, answered with 0x010A (04 R90), and the next id; reset 1 choice -/
  nextId : Nat := 1
  /-- packets; 04 R79, the execution queue; reset empty -/
  queue : List Waiting := []
  /-- packets; 04 R76, waiting on the host link (HL_IRQ is low while this or the next is non-empty); reset empty -/
  hostOut : List Packet := []
  /-- packets; 04 R81, the continuation packets of the reply being read on the host link; reset empty -/
  hostRest : List Bytes := []
  /-- at most 4; 04 R75; reset empty -/
  reasm : List Reasm := []
  /-- 04 R81, split requests with SESSION 0; reset none -/
  splits : List Split0 := []
  /-- times of packets that failed check 5 within the last second; 04 R84; reset empty -/
  authTimes : List Nat := []
  /-- time; 04 R84, last 0x1070; reset none -/
  authRaised : Option Nat := none
  /-- applied parameter values keyed ID × 256 + instance, little-endian bytes, unlisted = default; 04 R94-R97; reset the
  dictionary's defaults -/
  params : SMap Bytes := []
  /-- full scales, keyed as params, by which a value applied under an earlier LOOP.I_FS or LOOP.V_FS was converted; 07 R178; reset none -/
  heldFs : SMap Nat := []
  /-- class L and H values accepted and waiting for their block's boundary; 04 R97, R98; reset empty -/
  waitingVals : List Shadow := []
  /-- the COMMIT in progress; 04 R99, R100; reset none -/
  commit : Option Commit := none
  /-- COMMITs accepted while another is not applied everywhere, in order; 04 R99; reset none -/
  commitWait : List Hdr := []
  /-- 32 bits, saturating, keyed ID × 256 + instance: every read-only counter of the dictionary; 04 R94 and the chapters'
  parameter tables; reset 0 -/
  counters : SMap Nat := []
  /-- 32 bits; 04 R101 SYS.CONFIG_GENERATION; reset 0 -/
  generation : BitVec 32 := 0
  /-- MRAM; 04 R101, the two stored dictionary copies, newest first; reset one valid copy of defaults -/
  stored : List ParamCopy := [⟨0, true, []⟩]
  /-- at most 4; 04 R104; reset none -/
  snaps : List Snap := []
  /-- 16 bits; 04 R104, the last snapshot number given; reset 0 choice -/
  lastSnap : Nat := 0
  /-- the mirror of the active's shadow sets on a standby (session, entry); 04 R92; reset empty -/
  mirror : List (Nat × Shadow) := []
  /-- entries of the active's COMMIT that await their boundary on the standby; 04 R100; reset empty -/
  twinCommit : List Shadow := []
  /-- requests the twin forwarded, not yet answered, with their opcodes and the roles of the receiving module's sessions; 04 R91; reset empty -/
  guests : List (Hdr × Nat × Role) := []
  /-- requests forwarded to the twin and not yet answered; 04 R91; reset empty -/
  forwarded : List (Hdr × Nat) := []
  deriving DecidableEq, Repr

/-! ### Chapter 20: the fault manager -/

/-- A fault raised, waiting, in progress or merged (R527, R528, R531). -/
structure FRec where
  code : Nat
  inst : Nat
  sev : Nat
  /-- the 12 event data bytes and what follows them in the record (R479) -/
  data : Bytes
  /-- code and instance of the parent the raising rule names, or none (R531) -/
  parent : Option (Nat × Nat)
  /-- raised by an action commanded while this record (by sequence) was handled (R531) -/
  by_ : Nat
  /-- strings its raising rule names, else none (R525) -/
  strings : Option (BitVec 4)
  /-- time of acceptance (R531) -/
  time : Nat
  /-- sequence once handling began; 0 before -/
  seq : Nat
  repeats : Nat
  /-- original severity when escalated (R529) -/
  escalated : Option Nat
  /-- its handling was begun before it was suspended (R527) -/
  begun : Bool
  /-- reported by the twin over Shallot (Table 18.2 TWIN) -/
  twin : Bool
  deriving DecidableEq, Repr

/-- Chapter 20. -/
structure FaultSt where
  /-- faults raised by hardware and rules, not yet accepted; 20 R524, R532; reset empty -/
  raised : List FRec := []
  /-- at most 16 waiting faults, in handling order; 20 R527; reset empty -/
  queue : List FRec := []
  /-- the record in progress; 20 R527; reset none -/
  cur : Option FRec := none
  /-- severity 0 children whose named parent waits; 20 R531; reset empty -/
  deferred : List FRec := []
  /-- 32 bits; 20 R531, the last record sequence assigned; reset 0 choice -/
  lastSeq : Nat := 0
  /-- (code, instance, sequence) of records handled, newest first, for named parents; 20 R531; reset empty -/
  known : List (Nat × Nat × Nat) := []
  /-- 32 bits; 20 R531, the record whose action is being commanded, 0 between actions; reset 0 -/
  acting : Nat := 0
  /-- 8 bits; 20 Table 20.6 SYS.FAULT_QUEUE_PEAK; reset 0 -/
  peak : Nat := 0
  deriving DecidableEq, Repr

/-! ### Chapters 5 and 6: rings, nodes, cells -/

/-- An open-wire test in progress on a node (R151, R152). -/
structure OwTest where
  tap : Nat
  repeats : Nat
  op : Option OpRef
  /-- Table 6.6 row that asked for it: 0 none (a command), 2 or 3 -/
  row : Nat
  deriving DecidableEq, Repr

/-- One node as the module knows it (chapters 5 and 6); the node itself is a companion part. -/
structure NodeSt where
  /-- 0 to 7; 05 Table 5.7, the state last commanded or reported; reset RESET -/
  state : Nat := 0
  /-- 8 bits; 05 R538, Table 5.14, the EPOCH stored for the node; reset none -/
  epoch : Option Byte := none
  /-- 16 bits; 05 Table 5.6 NODE_STATUS last reported; reset 0 -/
  status : BitVec 16 := 0
  /-- 32 bits; 05 R122, retention overruns last reported; reset 0 -/
  overruns : Nat := 0
  /-- volts; 06 R145, target of the offset o; reset 0.0 -/
  oT : ℚ := 0
  /-- volts; 06 R145 CELL.CAL_OFFSET, applied o; reset 0.0 -/
  oA : ℚ := 0
  /-- ratio; 06 R145, target of the gain g; reset 1.0 -/
  gT : ℚ := 1
  /-- ratio; 06 R145 CELL.CAL_GAIN, applied g; reset 1.0 -/
  gA : ℚ := 1
  /-- 16 ratios; 06 R145, targets of m_n; reset zeros -/
  mT : List ℚ := List.replicate 16 0
  /-- 16 ratios; 06 R145 CELL.CAL_MISMATCH, applied m_n; reset zeros -/
  mA : List ℚ := List.replicate 16 0
  /-- 20 flags; 06 R143, slots read in the present cycle; reset none -/
  slots : List Nat := []
  /-- 16 pairs; 06 R147, path A value and slot reading of each cell in the present cycle; reset none -/
  slotVals : SMap (ℚ × ℚ) := []
  /-- count; 06 R146, complete cycles since enumeration or EPOCH change; reset 0 -/
  cycles : Nat := 0
  /-- counts by quantity; 06 R147, consecutive cycles beyond a limit of Table 6.5; reset 0 -/
  limitRuns : SMap Nat := []
  /-- count; 06 R147, consecutive cycles of the multiplexer condition; reset 0 -/
  muxRun : Nat := 0
  /-- ratio; 06 R146 CELL.REF_RATIO r; reset 1.0 -/
  refRatio : ℚ := 1
  /-- 1 bit; 06 R147, a reference disagreement stands; reset 0 choice -/
  refDis : Bool := false
  /-- 16 bits; 06 Table 6.15 CELL.UNMEASURED; reset 0 -/
  unmeasured : BitVec 16 := 0
  /-- 17 bits; 06 Table 6.15 CELL.WIRE_FAULT; reset 0 -/
  wireFault : BitVec 17 := 0
  /-- 4 bits; 06 R142, failed sensors; reset 0 choice -/
  failedT : BitVec 4 := 0
  /-- 1 bit; 06 R147, Table 6.6 row 6, Table 10.4: the node is unmeasured in full; reset 0 -/
  full : Bool := false
  /-- counts by channel; 06 R155, complete cycles of a channel whose calibration restarted; reset none -/
  fresh : SMap Nat := []
  /-- 5 flags; 12 R343, conditions of Table 12.1 met at the last evaluation; reset 0 choice -/
  trips : BitVec 8 := 0
  /-- 06 R154, bounded pairs without headroom; reset none -/
  noRoom : List Nat := []
  /-- 06 R166, SLEEP entered at a time with a target (100 µV) and mask, until the node is met again; reset none -/
  sleep : Option (Nat × Nat × Nat) := none
  /-- 15 entries (row, visits); 06 R150, the run of each pair; reset none -/
  pairRun : SMap (Nat × Nat) := []
  /-- pairs with a row 3 action held, with the neighbours still to be visited, or 100 + a tap whose test it awaits; 06 R150; reset none -/
  held3 : SMap (List Nat) := []
  /-- 1 bit; 06 Table 6.6 row 5, pair checks suspended; reset 0 -/
  pairsOff : Bool := false
  /-- volts (S_B, S_A) at a pair's latest visit; 06 R154; reset none -/
  pairSum : SMap (ℚ × ℚ) := []
  /-- pairs bounded under row 4; 06 R154; reset none -/
  boundPairs : List Nat := []
  /-- 06 R151, the open-wire test in progress; reset none -/
  ow : Option OwTest := none
  /-- 06 R150, R151, tests that wait; reset none -/
  owWait : List OwTest := []
  /-- time of the last pass by tap; 06 R155; reset none -/
  owPass : SMap Nat := []
  /-- time until which a tap is not tested again; 06 R152; reset none -/
  owBar : SMap Nat := []
  /-- count; 06 R150, number of the rotation of pair visits in progress; reset 0 choice -/
  rot : Nat := 0
  /-- pairs visited in it; 06 R150; reset none -/
  rotSeen : List Nat := []
  /-- mV (OV, UV, hysteresis) read back as in force; 06 R158; reset none -/
  cmpInForce : Option (Nat × Nat × Nat) := none
  /-- count; 06 R158, consecutive read-back mismatches; reset 0 -/
  cmpBad : Nat := 0
  /-- 15 bits; 06 R157 PAIR_MASK commanded; reset 0 -/
  pairMask : BitVec 15 := 0
  /-- 16 bits; 06 Table 6.10 OV_TRIPS last reported; reset 0 -/
  ovTrips : BitVec 16 := 0
  /-- 16 bits; 06 Table 6.10 UV_TRIPS last reported; reset 0 -/
  uvTrips : BitVec 16 := 0
  /-- 16 bits; 06 R161, mask of the BALANCE command in force; reset 0 -/
  balMask : BitVec 16 := 0
  /-- 1 bit; 06 R162 BAL_DERATED last reported; reset 0 -/
  derated : Bool := false
  /-- 06 R149, R167, the last held sweep's payload; reset none -/
  last : Option SweepPayload := none
  /-- ts32; 05 R120, sample stamp of that sweep; reset 0 -/
  stamp : BitVec 32 := 0
  /-- four temperatures in °C with failed sensors replaced; 10 R276; reset none -/
  tempC : List ℚ := []
  /-- 16 voltages in V; 06 R145 V_est; reset none -/
  vEst : List ℚ := []
  /-- 16 voltages in V; 06 R146, R154 V_hi; reset none -/
  vHi : List ℚ := []
  /-- 16 voltages in V; 06 R146, R154 V_lo; reset none -/
  vLo : List ℚ := []
  deriving DecidableEq, Repr

/-- One slow-input set (R125). Voltages in V, temperatures in 0.01 °C. -/
structure SlowSet where
  sweep : BitVec 16
  stamp : BitVec 32
  /-- highest V_hi with node and cell -/
  hi : Option (ℚ × Nat × Nat)
  /-- lowest V_lo with node and cell -/
  lo : Option (ℚ × Nat × Nat)
  /-- hottest temperature with node and sensor -/
  hot : Option (Int × Nat × Nat)
  cells : Nat
  temps : Nat
  incomplete : Bool
  deriving DecidableEq, Repr

/-- What a node command still awaits (R114): node, type, tag, the port it left from (QTX), the host request it answers, kind. -/
structure NodeReq where
  node : Nat
  type : Nat
  tag : Nat
  q : Bool
  hdr : Option Hdr
  arg : Nat
  deriving DecidableEq, Repr

/-- One ring master and its string's ring (chapter 5). -/
structure RingSt where
  /-- 0 to 4; 05 Table 5.13 RING.MODE; reset 0 -/
  mode : Nat := 0
  /-- 16 bits; 05 Table 5.13 RING.BREAK as the pair (k, k+1); reset none (0xFFFF) -/
  brk : Option (Nat × Nat) := none
  /-- 05 R134, the second break's pair; reset none -/
  brk2 : Option (Nat × Nat) := none
  /-- 0 to 28; 05 R117, nodes of the last enumeration; reset 0 -/
  n : Nat := 0
  /-- 1 bit; 05 R116, the ring is enumerated; reset 0 -/
  enumerated : Bool := false
  /-- 32 bits; 05 R117, Turnip's enumerated set; reset 0 choice -/
  turnipSet : BitVec 32 := 0
  /-- 32 bits, ps; 05 R118 RING.LOOP_PS; reset 0 -/
  loopPs : Nat := 0
  /-- 32 bits; 05 R127 RING.HB_SEEN; reset 0 -/
  hbSeen : BitVec 32 := 0
  /-- times by node; 05 R127, when Turnip's timer of the node last restarted; reset none -/
  hbAt : SMap Nat := []
  /-- times, newest first; 05 R137, ordered-set check errors of the last second; reset none -/
  osetAt : List Nat := []
  /-- 16 bits; 05 R123, R132, the sweep in which the break was recorded; reset none -/
  brkSweep : Option (BitVec 16) := none
  /-- 32 bits; 05 R127, nodes whose loss Turnip has declared; reset 0 choice -/
  hbLost : BitVec 32 := 0
  /-- 0 none, 1 ENUM sent, 2 delay measurement; 05 R116, R118; reset 0 -/
  enumStage : Nat := 0
  /-- pair found (from P, from Q); 05 R116; reset none -/
  found : Option (Nat × Nat) := none
  /-- 1 bit; 05 R120, the ring sweeps; reset 0 -/
  sweeping : Bool := false
  /-- 16 bits; 05 R112, number of the sweep in progress; reset 0 choice -/
  sweep : BitVec 16 := 0
  /-- time, ns; 05 R120, grid departure of the sweep in progress; reset 0 -/
  depart : Nat := 0
  /-- 1 bit; 13 R389, a SYNC fell due while neither module could transmit; reset 0 -/
  syncDue : Bool := false
  /-- 1 bit; 05 R124, a sweep awaits its finalisation; reset 0 -/
  collecting : Bool := false
  /-- frames by node; 05 R121, the sweep store's part of the sweep in progress; reset empty -/
  held : SMap SweepPayload := []
  /-- earlier sweeps' frames kept, with (sweep, node, late); 05 R124; reset empty -/
  late : List (BitVec 16 × Nat × SweepPayload) := []
  /-- attempts made by node; 05 R123; reset none -/
  attempts : SMap Nat := []
  /-- nodes given up this sweep; 05 R123; reset none -/
  givenUp : List Nat := []
  /-- count; 05 R126, consecutive partial sweeps; reset 0 -/
  partialRun : Nat := 0
  /-- (node, port) pairs in lock loss; 05 R131; reset none -/
  lost : List (Nat × Nat) := []
  /-- neighbours asked for PORT_STATUS as evidence, each with the reporting node; 05 R131; reset none -/
  asked : List (Nat × Nat) := []
  /-- (node, port) pairs that reported EVENT 1 and not lost since; 05 R133; reset none -/
  stable : List (Nat × Nat) := []
  /-- nodes of the pair whose PORT_STATUS showed both locks, each with the STATE it reported; 05 R133; reset none -/
  unwrapOk : List (Nat × Nat) := []
  /-- 1 bit; 05 R133, NORMAL is resumed at the next SYNC; reset 0 -/
  toNormal : Bool := false
  /-- 2 flags; 05 R130, the master's own ports P and Q out of lock; reset 0 -/
  lostP : Bool := false
  lostQ : Bool := false
  /-- time; 05 R130, since when the transmitters have been enabled; reset 0 choice -/
  txSince : Nat := 0
  /-- 1 bit; 05 R120, raised to 1 kHz for injection; reset 0 -/
  fast : Bool := false
  /-- node commands awaiting a REPLY; 05 R114; reset none -/
  reqs : List NodeReq := []
  /-- 8 bits; 05 Table 5.3, last command tag; reset 0 choice -/
  tag : Byte := 0
  /-- 1 bit; 06 R164, |I| has stayed at or below CELL.BAL_REST_A since this time; reset none -/
  restSince : Option Nat := none
  /-- node last read back; 06 R158; reset 0 choice -/
  cmpNode : Nat := 0
  /-- position in the rotation of comparator tests, 32 to a node; 06 R160; reset 0 choice -/
  cmpRot : Nat := 0
  /-- time of the last test of the rotation; 06 R160; reset 0 choice -/
  cmpAt : Nat := 0
  /-- 06 R160, R167 comparator test in progress: node, remaining (cell, uv), request, not fired OV, not fired UV; reset none -/
  cmpTest : Option (Nat × List (Nat × Bool) × Option OpRef × Nat × Nat) := none
  deriving DecidableEq, Repr

/-- A RING_START or RING_ENUMERATE awaiting its rings (R136). -/
structure RingOp where
  op : OpRef
  named : List Nat
  waiting : List Nat
  failed : Bool
  deriving DecidableEq, Repr

/-- Chapters 5 and 6. -/
structure RingsSt where
  ring : Four RingSt := ⟨{}, {}, {}, {}⟩
  /-- nodes 0 to 111 (ring × 28 + node − 1); 04 R94; reset unlisted = a node in RESET -/
  node : SMap NodeSt := []
  /-- 05 R136, requests awaiting completion; reset none -/
  ops : List RingOp := []
  deriving DecidableEq, Repr

/-! ### Chapter 7: the loop engine -/

/-- One lane's state and its last period's results (chapter 7). Q15 values and Q9.30 accumulators are integers. -/
structure LaneSt where
  /-- Q9.30 integrator within ±2^30; 07 R175, R186 I1; reset 0 -/
  i1 : Int := 0
  /-- Q9.30 integrator within ±2^30; 07 R186 I2; reset 0 choice -/
  i2 : Int := 0
  /-- Q9.30 integrator within ±2^30; 07 R186 I3; reset 0 choice -/
  i3 : Int := 0
  /-- Q9.30 integrator within ±2^30; 07 R186 I5; reset 0 choice -/
  i5 : Int := 0
  /-- Q9.30 integrator within ±2^30; 07 R190 I_il; reset 0 -/
  iIl : Int := 0
  /-- Q15; 07 R191 notch x1; reset 0 -/
  x1 : Int := 0
  /-- Q15; 07 R191 notch x2; reset 0 -/
  x2 : Int := 0
  /-- Q15; 07 R191 notch y1; reset 0 -/
  y1 : Int := 0
  /-- Q15; 07 R191 notch y2; reset 0 -/
  y2 : Int := 0
  /-- Q15; 07 R186 a_win of the previous period; reset 0 -/
  aWin : Int := 0
  /-- loop codes; 07 R186, PI loops that took part in the previous period; reset none -/
  prevPart : List Nat := []
  /-- 1 bit; 07 R179 request direction (charge); reset discharge choice -/
  charge : Bool := false
  /-- Q9.30; 07 R195 the ramp of C7; reset 0 choice -/
  c7 : Int := 0
  /-- Q9.30; 07 R197 C6 after its rise limit; reset 0 choice -/
  c6 : Int := 0
  /-- 4 bits; 07 Table 7.8 WINNER; reset 15 -/
  winner : Nat := 15
  /-- 1 bit; 07 Table 7.8 INJ_GATE; reset 0 -/
  injGate : Bool := false
  /-- 1 bit; 07 Table 7.8 INJ_FULL; reset 0 -/
  injFull : Bool := false
  /-- 1 bit; 07 Table 7.8 IL_HELD; reset 0 -/
  ilHeld : Bool := false
  /-- 1 bit; 07 Table 7.8 DUTY_SAT; reset 0 -/
  dutySat : Bool := false
  /-- 1 bit; 07 Table 7.8 SLOW_STALE; reset 0 -/
  slowStale : Bool := false
  /-- 1 bit; 07 Table 7.8 SLOW_PARTIAL; reset 0 -/
  slowPartial : Bool := false
  /-- 1 bit; 07 Table 7.8 EST_STALE; reset 0 -/
  estStale : Bool := false
  /-- 1 bit; 07 Table 7.8 DEADLINE; reset 0 -/
  deadline : Bool := false
  /-- Q15; 07 Table 7.9 r0; reset 0 -/
  r0 : Int := 0
  /-- eight Q15 outputs a0 to a7, 0x7FFF without part; 07 Table 7.9; reset zeros -/
  a : List Int := List.replicate 8 0
  /-- Q15; 07 Table 7.9 i_ref; reset 0 -/
  iRef : Int := 0
  /-- Q15; 07 Table 7.9 i_meas; reset 0 -/
  iMeas : Int := 0
  /-- Q15; 07 Table 7.9 v_s; reset 0 -/
  vS : Int := 0
  /-- Q15; 07 Table 7.9 v_b; reset 0 -/
  vB : Int := 0
  /-- Q15; 07 Table 7.9 u_n; reset 0 -/
  uN : Int := 0
  /-- Q15; 07 R192 the duty computed this period; reset 0 -/
  duty : Int := 0
  /-- 1 bit; 07 R184, R225, a duty is to be released for this period; reset 0 choice -/
  hasDuty : Bool := false
  /-- optional Q15; 07 R172, the duty in the PWM shadow registers; reset none -/
  shadow : Option Int := none
  /-- optional Q15; 07 R172, the duty in effect; reset none -/
  applied : Option Int := none
  /-- 1 bit; 08 R218, the DIR released with the shadow duty (charge); reset discharge choice -/
  shadowDir : Bool := false
  /-- 1 bit; 08 R218, the DIR released with the duty in effect; reset discharge choice -/
  appliedDir : Bool := false
  /-- periods; 07 R192, consecutive clamped periods; reset 0 -/
  satRun : Nat := 0
  /-- periods won in a row by the present winner; 07 Table 7.11; reset 0 -/
  winRun : Nat := 0
  /-- limit code reported by 0x3030 and not yet released; 07 Table 7.11; reset none -/
  limitUp : Option Nat := none
  /-- 07 R125, R30, newest slow-input set of the bank; reset none -/
  slow : Option SlowSet := none
  /-- 07 R194, last complete slow-input set; reset none -/
  slowFull : Option SlowSet := none
  /-- time; 07 R195, since when the slow inputs have been stale; reset none -/
  staleSince : Option Nat := none
  /-- Q15; 07 R180, 10 R291 headroom for discharge; reset 0 choice -/
  hDis : Int := 0
  /-- Q15; 07 R180, 10 R291 headroom for charge; reset 0 choice -/
  hChg : Int := 0
  /-- ts32; 07 R196, stamp of that headroom's estimator cycle; reset none -/
  hStamp : Option (BitVec 32) := none
  /-- 1 bit; 07 R198, injection is requested; reset 0 -/
  injReq : Bool := false
  /-- five 32-bit phases; 07 R198, 11 R311 tone phase accumulators; reset 0 -/
  phase : List (BitVec 32) := List.replicate 5 0
  /-- periods; 07 R200, periods the gate conditions have held since a closing; reset 0 -/
  rearm : Nat := 0
  /-- periods; 07 R200, periods of fade done; reset 0 -/
  fade : Nat := 0
  /-- 1 bit; 07 R186, R190 the next period is the first after a start; reset 0 -/
  fresh : Bool := false
  deriving DecidableEq, Repr

/-- LOOP.STATUS of a stopped channel, WINNER 15 and zeros, and the rest of Table 7.9 (R201, R202). -/
def loopReset : Bytes := 15 :: List.replicate 39 0

/-- Chapter 7. -/
structure LoopSt where
  lane : Four LaneSt := ⟨{}, {}, {}, {}⟩
  /-- 32 bits; 07 Table 7.8, 13 Table 13.3 period count; reset 0 -/
  period : BitVec 32 := 0
  /-- ts32; 07 Table 7.9, stamp of the last boundary; reset 0 -/
  stamp : BitVec 32 := 0
  /-- 1 bit; 07 R201, a boundary's period awaits its release; reset 0 choice -/
  open_ : Bool := false
  /-- 1 bit; 08 R214, the application instant of the present period has passed; reset 0 choice -/
  passed : Bool := false
  /-- time of the last boundary; 08 R214, the PWM time base against module time; reset 0 choice -/
  base : Nat := 0
  /-- ns; 13 R378, how far a standby's time base still has to move to the boundaries of its active; reset 0 -/
  steer : Int := 0
  /-- 40 bytes a channel; 07 R201, R202, LOOP.STATUS and the rest of Table 7.9 as the last release left them; reset WINNER 15, else zeros -/
  records : Four Bytes := ⟨loopReset, loopReset, loopReset, loopReset⟩
  deriving DecidableEq, Repr

/-! ### Chapter 8: the power-stage interface -/

/-- One channel's front end, detectors, gates and run state (chapter 8). -/
structure ChSt where
  /-- 0 to 4; 08 Table 8.3 PSI.CH_STATE; reset 0 -/
  state : Nat := 0
  /-- 3 bits; 08 Table 8.7 STUCK; reset 0 -/
  stuck : BitVec 3 := 0
  /-- 3 bits; 08 Table 8.7 FROZEN; reset 0 -/
  frozen : BitVec 3 := 0
  /-- 1 bit; 08 Table 8.7 CLK_LOSS; reset 0 -/
  clkLoss : Bool := false
  /-- 1 bit; 08 Table 8.7 CLK_RANGE; reset 0 -/
  clkRange : Bool := false
  /-- 1 bit; 08 Table 8.7 GDF; reset 0 -/
  gdf : Bool := false
  /-- 1 bit; 08 Table 8.7 TURNIP_STUCK; reset 0 -/
  turnipStuck : Bool := false
  /-- 1 bit; 08 Table 8.7 OC; reset 0 -/
  oc : Bool := false
  /-- 1 bit; 08 Table 8.7 RB_ACTIVE; reset 0 -/
  rbActive : Bool := false
  /-- 1 bit; 08 Table 8.7 RB_SHADOW; reset 0 -/
  rbShadow : Bool := false
  /-- 1 bit; 08 Table 8.7 LOOPBACK_FAIL; reset 0 -/
  loopFail : Bool := false
  /-- 1 bit; 08 Table 8.7 HW_DISABLE; reset 0 -/
  hwDisable : Bool := false
  /-- 1 bit; 08 R220, 12 R342 safety-core gate closed by a demand; reset 0 choice -/
  gateSafeShut : Bool := false
  /-- 1 bit; 08 R220, 12 R342 Turnip's gate closed by its own detectors or a demand; reset 0 choice -/
  gateTurnipShut : Bool := false
  /-- 32 bits; 08 R207 PSI.DS_FCLK_MEAS; reset 0 -/
  fclk : Nat := 0
  /-- periods; 08 R207, consecutive out-of-range measurements; reset 0 -/
  clkBad : Nat := 0
  /-- bits of DSI, DSV and DSB, newest first, as far back as a filter reaches; 08 R209; reset none choice -/
  bits : List (Bool × Bool × Bool) := []
  /-- three counts; 08 R226, periods without change of the four low bits of DSI, DSV, DSB; reset 0 -/
  same : List Nat := [0, 0, 0]
  /-- three Q15 values; 08 R211 latched DSI, DSV, DSB; reset 0 -/
  dsi : Int := 0
  dsv : Int := 0
  dsb : Int := 0
  /-- ts32; 08 R210 capture stamp; reset 0 -/
  capture : BitVec 32 := 0
  /-- time; 08 R231, last stuck detection; reset none -/
  stuckAt : Option Nat := none
  /-- applications left before the outputs stop, with the detection boundary's stamp and the line; 08 R226; reset none -/
  freeze : Option (Nat × BitVec 32 × Nat) := none
  /-- periods; 08 R233, consecutive with |i_meas| at most PSI.STOP_I_A; reset 0 -/
  lowRun : Nat := 0
  /-- time; 08 R233, the ramp's output reached zero; reset none -/
  zeroAt : Option Nat := none
  /-- three counts; 08 Table 8.7, transitions since an input was found stuck; reset 0 -/
  trans : List Nat := [0, 0, 0]
  /-- 1 bit; 08 R233, the stop condition holds: outputs off at the next application instant; reset 0 -/
  stopNow : Bool := false
  /-- optional request; 08 R233, the CH_STOP ramp to report; reset none -/
  stopOp : Option OpRef := none
  /-- 1 bit; 08 R220, outputs driven; reset 0 -/
  driven : Bool := false
  /-- count; 12 R344, consecutive periods beyond a threshold (safety cores); reset 0 -/
  ocRun : Nat := 0
  /-- units of 156.25 ps; 08 R217, the high-side on-time of the period before the present one; reset 0 -/
  onBefore : Nat := 0
  /-- units of 156.25 ps; 08 R215, the high-side on-time of the present period; reset 0 -/
  onNow : Nat := 0
  /-- on-intervals of H0, L0, H1, L1 from the application instant, in 156.25 ps; 08 R215 to R218; reset none -/
  pwm : Four (List (Nat × Nat)) := ⟨[], [], [], []⟩
  deriving DecidableEq, Repr

/-- A CH_START waiting for its application instant (R232): per channel a status, or none while it starts. -/
structure StartReq where
  hdr : Hdr
  mask : List Nat
  status : List (Nat × Option Nat)
  deriving DecidableEq, Repr

/-- A ramp stop or loop-back run spanning channels (R233, R236). -/
structure StopReq where
  op : OpRef
  waiting : List Nat
  stopped : List Nat
  timedOut : List Nat
  lockedOut : Bool
  deriving DecidableEq, Repr

/-- Chapter 8. -/
structure PsiSt where
  ch : Four ChSt := ⟨{}, {}, {}, {}⟩
  /-- 08 R232, starts awaiting their reply; reset none -/
  starts : List StartReq := []
  /-- 08 R233, ramp stops awaiting completion; reset none -/
  stops : List StopReq := []
  /-- a LOOPBACK_RUN in progress with its channels; 08 R224; reset none -/
  loopback : Option (OpRef × List Nat) := none
  /-- time; 08 R224, the last scheduled loopback test; reset 0 choice -/
  loopAt : Nat := 0
  deriving DecidableEq, Repr
/-! ### Chapter 9: profile generators and actuator axes -/

/-- What slows a generator to rest (R247, R255, R261). -/
inductive GenMode where
  /-- runs to its target by R243 -/
  | run
  /-- emergency stop in progress: d_em in place of d1 and d2 (R247) -/
  | emergency
  /-- stops at d1 and d2, target at the stopping point (R255, R261) -/
  | stop
  /-- stops at d_em after a homing event (R261) -/
  | homeStop
  deriving DecidableEq, Repr

/-- One profile generator. Reference generators: Q15 of LOOP.I_FS with 32 further fraction bits; position generators: microsteps
with a 32-bit fraction (R240). -/
structure GenSt where
  /-- s64 or s48.32; 09 R240, R243 x; reset 0 -/
  x : Int := 0
  /-- s64; 09 R240, R243 signed speed v per tick; reset 0 -/
  v : Int := 0
  /-- as x; 09 R243 target X; reset 0 -/
  tgt : Int := 0
  /-- 1 bit; 09 R243 at rest; reset 1 -/
  atRest : Bool := true
  /-- 4 modes; 09 R247, Table 9.10 EMERGENCY; reset run -/
  mode : GenMode := .run
  /-- 1 bit; 09 R245, a new target applies at the next tick; reset 0 -/
  fresh : Bool := false
  /-- 1 bit; 09 R245, a pass of the target is planned; reset 0 -/
  planned : Bool := false
  /-- 1 bit; 09 Table 9.10 OVERSHOOT; reset 0 -/
  overshoot : Bool := false
  /-- 2 bits; 09 Table 9.10 PHASE; reset 0 -/
  phase : Nat := 0
  deriving DecidableEq, Repr

/-- An AXIS_HOME in progress (R261). -/
structure HomeRun where
  op : OpRef
  up : Bool
  start : Int
  /-- the event has come: the axis stops, its position redefined -/
  found : Bool
  deriving DecidableEq, Repr

/-- An AXIS_CALIBRATE in progress (R260): speed in microsteps per tick, since when it is reached, sum of e / speed, samples. -/
structure CalRun where
  op : OpRef
  speed : Int
  since : Option Nat
  sum : ℚ
  n : Nat
  deriving DecidableEq, Repr

/-- One actuator axis (chapter 9). -/
structure AxisSt where
  /-- 1 bit; 09 Table 9.11 ENERGISED; reset 0 -/
  energised : Bool := false
  /-- time; 09 R255, since when, for the 2 ms ramp; reset 0 choice -/
  since : Nat := 0
  /-- time; 09 R254, since when the energised axis has been at rest; reset 0 choice -/
  restAt : Nat := 0
  /-- 1 bit; 09 Table 9.11 HOLDING; reset 0 -/
  holding : Bool := false
  /-- 1 bit; 09 Table 9.11 POS_VALID; reset 0 -/
  posValid : Bool := false
  /-- 1 bit; 09 Table 9.11 UNHELD; reset 1 -/
  unheld : Bool := true
  /-- 1 bit; 09 Table 9.11 STALLED; reset 0 -/
  stalled : Bool := false
  /-- 1 bit; 09 Table 9.11 OC; reset 0 -/
  oc : Bool := false
  /-- 1 bit; 09 Table 9.11 OPEN_A; reset 0 -/
  openA : Bool := false
  /-- 1 bit; 09 Table 9.11 OPEN_B; reset 0 -/
  openB : Bool := false
  /-- 1 bit; 09 Table 9.11 FIRE; reset 0 -/
  fire : Bool := false
  /-- 8 bits; 09 Table 9.11 LOAD_ANGLE; reset 0xFF -/
  angle : Nat := 255
  /-- count; 09 R259, consecutive valid readings beyond ACT.STALL_DEG; reset 0 -/
  run : Nat := 0
  /-- 1 bit; 09 R259, R260, the present run of readings has declared its stall; reset 0 -/
  declared : Bool := false
  /-- count; 09 R260, full steps left in which a low reading counts as a slip; reset 0 -/
  slip : Nat := 0
  /-- as x; 09 R254, the position of the previous tick; reset 0 choice -/
  prevX : Int := 0
  /-- 09 R261, AXIS_HOME in progress; reset none -/
  home : Option HomeRun := none
  /-- 09 R260, AXIS_CALIBRATE in progress; reset none -/
  cal : Option CalRun := none
  deriving DecidableEq, Repr

/-- Chapter 9. -/
structure ProfSt where
  pg : Four GenSt := ⟨{}, {}, {}, {}⟩
  ag : Four GenSt := ⟨{}, {}, {}, {}⟩
  axis : Four AxisSt := ⟨{}, {}, {}, {}⟩
  /-- mV; 09 R255, Table 9.6, the actuator supply as last measured; reset 24,000 choice -/
  supplyMv : Nat := 24000
  /-- 0 to 2; 09 Table 9.6, bridge sensor below the warning threshold, above it, above the shutdown threshold; reset 0 -/
  hot : Nat := 0
  /-- time; 09 R264, the SF4 demand in force; reset none -/
  fireSince : Option Nat := none
  /-- class L values of PROF. and ACT. parameters that an end-of-cycle state copy has carried; 09 R241; reset none -/
  copied : List Shadow := []
  /-- time; 09 R239, the last 100 us tick; reset 0 choice -/
  tick : Nat := 0
  /-- 1 bit; 09 R250, a position tick is not yet in a state copy; reset 0 -/
  axisNew : Bool := false
  deriving DecidableEq, Repr

/-! ### Chapters 10 and 11: estimator, impedance, health, identity -/

/-- One cell's filter and its long-term figures (Tables 10.2, 10.10; R287 to R293; R318 to R323). Binary32 values are rationals. -/
structure CellSt where
  /-- fraction; 10 Table 10.2 z; reset by Table 10.10 -/
  z : ℚ := 1 / 2
  /-- V; 10 Table 10.2 v1; reset 0 -/
  v1 : ℚ := 0
  /-- V; 10 Table 10.2 v2; reset 0 -/
  v2 : ℚ := 0
  /-- -1 to 1; 10 Table 10.2 h; reset 0 -/
  h : ℚ := 0
  /-- ohm; 10 Table 10.2 theta_R; reset EST.RES_NOM -/
  thR : ℚ := 0
  /-- Ah; 10 Table 10.2 theta_Q; reset EST.CAP_NOM -/
  thQ : ℚ := 0
  /-- °C; 10 R276, R295, the temperature of the last completed cycle; reset 25 choice -/
  temp : ℚ := 25
  /-- 21 binary32; 10 R279, the lower square-root factor; reset the diagonal of Table 10.10 -/
  fac : List ℚ := []
  /-- six standard deviations; 10 Table 10.10; reset Table 10.10 -/
  sd : List ℚ := []
  /-- ns; 10 R288 persistence timer; reset 0 -/
  gateNs : Nat := 0
  /-- sign; 10 R288 of the last gated update, 0 none; reset 0 -/
  gateSign : Int := 0
  /-- time; 10 R288 of the last gated update; reset 0 -/
  gateAt : Nat := 0
  /-- time; 10 Table 10.5 row 2, widened until; reset none -/
  widen : Option Nat := none
  /-- 1 bit; 10 Table 10.5 row 3, Table 10.10 MODEL_MISMATCH; reset 0 -/
  mismatch : Bool := false
  /-- 48-bit seconds; 10 R292 anchor time; reset the reset instant less EST.ANCHOR_REQUEST_H -/
  anchor : Nat := 0
  /-- 1 bit; 10 Table 10.10 pair-only update; reset 0 -/
  pairOnly : Bool := false
  /-- 1 bit; 10 R305, reset due at the next cycle start; reset 0 -/
  resetDue : Bool := false
  /-- 1 bit; 10 Table 10.10, z awaits the first usable sweep; reset 0 -/
  seek : Bool := false
  /-- 2 bits; 10 R284, theta_R or theta_Q at a bound; reset 0 -/
  atR : Bool := false
  atQ : Bool := false
  /-- V; 10 R295 V_comp,lo; reset 0 choice -/
  compLo : ℚ := 0
  /-- V; 10 R295 V_comp,hi; reset 0 choice -/
  compHi : ℚ := 0
  /-- state index, mean, variance; 11 R318 updates due at the next cycle start; reset none -/
  extra : List (Nat × ℚ × ℚ) := []
  /-- 0.001 cycle; 11 R320; reset 0 -/
  efc : ℚ := 0
  /-- 8 entries (0.001 cycle, theta_R, theta_Q), newest first; 11 R321; reset none -/
  trend : List (ℚ × ℚ × ℚ) := []
  /-- 3 bits; 11 Table 11.4, conditions met; reset 0 -/
  health : BitVec 3 := 0
  /-- 8 records of 32 bytes; 11 Table 11.3; reset zeros -/
  bins : Bytes := List.replicate 256 0
  /-- 0.01 degree and the time the run's windows ended; 11 R323, R324; reset none -/
  drift : Option (Int × Nat) := none
  deriving DecidableEq, Repr

/-- What one node brought in a finalised sweep (R270, Table 10.4): voltages in V, temperatures of its sensors resolved by R276. -/
structure NodeMeas where
  node : Nat
  /-- frame held and without NO_SAMPLE -/
  usable : Bool
  /-- the node is unmeasured in full (0x2104, 0x2105, 0x2123) -/
  full : Bool
  v : List ℚ
  unmeas : BitVec 16
  /-- bounded pairs (R154) with S_B carried forward -/
  pairs : List (Nat × ℚ)
  margin : ℚ
  temps : List ℚ
  bal : BitVec 16
  deriving DecidableEq, Repr

/-- A finalised sweep as the filters use it (R124, R270). -/
structure SweepRec where
  instant : Nat
  /-- paired current, A (R138) -/
  ip : ℚ
  /-- sweep period, ns -/
  period : Nat
  nodes : List NodeMeas
  /-- the active's contents at finalisation: on a standby once its exchange is complete (R379) -/
  adopted : Bool
  deriving DecidableEq, Repr

/-- What a cycle leaves of one cell until it completes (R283): the cell, its innovation, variance and sensitivity if updated. -/
structure CellWork where
  cell : CellSt
  upd : Option (ℚ × ℚ × ℚ)
  deriving DecidableEq, Repr

/-- One string's estimator figures (R283, Tables 10.7, 10.8). -/
structure StringEst where
  /-- A; 10 R274 b; reset 0 choice -/
  b : ℚ := 0
  /-- A squared; 10 R283 sigma_b squared; reset 0 choice -/
  sb2 : ℚ := 0
  /-- time; 10 R270 the previous update instant; reset none -/
  u : Option Nat := none
  /-- ns; 10 R275, R283, the interval that ended there; reset 0 -/
  dt : Nat := 0
  /-- finalised sweeps after it, newest first; 10 R270; reset none -/
  sweeps : List SweepRec := []
  /-- boundary time, Q15 current, filtered current (Q15 with 15 further bits), newest first; 10 R275, 06 R138; reset none -/
  samples : List (Nat × Int × Int) := []
  /-- 1 bit; 10 Table 10.8 ANCHOR_REQUEST; reset 0 -/
  anchorReq : Bool := false
  /-- 1 bit; 10 Table 10.8 OFFSET_ATTRIB; reset 0 -/
  offAttrib : Bool := false
  /-- 1 bit; 10 Table 10.8 OFFSET_FAULT; reset 0 -/
  offFault : Bool := false
  /-- 2 bits; 10 Table 10.8 EOD_LEVEL; reset 0 -/
  eod : Nat := 0
  /-- 2 bits; 10 Table 10.8 EOC_LEVEL; reset 0 -/
  eoc : Nat := 0
  /-- 1 bit; 10 Table 10.8 HR_DIS_BY_SOC; reset 0 -/
  disBySoc : Bool := false
  /-- 1 bit; 10 Table 10.8 HR_CHG_BY_SOC; reset 0 -/
  chgBySoc : Bool := false
  /-- 1 bit; 10 Table 10.8 UNTRUSTED; reset 0 -/
  untrusted : Bool := false
  /-- 1 bit; 10 Table 10.8 COMP_STALE; reset 0 -/
  compStale : Bool := false
  /-- 1 bit; 10 Table 10.8 NO_UPDATE; reset 0 -/
  noUpdate : Bool := false
  /-- 8 bits; 10 Table 10.8 CONF; reset 0 -/
  conf : Nat := 0
  /-- bytes 4 to 55 of Table 10.7; 10 R300; reset zeros -/
  figs : Bytes := List.replicate 52 0
  /-- 0.001 cycle; 11 R320 IMP.STRING_EFC; reset 0 -/
  efc : ℚ := 0
  /-- the two MRAM copies of Table 10.9, newest first; 10 R301; reset none -/
  mram : List Bytes := []
  deriving DecidableEq, Repr

/-- A cell's windows of the run in progress: accepted count, sums of Z per tone in nano-ohm, sum of temperatures in 0.01 °C (R316). -/
structure RunCell where
  n : Nat := 0
  z : List (ℚ × ℚ) := List.replicate 5 (0, 0)
  temp : ℚ := 0
  /-- sample instant of the last sweep of the last accepted window; 11 R324; reset 0 choice -/
  ended : Nat := 0
  deriving DecidableEq, Repr

/-- One sweep of a window (R312, R314): sample instant, paired current in A, and each held node's 16 V_est and four temperatures in °C. -/
structure WinSweep where
  time : Nat
  ip : ℚ
  nodes : List (Nat × List ℚ × List ℚ)
  deriving DecidableEq, Repr

/-- A history write in progress on a ring (R332). -/
structure SyncRun where
  op : Option OpRef
  nodes : List Nat
  tries : Nat
  deriving DecidableEq, Repr

/-- One ring's injection runs (R309 to R313, Table 11.10). -/
structure ImpRing where
  /-- 2 bits; 11 Table 11.10 RUN; reset 0 -/
  run : Nat := 0
  /-- 1 bit; 11 Table 11.10 DUE; reset 0 -/
  due : Bool := false
  /-- time of the injection request; 11 R310; reset none -/
  reqAt : Option Nat := none
  /-- keyed node × 16 + cell; 11 R313, R316; reset none -/
  cells : SMap RunCell := []
  /-- time of the boundary since which INJ_FULL has been set in every period; 11 R312; reset none -/
  fullSince : Option Nat := none
  /-- sweeps of the window in progress, newest first; 11 R312, R314; reset none -/
  win : List WinSweep := []
  /-- nodes rejected for the rest of the run; 11 Table 11.8; reset none -/
  rejected : List Nat := []
  /-- cells that raised the precursor in the run, and all cells whose precursor stands; 11 R316, R324; reset none -/
  inRun : List Nat := []
  precursor : List Nat := []
  /-- sensors, keyed node × 4 + sensor, whose rate is met: since when, and whether it calls for runs; 11 R324; reset none -/
  hot : SMap (Nat × Bool) := []
  /-- sensors, keyed node × 4 + sensor, whose rate stays below half its threshold: since when; 11 R324; reset none -/
  cool : SMap Nat := []
  /-- time of the end of the last completed run, or the start of the wait; 11 R309, R333; reset 0 choice -/
  lastEnd : Nat := 0
  /-- history write in progress; 11 R332; reset none -/
  sync : Option SyncRun := none
  /-- time of the last history write's start; 11 R332; reset 0 choice -/
  syncAt : Nat := 0
  deriving DecidableEq, Repr

/-- One node's identity and authentication (R325 to R332, Table 11.11). -/
structure AuthSt where
  /-- 16 bytes; 11 R335 IMP.NODE_SERIAL; reset zeros -/
  serial : Bytes := List.replicate 16 0
  /-- 2 bits; 11 Table 11.11 RESULT; reset 0 -/
  result : Nat := 0
  /-- 1 bit; 11 Table 11.11 UNTRUSTED; reset 0 -/
  untrusted : Bool := false
  /-- 1 bit; 11 Table 11.11 HIST_LOADED; reset 0 -/
  loaded : Bool := false
  /-- 1 bit; 11 Table 11.11 HIST_INVALID; reset 0 -/
  invalid : Bool := false
  /-- 1 bit; 11 Table 11.11 SYNC_PENDING; reset 0 -/
  syncPending : Bool := false
  /-- 8 bits; 11 Table 11.11 EPOCH of the last answer; reset 0 -/
  epoch : Byte := 0
  /-- 32 bits; 11 R328, R334 NVGEN last answered; reset 0 choice -/
  nvgen : BitVec 32 := 0
  /-- 32 bits; 11 R328 NVGEN the module last committed; reset 0 choice -/
  committed : BitVec 32 := 0
  /-- 8 bytes; 11 R327, R334 CERT_ID; reset zeros choice -/
  certId : Bytes := List.replicate 8 0
  /-- the chain cached for the serial; 11 R327; reset none -/
  chain : Bytes := []
  /-- time and nonce of the challenge in progress; 11 R326; reset none -/
  challenge : Option (Nat × Bytes) := none
  /-- time of the last outcome; 11 R325; reset 0 choice -/
  last : Nat := 0
  /-- time of the last poll of the challenge in progress, or of the challenge; 11 R326; reset 0 choice -/
  polled : Nat := 0
  /-- NODE_REAUTH awaiting this node; 11 R334; reset none -/
  op : Option OpRef := none
  deriving DecidableEq, Repr

/-- Chapters 10 and 11. -/
structure EstSt where
  /-- 32 bits; 10 Table 10.11 cycle number; reset 0 -/
  cycle : Nat := 0
  /-- time; 10 R269 instant of the last cycle begun; reset 0 choice -/
  tc : Nat := 0
  /-- time; 10 R295, instant of the last completed cycle; reset none -/
  done : Option Nat := none
  /-- Hz; 10 R269 the rate of the present grid, 0 before the first cycle; reset 0 choice -/
  gridHz : Nat := 0
  /-- 1 bit; 10 R272, a cycle is running; reset 0 -/
  busy : Bool := false
  /-- 1 bit; 10 R272, the running cycle's overrun is counted; reset 0 -/
  overrun : Bool := false
  /-- 1 bit; 10 R272, the next cycle is skipped; reset 0 -/
  skip : Bool := false
  /-- cells by (ring × 28 + node - 1) × 16 + cell; 10 R274; reset none -/
  cell : SMap CellSt := []
  /-- results of the running cycle; 10 R273; reset none -/
  work : SMap CellWork := []
  /-- (cluster, unit): the units its cells were dealt to; 01 R14, 10 R271; reset none -/
  dealt : List (Nat × Nat) := []
  str : Four StringEst := ⟨{}, {}, {}, {}⟩
  imp : Four ImpRing := ⟨{}, {}, {}, {}⟩
  /-- nodes 0 to 111; 11 R335; reset unlisted = not challenged -/
  auth : SMap AuthSt := []
  /-- IMP_RUN requests awaiting the end of their rings' runs; 11 R334, 04 R82; reset none -/
  runs : List RingOp := []
  /-- 1 bit; 10 R301, R302: the state in use was loaded since the last stop that saves it; reset 0 -/
  loaded : Bool := false
  /-- time of the last save; 10 R301; reset 0 choice -/
  lastSave : Nat := 0
  deriving DecidableEq, Repr

/-! ### Chapter 12: safety functions -/

/-- The latches of one string in one channel (R355). -/
structure Latch where
  /-- 1 bit; 12 R355, Table 12.11 TRIPPED; reset 0 -/
  tripped : Bool := false
  /-- 1 bit; 12 R355, Table 12.11 RUN_STOP; reset 0 -/
  runStop : Bool := false
  /-- 1 bit; 12 R355, Table 12.11 LOCKOUT; reset 0 -/
  lockout : Bool := false
  deriving DecidableEq, Repr

/-- A STRING_CLOSE request with the strings still closing (R350). -/
structure CloseReq where
  op : OpRef
  waiting : List Nat
  closed : List Nat
  abandoned : List Nat
  /-- status of the first sequence abandoned -/
  status : Nat
  deriving DecidableEq, Repr

/-- One string (Table 12.11). -/
structure StringSt where
  /-- latches of the processor channel; 12 R355; reset 0 -/
  core : Latch := {}
  /-- latches of Turnip, in its non-volatile store; 12 R355; reset 0 -/
  turnip : Latch := {}
  /-- 1 bit; 12 Table 12.11 CLOSED (shadowed on a standby); reset 0 -/
  closed : Bool := false
  /-- 16 bits; 12 Table 12.11 CAUSE; reset 0 -/
  cause : Nat := 0
  /-- 1 bit; 20 R525, 0x6010 is raised for the TRIPPED that stands; reset 0 -/
  told : Bool := false
  /-- close sequence: 0 none, 1 precharge, 2 main on with precharge; 12 R350; reset 0 -/
  closing : Nat := 0
  /-- time; 12 R350, start of that step; reset 0 -/
  closeAt : Nat := 0
  /-- time of an SF1 decision that the other channel must see the cause of, with the node of a heartbeat trip; 12 R357; reset none -/
  doubt : Option (Nat × Option Nat) := none
  deriving DecidableEq, Repr

/-- How a switch last opened (R338). -/
inductive Opening where
  | clamp | freewheel
  deriving DecidableEq, Repr

/-- One safety output (R337, R338). -/
structure SoSt where
  /-- 1 bit; 12 R337 switch P closed; reset 0 -/
  p : Bool := false
  /-- 1 bit; 12 R337 switch T closed; reset 0 -/
  t : Bool := false
  /-- 12 R338, the way of the last opening; reset clamp choice -/
  opening : Opening := .clamp
  deriving DecidableEq, Repr

/-- One safety input pair (R353, R354). -/
structure SiSt where
  /-- 1 bit; 12 R353, the processor channel's demand stands; reset 0 -/
  core : Bool := false
  /-- 1 bit; 12 R353, Turnip's demand stands; reset 0 -/
  turnip : Bool := false
  /-- 1 bit; 12 R353, the channels disagree; reset 0 -/
  disagree : Bool := false
  /-- two counts; 12 R354, consecutive test pulse failures of SI(2k) and SI(2k+1); reset 0 -/
  failsA : Nat := 0
  failsB : Nat := 0
  /-- levels of SI(2k) and SI(2k+1) last taken into the filter; 12 R353, R354; reset 0 choice -/
  hiA : Bool := false
  hiB : Bool := false
  /-- time since which the levels demand; 12 R353; reset none -/
  since : Option Nat := none
  /-- time since which one channel's demand stands alone; 12 R353; reset none -/
  apart : Option Nat := none
  deriving DecidableEq, Repr

/-- One WSF connection (R367, R368). -/
structure WsfSt where
  /-- 0 INIT, 1 RUN, 2 FAILSAFE; 12 R367; reset INIT -/
  state : Nat := 0
  /-- 1 bit; 12 R367 started; reset 0 -/
  started : Bool := false
  /-- 16 bits; 12 R367 last; reset 0 (no value before the first START) -/
  last : BitVec 16 := 0
  /-- count; 12 R367 good; reset 0 -/
  good : Nat := 0
  /-- time; 12 R367 deadline; reset 0 -/
  deadline : Nat := 0
  /-- times of CRC failures within the last second; 12 R367; reset none -/
  crcFails : List Nat := []
  /-- 1 bit; 12 R367 crc_locked; reset 0 -/
  crcLocked : Bool := false
  /-- 32 bits; 12 R367, R369, data in use (all zero outside RUN); reset 0 -/
  data : BitVec 32 := 0
  /-- 32 bits; 12 R367 pending; reset 0 -/
  pending : BitVec 32 := 0
  /-- 16 bits; 12 R365, next SEQ of a produce connection; reset 0 choice -/
  seq : BitVec 16 := 0
  /-- 1 bit; 12 R368, a produce connection has sent its START; reset 0 -/
  startSent : Bool := false
  deriving DecidableEq, Repr

/-- A SAFETY_RESET waiting for its causes or armed (R358). -/
structure ResetReq where
  op : OpRef
  scope : Nat
  mask : Nat
  since : Nat
  /-- time of arming -/
  armed : Option Nat
  deriving DecidableEq, Repr

/-- A commissioning test waiting for its edge or running (R364). -/
structure CtRun where
  op : OpRef
  ch : Nat
  since : Nat
  /-- time the test began -/
  begun : Option Nat
  deriving DecidableEq, Repr

/-- Chapter 12. -/
structure SafeSt where
  str : Four StringSt := ⟨{}, {}, {}, {}⟩
  /-- outputs SO0 to SO7; 12 R337; reset unlisted = both switches open -/
  so : SMap SoSt := []
  /-- two flags; 12 R355 FIRE in the processor channel and in Turnip; reset 0 -/
  fireCore : Bool := false
  fireTurnip : Bool := false
  /-- 1 bit; 12 R355 MODULE_LOCKOUT; reset 0 -/
  lockout : Bool := false
  /-- 1 bit; 12 Table 12.11 BLOCK_STATE 1, kept in both stores; reset 0 (unconfirmed) -/
  confirmed : Bool := false
  /-- 1 bit; 12 Table 12.11 BLOCK_STATE 2; reset 0 -/
  mismatch : Bool := false
  si : Four SiSt := ⟨{}, {}, {}, {}⟩
  wsf : Four WsfSt := ⟨{}, {}, {}, {}⟩
  /-- safety functions whose test failed: code and instance; 12 R356, R358; reset none -/
  faulty : List (Nat × Nat) := []
  /-- STRING_CLOSE requests in progress; 12 R350; reset none -/
  closes : List CloseReq := []
  /-- 12 R358; reset none -/
  reset : Option ResetReq := none
  /-- 12 R364; reset none -/
  ct : Option CtRun := none
  /-- strings whose outputs clamp-open 10 us after their gate closes; 12 R350 mode 1; reset none -/
  openSoon : List Nat := []
  deriving DecidableEq, Repr


/-! ### Chapter 13: the twin pair -/

/-- An arbitration in progress (R386 to R388). -/
structure Arb where
  /-- started by a mismatch; else by silence -/
  mismatch : Bool
  since : Nat
  own : Option Nat
  twin : Option Nat
  deriving DecidableEq, Repr

/-- Why a planned handover runs (R392, R393, R395). -/
inductive HandWhy where
  | command | drill | isolate | update
  deriving DecidableEq, Repr

/-- A planned handover on the active: its period and the request it answers. -/
structure HandRun where
  h : BitVec 32
  why : HandWhy
  op : Option OpRef
  deriving DecidableEq, Repr

/-- The exchange of one ring's newest sweep on the standby (R379): its number, the active's RX_MASK and stamp once SWEEP_FINAL has come, the
frames still asked for. -/
structure SweepExch where
  sweep : BitVec 16
  final : Option (Nat × BitVec 32)
  need : Nat
  deriving DecidableEq, Repr

/-- Chapter 13. -/
structure TwinSt where
  /-- 9 states; 13 Table 13.12 TWIN_LIFECYCLE, as last reported; reset none -/
  life : Option Lifecycle := none
  /-- 6 states; 13 Table 13.2, the twin's power state as last reported; reset P0 choice -/
  power : PState := .p0
  /-- 32 bits; 13 Table 13.11, the twin's TWIN.STATE as last reported; reset 0 choice -/
  rstate : BitVec 32 := 0
  /-- 3 bits; 14 R423, the active's servo state as last reported; reset 0 -/
  timeState : Nat := 0
  /-- 1 bit; 13 Table 13.12 LINK_UP; reset 0 -/
  linkUp : Bool := false
  /-- ns; 13 R376, link delay measured in training; reset 0 choice -/
  linkNs : Nat := 0
  /-- 13 R378, the last LOOP_COPY with the time it came; reset none -/
  copy : Option (LoopCopy × Nat) := none
  /-- 1 bit; 13 R384, that copy is of the previous period and not yet used; reset 0 -/
  copyNew : Bool := false
  /-- 1 bit; 13 Table 13.12 AHEAD; reset 0 -/
  ahead : Bool := false
  /-- time; 13 R374, since when AHEAD; reset 0 choice -/
  aheadSince : Nat := 0
  /-- 1 bit; 13 R374, TWIN.AHEAD_MAX_MS has passed running ahead; reset 0 -/
  aheadLong : Bool := false
  /-- 0 to 3; 13 Table 13.12 MISMATCH_RUN; reset 0 -/
  run : Nat := 0
  /-- 1 bit; 13 Table 13.12 SUSPECT; reset 0 -/
  suspect : Bool := false
  /-- time; 13 R388, last mismatch or estimator difference; reset 0 choice -/
  suspectAt : Nat := 0
  /-- block codes; 13 R388, the loop and estimator blocks whose self-test has passed since SUSPECT; reset none -/
  tested : List Nat := []
  /-- block codes; 13 R394, the lanes and outputs whose self-test has passed since strings were handed back; reset none -/
  backTested : List Nat := []
  /-- 13 R386; reset none -/
  arb : Option Arb := none
  /-- time; 13 R387, start of the known-answer test running; reset none -/
  kat : Option Nat := none
  /-- 4 bits; 13 Table 13.12 OWN_LANES; reset 0xF -/
  ownLanes : Nat := 15
  /-- 4 bits; 13 Table 13.12 TWIN_LANES; reset 0xF -/
  twinLanes : Nat := 15
  /-- 13 R392 on the active; reset none -/
  hand : Option HandRun := none
  /-- period count h announced by the twin; 13 R392 on the standby; reset none -/
  handTwin : Option (BitVec 32) := none
  /-- 1 bit; 13 R394, the handover announced is a swap drill; reset 0 choice -/
  handDrill : Bool := false
  /-- time; 13 R386, since when no Shallot frame has come; reset none -/
  silence : Option Nat := none
  /-- time; 13 Table 13.13 TWIN.LAST_SWAP; reset 0 -/
  lastSwap : Nat := 0
  /-- 1 bit; 13 Table 13.12 SWAP_DUE; reset 0 -/
  swapDue : Bool := false
  /-- time of the next try of a drill refused; 13 R393; reset 0 choice -/
  swapTry : Nat := 0
  /-- time the watch of R394 began; 13 Table 13.12 SWAP_WATCH; reset none -/
  watch : Option Nat := none
  /-- 32 bits; 13 R394, the last record sequence as the watch began; reset 0 choice -/
  watchSeq : Nat := 0
  /-- four counts; 13 R383, consecutive uncompared periods of a running channel; reset 0 -/
  uncomp : Four Nat := ⟨0, 0, 0, 0⟩
  /-- four counts; 13 R381, consecutive compared cycles that differed; reset 0 -/
  estDiff : Four Nat := ⟨0, 0, 0, 0⟩
  /-- bytes of EST_COPY parts by ring × 4 + part; 13 R380; reset none -/
  estCopy : SMap Bytes := []
  /-- cycle of that copy; 13 R380; reset none -/
  estCopyCycle : Option Nat := none
  /-- 1 bit; 10 R304, a standby's estimator has taken the active's state; reset 0 -/
  estIn : Bool := false
  /-- by ring; 13 R379, the exchange of the newest sweep; reset none -/
  exchange : SMap SweepExch := []
  /-- rings whose results of the running cycle are not compared; 13 R379, R380; reset none -/
  estBlind : List Nat := []
  /-- 13 R381, the active's digest last received; reset none -/
  digest : Option EstDigestMsg := none
  /-- 1 bit; 13 Table 13.14, 0x7050 is raised for the twin that is STANDBY; reset 0 choice -/
  joined : Bool := false
  /-- time; 13 R386, the last valid Shallot frame; reset 0 choice -/
  heardAt : Nat := 0
  /-- 16 bits; 13 R377, SEQ of the last urgent frame received; reset none -/
  rxUrgent : Option (BitVec 16) := none
  /-- 16 bits; 13 R377, SEQ of the last bulk frame received; reset none -/
  rxBulk : Option (BitVec 16) := none
  /-- count; 13 R377, frames missing in SEQ; reset 0 choice -/
  lost : Nat := 0
  /-- times; 13 R377, the frames discarded within the last second; reset none -/
  dropped : List Nat := []
  /-- 13 R355, R368, the last SAFETY_COPY with the time it came; reset none -/
  safety : Option (SafetyCopyMsg × Nat) := none
  /-- bytes and time of the last SAFETY_COPY sent; 13 Table 13.2; reset none -/
  safetySent : Option (Bytes × Nat) := none
  /-- 1 bit; 04 R101, the twin's applied dictionary has been taken since the restart; reset 0 choice -/
  dictIn : Bool := false
  /-- DICT_COPY segments so far; 13 R396; reset none -/
  dict : List Shadow := []
  /-- 13 R395, TWIN_ISOLATE or TWIN_JOIN in progress; reset none -/
  op : Option OpRef := none
  /-- lanes; 17 R465, the lanes of this standby whose known-answer test period is still to come, one a period; reset none -/
  katIdle : List Nat := []
  /-- 0 none, 1 standby, 2 active; 03 R71, the twin's eligibility as last sent; reset 0 -/
  elig : Nat := 0
  /-- 1 or 2; 03 R71, the twin's SYS.PREFER_SLOT as last sent; reset 1 choice -/
  prefer : Nat := 1
  /-- 1 bit; 02 R55, fault 0x1054 is raised for the carrier serials as they stand; reset 0 choice -/
  serialTold : Bool := false
  /-- 1 bit; 03 R70, the first compared control cycle has agreed; reset 0 -/
  agreed : Bool := false
  /-- 1 bit; 13 R396, 02 R40, the dictionary taken from the active still has to be stored (power-fail warning); reset 0 choice -/
  storeDue : Bool := false
  /-- 1 bit; 03 R70, state has been taken from the active; reset 0 -/
  xfer : Bool := false
  deriving DecidableEq, Repr

/-! ### Chapter 14: plant Ethernet, PRP and network time -/

/-- A frame waiting for its launch time (R421): queue 0 or 1, the produce connection of a WSF PDU. -/
structure LaunchFrame where
  q : Nat
  conn : Option Nat
  launch : Nat
  kind : Nat
  data : Bytes
  deriving DecidableEq, Repr

/-- One Ethernet port with its PTP port (R401, R408, R415, R416, R421). -/
structure PortSt where
  /-- 0 down, 1 up, 2 wrong speed; 14 Table 14.7 NET.LINK_STATE; reset 0 -/
  link : Nat := 0
  /-- frames of Q0 and Q1; 14 R421; reset empty -/
  queue : List LaunchFrame := []
  /-- kind and bytes; 14 R421, frames of Q2 that could not finish before the next launch time; reset empty -/
  waiting : List (Nat × Bytes) := []
  /-- time; 14 R416, the last Announce of the port's master; reset 0 choice -/
  annAt : Nat := 0
  /-- t1, ingress time and correction, ns; 14 R415, the last Sync; reset none -/
  sync : Option (Nat × Int × Int) := none
  /-- ns; 14 R415, egress time of the Delay_Req or Pdelay_Req not yet answered; reset none -/
  reqAt : Option Int := none
  /-- time; 14 R415, when the next one is due; reset 0 choice -/
  reqDue : Nat := 0
  /-- 14 R416, the port's master; reset none -/
  master : Option AnnounceData := none
  /-- at most PTP.DELAY_FILTER path delays, ns, newest first; 14 R415; reset none -/
  delays : List Int := []
  /-- ns, newest first, at most 16; 14 R416 offsets from master; reset none -/
  offsets : List Int := []
  /-- count; 14 Table 14.2, accepted Syncs in a row within PTP.LOCK_NS; reset 0 -/
  good : Nat := 0
  deriving DecidableEq, Repr

/-- Chapter 14. -/
structure NetSt where
  /-- ETH0; 14 R401 -/
  eth0 : PortSt := {}
  /-- ETH1; 14 R401 -/
  eth1 : PortSt := {}
  /-- SVC; 14 R401 -/
  svc : PortSt := {}
  /-- 16 bits; 14 R406, the next PRP sequence number; reset 0 choice -/
  prpSeq : BitVec 16 := 0
  /-- sequence numbers and times by source, at most 256 sources; 14 R407; reset none -/
  prpSeen : SMap (List (BitVec 16 × Nat)) := []
  /-- times of wrong-LAN frames within the last second; 14 R407; reset none -/
  wrongLan : List Nat := []
  /-- times of the last 0x8004, 0x8024 and 0x8030; 14 R407, R416, R422; reset none -/
  lanRaised : Option Nat := none
  diffRaised : Option Nat := none
  lateRaised : Option Nat := none
  /-- times of echo replies within the last second; 14 R402; reset none -/
  echoes : List Nat := []
  /-- times of the gratuitous ARPs still to send; 14 R404; reset none -/
  arps : List Nat := []
  /-- time; 14 R406, the last PRP supervision frames; reset 0 choice -/
  supAt : Nat := 0
  /-- 2^-32 ns per 8 ns cycle; 14 R409 addend; reset 8 ns -/
  addend : Nat := 34359738368
  /-- time; 14 Table 14.2, the last accepted Sync on any port; reset 0 choice -/
  syncAt : Nat := 0
  /-- ns; 14 Table 14.2, the Announce interval of the last master; reset 0 choice -/
  annIv : Nat := 0
  /-- ppb; 14 R417 y, PTP.FREQ_PPB; reset 0 -/
  y : ℚ := 0
  /-- ppb; 14 R417 i; reset 0 choice -/
  i : ℚ := 0
  /-- ppb, newest first, at most 16; 14 Table 14.2, for the mean held in holdover; reset none -/
  ys : List ℚ := []
  /-- 0 to 3; 14 Table 14.2 STATE; reset 0 -/
  servo : Nat := 0
  /-- 0 ETH0, 1 ETH1; 14 Table 14.6 PORT; reset 0 -/
  port : Nat := 0
  /-- ns; 14 R416, differences added to the servo input at changes of source; reset 0 -/
  bias : Int := 0
  /-- ns, newest first, at most 16; 14 R416, offset of ETH0 less that of ETH1; reset none -/
  diffs : List Int := []
  /-- 1 bit; 14 Table 14.6 EVER_LOCKED; reset 0 -/
  everLocked : Bool := false
  /-- 1 bit; 14 Table 14.6 HOLDOVER_LONG; reset 0 -/
  holdLong : Bool := false
  /-- time; 14 R417, since when in HOLDOVER; reset 0 choice -/
  holdSince : Nat := 0
  /-- ns, newest first; 14 R419, offsets of the consecutive Syncs beyond PTP.JUMP_NS; reset none -/
  jumps : List Int := []
  /-- 14 R419 JUMP_PENDING with the mean offset, ns; reset none -/
  jump : Option Int := none
  /-- 1 bit; 14 R419, the jump is accepted; reset 0 -/
  accepted : Bool := false
  /-- 14 R425, the TIME_JUMP_ACCEPT in progress; reset none -/
  jumpOp : Option OpRef := none
  /-- instant and ns; 14 R420, the step announced; reset none -/
  step : Option (Nat × Int) := none
  /-- 2 flags; 14 Table 14.3 STEPPED still to be carried by a batch and by a record; reset 0 -/
  stepBatch : Bool := false
  stepRec : Bool := false
  /-- 1 bit; 14 R412, the standby has set its counter from the active's; reset 0 -/
  twinSet : Bool := false
  deriving DecidableEq, Repr

/-! ### Chapter 15: CAN FD controllers -/

/-- One host frame of the transmit FIFO (R433 to R436). -/
structure TxFrame where
  f : CanEntry
  /-- 0 waiting, 1 start of frame sent, 2 arbitration won -/
  stage : Nat
  /-- an abort or a flush awaits its outcome -/
  abort : Bool
  /-- lost arbitration, met an error, at least once -/
  lost : Bool
  err : Bool
  deriving DecidableEq, Repr

/-- A completion record (Table 15.3). -/
structure TxResult where
  handle : BitVec 16
  result : Nat
  flags : Nat
  stamp : BitVec 32
  deriving DecidableEq, Repr

/-- One controller (chapter 15). -/
structure CanCtl where
  /-- at most CAN.TX_DEPTH host frames; 15 R433; reset empty -/
  tx : List TxFrame := []
  /-- WSF PDUs waiting, by connection; 15 R433, 12 R366; reset empty -/
  wsf : SMap CanEntry := []
  /-- connection whose PDU is in transmission; 15 R433; reset none -/
  wsfTx : Option Nat := none
  /-- at most 64 completion records; 15 R434; reset empty -/
  results : List TxResult := []
  /-- count; 15 R434, records discarded; reset 0 -/
  lostResults : Nat := 0
  /-- two FIFOs of at most 64 frames with their stamps; 15 R439; reset empty -/
  rx0 : List (BitVec 32 × CanEntry) := []
  rx1 : List (BitVec 32 × CanEntry) := []
  /-- 9 bits, at 256 above bus-off's bound; 15 R440 transmit error counter; reset 0 -/
  tec : Nat := 0
  /-- 8 bits; 15 R440 receive error counter; reset 0 -/
  rec_ : Nat := 0
  /-- 0 on the bus, 2 bus-off, 3 recovering; 15 Table 15.6 STATE; reset 0 -/
  off : Nat := 0
  /-- clocks; 15 Table 15.5 last measured loop delay; reset 0 -/
  delay : Nat := 0
  /-- times of the last 0x9010 and 0x9021; 15 R439, R431; reset none -/
  rxRaised : Option Nat := none
  tdcRaised : Option Nat := none
  deriving DecidableEq, Repr

/-- Chapter 15. -/
structure CanSt where
  c0 : CanCtl := {}
  c1 : CanCtl := {}
  deriving DecidableEq, Repr

/-! ### Chapter 16: field inputs and outputs -/

/-- One standard input (R447, R449). -/
structure DiSt where
  /-- 0 to N; 16 R447 c; reset 0 (set by the first sample) -/
  c : Nat := 0
  /-- 1 bit; 16 R447, Table 16.5 FIO.DI_STATE; reset 0 -/
  state : Bool := false
  /-- 1 bit; 16 R449, Table 16.5 FIO.DI_OPEN; reset 0 -/
  isOpen : Bool := false
  /-- 1 bit; 16 R446, the comparator's raw level; reset 0 choice -/
  raw : Bool := false
  /-- time; 16 R449, since when an enabled input has drawn less than 0.35 mA; reset none -/
  lowAt : Option Nat := none
  /-- time; 16 R449, since when an open one has drawn 0.35 mA or more; reset none -/
  fineAt : Option Nat := none
  deriving DecidableEq, Repr

/-- One standard output (R450 to R452, Table 16.4). -/
structure DoSt where
  /-- 1 bit; 16 R450, R454 what the field die was last told or its safe state: driven where the permit and the latch allow; reset 0 -/
  cmd : Bool := false
  /-- 1 bit; 16 Table 16.4 OVL_LATCH; reset 0 -/
  ovl : Bool := false
  /-- 1 bit; 16 Table 16.4 OT_LATCH; reset 0 -/
  ot : Bool := false
  /-- 1 bit; 16 Table 16.4 OPEN_ON; reset 0 -/
  openOn : Bool := false
  /-- 1 bit; 16 Table 16.4 OFF_HIGH; reset 0 -/
  offHigh : Bool := false
  /-- 1 bit; 16 Table 16.4 SUPPLY_LOW; reset 0 -/
  supplyLow : Bool := false
  /-- 16 bits; 16 Table 16.4 CURRENT, mA; reset 0 -/
  ma : BitVec 16 := 0
  /-- 1 bit; 16 R452 the switch is above 135 degrees; reset 0 choice -/
  hot : Bool := false
  /-- 1 bit; 16 Table 16.1, the junction sensor is above 150 degrees; reset 0 choice -/
  past : Bool := false
  /-- time; 16 Table 16.1, since when the current limit is in force; reset none -/
  limitAt : Option Nat := none
  /-- time; 16 Table 16.1, since when on with less than 10 mA; reset none -/
  openAt : Option Nat := none
  /-- time; 16 Table 16.1, since when off above 3 V; reset none -/
  highAt : Option Nat := none
  /-- time; 16 Table 16.1, since when the supply is below 17 V; reset none -/
  lowAt : Option Nat := none
  /-- 1 bit; 16 Table 16.1, the supply is above 19 V; reset 0 choice -/
  supplyUp : Bool := false
  deriving DecidableEq, Repr

/-- One edge of the queue of 64 (R448). -/
structure Edge where
  stamp : BitVec 32
  input : Nat
  state : Bool
  deriving DecidableEq, Repr

/-- Chapter 16. -/
structure FioSt where
  /-- inputs DI0 to DI15; 16 R446, R447; reset unlisted = state 0 -/
  di : SMap DiSt := []
  /-- outputs DO0 to DO7; 16 R450; reset unlisted = off -/
  dout : SMap DoSt := []
  /-- at most 64 edges, oldest first; 16 R448; reset empty -/
  edges : List Edge := []
  /-- time; 16 R448, the last event 0xA002; reset none -/
  ovflAt : Option Nat := none
  /-- 1 bit; 16 R454, Table 16.4 SAFE_STATE, the field watchdog is in force; reset 0 -/
  wdog : Bool := false
  /-- time; 16 R454, the last valid frame; reset 0 choice -/
  frameAt : Nat := 0
  /-- count; 16 R454, replies of the field die missed in a row; reset 0 -/
  missed : Nat := 0
  /-- 1 bit; 16 R447, the inputs took their first sample since start-up or P4; reset 0 -/
  sampled : Bool := false
  /-- 8 bits; 16 Table 16.3 raw SI levels; reset 0 choice -/
  si : BitVec 8 := 0
  /-- 16 bits; 16 Table 16.3 SO mid-node and output levels; reset 0 choice -/
  so : BitVec 16 := 0
  deriving DecidableEq, Repr

/-! ### Chapter 17: self-test and thermal supervision -/

/-- BIST.RESULT of a block (Table 17.2). -/
structure BistRes where
  /-- 3 bits; 17 Table 17.2 STATE; reset 0 -/
  state : Nat := 0
  /-- 1 bit; 17 Table 17.2 STARTUP; reset 0 -/
  startup : Bool := false
  /-- 1 bit; 17 Table 17.2 PREEMPTED; reset 0 -/
  preempted : Bool := false
  /-- 24 bits; 17 Table 17.2 COUNT; reset 0 -/
  count : Nat := 0
  deriving DecidableEq, Repr

/-- A BIST_RUN in progress (R468, Table 17.8). -/
structure BistRun where
  op : OpRef
  codes : List Nat
  waiting : List Nat
  deriving DecidableEq, Repr

/-- Chapter 17. -/
structure BistSt where
  /-- by block code; 17 Table 17.2; reset unlisted = not run -/
  results : SMap BistRes := []
  /-- blocks under test with the time each ends; 17 R460, R467; reset none -/
  running : List (Nat × Nat) := []
  /-- 17 R468; reset none -/
  runs : List BistRun := []
  /-- time; 17 R462 ts, start of SELFTEST; reset 0 choice -/
  started : Nat := 0
  /-- 0 to 5; 17 Table 17.3, slots ended; reset 0 -/
  slot : Nat := 0
  /-- seven readings in 0.01 degree, none where not read; 17 R469; reset zeros -/
  sensors : List (Option Int) := List.replicate 7 (some 0)
  /-- the readings of the last second with their times, newest first; 17 R470; reset none -/
  series : List (Nat × List (Option Int)) := []
  /-- 7 bits; 17 Table 17.9 SENSOR_FAIL; reset 0 -/
  failed : BitVec 7 := 0
  /-- time; 17 R469, since when the module has run in P0; reset 0 choice -/
  p0Since : Nat := 0
  /-- 1 bit; 17 Table 17.9 WARN; reset 0 -/
  warn : Bool := false
  /-- counts; 17 Table 17.6, consecutive evaluations beyond the rate by sensor; reset 0 -/
  rateRun : List Nat := [0, 0, 0, 0, 0, 0, 0]
  /-- 1 bit; 17 Table 17.9 RATE; reset 0 -/
  rate : Bool := false
  /-- 1 bit; 17 Table 17.6, the module trip on rate is raised; reset 0 -/
  rateTrip : Bool := false
  /-- 1 bit; 17 R471, R473 SHUTDOWN_FLAG, in MRAM and in Turnip's store; reset 0 -/
  flag : Bool := false
  /-- 1 bit; 17 R471, the record of the shutdown was written; reset 0 choice -/
  recOk : Bool := false
  /-- time; 17 R471, the thermal hold begins; reset none -/
  holdAt : Option Nat := none
  /-- 1 bit; 17 R471, R472 thermal hold; reset 0 -/
  hold : Bool := false
  /-- count; 17 R472, consecutive polls below 95 degrees; reset 0 -/
  polls : Nat := 0
  /-- time; 17 R472, the last poll; reset 0 choice -/
  pollAt : Nat := 0
  /-- (time, 0.01 degree) newest first by node × 4 + sensor; 17 R474; reset none -/
  temps : SMap (List (Nat × Int)) := []
  /-- sensors whose 0xB020 or 0xB021 stands; 17 R475; reset none -/
  cellWarn : List Nat := []
  cellRate : List Nat := []
  /-- 1 bit; 17 R466, a rotation is due; reset 0 -/
  rotDue : Bool := false
  /-- 0 to 3; 17 R466, the cluster next in turn; reset 0 -/
  rotNext : Nat := 0
  /-- time; 17 R466, the last rotation begun; reset 0 choice -/
  rotAt : Nat := 0
  /-- times of the last SRAM, DRAM and non-volatile scrubs; 17 R464; reset 0 choice -/
  scrubs : List Nat := [0, 0, 0]
  /-- time; 17 R465, the last known-answer tests of a module that does not drive; reset 0 choice -/
  katAt : Nat := 0
  deriving DecidableEq, Repr

/-! ### Chapter 18: recorder, flight buffer, replay -/

/-- One record (Table 18.1) before or after it is written. -/
structure Rec where
  seq : Nat
  time : Nat
  quality : Nat
  source : Nat
  code : Nat
  sev : Nat
  inst : Nat
  flags : Nat
  parent : Nat
  /-- 32 payload bytes 28 to 59 -/
  payload : Bytes
  deriving DecidableEq, Repr

/-- One recorder partition (Table 18.3). -/
structure RecPart where
  /-- 64 raw bytes a slot; 18 R479, R483; reset unlisted = zeros (empty) -/
  slots : SMap Bytes := []
  /-- slot number; 18 Table 18.8 write slot; reset 0 -/
  write : Nat := 0
  /-- count; 18 R483, slots used since the last clear, at most the capacity and one more once overwritten; reset 0 -/
  used : Nat := 0
  /-- count; 18 Table 18.8 records held; reset 0 -/
  held : Nat := 0
  /-- 32 bits; 18 Table 18.8 newest sequence; reset 0 -/
  newest : Nat := 0
  /-- 32 bits; 18 R486 clear generation; reset 0 choice -/
  gen : Nat := 0
  deriving DecidableEq, Repr

/-- An armed clear of partitions 1 and 2 (R485). -/
structure ClearArm where
  op : OpRef
  seq : Nat
  since : Nat
  user : Bytes
  deriving DecidableEq, Repr

/-- One chunk of the flight buffer (Table 18.5) with the time of its first item. -/
structure Chunk where
  type : Nat
  time : Nat
  payload : Bytes
  deriving DecidableEq, Repr

/-- The trigger that governs (R489). -/
structure FbTrig where
  seq : Nat
  code : Nat
  time : Nat
  quality : Nat
  life : Nat
  generation : Nat
  periodNs : Nat
  deriving DecidableEq, Repr

/-- The MRAM descriptor of a frozen buffer (R489): trigger, covered span, SHA-256. -/
structure FbDesc where
  trig : FbTrig
  start : Nat
  stop : Nat
  sha : Bytes
  deriving DecidableEq, Repr

/-- The flight buffer (R487 to R491). -/
structure FbSt where
  /-- chunks in LPDDR4, newest first, at most 400 MiB; 18 R487; reset empty -/
  chunks : List Chunk := []
  /-- period records not yet in a chunk: first period count, its time, records newest first; 18 Table 18.5; reset none -/
  periods : Option (Nat × Nat × List Bytes) := none
  /-- 32 bits; 18 Table 18.5 checkpoint number; reset 0 choice -/
  ckpt : Nat := 0
  /-- 496 bytes; 18 R488, the LOOP_COPY of the period before; reset empty choice -/
  copy : Bytes := []
  /-- time of the estimator cycle instant whose checkpoint waits for its boundary; 18 R488; reset none -/
  ckptDue : Option Nat := none
  /-- 18 R489; reset none -/
  trig : Option FbTrig := none
  /-- 18 R489, R491; reset none -/
  desc : Option FbDesc := none
  deriving DecidableEq, Repr

/-- A replay (R493, R494, Table 18.8 REPLAY_STATUS). -/
structure ReplaySt where
  source : Nat
  length : Nat
  /-- pieces loaded -/
  pieces : List (Nat × Bytes)
  /-- the whole file, once loaded and checked -/
  file : Option Bytes
  /-- 0 loaded, 1 running, 2 agreed, 3 diverged -/
  state : Nat
  op : Option OpRef
  periods : Nat
  cycles : Nat
  /-- first divergence: period count, channel, kind -/
  div : Option (Nat × Nat × Nat)
  /-- 18 R494, checkpoint named, 0 the first whole one; reset 0 choice -/
  cp : Nat := 0
  /-- time; 18 R494, end of the run, 0 the covered end; reset 0 choice -/
  stop : Nat := 0
  /-- 18 R494, mode 1 ends at the first divergence; reset 0 choice -/
  mode : Nat := 0
  deriving DecidableEq, Repr

/-- Chapter 18. -/
structure RecSt where
  /-- at most 256 records; 18 R480; reset empty -/
  queue : List Rec := []
  /-- partitions 0 to 4; 18 Table 18.3; reset empty -/
  part : SMap RecPart := []
  /-- time of the last 0xC001; 18 R481; reset none -/
  failAt : Option Nat := none
  /-- 18 R485; reset none -/
  arm : Option ClearArm := none
  fb : FbSt := {}
  /-- 18 R493; reset none -/
  replay : Option ReplaySt := none
  deriving DecidableEq, Repr

/-! ### Chapter 19: firmware update -/

/-- One copy of a part: its descriptor, payload and valid mark (R499). -/
structure PartSt where
  entry : PartEntry := ⟨0, 0, 0, 0, 0, [], []⟩
  sig : Bytes := []
  payload : Bytes := []
  /-- mark present and payload of the digest -/
  valid : Bool := false
  deriving DecidableEq, Repr

/-- The bundle being received (R505): length, pieces in order of offset. -/
structure Staging where
  length : Nat
  pieces : List (Nat × Bytes)
  /-- forwarded by the twin under R518 -/
  forwarded : Bool
  deriving DecidableEq, Repr

/-- The transaction record (R505): parts named, what the bundle carried, whether the pair shares it. -/
structure UpdTx where
  mask : Nat
  floor : BitVec 32
  pair : Bool
  safeLayout : Bool
  /-- parts done by Sprout -/
  done : List Nat
  /-- new version by part code -/
  new_ : List (Nat × Nat)
  /-- old version by part code -/
  old : List (Nat × Nat) := []
  deriving DecidableEq, Repr

/-- The loading of a ring's nodes (R514, R515): the node, the loader command it has still to answer, FINISHes it failed. -/
structure LoadSt where
  node : Nat
  at_ : Nat
  fails : Nat
  deriving DecidableEq, Repr

/-- Chapter 19. -/
structure UpdSt where
  /-- running copies of image, microcode, tables, node firmware; 19 Table 19.1; reset valid, version 0 choice -/
  run : Four PartSt := ⟨{ valid := true }, { valid := true }, { valid := true }, { valid := true }⟩
  /-- reserve copies; 19 Table 19.1; reset valid, version 0 choice -/
  res : Four PartSt := ⟨{ valid := true }, { valid := true }, { valid := true }, { valid := true }⟩
  /-- 0 to 9; 19 Table 19.5 UPD.STATE; reset 0 -/
  state : Nat := 0
  /-- the lifecycle UPDATE was entered from; 19 R505; reset none -/
  from_ : Option Lifecycle := none
  /-- 19 R505 the staging area in LPDDR4; reset none -/
  stage : Option Staging := none
  /-- session of UPD_BEGIN; 19 R505; reset 0 -/
  session : Nat := 0
  /-- UPD_VERIFY, UPD_ACTIVATE or UPD_FROM_TWIN in progress; 19 R502, R507, R511; reset none -/
  op : Option OpRef := none
  /-- 19 R505 transaction record in MRAM; reset none -/
  tx : Option UpdTx := none
  /-- 64 bits; 19 Table 19.2 BUNDLE_ID; reset 0 -/
  bundleId : BitVec 64 := 0
  /-- 0 to 3; 19 Table 19.9 UPD.TRIAL_FAILS; reset 0 -/
  fails : Nat := 0
  /-- time; 19 Table 19.9 UPD.CONFIRM_DEADLINE; reset none (0) -/
  deadline : Option Nat := none
  /-- 32 bits; 19 Table 19.9 UPD.FLOOR; reset 0 -/
  floor : BitVec 32 := 0
  /-- 4 bits; 19 R511 parts awaited from the twin; reset 0 -/
  want : Nat := 0
  /-- 1 bit; 19 R511 the parts restore a module Sprout found without a copy; reset 0 -/
  restore : Bool := false
  /-- the twin's part entries as exchanged at NEGOTIATE; 13 R396, 19 R503; reset none -/
  twinParts : List PartEntry := []
  /-- firmware version by node 0 to 111; 19 R516; reset none -/
  nodeVer : SMap Nat := []
  /-- rings of the node step in progress; 19 R514; reset none -/
  nodeRings : List Nat := []
  /-- by ring: the node being loaded; 19 R514, R515; reset none -/
  loads : SMap LoadSt := []
  /-- 1 bit; 19 R516 the step has failed and its nodes go back to the reserve version; reset 0 -/
  nodeBad : Bool := false
  /-- time; 19 R504 since when the arithmetic versions of the pair differ; reset none -/
  mixedSince : Option Nat := none
  /-- 1 bit; 19 R504 the fault 0xD031 is raised; reset 0 -/
  mixedLong : Bool := false
  /-- payload of the table set the model tables follow; 19 R513; reset empty (the set of manufacture) -/
  tables : Bytes := []
  /-- time; 19 R508 the trial boot began; reset 0 choice -/
  trialSince : Nat := 0
  /-- time; 19 R519 the next try of a handover refused; reset 0 choice -/
  handTry : Nat := 0
  /-- 1 bit; 19 R519 the manifest transaction is to be rolled back here once the module is not active; reset 0 -/
  undo : Bool := false
  deriving DecidableEq, Repr

/-! ### What leaves the module -/

/-- Everything the module sends, oldest first. -/
inductive Out where
  /-- a WCP packet (R74, R77) -/
  | wcp (p : Packet)
  /-- what a host-link read returns (R76): length and packet -/
  | host (bytes : Bytes)
  /-- a ring frame of the master (R110, Table 5.3): ring, port Q?, the idle set before it, bytes 0 to its CRC -/
  | ring (ring : Nat) (q : Bool) (idle : Bytes) (frame : Bytes)
  /-- a SYNC set from both ports (Table 5.1): ring, characters 1 to 4, departure -/
  | sync (ring : Nat) (set : Bytes) (depart : Nat)
  /-- a test pulse on SITn at an instant (12 R354) -/
  | sit (n : Nat) (at_ : Nat)
  /-- a Shallot frame (Table 13.2) by type -/
  | shallot (type : Nat) (data : Bytes)
  /-- an Ethernet item: port, kind, bytes -/
  | eth (port : Nat) (kind : Nat) (data : Bytes)
  /-- a CAN frame: controller, identifier word, format byte, DLC, data -/
  | can (ctl : Nat) (id : Nat) (fmt : Nat) (dlc : Nat) (data : Bytes)
  /-- a Welfer Safe Frame: connection, bytes -/
  | wsf (conn : Nat) (data : Bytes)
  /-- a PPS_OUT edge (R423) at an instant -/
  | pps (at_ : Nat)
  deriving DecidableEq, Repr

/-- The whole module. -/
structure State where
  /-- commands waiting, first in first out; the block form of this model; reset empty -/
  pending : List Instr := []
  /-- time, ns of the PTP timescale; 00 R7, 14 R409 module time; reset 0 choice -/
  now : Nat := 0
  /-- 32-bit fraction of a nanosecond; 14 R409; reset 0 -/
  frac : Nat := 0
  /-- frames, packets and pulses sent, oldest first; the model's own field; reset empty -/
  out : List Out := []
  /-- count of free values drawn; the model's own field (assumption log 2); reset 0 choice -/
  free : Nat := 0
  /-- chapters 1 to 3 -/
  sys : SysSt := {}
  /-- chapter 4 -/
  wcp : WcpSt := {}
  /-- chapters 5 and 6 -/
  rings : RingsSt := {}
  /-- chapter 7 -/
  loop : LoopSt := {}
  /-- chapter 8 -/
  psi : PsiSt := {}
  /-- chapter 9 -/
  prof : ProfSt := {}
  /-- chapters 10 and 11 -/
  est : EstSt := {}
  /-- chapter 12 -/
  safe : SafeSt := {}
  /-- chapter 13 -/
  twin : TwinSt := {}
  /-- chapter 14 -/
  net : NetSt := {}
  /-- chapter 15 -/
  can : CanSt := {}
  /-- chapter 16 -/
  fio : FioSt := {}
  /-- chapter 17 -/
  bist : BistSt := {}
  /-- chapter 18 -/
  recd : RecSt := {}
  /-- chapter 19 -/
  upd : UpdSt := {}
  /-- chapter 20 -/
  fm : FaultSt := {}
  deriving DecidableEq, Repr

/-- The module right after reset at first power: VIN present, resets held until the mating detects qualify (R51). -/
def State.reset : State := {}

end Sys2Proof.Machine
end

