-- ==== Sys2Proof/Machine/Ops.lean ====
section
/-! DEFINITION. The named operations every chapter shares: applied parameters and counters (R94, R97), time stamps (R6, R7),
what is sent, records and events (R102, R479, R480, R531), raising a fault (R524), completing a request (R82, R536), and
lists of sessions. -/

namespace Sys2Proof.Machine
open Sys2Proof

/-! ### Small readings of the parts -/

/-- Generator 0 to 7. -/
def ProfSt.gen (p : ProfSt) (g : Nat) : GenSt := if g < 4 then p.pg.get g else p.ag.get (g - 4)

/-- A generator at its target with zero speed (Table 4.14). -/
def ProfSt.idle (p : ProfSt) (g : Nat) : Bool := (p.gen g).atRest && (p.gen g).x == (p.gen g).tgt

/-- An axis's bridge is off (Table 4.14). -/
def ProfSt.bridgeOff (p : ProfSt) (axis : Nat) : Bool := !(p.axis.get axis).energised

/-- The version of a part's running copy, 0 for an invalid one (Table 19.9). -/
def UpdSt.running (u : UpdSt) (part : Nat) : Nat := if (u.run.get (part - 1)).valid then (u.run.get (part - 1)).entry.version.toNat else 0
/-- FIO.DI_STATE (Table 16.5). -/
def FioSt.diState (f : FioSt) : BitVec 16 := BitVec.ofNat 16 (ofBits ((List.range 16).map fun n => (f.di.at n {}).state))
/-- No injection run is in progress (Table 4.14). -/
def EstSt.noRun (e : EstSt) : Bool := e.imp.toList.all fun i => i.run == 0

/-- The entries of the running parts by part code. -/
def UpdSt.own (u : UpdSt) : List PartEntry := (List.range 4).map fun i => { (u.run.get i).entry with type := i + 1 }

/-- The OWN version a part lists for an interface. -/
def ownOf (e : PartEntry) (iface : Nat) : Option Nat := (e.compat.find? fun c => c.1 == iface).map (·.2.1)

/-- The pair's OWN versions of an interface differ (19 R504: 2 LOOP_ARITH, 3 EST_ARITH). -/
def UpdSt.mixed (u : UpdSt) (iface : Nat) : Bool :=
  u.own.any fun e => u.twinParts.any fun f => f.type == e.type && (match ownOf e iface, ownOf f iface with
    | some a, some b => a != b
    | _, _ => false)

/-- What a command answers. -/
abbrev Result := Host.Outcome State Fault Refusal

/-! ### Time -/

/-- The ts32 of a total nanosecond count (R7). -/
def ts32 (ns : Nat) : BitVec 32 := BitVec.ofNat 32 ns

/-- A future instant reached: the clock never runs back. The real-time clock runs along (R67). -/
def State.advanceTo (s : State) (t : Nat) : State :=
  { s with now := max s.now t, sys := { s.sys with rtc := s.sys.rtc + (max s.now t - s.now) } }

/-- Age of a ts32 stamp, modulo 2^32 ns (R193). -/
def age (now stamp : BitVec 32) : Nat := (now - stamp).toNat

/-! ### Parameters and counters -/

def key (id inst : Nat) : Nat := id * 256 + inst

/-- The applied value of a parameter, little-endian (R94). -/
def State.par (s : State) (id inst : Nat) : Bytes :=
  match s.wcp.params.find (key id inst) with
  | some v => v
  | none => match PRow.find id with
    | some r => r.base s.upd.tables s.sys.slot inst
    | none => []

/-- An unsigned parameter. -/
def State.parN (s : State) (id inst : Nat) : Nat := ofLe (s.par id inst)
/-- An s16q15 parameter. -/
def State.parI (s : State) (id inst : Nat) : Int := toSigned 16 (s.parN id inst)
/-- A binary32 parameter. -/
def State.parF (s : State) (id inst : Nat) : ℚ := f32 (s.parN id inst)
/-- A q15x parameter. -/
def State.parX (s : State) (id inst : Nat) : Q15x := q15xDec (s.parN id inst)

/-- The parameters in A or V that are converted to Q15 of a full scale as they are applied (07 R178, 08 R211). -/
def scaledBy (fsId : Nat) : List Nat :=
  if fsId = 0x302 then [0x304, 0x305, 0x306, 0x349, 0x383, 0x384, 0x38E]
  else if fsId = 0x303 then [0x30B, 0x310, 0x311, 0x330, 0x331, 0x385, 0x386, 0x387, 0x388] else []

/-- The full scales on record after a value is applied: a new one leaves the conversions made under the old, a value converted anew follows it
(07 R178). -/
def State.heldAfter (s : State) (id inst : Nat) : SMap Nat :=
  (scaledBy id).foldl (fun m j => if (m.find (key j inst)).isSome then m else m.set (key j inst) (s.parN id inst)) (s.wcp.heldFs.del (key id inst))

/-- The full scale by which a parameter's applied value was converted (07 R178). -/
def State.fsOf (s : State) (fsId id inst : Nat) : ℚ := f32 (s.wcp.heldFs.at (key id inst) (s.parN fsId inst))

/-- A parameter in Q15 of its full scale, as converted when it was applied (07 R178). -/
def State.parQ (s : State) (fsId id inst : Nat) : Int := q15Of (s.parF id inst) (s.fsOf fsId id inst)

def State.setPar (s : State) (id inst : Nat) (v : Bytes) : State :=
  { s with wcp := { s.wcp with params := s.wcp.params.set (key id inst) v, heldFs := s.heldAfter id inst } }

/-- A read-only counter of the dictionary. -/
def State.count (s : State) (id inst : Nat) : Nat := s.wcp.counters.at (key id inst) 0

/-- A counter raised by n, saturating at 2^32 − 1. -/
def State.incBy (s : State) (id inst n : Nat) : State :=
  { s with wcp := { s.wcp with counters := s.wcp.counters.set (key id inst) (min 0xFFFFFFFF (s.count id inst + n)) } }

def State.inc (s : State) (id inst : Nat) : State := s.incBy id inst 1

/-! ### What is sent -/

def State.emit (s : State) (o : Out) : State := { s with out := s.out ++ [o] }

/-! ### Free values (assumption log 2) -/

def State.draw (s : State) : Nat × State := (s.free, { s with free := s.free + 1 })

/-! ### Sessions -/

def State.sess (s : State) (id : Nat) : Option Sess := s.wcp.sessions.find? fun x => x.id == id

def State.setSess (s : State) (x : Sess) : State :=
  { s with wcp := { s.wcp with sessions := s.wcp.sessions.map fun y => if y.id = x.id then x else y } }

def State.updSess (s : State) (id : Nat) (f : Sess → Sess) : State :=
  { s with wcp := { s.wcp with sessions := s.wcp.sessions.map fun y => if y.id = id then f y else y } }

/-- A packet leaves; a host-link packet waits until the host reads it (R74, R76). -/
def State.post (s : State) (p : Packet) : State :=
  if p.transport = .host then { s with wcp := { s.wcp with hostOut := s.wcp.hostOut ++ [p] } } else s.emit (.wcp p)

/-- The time-quality byte (Table 14.3); a standby reports the active's state (R423). -/
def State.quality (s : State) (stepped : Bool) : Nat :=
  let standby := s.sys.lifecycle == .standby
  (if standby then s.twin.timeState % 8 else s.net.servo) + 8 * ofBits [s.net.jump.isSome, stepped, standby]

/-! ### Event batches (R102, R103) -/

/-- The EVENT_BATCH packet of a batch (Table 4.13). -/
def batchPacket (x : Sess) (slot : Nat) (b : Batch) : Packet :=
  { transport := x.transport, peer := x.peer, reply := false, error := false, safety := false, seq := x.txSeq,
    opcode := 0x0007, session := x.id % 65536, target := slot,
    payload := u32 b.bseq ++ time80Bytes b.epoch ++ u8 b.quality ++ u8 (b.events.length + if b.gap then 128 else 0)
      ++ b.events.flatMap fun e =>
        leBytes 4 e.stamp.toNat ++ u16 e.code ++ u8 e.sev ++ u8 e.inst ++ u32 e.seq ++ padTo 12 e.data,
    key := if x.role = .view ∧ x.keyOut = [] then none else some x.keyOut }

/-- A batch leaves: every packet of the module's own takes the next extended sequence of its direction (R80). -/
def State.sendBatch (s : State) (id : Nat) (b : Batch) : State :=
  match s.sess id with
  | none => s
  | some x =>
    let x := { x with txSeq := x.txSeq + 1 }
    (s.setSess x).post (batchPacket x s.sys.slot b)

/-- The batch collected by a session closes and is sent. -/
def State.closeBatch (s : State) (id : Nat) : State :=
  match s.sess id with
  | none => s
  | some x =>
    if x.collecting = [] then s else
      let b : Batch := { bseq := (x.bseq + 1) % 2 ^ 32, epoch := s.now, quality := s.quality s.net.stepBatch, gap := x.gap,
                         events := x.collecting, resends := 0, sent := s.now }
      let x := { x with collecting := [], bseq := b.bseq, unacked := x.unacked ++ [b] }
      let s := { s with net := { s.net with stepBatch := false } }
      (s.setSess x).sendBatch id b

/-- Whether a session's mask and minimum severity admit an event (R102). -/
def Sess.admits (x : Sess) (e : Event) : Bool :=
  x.subscribed && x.mask.toNat.testBit (e.code / 4096) && decide (x.minSev ≤ e.sev)

/-- A session collects an event for its next batch. -/
def Sess.collect (x : Sess) (e : Event) (now : Nat) : Sess :=
  { x with collecting := x.collecting ++ [e], collectSince := if x.collecting = [] then now else x.collectSince }

/-- One event reaches every session that admits it; a batch closes at 32 events. -/
def State.deliver (s : State) (e : Event) : State :=
  let xs := s.wcp.sessions.map fun x => if x.admits e then x.collect e s.now else x
  let s := { s with wcp := { s.wcp with sessions := xs } }
  (xs.filter fun x => 32 ≤ x.collecting.length).foldl (fun s x => s.closeBatch x.id) s

/-! ### Records (R479, R480, R531) -/

/-- The next record sequence; 0 is never used (Table 18.1). -/
def State.nextSeq (s : State) : Nat := if s.fm.lastSeq ≥ 0xFFFFFFFF then 1 else s.fm.lastSeq + 1

/-- A discarded record is no parent (R531). -/
def State.forget (s : State) (seq : Nat) : State := { s with fm := { s.fm with known := s.fm.known.filter fun k => k.2.2 != seq } }

/-- A record enters the write queue of 256; a full queue discards by R480 and counts in REC.DROPPED. -/
def State.enqueueRec (s : State) (r : Rec) : State :=
  if s.recd.queue.length < 256 then { s with recd := { s.recd with queue := s.recd.queue ++ [r] } }
  else
    let s := s.inc 0x921 0
    let low := (s.recd.queue.map (·.sev)).foldl min 3
    if r.sev = 0 ∨ low ≥ r.sev then s.forget r.seq
    else
      let i := s.recd.queue.findIdx fun x => x.sev == low
      let s := s.forget ((s.recd.queue[i]?.map (·.seq)).getD 0)
      { s with recd := { s.recd with queue := s.recd.queue.eraseIdx i ++ [r] } }

/-! ### The flight buffer (R487 to R489) -/

/-- The lifecycle code of Table 1.8. -/
def lifeCode : Lifecycle → Nat
  | .boot => 0 | .selftest => 1 | .negotiate => 2 | .standby => 3 | .active => 4 | .safe => 5 | .update => 6 | .replay => 7
  | .isolated => 8

/-- The buffer is written (R487, R489): in P0 and P1, enabled, not in REPLAY, not frozen, its die not lost (Table 1.6). -/
def State.fbOn (s : State) : Bool :=
  !s.sys.diesLost.getLsbD 5 &&
  (s.sys.power == .p0 || s.sys.power == .p1) && s.parN 0x900 0 == 1 && s.sys.lifecycle != .replay && s.recd.fb.desc.isNone

/-- The newest chunks whose bytes fit the ring of 400 MiB (R487). -/
def fbKeep : Nat → List Chunk → List Chunk
  | _, [] => []
  | room, c :: t => if c.payload.length + 16 ≤ room then c :: fbKeep (room - (c.payload.length + 16)) t else []

/-- The open period records as a chunk (Table 18.5 PERIOD). -/
def FbSt.closePeriods (f : FbSt) : FbSt :=
  match f.periods with
  | none => f
  | some (k, t, rs) => { f with periods := none, chunks := ⟨1, t, u32 k ++ u16 rs.length ++ [0, 0] ++ rs.reverse.flatten⟩ :: f.chunks }

/-- A chunk joins the buffer, after the period records that precede it. -/
def State.fbPush (s : State) (type time : Nat) (payload : Bytes) : State :=
  if !s.fbOn then s else
    let f := s.recd.fb.closePeriods
    { s with recd := { s.recd with fb := { f with chunks := fbKeep 419430400 (⟨type, time, payload⟩ :: f.chunks) } } }

/-- A time event (Table 18.5 TIME_EVENT). -/
def State.fbEvent (s : State) (kind : Nat) (data : Bytes) : State := s.fbPush 5 s.now (time80Bytes s.now ++ u8 kind ++ data)

/-- A period record (Table 18.5 PERIOD), with the time of its boundary: at most 1,024 to a chunk. It precedes the chunks of later instants that the buffer
took before the period's release (R487: in time order). -/
def State.fbPeriod (s : State) (k : Nat) (r : Bytes) : State :=
  if !s.fbOn then s else
    let t := s.loop.base
    let f := s.recd.fb
    let f := match f.periods with
      | some (k0, t0, rs) => { f with periods := some (k0, t0, r :: rs) }
      | none =>
        let after := f.chunks.takeWhile fun (c : Chunk) => decide (t < c.time)
        if after = [] then { f with periods := some (k, t, [r]) }
        else { f with chunks := after ++ (⟨1, t, u32 k ++ u16 1 ++ [0, 0] ++ r⟩ : Chunk) :: f.chunks.drop after.length }
    let f := if (match f.periods with
      | some (_, _, rs) => decide (1024 ≤ rs.length)
      | none => false) then f.closePeriods else f
    { s with recd := { s.recd with fb := { f with chunks := fbKeep 419430400 f.chunks } } }

/-- Whether a record triggers the buffer (R489). -/
def State.fbTriggers (s : State) (code sev : Nat) : Bool :=
  2 ≤ sev || (sev == 1 && (s.parN 0x901 0).testBit (code / 4096)) || code == 0x7001

/-- The first trigger governs; recording goes on for 10 s (R489). -/
def State.fbTrigger (s : State) (seq code : Nat) : State :=
  let f := s.recd.fb
  if f.desc.isSome ∨ !s.fbOn then s
  else if f.trig.isSome then s.fbEvent 5 (u32 seq)
  else
    let t : FbTrig := ⟨seq, code, s.now, s.quality false, (lifeCode s.sys.lifecycle), s.wcp.generation.toNat, s.parN 0x300 0⟩
    let s := s.fbEvent 5 (u32 seq)
    ({ s with recd := { s.recd with fb := { s.recd.fb with trig := some t } } }).inc 0x924 0

/-- The record of a fault with its sequence and parent. -/
def State.mkRec (s : State) (f : FRec) (seq parent : Nat) : Rec :=
  { seq := seq, time := f.time, quality := s.quality s.net.stepRec, source := s.sys.slot, code := f.code, sev := f.sev, inst := f.inst,
    flags := (if f.escalated.isSome then 4 else 0) + (if f.twin then 8 else 0)
      + (if s.fbTriggers f.code f.sev && s.fbOn then 2 else 0), parent := parent,
    payload := patch (patch (padTo 32 f.data) 12 (if f.repeats = 0 then [] else u16 f.repeats)) 14
      (match f.escalated with | some v => u8 v | none => []) }

/-- The sequence a named parent received, 0 if it is not known (R531). -/
def State.parentSeq (s : State) (f : FRec) : Nat :=
  match f.parent with
  | none => f.by_
  | some (c, i) => match s.fm.known.find? fun k => k.1 = c ∧ k.2.1 = i with
    | some k => k.2.2
    | none => 0

/-- A fault or event recorded and sent in event batches, with the next sequence. Handled records stay known as parents. -/
def State.recordPlain (s : State) (f : FRec) : State :=
  let seq := s.nextSeq
  let r := s.mkRec f seq (s.parentSeq f)
  let s := { s with net := { s.net with stepRec := false }, fm := { s.fm with lastSeq := seq, known := ((f.code, f.inst, seq) :: s.fm.known).take 64 } }
  (s.enqueueRec r).deliver ⟨ts32 f.time, f.code, f.sev, f.inst, seq, padTo 12 f.data⟩

/-- A fault as a rule raises it; one raised by an action of the fault manager has the record handled as its parent (R531). -/
def mkFault (s : State) (code inst sev : Nat) (data : Bytes) (parent : Option (Nat × Nat)) (strings : Option (BitVec 4)) : FRec :=
  { code := code, inst := inst, sev := sev, data := data, parent := parent, by_ := s.fm.acting, strings := strings, time := s.now,
    seq := 0, repeats := 0, escalated := none, begun := false, twin := false }

/-- A record, and the flight-buffer trigger it may be (R489): while the buffer is frozen the trigger is counted and event 0xC011
raised. -/
def State.record (s : State) (f : FRec) : State :=
  let seq := s.nextSeq
  let s := s.recordPlain f
  if !s.fbTriggers f.code f.sev then s
  else if s.recd.fb.desc.isSome then (s.inc 0x925 0).recordPlain (mkFault s 0xC011 0 0 (u32 seq) none none)
  else s.fbTrigger seq f.code

/-- Whether a named parent still waits for handling (R531). -/
def State.parentWaits (s : State) (f : FRec) : Bool :=
  match f.parent with
  | none => false
  | some (c, i) => (s.fm.raised ++ s.fm.queue).any fun g => g.code = c ∧ g.inst = i ∧ g.seq = 0

/-- Raise a fault or event (R524). Severity 0 is recorded on acceptance, or waits for its named parent (R531); a fault of
severity 1 to 3 waits for acceptance into handling. -/
def State.raiseWith (s : State) (code inst sev : Nat) (data : Bytes) (parent : Option (Nat × Nat)) (strings : Option (BitVec 4)) : State :=
  let f := mkFault s code inst sev data parent strings
  if sev = 0 then
    if s.parentWaits f then { s with fm := { s.fm with deferred := s.fm.deferred ++ [f] } } else s.record f
  else { s with fm := { s.fm with raised := s.fm.raised ++ [f] } }

def State.raise (s : State) (code inst sev : Nat) (data : Bytes := []) : State := s.raiseWith code inst sev data none none

/-- An opcode that answered 0x0001 completes: event 0x1001 (R82, R536, Table 4.18). -/
def State.complete (s : State) (op : OpRef) (status : Nat) (result : Bytes := []) : State :=
  s.raise 0x1001 0 0 (u16 op.session ++ u16 op.opcode ++ u16 op.seq ++ u16 status ++ padTo 4 result)

/-- A completion whose record carries 20 further bytes (R536: BIST_RUN). -/
def State.completeWith (s : State) (op : OpRef) (status : Nat) (result extra : Bytes) : State :=
  s.raise 0x1001 0 0 (u16 op.session ++ u16 op.opcode ++ u16 op.seq ++ u16 status ++ padTo 4 result ++ extra)

/-! ### Self-tests (R461, R467, R468) -/

/-- BIST.RESULT of a block code (Table 17.2). -/
def BistRes.word (r : BistRes) : Nat := r.state + 8 * ofBits [r.startup, r.preempted] + 256 * (r.count % 2 ^ 24)

/-- BIST.RESULT of a block, running while it is under test. -/
def State.bistRes (s : State) (code : Nat) : BistRes :=
  let r := s.bist.results.at code {}
  if s.bist.running.any fun b => b.1 == code then { r with state := 1 } else r

def State.bistWord (s : State) (code : Nat) : Nat := (s.bistRes code).word

/-- One BIST_RUN after a block of its list has ended: complete when none is left (Table 4.19, R536). -/
def State.bistRunEnd (s : State) (r : BistRun) : State :=
  if r.waiting ≠ [] then { s with bist := { s.bist with runs := s.bist.runs ++ [r] } }
  else
    let n := fun (st : Nat) => (r.codes.filter fun c => (s.bistRes c).state == st).length
    s.completeWith r.op 0 (u8 (n 2) ++ u8 (n 3) ++ u8 (n 4)) ((r.codes.take 5).flatMap fun c => u32 (s.bistWord c))

/-- The test of a block ends with an outcome: 2 passed, 3 failed, 4 aborted (R461); faults 0xB101 and events 0xB102 name the block. -/
def State.bistEnd (s : State) (code outcome count : Nat) (startup preempted : Bool) : State :=
  let b := s.bist
  let runs := b.runs
  let s := { s with bist := { b with results := b.results.set code ⟨outcome, startup, preempted, count % 2 ^ 24⟩,
                                     running := b.running.filter fun x => x.1 != code, runs := [] } }
  let s := if outcome = 3 then (s.inc 0xA21 0).raise 0xB101 0 1 (u8 code)
    else if outcome = 4 then (s.inc 0xA22 0).raise 0xB102 0 0 (u8 code) else s
  runs.foldl (fun s r => s.bistRunEnd { r with waiting := r.waiting.filter fun c => c != code }) s

/-- The outcome of a test (R461): 4 aborted, below the expected count; 2 passed; 3 failed, also where the count is above the expected one. -/
def testOutcome (sigOk : Bool) (count expected : Nat) : Nat := if count < expected then 4 else if sigOk && count == expected then 2 else 3

/-- The outcome of a lane's test. -/
def laneOutcome (t : LaneTest) : Nat := testOutcome t.sigOk t.count t.expected

/-- The lanes that passed, as a mask (R387). -/
def laneMask (t : Four LaneTest) : Nat := ofBits ([0, 1, 2, 3].map fun c => laneOutcome (t.get c) == 2)

/-- The blocks a safety demand aborts (R467): safety cores, field die, ring ports, delta-sigma receivers, PWM outputs. -/
def safetyBlock (code : Nat) : Bool := code == 1 || code == 2 || (0x30 ≤ code && code ≤ 0x37) || (0x40 ≤ code && code ≤ 0x43) || code == 0x50

/-- A block may not be used before it is tested again (R467): no active role until then. -/
def State.needTest (s : State) (code : Nat) : State :=
  let n := s.sys.notActive
  { s with sys := { s.sys with notActive := { n with faulted := true, blocks := if n.blocks.contains code then n.blocks else n.blocks ++ [code] } } }

/-- A block has passed its self-test: the last one it waited for clears the mark (R467, 20 R526). -/
def State.passBlock (s : State) (code : Nat) : State :=
  let n := s.sys.notActive
  if !n.blocks.contains code then s
  else
    let rest := n.blocks.filter fun b => b != code
    { s with sys := { s.sys with notActive := { n with blocks := rest, faulted := rest != [] } } }

/-- A safety demand ends every test on a block it needs (R467). -/
def State.preempt (s : State) : State :=
  let start := s.sys.lifecycle == .selftest
  ((s.bist.running.filter fun b => safetyBlock b.1).map (·.1)).foldl
    (fun s c =>
      let s := s.bistEnd c 4 (s.bistRes c).count start true
      if start then s else s.needTest c) s

/-! ### Reading the module's role and outputs -/

def State.isActive (s : State) : Bool := s.sys.lifecycle == .active
def State.isStandby (s : State) : Bool := s.sys.lifecycle == .standby

/-- Turnip's drive permit (R28): own line asserted, mirror ACTIVE, the twin's line deasserted, drive not ended since. -/
def State.permit (s : State) : Bool :=
  s.sys.roleOut && s.sys.mirror == .active && !s.sys.roleIn && !s.sys.driveEnded && !s.sys.conflict && !s.sys.oscFault
    && !s.sys.mateOpen && s.sys.power != .p4 && s.sys.power != .p5

/-- A standard output is driven (R450): commanded, with the permit, not latched off, its supply present, its channel in service (01 R11). -/
def State.doOn (s : State) (n : Nat) : Bool :=
  let o := s.fio.dout.at n {}
  o.cmd && s.permit && !o.ovl && !o.ot && !o.supplyLow && !s.sys.fieldErr.getLsbD (16 + n)

def State.dout (s : State) (n : Nat) : DoSt := s.fio.dout.at n {}
def State.setDo (s : State) (n : Nat) (x : DoSt) : State := { s with fio := { s.fio with dout := s.fio.dout.set n x } }
def State.updDo (s : State) (n : Nat) (f : DoSt → DoSt) : State := s.setDo n (f (s.dout n))

/-- Every standard output switched off and the inputs' filters to start again: PD_FIELD goes off, or the die is reset (Table 1.6, 16 Table
16.2). A latch stays for FIO_DO_CLEAR (16 R452). -/
def State.fieldOff (s : State) : State :=
  let s := (List.range 8).foldl (fun s n => s.updDo n fun o =>
    { o with cmd := false, limitAt := none, openAt := none, highAt := none, lowAt := none }) s
  { s with fio := { s.fio with sampled := false, wdog := false, missed := 0,
                               di := s.fio.di.map fun p => (p.1, { p.2 with lowAt := none, fineAt := none }) } }

/-- Every standard output is off and none is held in its safe state (Table 4.14). -/
def State.fioQuiet (s : State) : Bool := !s.fio.wdog && (List.range 8).all fun n => !s.doOn n

/-- The string's contactors are closed (SAFE.LATCH CLOSED of the string). -/
def State.closed (s : State) (str : Nat) : Bool := (s.safe.str.get str).closed

/-- The twin energises output n: it is ACTIVE and its last SAFETY_COPY says so (Table 12.11 SO_ON). -/
def State.twinSoOn (s : State) (n : Nat) : Bool :=
  s.twin.life == some .active && (match s.twin.safety with
    | some (m, _) => m.status.getLsbD (8 + n)
    | none => false)

/-- A generator is enabled (R241): PG0 to PG3 while their channel is STARTING, RUNNING or STOPPING, PG4 to PG7 while their axis is
energised. -/
def State.genOn (s : State) (g : Nat) : Bool :=
  if g < 4 then 1 ≤ (s.psi.ch.get g).state && (s.psi.ch.get g).state ≤ 3 else (s.prof.axis.get (g - 4)).energised

/-- The node numbers 1 … n of a ring by its ring index. -/
def nodeKey (ring node : Nat) : Nat := ring * 28 + node - 1

def State.node (s : State) (k : Nat) : NodeSt := s.rings.node.at k {}

def State.setNode (s : State) (k : Nat) (n : NodeSt) : State :=
  { s with rings := { s.rings with node := s.rings.node.set k n } }

def State.updNode (s : State) (k : Nat) (f : NodeSt → NodeSt) : State := s.setNode k (f (s.node k))

def State.ring (s : State) (r : Nat) : RingSt := s.rings.ring.get r

def State.setRing (s : State) (r : Nat) (x : RingSt) : State := { s with rings := { s.rings with ring := s.rings.ring.set r x } }

def State.updRing (s : State) (r : Nat) (f : RingSt → RingSt) : State := s.setRing r (f (s.ring r))

def State.lane (s : State) (c : Nat) : LaneSt := s.loop.lane.get c

def State.setLane (s : State) (c : Nat) (x : LaneSt) : State := { s with loop := { s.loop with lane := s.loop.lane.set c x } }

def State.updLane (s : State) (c : Nat) (f : LaneSt → LaneSt) : State := s.setLane c (f (s.lane c))

def State.ch (s : State) (c : Nat) : ChSt := s.psi.ch.get c

def State.setCh (s : State) (c : Nat) (x : ChSt) : State := { s with psi := { s.psi with ch := s.psi.ch.set c x } }

def State.updCh (s : State) (c : Nat) (f : ChSt → ChSt) : State := s.setCh c (f (s.ch c))

def State.ctl (s : State) (c : Nat) : CanCtl := if c = 0 then s.can.c0 else s.can.c1

def State.setCtl (s : State) (c : Nat) (x : CanCtl) : State :=
  if c = 0 then { s with can := { s.can with c0 := x } } else { s with can := { s.can with c1 := x } }

/-- A controller stops transmitting: FIFO and results queue cleared without records (Table 15.4). -/
def State.canClear (s : State) (c : Nat) : State := s.setCtl c { s.ctl c with tx := [], wsf := [], wsfTx := none, results := [] }

end Sys2Proof.Machine
end

