-- ==== Sys2Proof/Machine/Packets.lean ====
section
/-! DEFINITION. The packet path of WCP (04): opcode table and roles (Tables 4.6, 4.8, 4.9 and the chapters'), the order of
checks (R83, Table 4.4), replies with their cache (R80, R85), forwarding to the twin (R91), and the wire form of a packet (R77,
R78, R81). -/

namespace Sys2Proof.Machine
open Sys2Proof

/-- Who may send an opcode (least-role columns of the opcode tables, Table 4.6). -/
inductive Least where
  | none | view | operate | service | safety | update | byParam | arm
  deriving DecidableEq, Repr

/-- The opcodes of groups 0x00 to 0x02. -/
def opcodesA : List (Nat × Least) :=
  [(0x0000, .none), (0x0001, .none), (0x0002, .view), (0x0003, .none), (0x0005, .view), (0x0006, .view), (0x0008, .view),
   (0x0020, .operate), (0x0021, .service), (0x0100, .view), (0x0101, .byParam), (0x0102, .byParam), (0x0103, .view),
   (0x0104, .view), (0x0105, .view), (0x0106, .service), (0x0200, .operate), (0x0201, .operate), (0x0202, .service),
   (0x0203, .view), (0x0204, .view), (0x0210, .view), (0x0211, .operate), (0x0212, .service), (0x0213, .service),
   (0x0214, .service)]

/-- The opcodes of groups 0x03 to 0x07. -/
def opcodesB : List (Nat × Least) :=
  [(0x0300, .operate), (0x0301, .operate), (0x0302, .operate), (0x0303, .service), (0x0304, .view), (0x0310, .operate),
   (0x0311, .operate), (0x0340, .view), (0x0400, .operate), (0x0401, .operate), (0x0402, .view), (0x0403, .operate),
   (0x0404, .operate), (0x0405, .service), (0x0406, .service), (0x0407, .view), (0x0420, .view), (0x0421, .view),
   (0x0422, .operate), (0x0500, .view), (0x0501, .view), (0x0502, .service), (0x0510, .operate), (0x0511, .operate),
   (0x0512, .view), (0x0513, .view), (0x0520, .view), (0x0521, .service), (0x0522, .service), (0x0600, .view),
   (0x0601, .arm), (0x0602, .safety), (0x0603, .safety), (0x0700, .view), (0x0701, .operate), (0x0702, .service),
   (0x0703, .service), (0x0704, .service), (0x0705, .service)]

/-- The opcodes of groups 0x08 to 0x0C. The least role of SNAPSHOT_READ and SNAPSHOT_RELEASE is the model's choice (assumption log 184). -/
def opcodesC : List (Nat × Least) :=
  [(0x0800, .view), (0x0801, .view), (0x0802, .service), (0x0803, .service), (0x0810, .operate), (0x0811, .operate),
   (0x0812, .operate), (0x0813, .view), (0x0814, .view), (0x0815, .operate), (0x0816, .view), (0x0900, .view), (0x0901, .view),
   (0x0902, .service), (0x0903, .safety), (0x0910, .view), (0x0911, .operate), (0x0912, .view), (0x0913, .service),
   (0x0920, .service), (0x0921, .service), (0x0922, .service), (0x0923, .view), (0x0924, .service), (0x0A00, .service),
   (0x0A01, .view), (0x0A10, .view), (0x0A11, .service), (0x0B00, .update), (0x0B01, .update), (0x0B02, .update),
   (0x0B03, .update), (0x0B04, .update), (0x0B05, .update), (0x0B06, .update), (0x0B07, .update), (0x0B08, .update),
   (0x0C00, .view), (0x0C01, .view), (0x0C02, .view)]

def opcodes : List (Nat × Least) := opcodesA ++ opcodesB ++ opcodesC

def leastOf (op : Nat) : Option Least := (opcodes.find? fun p => p.1 == op).map (·.2)

/-- Whether a role may send an opcode of a least role (Table 4.6). -/
def Least.allows (l : Least) (r : Role) : Bool :=
  match l, r with
  | .none, _ => true
  | .view, _ => true
  | .byParam, _ => true
  | .operate, .operate => true
  | .operate, .service => true
  | .service, .service => true
  | .safety, .safety => true
  | .update, .update => true
  | .arm, .operate => true
  | .arm, .service => true
  | .arm, .safety => true
  | _, _ => false

/-- Opcodes that only read (R91): the VIEW opcodes, but for those the active executes for the pair (R104, R136, R167), DISCARD and
SNAPSHOT_RELEASE. -/
def isRead (op : Nat) : Bool :=
  leastOf op == some .view && !(0x0200 ≤ op && op < 0x0300) && op != 0x0103 && op != 0x0C00 && op != 0x0C02

/-- Opcodes the active executes with TARGET = 0 and no other module (R136, R167, R266, R305, R334, R442, R457). -/
def activeOnly (op : Nat) : Bool :=
  op / 256 == 2 || (0x0400 ≤ op && op ≤ 0x0407) || op == 0x0422 || op / 256 == 5
    || (0x0810 ≤ op && op ≤ 0x0816 && op != 0x0814 && op != 0x0816)

/-- The slot of the active module as this one knows it, 0 if none (R91, Table 4.5). -/
def State.activeSlot (s : State) : Nat :=
  if s.isActive then s.sys.slot else if s.twin.life = some .active then 3 - s.sys.slot else 0

/-- The extended sequence that places a 16-bit sequence in the window of R80, if any: at most 1,024 above the highest accepted
or within the last 1,024. -/
def extend (hi seq : Nat) : Option Nat :=
  let top := hi + 1024
  let back := (top % 65536 + 65536 - seq % 65536) % 65536
  if back < 2048 ∧ back < top then some (top - back) else none

/-- What the checks of Table 4.4 decide about a request. -/
inductive Verdict where
  /-- every check up to 11 passed -/
  | pass
  /-- discarded without reply; the SYS counter it increments -/
  | drop (counter : Option Nat)
  /-- the cached reply goes out again (R80) -/
  | resend (p : Packet)
  /-- an error reply -/
  | err (status detail aux : Nat)
  /-- forwarded to the twin (R91) -/
  | forward
  deriving DecidableEq, Repr

/-- Whether the module answers WCP at all: silent in BOOT outside a hold of Sprout (R69) and where PD_APP is off (R21); in P4 it takes POWER_SET,
from which alone P5 can be entered (R24, R62, assumption log 181). -/
def State.answers (s : State) (h : Hdr) (op : Nat := 0) : Bool :=
  (s.sys.lifecycle != .boot || (s.sys.bootHold && h.transport == .svc))
    && (s.sys.power == .p0 || s.sys.power == .p1 || s.sys.power == .p2 || (s.sys.power == .p4 && op == 0x0020))

/-- The session's tag rule (R88). -/
def State.tagOk (s : State) (x : Sess) (h : Hdr) : Bool :=
  match h.tag with
  | .good => true
  | .wrong => false
  | .absent => x.role == .view && s.parN 0x31 0 == 1

/-- Checks 1 to 6: the packet, its session, tag and sequence. A repeat of one of the last 8 accepted requests that has no reply yet is neither
answered nor counted: it is inside what R80 lets a host repeat. -/
def State.checkPacket (s : State) (h : Hdr) : Verdict :=
  if !h.crcOk then .drop (some 0x33)
  else if !h.sizeOk ∨ h.resv ≠ 0 ∨ h.flags.toNat ≥ 32 then .err 0x0102 (if !h.sizeOk then 8 else if h.resv ≠ 0 then 13 else 3) 0
  else if h.version ≠ 2 then .err 0x010B 2 0
  else if h.session = 0 then (if h.tag = .absent then .pass else .drop (some 0x34))
  else match s.sess h.session.toNat with
    | none => .err 0x010A 0 0
    | some x =>
      if !s.tagOk x h then .drop (some 0x34)
      else match extend x.hi h.seq.toNat with
        | none => .drop (some 0x35)
        | some e =>
          if e > x.hi ∨ (e + 1024 > x.hi ∧ e ∉ x.seen) then .pass
          else if e ∈ x.seen.take 8 then
            match x.cache.find? fun c => c.1 == e with
            | some c => .resend c.2
            | none => .drop none
          else .drop (some 0x35)

/-- The blocks under test with the time each is due: those of BIST, and the four lanes in an arbitration's known-answer test of 40 µs (13 R387,
17 R467). -/
def State.underTest (s : State) : List (Nat × Nat) :=
  s.bist.running ++ match s.twin.kat with
    | some t => [0x20, 0x21, 0x22, 0x23].map fun c => (c, t + 40000)
    | none => []

/-- Checks 7 to 11: opcode, role and transport, target, safety lock-out, self-test. -/
def State.checkOp (s : State) (op : Nat) (h : Hdr) (energise : Bool) (blocks : List Nat) : Verdict :=
  match leastOf op with
  | none => .err 0x0101 0 op
  | some l =>
    if h.flags.getLsbD 3 != (op / 256 == 6) then .err 0x0101 0 op
    else if op / 256 = 0x0B ∧ h.transport ≠ .svc then .err 0x0106 3 0
    else if (match s.sess h.session.toNat with
      | none => l != Least.none
      | some x => !(l.allows x.role || (op == 0x21 && s.sys.bootHold && x.role == Role.update))) then .err 0x0106 0 0
    else if (match s.sess h.session.toNat with
      | none => false
      | some x => x.transport != h.transport) then .err 0x0106 3 0
    else if h.target.toNat ≠ 0 ∧ h.target.toNat ≠ s.sys.slot then
      (if h.target.toNat + s.sys.slot = 3 then .forward else .err 0x0108 s.activeSlot 0)
    else if activeOnly op ∧ (h.target ≠ 0 ∨ !s.isActive) then .err 0x0108 s.activeSlot 0
    else if h.target = 0 ∧ !s.isActive ∧ op / 256 ≠ 0 ∧ !isRead op then .err 0x0108 s.activeSlot 0
    else if s.sys.lifecycle = .safe ∧ energise then .err 0x0109 0 0
    else match s.underTest.find? fun b => b.1 ∈ blocks with
      | some b => .err 0x0107 b.1 (((b.2 - s.now) + 999999) / 1000000 + 1)
      | none => .pass

/-! ### The wire form -/

/-- One packet on the wire (R77, R78): header, payload, tag under a key, CRC-32C. -/
def wirePacket (p : Packet) (more : Bool) (payload : Bytes) : Bytes :=
  let flags := (if p.reply then 1 else 0) + (if p.error then 2 else 0) + (if more then 4 else 0) + (if p.safety then 8 else 0)
    + if p.key.isSome then 16 else 0
  let hdr := [0x57, 0x43, 0x02] ++ u8 flags ++ u16 p.seq ++ u16 p.opcode ++ u16 payload.length ++ u16 p.session
    ++ u8 p.target ++ [0, 0, 0]
  let body := hdr ++ payload ++ match p.key with
    | some k => (hmac k (u32 p.seq ++ hdr ++ payload)).take 16
    | none => []
  body ++ u32 (crc32c body)

/-- A request as the twin receives it (R91, Table 13.2 WCP_FWD). -/
def requestBytes (op : Nat) (h : Hdr) (pl : Bytes) : Bytes :=
  wirePacket { transport := h.transport, peer := h.peer, reply := false, error := false, safety := op / 256 == 6,
               seq := h.seq.toNat, opcode := op, session := h.session.toNat, target := h.target.toNat, payload := pl,
               key := none } false pl

/-! ### Requests forwarded by the twin (R91) -/

/-- A request the twin forwarded and that is not answered yet. -/
def State.isGuest (s : State) (op : Nat) (h : Hdr) : Bool := s.wcp.guests.any fun g => g.1 == h && g.2.1 == op

/-- The role of the receiving module's session, under which a forwarded request runs (R91, assumption log 65). -/
def State.guestRole (s : State) (op : Nat) (h : Hdr) : Role :=
  match s.wcp.guests.find? fun g => g.1 == h && g.2.1 == op with
  | some g => g.2.2
  | none => .view

def roleOfCode : Nat → Option Role
  | 0 => some .view | 1 => some .operate | 2 => some .service | 3 => some .safety | 4 => some .update | _ => none

def roleCode : Role → Nat
  | .view => 0 | .operate => 1 | .service => 2 | .safety => 3 | .update => 4

/-- The receiving module's sessions stand beside the module's own, numbered from 0x10000; while a forwarded request runs they take their
numbers and the own ones step aside to 0x20000. -/
def State.guestIn (s : State) (op : Nat) (h : Hdr) : State :=
  let id := h.session.toNat
  let xs := s.wcp.sessions.map fun (x : Sess) => if 0x10000 ≤ x.id then { x with id := x.id - 0x10000 } else { x with id := x.id + 0x20000 }
  let g : Sess := { id := id, role := s.guestRole op h, transport := h.transport, peer := h.peer, hi := h.seq.toNat, lastReq := s.now }
  let xs := if id = 0 then xs
    else if xs.any (fun x => x.id == id) then xs.map fun (x : Sess) => if x.id = id then { x with role := s.guestRole op h, hi := h.seq.toNat, lastReq := s.now } else x
    else xs ++ [g]
  { s with wcp := { s.wcp with sessions := xs } }

def State.guestOut (s : State) : State :=
  { s with wcp := { s.wcp with sessions := s.wcp.sessions.map fun (x : Sess) =>
      if 0x20000 ≤ x.id then { x with id := x.id - 0x20000 } else { x with id := x.id + 0x10000 } } }

/-- The reply packet to a request (R85, R88, R91). -/
def State.replyPacket (s : State) (op : Nat) (h : Hdr) (status : Nat) (body : Bytes) (tagged : Bool) : Packet :=
  let x := s.sess h.session.toNat
  { transport := h.transport, peer := h.peer, reply := true, error := decide (0x0100 ≤ status), safety := op / 256 == 6,
    seq := match x with
      | some y => (extend y.hi h.seq.toNat).getD h.seq.toNat
      | none => h.seq.toNat,
    opcode := op, session := h.session.toNat, target := s.sys.slot, payload := u16 status ++ body,
    key := if tagged ∧ h.tag ≠ .absent then x.map (·.keyOut) else none }

/-- The last 8 accepted sequences keep their replies (R80). -/
def Sess.remember (x : Sess) (e : Nat) (p : Packet) : Sess :=
  { x with cache := (e, p) :: x.cache.filter fun c => c.1 != e && (x.seen.take 8).contains c.1 }

/-- A reply leaves on the transport of its request, and the session keeps it for a repeat; a forwarded request's goes back over
Shallot (R91). -/
def State.reply (s : State) (op : Nat) (h : Hdr) (status : Nat) (body : Bytes := []) : State :=
  if s.isGuest op h then
    let p := { s.replyPacket op h status body false with seq := h.seq.toNat }
    ({ s with wcp := { s.wcp with guests := s.wcp.guests.filter fun g => !(g.1 == h && g.2.1 == op) } }).emit (.shallot 0x40 (wirePacket p false p.payload))
  else
  let p := s.replyPacket op h status body true
  (s.updSess h.session.toNat fun x => x.remember p.seq p).post p

/-- An error reply: DETAIL and AUX, nothing more (R85). -/
def State.fail (s : State) (op : Nat) (h : Hdr) (status : Nat) (detail : Nat := 0) (aux : Nat := 0) : State :=
  s.reply op h status (u16 detail ++ u32 aux)

/-- The keys of the entries of a PARAM_GET or PARAM_SET payload (Table 4.11). -/
def entryKeys (set : Bool) : Nat → Bytes → List (Nat × Nat)
  | 0, _ => []
  | n + 1, b =>
    if b.length < 4 then [] else (fieldAt b 0 2, fieldAt b 2 1) :: entryKeys set n (b.drop (if set then 6 + fieldAt b 4 2 else 4))

/-- The type code of an ID, 0 if unknown. -/
def typeOf (id : Nat) : Nat := ((PRow.find id).map (·.ty)).getD 0

/-- What follows the status of a refusal (R85): DETAIL and AUX; of PARAM_GET and PARAM_SET also the count and one entry per request entry, each
with the status of the whole. -/
def failBody (op : Nat) (pl : Bytes) (status detail aux : Nat) : Bytes :=
  u16 detail ++ u32 aux ++
    if op = 0x0100 ∨ op = 0x0101 then
      let ks := entryKeys (op == 0x0101) (fieldAt pl 0 2) (pl.drop 2)
      u16 ks.length ++ ks.flatMap fun k => u16 k.1 ++ u8 k.2 ++ u8 (typeOf k.1) ++ u16 status ++ u16 0
    else []

/-- A whole request refused. -/
def State.failAll (s : State) (op : Nat) (h : Hdr) (pl : Bytes) (status detail aux : Nat) : State :=
  s.reply op h status (failBody op pl status detail aux)

/-- A request accepted: its sequence joins the window, and the idle time starts again (R80, R90). -/
def Sess.accept (x : Sess) (e now : Nat) : Sess :=
  let hi := max x.hi e
  { x with hi := hi, seen := (e :: x.seen).filter fun v => v + 1024 > hi, lastReq := now }

def State.accept (s : State) (h : Hdr) : State :=
  s.updSess h.session.toNat fun x => x.accept ((extend x.hi h.seq.toNat).getD x.hi) s.now

/-- The times of the packets that failed authentication within the last second (R84). -/
def State.authSeen (s : State) : List Nat := (s.now :: s.wcp.authTimes).filter fun t => s.now < t + 1000000000

/-- No rejection event has been raised within the last minute (R84). -/
def State.authDue (s : State) : Bool :=
  match s.wcp.authRaised with
  | some t => decide (t + 60000000000 ≤ s.now)
  | none => true

/-- A packet that failed its tag (R84): 16 within 1 s raise 0x1070, at most once a minute. -/
def State.authFail (s : State) : State :=
  let s := s.inc 0x34 0
  let s := { s with wcp := { s.wcp with authTimes := s.authSeen } }
  if s.wcp.authTimes.length ≥ 16 ∧ s.authDue then
    ({ s with wcp := { s.wcp with authRaised := some s.now } }).raise 0x1070 0 1 (u32 (s.count 0x34 0))
  else s

/-- The execution queue gives up the request being executed (R79). -/
def State.dequeue (s : State) (op : Nat) (h : Hdr) : State :=
  let i := s.wcp.queue.findIdx fun w =>
    w.opcode == op && w.hdr.session == h.session && w.hdr.seq == h.seq && w.hdr.peer == h.peer
  { s with wcp := { s.wcp with queue := s.wcp.queue.eraseIdx i } }

/-- The role of the request's session; VIEW where there is none. -/
def State.roleOf (s : State) (h : Hdr) : Role :=
  match s.sess h.session.toNat with
  | some x => x.role
  | none => .view

/-- A request goes to the twin, which executes it under this module's session (R91): the packet, and the session's role beside it (assumption
log 65). -/
def State.forwardReq (s : State) (op : Nat) (h : Hdr) (pl : Bytes) : State :=
  ({ s with wcp := { s.wcp with forwarded := s.wcp.forwarded ++ [(h, op)] } }).emit
    (.shallot 0x40 (requestBytes op h pl ++ u8 (roleCode (s.roleOf h))))

/-- What an unsuccessful check does. -/
def State.refuse (s : State) (op : Nat) (h : Hdr) (pl : Bytes) (v : Verdict) : State :=
  match v with
  | .pass => s
  | .drop none => s
  | .drop (some c) => if c = 0x34 then s.authFail else s.inc c 0
  | .resend p => s.post p
  | .err st d a =>
    if st = 0x0102 ∨ st = 0x010B ∨ st = 0x010A then s.post (s.replyPacket op h st (u16 d ++ u32 a) (st ≠ 0x010A))
    else (s.accept h).failAll op h pl st d a
  | .forward => (s.accept h).forwardReq op h pl

/-- An accepted request that writes, commits or commands goes to the flight buffer, without tag and CRC (Table 18.5 COMMAND). -/
def State.fbCommand (s : State) (op : Nat) (h : Hdr) (pl : Bytes) : State :=
  if isRead op ∨ leastOf op = some .none then s
  else let b := requestBytes op h pl
    s.fbPush 4 s.now (time80Bytes s.now ++ b.take (b.length - 4))

/-- A forwarded request (R91): the receiving module made checks 1 to 8; the rest are the executor's. -/
def State.guestRun (s : State) (op : Nat) (h : Hdr) (pl : Bytes) (energise : Bool) (blocks : List Nat) (body : State → State) : State :=
  let s := s.dequeue op h
  let g := s.guestIn op h
  match g.checkOp op h energise blocks with
  | .pass => (body (g.fbCommand op h pl)).guestOut
  | .err st d a => s.failAll op h pl st d a
  | _ => s

/-- A packet joins the execution queue: SAFETY_CLASS ahead of every packet without it (R79). -/
def State.enqueue (s : State) (w : Waiting) : State :=
  let q := s.wcp.queue
  let safe := fun (x : Waiting) => x.hdr.flags.getLsbD 3
  let q := if safe w then q.filter safe ++ [w] ++ q.filter (fun x => !safe x) else q ++ [w]
  { s with wcp := { s.wcp with queue := q } }

/-- A waiting packet is this request. -/
def Waiting.is (w : Waiting) (op : Nat) (h : Hdr) : Bool :=
  w.opcode == op && w.hdr.session == h.session && w.hdr.seq == h.seq && w.hdr.peer == h.peer

/-- The request's turn has come (R79): nothing waits, or it is the first in the execution queue. -/
def State.turn (s : State) (op : Nat) (h : Hdr) : Bool :=
  match s.wcp.queue with
  | [] => true
  | w :: _ => w.is op h

/-- A request whose turn has not come: one that waits goes on waiting, one that arrives behind others is checked and joins them (R79, R83). -/
def State.await (s : State) (op : Nat) (h : Hdr) (pl : Bytes) : State :=
  if s.wcp.queue.any fun w => w.is op h then s
  else match s.checkPacket h with
    | .pass => s.enqueue ⟨h, op, pl⟩
    | v => s.refuse op h pl v

/-- One WCP request, in its turn: the checks of Table 4.4 in order, then its meaning. `pl` is the request payload, `energise` marks a
request that would energise an output or start a channel (check 10), `blocks` the self-test blocks it uses (check 11). -/
def State.wcpRun (s : State) (op : Nat) (h : Hdr) (pl : Bytes) (energise : Bool) (blocks : List Nat) (body : State → State) : State :=
  if !s.answers h op then s else if !s.turn op h then s.await op h pl else if s.isGuest op h then s.guestRun op h pl energise blocks body else
  let s := s.dequeue op h
  match s.checkPacket h with
  | .pass => match s.checkOp op h energise blocks with
    | .pass => body ((s.accept h).fbCommand op h pl)
    | v => s.refuse op h pl v
  | v => s.refuse op h pl v

/-- A request with no output to energise and no block under test to respect. -/
def State.wcpReq (s : State) (op : Nat) (h : Hdr) (pl : Bytes) (body : State → State) : State :=
  s.wcpRun op h pl false [] body

/-- A request's reference for its completion event. -/
def opRef (op : Nat) (h : Hdr) : OpRef := ⟨h.session.toNat, op, h.seq.toNat⟩

/-! ### Long replies -/

/-- The continuation packets of a reply (R81): status, byte offset, then the bytes. -/
def wireRest (p : Packet) (room : Nat) : Nat → Nat → Bytes → List Bytes
  | 0, _, _ => []
  | n + 1, off, rest =>
    if rest = [] then [] else
      let part := rest.take (room - 6)
      wirePacket p (decide (part.length < rest.length)) (p.payload.take 2 ++ u32 off ++ part)
        :: wireRest p room n (off + part.length) (rest.drop part.length)

/-- The packets a reply leaves in (R75, R81): payloads of at most 1,452 bytes, or 1,436 with a tag, on UDP and 4,096 on the host
link. -/
def wirePackets (p : Packet) : List Bytes :=
  let room := if p.transport = .host then 4096 else if p.key.isSome then 1436 else 1452
  if p.payload.length ≤ room then [wirePacket p false p.payload]
  else wirePacket p true (p.payload.take room) :: wireRest p room (p.payload.length) (room - 2) (p.payload.drop room)

end Sys2Proof.Machine
end

