-- ==== Sys2Proof/Machine/Blocks.lean ====
section
/-! DEFINITION. The dictionary's blocks (R97, Table 4.14): which block a parameter belongs to, when it is halted, and the
application of accepted and committed values at its boundary. -/

namespace Sys2Proof.Machine
open Sys2Proof

/-- A block of Table 4.14. -/
inductive Block where
  /-- the four channels together: LOOP., PSI. -/
  | channels
  /-- reference generators, whose tick is the control boundary (R241) -/
  | reference
  /-- position generators and axes -/
  | axes
  | field
  /-- one ring: RING., CELL. -/
  | ring (r : Nat)
  | estimator
  | safety
  | twin
  /-- boundary immediately before the reply: NET., PTP., CAN., SYS., REC., BIST., THERM., UPD. -/
  | immediate
  deriving DecidableEq, Repr

/-- The block of a parameter's instance (Table 4.14, Table 4.10). -/
def blockOf (id inst : Nat) : Block :=
  if 0x200 ≤ id ∧ id < 0x300 then .ring inst
  else if 0x300 ≤ id ∧ id < 0x400 then .channels
  else if 0x400 ≤ id ∧ id < 0x440 then (if inst < 4 then .reference else .axes)
  else if 0x440 ≤ id ∧ id < 0x480 then .axes
  else if 0x480 ≤ id ∧ id < 0x4C0 then .field
  else if 0x500 ≤ id ∧ id < 0x600 then .estimator
  else if 0x600 ≤ id ∧ id < 0x700 then .safety
  else if 0x700 ≤ id ∧ id < 0x800 then .twin
  else .immediate

/-- A value takes its place (R101): the generation advances by one for every applied write; CAN.ENABLE written 0 clears
its controller's queues (Table 15.4). -/
def State.applyValue (s : State) (v : Shadow) : State :=
  let s := s.setPar v.id v.inst v.value
  let s := if v.id = 0x8C0 ∧ v.value = [0] then s.canClear v.inst else s
  { s with wcp := { s.wcp with generation := s.wcp.generation + 1 } }

/-- A committed entry takes its place; the COMMIT advances the generation once (R101). -/
def State.applyCommitted (s : State) (v : Shadow) : State := s.setPar v.id v.inst v.value

/-- The copy whose next frame carries a block's commits (R100, R241). -/
def Block.copyPart : Block → CopyPart
  | .channels => .loop
  | .reference => .loop
  | .axes => .loop
  | .ring r => .ring r
  | .estimator => .est
  | .safety => .safety
  | .twin => .link
  | .field => .none
  | .immediate => .none

/-- The COMMIT's values of a block may apply: a copy has carried them, or no state of the block is copied (R100). -/
def Commit.carried (c : Commit) (b : Block) : Bool := b.copyPart == .none || c.placed.contains b.copyPart

/-- Generator and axis values wait for a state copy before their tick (R241). -/
def Block.copiedFirst : Block → Bool
  | .reference => true
  | .axes => true
  | _ => false

/-- Accepted class L and H values of a block apply (R97). -/
def State.applyWaiting (s : State) (b : Block) : State :=
  if b.copiedFirst then
    let mine := s.prof.copied.filter fun v => blockOf v.id v.inst == b
    let rest := s.prof.copied.filter fun v => !(blockOf v.id v.inst == b)
    mine.foldl State.applyValue { s with prof := { s.prof with copied := rest } }
  else
    let mine := s.wcp.waitingVals.filter fun v => blockOf v.id v.inst == b
    let rest := s.wcp.waitingVals.filter fun v => !(blockOf v.id v.inst == b)
    mine.foldl State.applyValue { s with wcp := { s.wcp with waitingVals := rest } }

/-- On a standby the active's committed values of a block apply at its boundary (R100). -/
def State.applyTwin (s : State) (b : Block) : State :=
  let mine := s.wcp.twinCommit.filter fun v => blockOf v.id v.inst == b
  let rest := s.wcp.twinCommit.filter fun v => !(blockOf v.id v.inst == b)
  mine.foldl State.applyCommitted { s with wcp := { s.wcp with twinCommit := rest } }

/-- The boundary of a block: accepted class L and H values, and committed class S values the block's copy has carried, apply (R97, R98, R100). -/
def State.boundary (s : State) (b : Block) : State :=
  let s := (s.applyWaiting b).applyTwin b
  match s.wcp.commit with
  | none => s
  | some c =>
    if !c.carried b then s else
      let mine := c.entries.filter fun v => blockOf v.id v.inst == b
      let rest := c.entries.filter fun v => !(blockOf v.id v.inst == b)
      mine.foldl State.applyCommitted { s with wcp := { s.wcp with commit := some { c with entries := rest } } }

end Sys2Proof.Machine
end

