-- ==== Sys2Proof/Machine/Flags.lean ====
section
/-! DEFINITION. The status words and read-only values the dictionary shows (R94): each computed from the state fields that are
its one home. -/

namespace Sys2Proof.Machine
open Sys2Proof

/-- SYS.CLUSTER_STATUS (Table 1.3). -/
def Cluster.word (c : Cluster) (estimator : Bool) : Nat :=
  ofBits ((bitsOfNat 8 c.unitErr.toNat) ++ [c.fenced, estimator && c.unitsOut != 0 && !c.fenced, c.retest]) + c.corr * 65536
where
  bitsOfNat (n v : Nat) : List Bool := (List.range n).map fun i => v.testBit i

/-- The cluster of an instance (Table 1.3). -/
def State.cluster (s : State) (i : Nat) : Cluster := if i < 4 then s.sys.est.get i else s.sys.lane.get (i - 4)

def State.setCluster (s : State) (i : Nat) (c : Cluster) : State :=
  if i < 4 then { s with sys := { s.sys with est := s.sys.est.set i c } }
  else { s with sys := { s.sys with lane := s.sys.lane.set (i - 4) c } }

/-- SYS.ROLE_LINES (Table 1.10). -/
def State.roleLines (s : State) : Nat := ofBits [s.sys.roleOut, s.sys.roleIn, s.permit]

/-- The part of LOOP.STATUS that the period just computed gives (Table 7.8). -/
def State.statusWord (s : State) (c : Nat) : Nat :=
  let l := s.lane c
  l.winner + 16 * ofBits [l.charge, l.injGate, l.injFull, l.ilHeld, l.dutySat, l.slowStale, l.slowPartial, l.estStale, l.deadline]
    + s.loop.period.toNat % 65536 * 65536

/-- LOOP.STATUS of a channel as the last release instant left it (R201). -/
def State.loopStatus (s : State) (c : Nat) : Nat := fieldAt (s.loop.records.get c) 0 4

/-- A WSF connection entry: CONN_ID, KIND, TRANSPORT, PERIOD_MS, peer, WD_MS (Table 12.7). -/
structure WsfEntry where
  id : Nat
  kind : Nat
  transport : Nat
  period : Nat
  peer : Nat
  wd : Nat
  deriving DecidableEq, Repr

/-- Entry k of SAFE.WSF_CONN: an IPv4 peer is big-endian, a CAN identifier little-endian (Table 12.7). -/
def State.wsfEntry (s : State) (k : Nat) : WsfEntry :=
  let b := slice (s.par 0x628 0) (16 * k) 16
  let t := fieldAt b 5 1
  { id := fieldAt b 0 4, kind := if fieldAt b 0 4 = 0 then 0 else fieldAt b 4 1, transport := t, period := fieldAt b 6 2,
    peer := if t = 0 then ofBe (slice b 8 4) else fieldAt b 8 4, wd := fieldAt b 12 2 }

/-- The consumed connections. -/
def State.consumed (s : State) : List Nat := (List.range 4).filter fun k => (s.wsfEntry k).kind == 1

/-- Every consumed connection is in RUN with a permit bit set (R350, R539). -/
def State.wsfPermits (s : State) (bit : Nat) : Bool :=
  s.consumed.all fun k => (s.safe.wsf.get k).state == 1 && (s.safe.wsf.get k).data.getLsbD bit

/-- The safety-core gate of a channel (R220, R539). -/
def State.gateSafe (s : State) (c : Nat) : Bool := !(s.ch c).gateSafeShut && s.isActive && s.wsfPermits (4 + c)
/-- Turnip's gate of a channel: its own latch and the role condition of R28 (R220). -/
def State.gateTurnip (s : State) (c : Nat) : Bool := !(s.ch c).gateTurnipShut && s.permit

/-- PSI.DS_STATUS of a channel (Table 8.7). -/
def State.dsStatus (s : State) (c : Nat) : Nat :=
  let x := s.ch c
  x.stuck.toNat + 8 * x.frozen.toNat
    + 64 * ofBits [x.clkLoss, x.clkRange, x.gdf, x.turnipStuck, x.oc, x.rbActive, x.rbShadow, x.loopFail, x.hwDisable, s.gateSafe c,
        s.gateTurnip c]

/-- A commissioning test runs on a channel (R364). -/
def State.ctOn (s : State) (c : Nat) : Bool :=
  match s.safe.ct with
  | some t => t.ch == c && t.begun.isSome
  | none => false

/-- Pairs whose cells have the pair bounds of R154: a middle tap open, or row 4 of Table 6.6. -/
def NodeSt.bounded (x : NodeSt) : List Nat := (List.range 15).filter fun j => x.wireFault.getLsbD (j + 1) || x.boundPairs.contains j

/-- A cell belongs to a bounded pair. -/
def NodeSt.inPair (x : NodeSt) (i : Nat) : Bool := x.bounded.any fun j => i == j || i == j + 1

/-- CELL.UNMEASURED follows from the wire faults, path-A faults and faults in full (R147, R153, Table 6.6). -/
def NodeSt.remask (x : NodeSt) : NodeSt :=
  { x with unmeasured := if x.full then 0xFFFF else BitVec.ofNat 16 (ofBits ((List.range 16).map fun i =>
      x.inPair i || (i == 0 && x.wireFault.getLsbD 0) || (i == 15 && x.wireFault.getLsbD 16))) }

/-- A cell whose bounds count: measured, or in a bounded pair of a node not unmeasured in full (R125, R154). -/
def NodeSt.judged (x : NodeSt) (i : Nat) : Bool := !x.unmeasured.getLsbD i || (!x.full && x.inPair i)

/-- RING.BREAK (Table 5.13). -/
def breakWord : Option (Nat × Nat) → Nat
  | none => 0xFFFF
  | some (k, k') => k + 256 * k'

/-- An estimator cluster is in service: not fenced and not under test (R12, R466). -/
def State.clusterIn (s : State) (k : Nat) : Bool := !(s.sys.est.get k).fenced && !(s.bist.running.any fun b => b.1 == 0x10 + k)

/-- Estimator units in service (R12, R15). -/
def State.estUnits (s : State) : Nat :=
  ([0, 1, 2, 3].map fun k => if s.clusterIn k then 8 - (bitsSet 8 (s.sys.est.get k).unitsOut.toNat).length else 0).sum

/-- Estimator clusters in service. -/
def State.estClusters (s : State) : Nat := ([0, 1, 2, 3].filter fun k => s.clusterIn k).length

/-- EST.FILTER_HZ_RUN (R15): the lower of the configured rate and 1.875 Hz per unit in service, rounded down. -/
def State.filterHz (s : State) : Nat := min (s.parN 0x500 0) (15 * s.estUnits / 8)

/-- Whether a block is halted for a parameter's instance (Table 4.14). A string's contactors and a channel's state are the pair's: a standby has them
from the active's copies, so it judges a mirrored write as the active does (R92). -/
def State.halted (s : State) (id inst : Nat) : Bool :=
  match blockOf id inst with
  | .channels => if id = 0x300 then [0, 1, 2, 3].all fun c => (s.ch c).state == 0 else (s.ch inst).state == 0
  | .reference => s.prof.idle inst && !s.genOn inst
  | .axes => if id < 0x440 then s.prof.idle inst && !s.genOn inst else s.prof.bridgeOff inst
  | .field => !s.isActive || (s.parN 0x482 0 == 0 && s.fioQuiet)
  | .ring r => !s.closed r && (s.ring r).mode == 0
  | .estimator => s.sys.lifecycle == .isolated || s.sys.lifecycle == .safe || s.sys.lifecycle == .update
      || s.sys.lifecycle == .replay || (([0, 1, 2, 3].all fun c => !s.closed c) && s.est.noRun)
  | .safety => (s.safe.so.all fun p => !(p.2.p || p.2.t)) && ((List.range 8).all fun n => !s.twinSoOn n) && s.safe.ct.isNone
  | .twin => s.sys.lifecycle == .isolated
  | .immediate =>
    if 0x802 ≤ id ∧ id ≤ 0x808 ∧ inst = 0 then s.parN 0x800 0 == 0 && s.parN 0x800 1 == 0
    else if 0x800 ≤ id ∧ id < 0x860 then s.parN 0x800 inst == 0
    else if 0x860 ≤ id ∧ id < 0x8C0 then s.parN 0x860 0 == 0
    else if 0x8C0 ≤ id ∧ id < 0x900 then s.parN 0x8C0 inst == 0
    else !s.isActive

/-- Blocks that still pass boundaries in their halted condition (R97). The safety block's boundary is both channels' storing of it (R361). -/
def Block.passesHalted : Block → Bool
  | .estimator => true
  | .field => true
  | .twin => true
  | .safety => true
  | .immediate => true
  | _ => false

/-- A value takes effect where it stands, with no boundary to wait for: its block is halted and passes none (R97). -/
def State.atOnce (s : State) (v : Shadow) : Bool := s.halted v.id v.inst && !(blockOf v.id v.inst).passesHalted

/-- What a copy has just carried applies at once where no boundary is to come (R97, R100). -/
def State.settle (s : State) : State :=
  match s.wcp.commit with
  | none => s
  | some c =>
    let now_ := c.entries.filter fun v => s.atOnce v && c.carried (blockOf v.id v.inst)
    let rest := c.entries.filter fun v => !(s.atOnce v && c.carried (blockOf v.id v.inst))
    now_.foldl State.applyCommitted { s with wcp := { s.wcp with commit := some { c with entries := rest } } }

/-- The same for the active's committed values on a standby. -/
def State.settleTwin (s : State) : State :=
  let now_ := s.wcp.twinCommit.filter s.atOnce
  now_.foldl State.applyCommitted { s with wcp := { s.wcp with twinCommit := s.wcp.twinCommit.filter fun v => !s.atOnce v } }

/-- A state copy leaves and carries the COMMIT in progress with it (R100). -/
def State.place (s : State) (k : CopyPart) : State :=
  match s.wcp.commit with
  | none => s
  | some c =>
    if c.placed.contains k then s
    else ({ s with wcp := { s.wcp with commit := some { c with placed := k :: c.placed } } }).settle

/-- The end-of-cycle state copy takes the accepted generator and axis values and the COMMIT in progress with it (R100, R241). -/
def State.copyValues (s : State) : State :=
  let go := s.wcp.waitingVals.filter fun v => (blockOf v.id v.inst).copiedFirst
  let rest := s.wcp.waitingVals.filter fun v => !(blockOf v.id v.inst).copiedFirst
  ({ s with wcp := { s.wcp with waitingVals := rest }, prof := { s.prof with copied := s.prof.copied ++ go } }).place .loop

/-- Whether the module sends that copy at all as it stands: the active sends them while what they copy runs (R377 to R381); a copy that nothing sends
holds no COMMIT back. -/
def State.copyRuns (s : State) : CopyPart → Bool
  | .loop => s.isActive && s.sys.power == .p0
  | .ring r => s.isActive && (s.ring r).sweeping
  | .est => s.isActive && 0 < s.filterHz
  | .safety => s.isActive
  | .link => s.twin.linkUp
  | .none => false

/-- The copies of a set that nothing sends. -/
def State.unsent (s : State) (vs : List Shadow) : List CopyPart :=
  ((vs.map fun v => (blockOf v.id v.inst).copyPart).dedup).filter fun k => !s.copyRuns k

/-- The field die is powered and not lost (Tables 1.6, 1.7). -/
def State.fieldOn (s : State) : Bool := s.sys.power != .p4 && s.sys.power != .p5 && !s.sys.diesLost.getLsbD 3

end Sys2Proof.Machine
end

