-- ==== Sys2Proof/Machine/RingOps.lean ====
section
/-! DEFINITION. What a ring's master ports carry (05 R109 to R114, R129, R134): idle sets, SYNC sets and frames, the port a command leaves from, and
what awaits a reply. -/

namespace Sys2Proof.Machine
open Sys2Proof

/-! ### Ordered sets and frames -/

/-- CRC-16 of R113. -/
def crc16 (bs : Bytes) : Nat := crcUp 16 0x1021 0xFFFF bs

/-- The check byte of an ordered set's data bytes (R109). -/
def setCheck (data : Bytes) : Byte := data.foldl (fun a b => a ^^^ b) 0x5A

/-- Characters 1 to 5 of an idle set as the master originates it: the mask zero (R110, R127). -/
def idleSet : Bytes := [0, 0, 0, 0] ++ [setCheck [0, 0, 0, 0]]

/-- Bytes 0 to 5 + LEN of a frame (Table 5.3). -/
def ringFrame (type addr tag : Nat) (data : Bytes) : Bytes :=
  let b := u8 type ++ u8 addr ++ u8 data.length ++ u8 tag ++ data
  b ++ u16 (crc16 b)

/-- A ring's transmitters are on: not stopped (R136), or its nodes are being loaded (19 R514). -/
def State.ringRuns (s : State) (r : Nat) : Bool := (s.ring r).mode != 0 || (s.upd.state == 8 && s.upd.nodeRings.contains r)

/-- The enumerated nodes of a ring. -/
def State.ringNodes (s : State) (r : Nat) : List Nat := (List.range (s.ring r).n).map (· + 1)

/-- What a port of the ring carries whenever no frame or SYNC set is sent (R110): idle sets, while the module's transmitters are enabled (2 R46), the ring
is powered (R129) and its transceiver in service (1 R11). -/
def State.ringLine (s : State) (r : Nat) (q : Bool) : Option Bytes :=
  if s.sys.roleOut && !s.sys.roleIn && s.sys.power != .p4 && s.sys.power != .p5 && s.ringRuns r && !s.sys.diesLost.getLsbD 2
      && !s.sys.trxErr.getLsbD (2 * r + q.toNat) then some idleSet else none

/-- Frames and SYNC sets are sent: in P3 the rings carry idle sets only, until the nodes are put to SLEEP for P4 (R129). -/
def State.framesOn (s : State) : Bool := s.sys.power != .p3 || s.sys.target == some .p4

/-- A port can send a frame. -/
def State.canSend (s : State) (r : Nat) (q : Bool) : Bool := (s.ringLine r q).isSome && s.framesOn

/-- A frame leaves a port, an idle set before it (R110, R113). -/
def State.sendFrame (s : State) (r : Nat) (q : Bool) (type addr tag : Nat) (data : Bytes) : State :=
  match s.ringLine r q with
  | some idle => if s.framesOn then s.emit (.ring r q idle (ringFrame type addr tag data)) else s
  | none => s

/-- A broadcast frame from both ports. -/
def State.sendBoth (s : State) (r type : Nat) (data : Bytes) : State := (s.sendFrame r false type 0xFF 0 data).sendFrame r true type 0xFF 0 data

/-- A SYNC set leaves PTX and QTX at an instant (R111, Tables 5.1 and 5.2). -/
def State.syncOut (s : State) (r flags fine depart : Nat) : State :=
  let data := u8 (s.ring r).sweep.toNat ++ u8 flags ++ u8 fine
  if s.canSend r false || s.canSend r true then s.emit (.sync r (data ++ [setCheck data]) depart) else s

/-! ### The way to a node -/

/-- The nodes next to the recorded breaks: the last one that P reaches and the first one that Q reaches (R131, R134). -/
def RingSt.cut (x : RingSt) : Option (Nat × Nat) :=
  match x.brk, x.brk2 with
  | none, _ => none
  | some a, none => some a
  | some a, some b => some (min a.1 b.1, max a.2 b.2)

/-- The port a command to a node leaves from, Q or not (R123, R131): QTX in NORMAL, the node's own half beside a break. -/
def RingSt.port (x : RingSt) (node : Nat) : Bool :=
  match x.cut with
  | some (k, _) => decide (k < node)
  | none => true

/-- A node is reached from one of the ports (R134). -/
def RingSt.reaches (x : RingSt) (node : Nat) : Bool :=
  match x.cut with
  | some (k, m) => decide (node ≤ k ∨ m ≤ node)
  | none => true

/-- A command frame to a node goes out under the next tag (Table 5.3). -/
def State.command (s : State) (r node type : Nat) (data : Bytes) : State :=
  let x := s.ring r
  if !s.canSend r (x.port node) then s
  else (s.setRing r { x with tag := x.tag + 1 }).sendFrame r (x.port node) type node (x.tag + 1).toNat data

/-- Send a node command and await its reply (R114). -/
def State.sendCmd (s : State) (r node type : Nat) (data : Bytes) (h : Option Hdr) (arg : Nat) : State :=
  let x := s.ring r
  if !s.canSend r (x.port node) then s
  else (s.command r node type data).updRing r fun y => { y with reqs := y.reqs ++ [⟨node, type, (x.tag + 1).toNat, x.port node, h, arg⟩] }

/-- A host's command to a node, or 0x0105 where the ring's port cannot send (assumption log 187). -/
def State.hostCmd (s : State) (r node type : Nat) (data : Bytes) (h : Hdr) (arg : Nat) (refuse : State → State) : State :=
  if s.canSend r ((s.ring r).port node) then s.sendCmd r node type data (some h) arg else refuse s

/-- A broadcast from the ports that reach nodes: both beside a break, QTX otherwise. -/
def State.broadcast (s : State) (r type : Nat) (data : Bytes) : State :=
  if (s.ring r).cut.isSome then s.sendBoth r type data else s.sendFrame r true type 0xFF 0 data

end Sys2Proof.Machine
end

