-- ==== Sys2Proof/Machine/Values.lean ====
section
/-! DEFINITION. What a parameter value must satisfy: its range at the write (R94, R96, the parameter tables) and the consistency a
COMMIT checks against the applied values (R99, with R168, R191, R204, R211, R213, R219, R253, R278, R312, R430, R439). -/

namespace Sys2Proof.Machine
open Sys2Proof

/-- The little-endian words of a blob, `w` bytes each. -/
def words (w : Nat) : Nat → Bytes → List Nat
  | 0, _ => []
  | n + 1, bs => ofLe (bs.take w) :: words w n (bs.drop w)

/-- A gain table (07 Table 7.6). -/
def gainTableOk (b : Bytes) : Bool :=
  ((words 2 33 b).all fun t => t ≤ 32767) && fieldAt b 66 1 ≤ 7 && fieldAt b 67 1 ≤ 7

/-- Parameters whose value is a gain table. -/
def isGainTable (id : Nat) : Bool := [0x312, 0x319, 0x321, 0x332, 0x338].contains id

/-- A value as the module reads it: reserved bits and bytes are ignored (R5) and kept as zero. -/
def readValue (id : Nat) (v : Bytes) : Bytes :=
  let masked := fun (m : Nat) => leBytes v.length (ofLe v &&& m)
  if (PRow.find id).any fun r => r.ty == 4 then masked 0x7FFFF
  else if isGainTable id then patch v 68 [0, 0]
  else match id with
    | 0x301 => masked 0x7E
    | 0x340 => (words 4 5 v).flatMap fun w => u32 (w &&& 0x7FFFF)
    | 0x860 => masked 3
    | 0x8C3 => masked 0xFF01
    | 0x901 => masked 0x3FFE
    | _ => v

/-- Numeric range of a scalar by its type code; `hi` may be the applied value of another parameter. -/
def scalarIn (ty lo hi v : Nat) : Bool :=
  match ty with
  | 3 => decide ((lo : Int) ≤ toSigned 16 v ∧ toSigned 16 v ≤ (hi : Int))
  | 4 => true
  | 5 => match f32Val v with
    | some q => decide (f32 lo ≤ q ∧ q ≤ f32 hi)
    | none => false
  | 6 => true
  | _ => lo ≤ v && v ≤ hi

/-- The value of a q15x coefficient. -/
def Q15x.val (c : Q15x) : ℚ := (c.m * 2 ^ c.s : Int) / 32768

/-- Conditions of single parameters beyond a plain range. -/
def specialOk (get : Nat → Nat → Bytes) (id inst : Nat) (v : Bytes) : Bool :=
  let n := ofLe v
  let f := f32 n
  match id with
  | 0x01A => fieldAt v 6 4 < 1000000000
  | 0x288 => n == 0 || (2500 ≤ n && n ≤ 4300)
  | 0x300 => n % 100 == 0
  | 0x309 => decide (0 ≤ (q15xDec n).val ∧ (q15xDec n).val ≤ 1)
  | 0x313 => decide (0 ≤ (q15xDec n).m)
  | 0x31A => decide (0 ≤ (q15xDec n).m)
  | 0x322 => decide (0 ≤ (q15xDec n).m)
  | 0x333 => decide (0 ≤ (q15xDec n).m)
  | 0x339 => decide (0 ≤ (q15xDec n).m)
  | 0x400 => if inst ≥ 4 then decide (1 ≤ f ∧ f ≤ 1024000) else true
  | 0x404 => inst < 4 || decide (100 ≤ f)
  | 0x405 => inst < 4 || decide (100 ≤ f)
  | 0x406 => inst < 4 || decide (100 ≤ f)
  | 0x407 => inst < 4 || decide (100 ≤ f)
  | 0x408 => decide (f32 (ofLe (get 0x406 inst)) ≤ f ∧ f32 (ofLe (get 0x407 inst)) ≤ f)
  | 0x445 => decide (f = 0 ∨ (f32 1036831949 ≤ f ∧ f ≤ 100))
  | 0x44A => n ≤ 15 || n == 255
  | 0x44D => decide (toSigned 48 (fieldAt v 0 6) < toSigned 48 (fieldAt v 6 6))
  | 0x485 => v.all fun b => b.toNat ≤ 2
  | 0x528 => (words 2 3 v).all fun w => 1 ≤ w && w ≤ 1000
  | 0x529 => (words 2 3 v).all fun w => 1 ≤ w && w ≤ 1000
  | 0x581 => (words 2 5 v).sum ≤ 32767
  | 0x61B => n ≤ 15 || n == 255
  | 0x803 => ((List.range 33).map fun k => 2 ^ 32 - 2 ^ (32 - k)).contains n
  | 0x806 => n < 32768 || (1 ≤ n % 4096 && n % 4096 ≤ 4094)
  | 0x862 => !(ofLe (get 0x861 0) == 1) || n == 1
  | 0x863 => !(ofLe (get 0x861 0) == 1) || n == 0
  | 0x8C3 => n / 256 ≤ 127
  | _ => !isGainTable id || gainTableOk v

/-- R242 on a generator's limits. -/
def profOk (get : Nat → Nat → Bytes) (inst : Nat) : Bool :=
  let f : Nat → ℚ := fun i => f32 (ofLe (get i inst))
  decide (f 0x401 ≤ f 0x403 ∧ f 0x403 ≤ f 0x400 ∧ f 0x402 ≤ f 0x403 ∧ 0 < f 0x404 ∧ 0 < f 0x405 ∧ 0 < f 0x406 ∧ 0 < f 0x407
    ∧ f 0x406 ≤ f 0x408 ∧ f 0x407 ≤ f 0x408)

/-- A value within the parameter's range (Table 4.12 bounds, the parameter tables), with the applied values `get`. -/
def valueOk (get : Nat → Nat → Bytes) (r : PRow) (inst : Nat) (v : Bytes) : Bool :=
  v.length == r.size
    && (r.ty == 8 || scalarIn r.ty r.lo (if r.hiRef = 0 then r.hi else ofLe (get r.hiRef (if inst < ((PRow.find r.hiRef).map (·.inst)).getD 1 then inst else 0))) (ofLe v))
    && specialOk get r.id inst v

/-! ### COMMIT consistency -/

/-- The five coefficients of a notch blob (07 Table 7.7) keep |a2| < 1 and |a1| < 1 + a2 (R191). -/
def notchOk (b : Bytes) : Bool :=
  let a1 := (q15xDec (fieldAt b 12 4)).val
  let a2 := (q15xDec (fieldAt b 16 4)).val
  decide (|a2| < 1 ∧ |a1| < 1 + a2)

/-- A coefficient of magnitude below 128 (R211). -/
def gainEncodes (g fs : ℚ) : Bool := decide (fs ≠ 0 ∧ |g / fs| < 128)

/-- Bit timing in range and its rate in bit/s as a fraction of 80 MHz (R430). -/
def canRate (b : Bytes) : ℚ := 80000000 / (fieldAt b 0 1 * (1 + fieldAt b 1 2 + fieldAt b 3 1) : Nat)

def canTimingOk (b : Bytes) (t1lo t1hi t2hi : Nat) : Bool :=
  1 ≤ fieldAt b 0 1 && fieldAt b 0 1 ≤ 32 && t1lo ≤ fieldAt b 1 2 && fieldAt b 1 2 ≤ t1hi && 1 ≤ fieldAt b 3 1
    && fieldAt b 3 1 ≤ t2hi && 1 ≤ fieldAt b 4 1 && fieldAt b 4 1 ≤ fieldAt b 3 1

/-- Strictly increasing bin centres at least 1 °C apart (Table 10.3). -/
def binsOk : List Int → Bool
  | a :: b :: t => decide (a + 100 ≤ b) && binsOk (b :: t)
  | _ => true

def nonDecreasing : List Nat → Bool
  | a :: b :: t => a ≤ b && nonDecreasing (b :: t)
  | _ => true

/-- R278 on one relaxation table. -/
def rcOk (b : Bytes) : Bool :=
  let f := fun i => f32Val (fieldAt b (4 * i) 4)
  match f 0, f 1, f 2, f 3, f 4, f 5 with
  | some r1, some t1, some r2, some t2, some g, some h =>
    decide (0 ≤ r1 ∧ r1 ≤ 10 ∧ 0 ≤ r2 ∧ r2 ≤ 10 ∧ 1 / 100 ≤ t1 ∧ t1 < t2 ∧ t2 ≤ 10000 ∧ 0 ≤ g ∧ g ≤ 1000 ∧ 9 / 10 ≤ h ∧ h ≤ 1)
  | _, _, _, _, _, _ => false

/-- The tones of R312: whole cycles in a window, none zero, none above 200 Hz, none two or three times another. -/
def tonesOk (b : Bytes) (windowS : Nat) : Bool :=
  let t := words 2 5 b
  t.all fun f => 0 < f && f ≤ 2000 && f * windowS % 10 == 0 && t.all fun g => f != 2 * g && f != 3 * g

/-- The rms of a micro-step table stays within 0.8 A (R253). -/
def ustepOk (b : Bytes) (peak : ℚ) : Bool :=
  let sq : Nat := ((words 2 256 b).map fun (t : Nat) => t * t).foldl (fun (a b : Nat) => a + b) 0
  decide ((sq : ℚ) * peak * peak ≤ (64 / 100) * (256 * 65535 * 65535 : ℚ))

/-- A sweep period holds the train (05 R123, R135): SYNC lead, train, the ring's delay and the margins. -/
def trainFits (hz nodes lead : Nat) : Bool :=
  decide ((if hz = 0 then 0 else (2 * 1000000 + hz) / (2 * hz) * 1000) ≥ lead + 20000 + (nodes - 1) * 28800 + 24800 + 40000)

/-- The consistency of one entry with the values that would stand after the COMMIT (`get`). -/
def entryOk (get : Nat → Nat → Bytes) (id inst : Nat) : Bool :=
  let n : Nat → Nat := fun i => ofLe (get i inst)
  let g : Nat → Nat := fun i => ofLe (get i 0)
  let f : Nat → ℚ := fun i => f32 (n i)
  let v := get id inst
  let period : ℚ := (g 0x300 : ℚ)
  match id with
  | 0x286 => n 0x286 + 5 ≤ n 0x287
  | 0x287 => n 0x286 + 5 ≤ n 0x287
  | 0x305 => decide (f 0x305 ≤ f 0x302)
  | 0x306 => decide (f 0x306 ≤ f 0x302)
  | 0x307 => decide (n 0x307 < n 0x308) && decide ((n 0x38C : ℚ) ≤ (n 0x307 : ℚ) * period / 32768)
  | 0x308 => decide (n 0x307 < n 0x308 ∧ ((2 * n 0x38B + n 0x38C : Nat) : ℚ) ≤ (1 - (n 0x308 : ℚ) / 32768) * period)
  | 0x38B => decide (((2 * n 0x38B + n 0x38C : Nat) : ℚ) ≤ (1 - (n 0x308 : ℚ) / 32768) * period)
  | 0x38C => decide ((n 0x38C : ℚ) ≤ (n 0x307 : ℚ) * period / 32768
      ∧ ((2 * n 0x38B + n 0x38C : Nat) : ℚ) ≤ (1 - (n 0x308 : ℚ) / 32768) * period)
  | 0x310 => decide (f 0x310 < f 0x311)
  | 0x311 => decide (f 0x310 < f 0x311)
  | 0x318 => decide (f 0x318 * 1000 + 20 ≤ g 0x600)
  | 0x320 => decide ((g 0x601 : ℚ) + 20 ≤ f 0x320 * 1000)
  | 0x328 => decide (f 0x328 < f 0x329)
  | 0x329 => decide (f 0x328 < f 0x329)
  | 0x330 => decide (f 0x330 < f 0x331)
  | 0x331 => decide (f 0x330 < f 0x331)
  | 0x340 => notchOk v
  | 0x383 => gainEncodes (f 0x383) (f 0x302)
  | 0x384 => decide (|f 0x384| ≤ f 0x302)
  | 0x385 => gainEncodes (f 0x385) (f 0x303)
  | 0x386 => decide (|f 0x386| ≤ f 0x303)
  | 0x387 => gainEncodes (f 0x387) (f 0x303)
  | 0x388 => decide (|f 0x388| ≤ f 0x303)
  | 0x440 => ustepOk (get 0x444 inst) (f 0x440)
  | 0x444 => ustepOk v (f 0x440)
  | 0x504 => binsOk ((words 2 8 v).map (toSigned 16))
  | 0x505 => nonDecreasing (words 2 101 v)
  | 0x507 => (words 2 11 v).all fun w => 1024 ≤ w
  | 0x508 => rcOk v
  | 0x200 => trainFits (n 0x200) (n 0x201) (n 0x202)
  | 0x201 => trainFits (n 0x200) (n 0x201) (n 0x202)
  | 0x202 => trainFits (n 0x200) (n 0x201) (n 0x202)
  | 0x520 => g 0x533 < g 0x520
  | 0x521 => g 0x521 < g 0x525 && g 0x521 < g 0x534
  | 0x525 => g 0x521 < g 0x525 && g 0x525 < g 0x534
  | 0x533 => g 0x533 < g 0x520
  | 0x534 => g 0x521 < g 0x534 && g 0x525 < g 0x534
  | 0x528 => let w := words 2 3 v
             w.getD 1 0 < w.getD 0 0 && w.getD 2 0 < w.getD 1 0 && 0 < w.getD 2 0
  | 0x529 => let w := words 2 3 v
             w.getD 1 0 < w.getD 0 0 && w.getD 2 0 < w.getD 1 0 && 0 < w.getD 2 0
  | 0x580 => tonesOk v (g 0x582)
  | 0x582 => tonesOk (get 0x580 0) (g 0x582)
  | 0xA82 => decide (f 0xA82 < f32 (g 0x605))
  | 0xA83 => decide (f 0xA83 < f32 (g 0x606))
  | 0x8C1 => canTimingOk v 2 256 128 && decide (canRate v ≤ 1000000 ∧ canRate v ≤ canRate (get 0x8C2 inst))
  | 0x8C2 => canTimingOk v 1 32 16 && decide (canRate v ≤ 8000000 ∧ canRate (get 0x8C1 inst) ≤ canRate v)
  | _ => true

/-- The consume entries of a SAFE.WSF_CONN value exist (Table 12.7). -/
def consumesAny (b : Bytes) : Bool := (List.range 4).any fun k => fieldAt b (16 * k) 4 != 0 && fieldAt b (16 * k + 4) 1 == 1

/-- The threshold counts of a channel lie within 0.95 M² (R344, R361). -/
def ocInBounds (m : Nat) (g o dis chg : ℚ) : Bool :=
  let n := fun (i : ℚ) => rhe ((m * m : Nat) * (i - o) / g)
  decide (g ≠ 0 ∧ (|n dis| : ℚ) ≤ 95 / 100 * (m * m : Nat) ∧ (|n (-chg)| : ℚ) ≤ 95 / 100 * (m * m : Nat))

/-- The conditions of R361, with those of R204 and R475 on the safety block, for one channel. -/
def safeChannelOk (get : Nat → Nat → Bytes) (c : Nat) : Bool :=
  let n : Nat → Nat := fun i => ofLe (get i c)
  let g : Nat → Nat := fun i => ofLe (get i 0)
  let f : Nat → ℚ := fun i => f32 (n i)
  let m := n 0x608
  decide (f 0x329 < f32 (g 0x605) ∧ ((2 * m - 1 : Nat) : ℚ) / (n 0x380 : ℚ) * 1000000000 + 300 ≤ 3000
    ∧ |f 0x60B - f 0x383| ≤ |f 0x383| / 1000 ∧ |f 0x60C - f 0x384| ≤ f 0x302 / 1000
    ∧ f32 (g 0x631) ≤ f 0x609 ∧ f32 (g 0x631) ≤ f 0x60A ∧ f 0x318 * 1000 + 20 ≤ g 0x600 ∧ (g 0x601 : ℚ) + 20 ≤ f 0x320 * 1000)
  && ocInBounds m (f 0x60B) (f 0x60C) (f 0x609) (f 0x60A)

/-- A set with values of the safety block is consistent (R204, R361, R475). -/
def safeOk (get : Nat → Nat → Bytes) : Bool :=
  let g : Nat → Nat := fun i => ofLe (get i 0)
  decide (g 0x601 < g 0x603 ∧ g 0x603 < g 0x604 ∧ g 0x604 < g 0x600 ∧ f32 (g 0x630) < f32 (g 0x631)
    ∧ f32 (g 0xA82) < f32 (g 0x605) ∧ f32 (g 0xA83) < f32 (g 0x606))
  && (g 0x61B != 255 || (g 0x61C == 1 && consumesAny (get 0x628 0))) && [0, 1, 2, 3].all (safeChannelOk get)

/-- A value of the safety block (R360). -/
def inBlock (id : Nat) : Bool := 0x600 ≤ id && id < 0x680

/-- Every channel's filter spans at most one period (R213). -/
def decimationOk (get : Nat → Nat → Bytes) : Bool :=
  (List.range 4).all fun c => decide ((ofLe (get 0x382 c) : ℚ) ≤ (ofLe (get 0x380 c) * ofLe (get 0x300 0) : Nat) / 1000000000)

/-- The values after a set: the set's last entry for a parameter, else the applied one. -/
def overlay (get : Nat → Nat → Bytes) (set : List Shadow) (id inst : Nat) : Bytes :=
  match (set.reverse).find? fun v => v.id = id ∧ v.inst = inst with
  | some v => v.value
  | none => get id inst

/-- A condition on the whole set with the parameters it names. -/
structure SetCond where
  ids : List (Nat × Nat)
  ok : Bool
  deriving DecidableEq, Repr

/-- The conditions of R204, R213 and R219 on one channel: they hold of the values that would apply, whatever the set holds. -/
def channelConds (get : Nat → Nat → Bytes) (c : Nat) : List SetCond :=
  let n : Nat → Nat := fun i => ofLe (get i c)
  let f : Nat → ℚ := fun i => f32 (n i)
  let g : Nat → Nat := fun i => ofLe (get i 0)
  let t : ℚ := (g 0x300 : ℚ)
  [⟨[(0x310, c), (0x311, c)], decide (f 0x310 < f 0x311)⟩, ⟨[(0x330, c), (0x331, c)], decide (f 0x330 < f 0x331)⟩,
   ⟨[(0x328, c), (0x329, c)], decide (f 0x328 < f 0x329)⟩, ⟨[(0x307, c), (0x308, c)], decide (n 0x307 < n 0x308)⟩,
   ⟨[(0x305, c), (0x302, c)], decide (f 0x305 ≤ f 0x302)⟩, ⟨[(0x306, c), (0x302, c)], decide (f 0x306 ≤ f 0x302)⟩,
   ⟨[(0x318, c), (0x600, 0)], decide (f 0x318 * 1000 + 20 ≤ g 0x600)⟩,
   ⟨[(0x320, c), (0x601, 0)], decide ((g 0x601 : ℚ) + 20 ≤ f 0x320 * 1000)⟩,
   ⟨[(0x382, c), (0x380, c), (0x300, 0)], decide ((n 0x382 : ℚ) ≤ (n 0x380 * g 0x300 : Nat) / 1000000000)⟩,
   ⟨[(0x307, c), (0x38C, c), (0x300, 0)], decide ((n 0x38C : ℚ) ≤ (n 0x307 : ℚ) * t / 32768)⟩,
   ⟨[(0x308, c), (0x38B, c), (0x38C, c), (0x300, 0)], decide (((2 * n 0x38B + n 0x38C : Nat) : ℚ) ≤ (1 - (n 0x308 : ℚ) / 32768) * t)⟩]

/-- The conditions of R361 and R475 on a set with values of the safety block. -/
def safetyConds (get : Nat → Nat → Bytes) : List SetCond :=
  let g : Nat → Nat := fun i => ofLe (get i 0)
  [⟨[(0x601, 0), (0x603, 0)], decide (g 0x601 < g 0x603)⟩, ⟨[(0x603, 0), (0x604, 0)], decide (g 0x603 < g 0x604)⟩,
   ⟨[(0x604, 0), (0x600, 0)], decide (g 0x604 < g 0x600)⟩, ⟨[(0x630, 0), (0x631, 0)], decide (f32 (g 0x630) < f32 (g 0x631))⟩,
   ⟨[(0x605, 0), (0xA82, 0)], decide (f32 (g 0xA82) < f32 (g 0x605))⟩, ⟨[(0x606, 0), (0xA83, 0)], decide (f32 (g 0xA83) < f32 (g 0x606))⟩,
   ⟨[(0x61B, 0), (0x61C, 0), (0x628, 0)], g 0x61B != 255 || (g 0x61C == 1 && consumesAny (get 0x628 0))⟩]
  ++ [0, 1, 2, 3].map fun c =>
    ⟨[(0x605, 0), (0x608, c), (0x609, c), (0x60A, c), (0x60B, c), (0x60C, c), (0x631, 0), (0x600, 0), (0x601, 0)], safeChannelOk get c⟩

/-- The conditions a set must keep (R99). -/
def setConds (get : Nat → Nat → Bytes) (safe : Bool) : List SetCond :=
  [0, 1, 2, 3].flatMap (channelConds get) ++ if safe then safetyConds get else []

/-- The first offending entry of a set, by index (R99): one whose own conditions fail, or that a failed condition names; the first of all where none
is named, since then what already applies fails. -/
def firstBad (get : Nat → Nat → Bytes) (set : List Shadow) : Option Nat :=
  let g := overlay get set
  let bad := (setConds g (set.any fun v => inBlock v.id)).filter fun c => !c.ok
  match (List.range set.length).find? fun i => match set[i]? with
    | some v => !entryOk g v.id v.inst || bad.any fun c => c.ids.contains (v.id, v.inst)
    | none => false with
  | some i => some i
  | none => if bad.isEmpty then none else some 0

end Sys2Proof.Machine
end

