-- ==== Sys2Proof/Machine/Params.lean ====
section
/-! DEFINITION. Chapter 4, the dictionary: PARAM_SET and the write-one-to-clear and request parameters, COMMIT, listing,
description, storing (R94 to R101, R535), and counter snapshots (R104, R105). -/

namespace Sys2Proof.Machine
open Sys2Proof

/-- Values of the parameter that were accepted earlier and still wait give way to the last one accepted (R98). -/
def State.dropWaiting (s : State) (v : Shadow) : State :=
  let keep := fun (x : Shadow) => !(x.id == v.id && x.inst == v.inst)
  { s with wcp := { s.wcp with waitingVals := s.wcp.waitingVals.filter keep }, prof := { s.prof with copied := s.prof.copied.filter keep } }

/-- A value accepted for its block: at once where the block's boundary is immediate or the block is halted and passes none, else
at the block's next boundary (R97). -/
def State.acceptValue (s : State) (v : Shadow) : State :=
  if blockOf v.id v.inst = .immediate ∨ s.atOnce v then (s.dropWaiting v).applyValue v
  else { s with wcp := { s.wcp with waitingVals := s.wcp.waitingVals ++ [v] } }

/-- UNIT_ERR bits written as 1 clear (Table 1.3, R8). -/
def State.clearUnitErr (s : State) (inst : Nat) (v : Nat) : State :=
  let c := s.cluster inst
  s.setCluster inst { c with unitErr := c.unitErr &&& ~~~(BitVec.ofNat 8 v) }

/-- A cluster returns to service (R13). -/
def State.unfence (s : State) (inst : Nat) : State :=
  s.setCluster inst { s.cluster inst with fenced := false, retest := false, unitsOut := 0, testOk := false }

/-- RESET_CAUSE bits written as 1 clear (Table 3.4, R8). -/
def State.clearCause (s : State) (v : Nat) : State :=
  { s with sys := { s.sys with resetCause := s.sys.resetCause &&& ~~~(BitVec.ofNat 16 v &&& 0x3FF) } }

/-- A session's shadow set stays within 256 entries and 16 KB (R99). -/
def shadowRoom (sh : List Shadow) (id inst : Nat) (v : Bytes) : Bool :=
  let rest := sh.filter fun x => !(x.id == id && x.inst == inst)
  rest.length < 256 && (rest.map (·.value.length)).sum + v.length ≤ 16384

/-- The values that would apply after a set of entries: those entries, accepted values that wait, applied values (R242). -/
def State.wouldApply (s : State) (es : List SetEntry) : Nat → Nat → Bytes :=
  overlay s.par (s.prof.copied ++ s.wcp.waitingVals ++ es.map fun e => ⟨e.id.toNat, e.inst.toNat, readValue e.id.toNat e.value⟩)

/-- The status of one PARAM_SET entry (R8, R9, R92, R94, R96, R535): every check before anything is written. -/
def State.setStatus (s : State) (h : Hdr) (es : List SetEntry) (e : SetEntry) : Nat :=
  let id := e.id.toNat
  let inst := e.inst.toNat
  let get := s.wouldApply es
  let e : SetEntry := { e with value := readValue id e.value }
  match PRow.find id with
  | none => 0x0103
  | some r =>
    if !hasInstance r inst then 0x0103
    else if r.cls = 0 then 0x0104
    else if !mayWrite (s.roleOf h) (writeRole r) then 0x0106
    else if pairCoherent id r.cls ∧ h.target ≠ 0 then 0x0108
    else if id = 0x013 then
      (if (s.cluster inst).fenced ∧ (s.cluster inst).testOk ∧ e.value = ([1] : Bytes) then 0 else 0x0105)
    else if r.marks = 1 then (if e.value.length = r.size then 0 else 0x0104)
    else if !valueOk get r inst e.value ∨ (blockOf id inst = .reference ∧ !profOk get inst) ∨ (id < 0x440 ∧ blockOf id inst = .axes ∧ !profOk get inst) then 0x0104
    else if r.cls = 3 ∧ !s.halted id inst then 0x0105
    else if r.cls = 3 ∧ id = 0x300 ∧ !decimationOk (overlay s.par [⟨id, inst, e.value⟩]) then 0x0104
    else if r.cls = 3 ∧ !entryOk get id inst then 0x0104
    else if r.cls = 2 then
      match s.sess h.session.toNat with
      | some x => if shadowRoom x.shadow id inst e.value then 0 else 0x0104
      | none => 0x0106
    else 0

/-- A class S value joins the session's shadow set, replacing a pending one (R98). -/
def State.shadowSet (s : State) (sid : Nat) (v : Shadow) : State :=
  s.updSess sid fun x => { x with shadow := (x.shadow.filter fun y => !(y.id == v.id && y.inst == v.inst)) ++ [v] }

/-- A write that has applied advances the generation (R101). -/
def State.wrote (s : State) : State := { s with wcp := { s.wcp with generation := s.wcp.generation + 1 } }

/-- One accepted entry takes effect according to its class and marks (R9, R97). -/
def State.writeEntry (s : State) (h : Hdr) (e : SetEntry) : State :=
  let id := e.id.toNat
  let inst := e.inst.toNat
  let v := readValue id e.value
  match PRow.find id with
  | none => s
  | some r =>
    if id = 0x013 then (s.unfence inst).wrote
    else if id = 0x012 then (s.clearUnitErr inst (ofLe v)).wrote
    else if id = 0x017 then (s.clearCause (ofLe v)).wrote
    else if r.cls = 2 then s.shadowSet h.session.toNat ⟨id, inst, v⟩
    else s.acceptValue ⟨id, inst, v⟩

/-- The session's shadow set holds a value of the parameter. -/
def State.pending_ (s : State) (h : Hdr) (id inst : Nat) : Bool :=
  match s.sess h.session.toNat with
  | some x => x.shadow.any fun y => y.id == id && y.inst == inst
  | none => false

def setBytes (es : List SetEntry) : Bytes :=
  u16 es.length ++ es.flatMap fun e => leBytes 2 e.id.toNat ++ [e.inst, 0] ++ u16 e.value.length ++ e.value

/-- Entries in runs whose bytes fit one Shallot frame beside its session (13 Table 13.1). -/
def mirrorRuns (run : List SetEntry) : List SetEntry → List (List SetEntry)
  | [] => if run = [] then [] else [run]
  | e :: es => if run ≠ [] ∧ 510 < (setBytes (run ++ [e])).length then run :: mirrorRuns [e] es else mirrorRuns (run ++ [e]) es

/-- The reply to a SET or GET (R85, R96): DETAIL and AUX name the first failed entry by index and key, also where its status is 0x0106 or 0x0108, for
which Table 4.5 has a DETAIL of its own (assumption log 182). -/
def State.entriesReply (s : State) (op : Nat) (h : Hdr) (status : Nat) (bad : Nat × Nat × Nat) (n : Nat) (body : Bytes) : State :=
  s.reply op h status ((if status ≥ 0x0100 then u16 bad.1 ++ u32 (bad.2.1 * 256 + bad.2.2) else []) ++ u16 n ++ body)

/-- The reply entries of a SET with their statuses (Table 4.11): TYPE bit 7 shows a pending shadow value. -/
def State.setReplies (s : State) (h : Hdr) (es : List SetEntry) (sts : List Nat) : Bytes :=
  (es.zip sts).flatMap fun p =>
    leBytes 2 p.1.id.toNat ++ [p.1.inst] ++ u8 (typeOf p.1.id.toNat + if s.pending_ h p.1.id.toNat p.1.inst.toNat then 128 else 0)
      ++ u16 p.2 ++ u16 0

/-- The whole of PARAM_SET over its entries (R96): all or nothing; a pair-coherent write is mirrored to the standby (R92). -/
def State.setEntries (s : State) (h : Hdr) (es : List SetEntry) : State :=
  let sts := es.map (s.setStatus h es)
  match sts.findIdx? fun x => x != 0 with
  | some i =>
    let e := (es[i]?).getD ⟨0, 0, []⟩
    s.entriesReply 0x0101 h (sts.getD i 0) (i, e.id.toNat, e.inst.toNat) es.length (s.setReplies h es sts)
  | none =>
    let coherent := es.filter fun e => pairCoherent e.id.toNat ((PRow.find e.id.toNat).map (·.cls) |>.getD 0)
    let s := es.foldl (fun s e => s.writeEntry h e) s
    let s := if !s.isActive then s
      else (mirrorRuns [] coherent).foldl (fun s run => s.emit (.shallot 0x30 (leBytes 2 h.session.toNat ++ setBytes run))) s
    s.entriesReply 0x0101 h 0 (0, 0, 0) es.length (s.setReplies h es sts)

/-- PARAM_SET (R96). -/
def execParamSet (h : Hdr) (entries : List SetEntry) (s : State) : Result :=
  .next <| s.wcpReq 0x0101 h (setBytes entries) fun s =>
    if entries.length = 0 ∨ entries.length > 64 then s.failAll 0x0101 h (setBytes entries) 0x0102 0 0
    else s.setEntries h entries

/-- A write of SYS.CLUSTER_STATUS (R13, Table 1.3). -/
def execClusterStatusW1c (h : Hdr) (inst : Byte) (value : BitVec 32) (s : State) : Result :=
  .next <| s.wcpReq 0x0101 h (setBytes [⟨0x012, inst, leBytes 4 value.toNat⟩]) fun s =>
    s.setEntries h [⟨0x012, inst, leBytes 4 value.toNat⟩]

/-- A write of SYS.CLUSTER_UNFENCE (R13). -/
def execClusterUnfence (h : Hdr) (inst value : Byte) (s : State) : Result :=
  .next <| s.wcpReq 0x0101 h (setBytes [⟨0x013, inst, [value]⟩]) fun s => s.setEntries h [⟨0x013, inst, [value]⟩]

/-- A write of SYS.RESET_CAUSE (R67, Table 3.4). -/
def execResetCauseW1c (h : Hdr) (value : BitVec 16) (s : State) : Result :=
  .next <| s.wcpReq 0x0101 h (setBytes [⟨0x017, 0, leBytes 2 value.toNat⟩]) fun s =>
    s.setEntries h [⟨0x017, 0, leBytes 2 value.toNat⟩]

/-! ### Description -/

/-- The unit field of Table 4.12. -/
def unitBytes (r : PRow) : Bytes :=
  if (r.unit.toList.all fun c => c.toNat < 128) ∧ r.unit.length ≤ 8 then padTo 8 (ascii r.unit) else padTo 8 (Config.unitField r.id)

/-- PARAM_DESCRIBE's reply (Table 4.12). -/
def State.describe (s : State) (r : PRow) : Bytes :=
  let n := typeSize r.ty
  let hi := if r.hiRef = 0 then leBytes n r.hi else s.par r.hiRef 0
  let flags := ofBits [pairCoherent r.id r.cls, r.marks == 1, r.marks == 2, isStored r]
  u16 r.id ++ u8 r.ty ++ u8 r.cls ++ u8 (writeRole r) ++ u8 flags ++ u8 (r.inst % 256) ++ [0] ++ padTo 32 (ascii r.name) ++ unitBytes r
    ++ (if r.ty = 8 then u16 r.lo ++ List.replicate 28 0
        else padTo 10 (leBytes n r.lo) ++ padTo 10 hi ++ padTo 10 (r.base s.upd.tables s.sys.slot 0))

/-- PARAM_DESCRIBE (R95). -/
def execParamDescribe (h : Hdr) (id : BitVec 16) (s : State) : Result :=
  .next <| s.wcpReq 0x0104 h (leBytes 2 id.toNat) fun s =>
    match PRow.find id.toNat with
    | none => s.fail 0x0104 h 0x0103 0 (id.toNat * 256)
    | some r => s.reply 0x0104 h 0 (s.describe r)

/-- A number in its place among ascending ones. -/
def insertUp (n : Nat) : List Nat → List Nat
  | [] => [n]
  | m :: t => if n ≤ m then n :: m :: t else m :: insertUp n t

/-- Numbers in ascending order. -/
def ascending (l : List Nat) : List Nat := l.foldr insertUp []

/-- PARAM_LIST (Table 4.9): the IDs of a subsystem from a start index, ascending. -/
def execParamList (h : Hdr) (subsystem start : Byte) (s : State) : Result :=
  .next <| s.wcpReq 0x0105 h [subsystem, start] fun s =>
    let ids := (ascending ((dictionary.map (·.id)).filter fun i => i / 256 == subsystem.toNat)).drop start.toNat
    s.reply 0x0105 h 0 (u16 ids.length ++ ids.flatMap u16)

/-- PARAM_STORE (R101): the applied value of every stored parameter goes to the older of the two MRAM copies. -/
def State.storeParams (s : State) : State :=
  let vals := s.wcp.params.filter fun p => match PRow.find (p.1 / 256) with
    | some r => isStored r
    | none => false
  { s with wcp := { s.wcp with stored := ⟨s.wcp.generation.toNat, true, vals⟩ :: s.wcp.stored.take 1 } }

def execParamStore (h : Hdr) (s : State) : Result :=
  .next <| s.wcpReq 0x0106 h [] fun s =>
    if s.sys.vinWarn then s.fail 0x0106 h 0x0105
    else s.storeParams.reply 0x0106 h 0 (leBytes 4 s.wcp.generation.toNat)

/-! ### COMMIT (R99, R100) -/

/-- The standby's digest of a committed set (R100). -/
def setDigest (es : List Shadow) : Bytes :=
  sha256 (es.flatMap fun e => u16 e.id ++ u8 e.inst ++ [0] ++ u16 e.value.length ++ e.value)

/-- A COMMIT begins (R99): the whole set is checked against the applied values; values of the safety block need its halted condition, or 0x0105
(R361). What no copy will carry is placed at once (R100). -/
def State.beginCommit (s : State) (h : Hdr) : State :=
  match s.sess h.session.toNat with
  | none => s
  | some x =>
    if x.shadow = [] then s.reply 0x0102 h 0 (leBytes 4 s.wcp.generation.toNat)
    else
      let keyOf := fun (i : Nat) => match x.shadow[i]? with
        | some v => key v.id v.inst
        | none => 0
      match x.shadow.findIdx? fun v => inBlock v.id && !s.halted v.id v.inst, firstBad s.par x.shadow with
      | some i, _ => s.fail 0x0102 h 0x0105 i (keyOf i)
      | none, some i => s.fail 0x0102 h 0x0104 i (keyOf i)
      | none, none =>
        let s := s.setSess { x with shadow := [] }
        let c : Commit := ⟨opRef 0x0102 h, h, x.shadow, x.shadow, s.now, false, s.unsent x.shadow⟩
        ({ s with wcp := { s.wcp with commit := some c } }).settle

/-- COMMIT (R99, R100): its reply waits for the application of the set. A COMMIT that finds another in progress waits for it. -/
def execCommit (h : Hdr) (s : State) : Result :=
  .next <| s.wcpReq 0x0102 h [] fun s =>
    if s.wcp.commit.isSome then { s with wcp := { s.wcp with commitWait := s.wcp.commitWait ++ [h] } } else s.beginCommit h

/-- Waiting COMMITs begin in order until one is in progress (R99). -/
def State.nextCommit (s : State) : List Hdr → State
  | [] => { s with wcp := { s.wcp with commitWait := [] } }
  | h :: t =>
    let s := if s.isGuest 0x0102 h then ((s.guestIn 0x0102 h).beginCommit h).guestOut else s.beginCommit h
    if s.wcp.commit.isSome then { s with wcp := { s.wcp with commitWait := t } } else s.nextCommit t

/-- A value that applies immediately before the reply (Table 4.14). -/
def Shadow.immediate (v : Shadow) : Bool := blockOf v.id v.inst == .immediate

/-- COMMIT_APPLIED (R100, R101): once every other block has applied the set, what applies immediately before the reply does, the generation advances,
and the reply goes out; after 10 ms it was, or is, 0x0001, and event 0x1001 follows. -/
def execCommitApplied (s : State) : Result :=
  .next <| match s.wcp.commit with
    | none => s
    | some c =>
      let late := decide (c.since + 10000000 < s.now)
      let s := if late && !c.pending then
          ({ s with wcp := { s.wcp with commit := some { c with pending := true } } }).reply 0x0102 c.hdr 1
        else s
      if !(c.entries.all Shadow.immediate) then s
      else
        let s := c.entries.foldl State.applyCommitted s
        let s := { s with wcp := { s.wcp with commit := none, generation := s.wcp.generation + 1 } }
        let g := leBytes 4 s.wcp.generation.toNat
        let s := if late || c.pending then s.complete c.op 0 g else s.reply 0x0102 c.hdr 0 g
        s.nextCommit s.wcp.commitWait

/-! ### Snapshots (R104, R105, R135) -/

/-- SNAPSHOT_AT (R104). -/
def execSnapshotAt (h : Hdr) (instant : Time80) (s : State) : Result :=
  .next <| s.wcpReq 0x0C00 h (time80Bytes (t80 instant)) fun s =>
    if h.target ≠ 0 then s.fail 0x0C00 h 0x0108 s.activeSlot
    else if instant.ns.toNat ≥ 1000000000 ∨ (t80 instant) < s.now + 20000000 ∨ s.now + 60000000000 < (t80 instant)
      ∨ s.wcp.snaps.length ≥ 4 then s.fail 0x0C00 h 0x0104
    else
      let num := (s.wcp.lastSnap + 1) % 65536
      let slot := ((List.range 4).find? fun k => s.wcp.snaps.all fun (x : Snap) => x.slot != k).getD 0
      let snap : Snap := { num := num, instant := (t80 instant), session := h.session.toNat, slot := slot }
      let s := { s with wcp := { s.wcp with snaps := s.wcp.snaps ++ [snap], lastSnap := num } }
      (s.emit (.shallot 0x06 (u8 0 ++ u16 num ++ time80Bytes (t80 instant)))).reply 0x0C00 h 0 (u16 num)

/-- A counter of the dictionary (the chapters' notes on SNAPSHOT_AT): a read-only count that a counter register holds. -/
def PRow.isCounter (r : PRow) : Bool := r.cls == 0 && r.ty == 2 && r.id != 0x037 && (r.unit == "count" || r.id == 0x452)

/-- The counters a snapshot latches: every counter of the dictionary and CORR_COUNT of each cluster (R104). -/
def State.snapCounters (s : State) : SMap Nat :=
  ((dictionary.filter PRow.isCounter).flatMap fun r => ((List.range r.inst).filter (hasInstance r)).map fun i => (key r.id i, s.count r.id i))
    ++ (List.range 8).map fun i => (key 0x012 i, (s.cluster i).corr)

/-- The sweep period of a ring in ns (R120): 10^6 / RING.SWEEP_HZ µs rounded to the nearest microsecond, 1 ms during injection, 1 s in
P2 (Table 3.1). -/
def State.sweepNs (s : State) (r : Nat) : Nat :=
  if s.sys.power = .p2 then 1000000000
  else if (s.ring r).fast then 1000000
  else let hz := s.parN 0x200 r
    if hz = 0 then 0 else (2 * 1000000 + hz) / (2 * hz) * 1000

/-- The SYNC of a snapshot on one ring, unless SNAP rode on a regular sweep's, and the reading of its slot at every node that a port reaches (R134,
R135). -/
def State.snapRing (s : State) (r slot instant : Nat) (rode : Bool) : State :=
  let x := s.ring r
  if x.mode < 2 ∨ (x.mode = 4 ∧ x.brk2.isNone) then s else
    let dep := instant - s.parN 0x202 r
    let fine := dep % 400 / 10
    let s := if rode then s else s.syncOut r (2 + 4 * slot) fine (dep - 10 * fine)
    ((List.range x.n).filter fun i => x.reaches (i + 1)).foldl (fun s i => s.sendCmd r (i + 1) 0x13 (u8 (slot + 1)) none (slot + 1)) s

/-- A standby's latched counters in CONTROL frames, 60 in each (assumption log 66). -/
def State.sendCounters (s : State) (num : Nat) : State :=
  let vs := s.snapCounters
  (List.range ((vs.length + 59) / 60)).foldl (fun s i =>
    s.emit (.shallot 0x06 (u8 5 ++ u16 num ++ ((vs.drop (60 * i)).take 60).flatMap fun p => u16 (p.1 / 256) ++ u8 (p.1 % 256) ++ [0] ++ u32 p.2))) s

/-- SNAPSHOT_INSTANT (R104): the module's counters latch; the active asks the rings for their nodes' slots, the standby sends its counters
(assumption log 66). -/
def execSnapshotInstant (num : Nat) (s : State) : Result :=
  .next <| match s.wcp.snaps.find? fun x => x.num = num ∧ !x.latched with
    | none => s
    | some sn =>
      let s := s.advanceTo sn.instant
      let sn' := { sn with latched := true, module := s.snapCounters,
                           mask := BitVec.ofNat 32 (1 + s.fm.lastSeq % 2 ^ 24 * 256) }
      let s := { s with wcp := { s.wcp with snaps := s.wcp.snaps.map fun (x : Snap) => if x.num = num then sn' else x } }
      if s.isActive then (List.range 4).foldl (fun s r => s.snapRing r sn.slot sn.instant (sn.rode.contains r)) s
      else if s.isStandby then s.sendCounters num
      else s

/-- One counter of SNAPSHOT_READ's reply (R105). -/
def counterBytes (k v : Nat) : Bytes := u16 (k / 256) ++ u8 (k % 256) ++ [0] ++ u32 v

/-- SNAPSHOT_READ (R105). A snapshot that does not exist is 0x0104 (assumption log 186). A node the broadcast missed reads as zeros with status 0x0104, which
the layout can only show as the reply's own (assumption log 183). -/
def execSnapshotRead (h : Hdr) (num : BitVec 16) (source : Byte) (offset : BitVec 32) (s : State) : Result :=
  let pl := leBytes 2 num.toNat ++ [source] ++ leBytes 4 offset.toNat
  .next <| s.wcpReq 0x0C01 h pl fun s =>
    match s.wcp.snaps.find? fun x => x.num = num.toNat ∧ x.latched with
    | none => s.fail 0x0C01 h 0x0104
    | some sn =>
      let body : Bytes := match source.toNat with
        | 0 => sn.module.flatMap fun (p : Nat × Nat) => counterBytes p.1 p.2
        | 1 => sn.twin.flatMap fun (p : Nat × Nat) => counterBytes p.1 p.2
        | n + 2 => ((sn.nodes.at n (List.replicate 7 0)).zipIdx).flatMap fun (p : Nat × Nat) => counterBytes (p.2 * 256 + n) p.1
      let missed := 2 ≤ source.toNat && (sn.nodes.find (source.toNat - 2)).isNone
      if source.toNat > 113 then s.fail 0x0C01 h 0x0104
      else
        let out := time80Bytes sn.instant ++ leBytes 4 sn.mask.toNat ++ body.drop offset.toNat
        if missed then s.reply 0x0C01 h 0x0104 (u16 0 ++ u32 0 ++ out) else s.reply 0x0C01 h 0 out

/-- SNAPSHOT_RELEASE (R104); a snapshot that does not exist is 0x0104 (assumption log 186). -/
def execSnapshotRelease (h : Hdr) (num : BitVec 16) (s : State) : Result :=
  .next <| s.wcpReq 0x0C02 h (leBytes 2 num.toNat) fun s =>
    if s.wcp.snaps.any fun x => x.num == num.toNat then
      ({ s with wcp := { s.wcp with snaps := s.wcp.snaps.filter fun x => x.num != num.toNat } }).reply 0x0C02 h 0
    else s.fail 0x0C02 h 0x0104

end Sys2Proof.Machine
end

