-- ==== Sys2Proof/Machine/Lane.lean ====
section
/-! DEFINITION. Chapter 7, the lane: fixed-point arithmetic (R174 to R176), gain tables (R189), loops, clamps and selection (R180 to
R187), the inner loop, notch and duty (R190 to R192), slow inputs (R193 to R197) and injection (R198 to R200, R311). -/

namespace Sys2Proof.Machine
open Sys2Proof

/-! ### Arithmetic -/

/-- The 40-bit accumulator saturates (R174). -/
def sat40 (v : Int) : Int := clampI (-(2 ^ 39)) (2 ^ 39 - 1) v
/-- Integrators and the ramp of C7 stay within ±1.0 (R175). -/
def limit30 (v : Int) : Int := clampI (-(2 ^ 30)) (2 ^ 30) v
/-- A Q15 value saturates (R175). -/
def satQ15 (v : Int) : Int := clampI (-32768) 32767 v
/-- The multiply-accumulate of R175. -/
def mac (acc : Int) (c : Q15x) (x : Int) : Int := sat40 (acc + c.m * x * 2 ^ c.s)
/-- The accumulator leaves as Q15: half to even at bit 15, saturated (R175). -/
def toQ15 (acc : Int) : Int := satQ15 (rheDiv acc 32768)
/-- The lane's division (R176). -/
def divQ15 (n d : Int) : Int := satQ15 (rheDiv (n * 32768) d)
/-- abs(−32,768) is taken as 32,767 (R181). -/
def absQ15 (e : Int) : Int := if e ≤ -32768 then 32767 else |e|

/-- Entry i of a gain table. -/
def gainEntry (t : Bytes) (i : Nat) : Int := fieldAt t (2 * i) 2

/-- The gain for an error (R189, Table 7.6). -/
def gainAt (t : Bytes) (e : Int) : Q15x :=
  let shift := fieldAt t 66 1
  let x := (absQ15 e).toNat * 2 ^ fieldAt t 67 1
  if x ≥ 32768 then ⟨gainEntry t 32, shift⟩
  else
    let i := x / 1024
    let f : Int := (x % 1024 : Nat)
    ⟨rheDiv (gainEntry t i * 1024 + (gainEntry t (i + 1) - gainEntry t i) * f) 1024, shift⟩

/-! ### Slow inputs (R193 to R195) -/

/-- A cell voltage in lane units: the 100 µV code divided by 2, half to even (Table 7.2). -/
def cellQ15 (v : ℚ) : Int := satQ15 (rheDiv (rhe (v * 10000)) 2)

/-- The more pessimistic of two optional values. -/
def pess (f : Int → Int → Int) : Option Int → Option Int → Option Int
  | some a, some b => some (f a b)
  | some a, none => some a
  | none, b => b

/-- V_max, V_min and T_hot after the merge of R194; none where neither set holds the quantity. -/
structure SlowIn where
  vMax : Option Int
  vMin : Option Int
  tHot : Option Int
  merged : Bool
  deriving DecidableEq, Repr

def SlowSet.vals (x : SlowSet) : Option Int × Option Int × Option Int :=
  (x.hi.map fun v => cellQ15 v.1, x.lo.map fun v => cellQ15 v.1, x.hot.map fun v => satQ15 v.1)

/-- The slow inputs a lane uses at a boundary (R194). -/
def LaneSt.slowIn (l : LaneSt) : SlowIn :=
  match l.slow, l.slowFull with
  | none, none => ⟨none, none, none, false⟩
  | some n, none => let v := n.vals; ⟨v.1, v.2.1, v.2.2, n.incomplete⟩
  | none, some f => let v := f.vals; ⟨v.1, v.2.1, v.2.2, false⟩
  | some n, some f =>
    let v := n.vals
    let w := f.vals
    if n.incomplete then ⟨pess max v.1 w.1, pess min v.2.1 w.2.1, pess max v.2.2 w.2.2, true⟩
    else ⟨v.1, v.2.1, v.2.2, false⟩

/-- Slow inputs of a channel are stale (R193, R194): the last complete set is too old, absent, or a quantity is nowhere. -/
def State.slowStale (s : State) (c : Nat) : Bool :=
  let l := s.lane c
  let x := l.slowIn
  let limit := s.parN 0x348 c * s.sweepNs c + s.parN 0x203 c * 1000000
  match l.slowFull with
  | none => true
  | some f => decide (limit < age s.loop.stamp f.stamp) || x.vMax.isNone || x.vMin.isNone || x.tHot.isNone

/-- The estimator's headroom is stale (R196). -/
def State.estStale (s : State) (c : Nat) : Bool :=
  match (s.lane c).hStamp with
  | none => true
  | some t => let hz := s.filterHz
    hz = 0 || decide (s.parN 0x34B c * (1000000000 / hz) < age s.loop.stamp t)

/-! ### Outer loops -/

/-- One PI loop of a period: code, error, gain table, integral gain, integrator. -/
structure PiLoop where
  code : Nat
  e : Int
  kp : Q15x
  ki : Q15x
  i : Int
  deriving DecidableEq, Repr

/-- P_k (R181). -/
def PiLoop.p (k : PiLoop) : Int := toQ15 (mac 0 k.kp k.e)
/-- a_k (R181). -/
def PiLoop.out (k : PiLoop) (imax : Int) : Int := clampI 0 imax (toQ15 (mac k.i k.kp k.e))

/-- A loop that did not take part in the previous period enters at the previous winner's output (R186). -/
def PiLoop.enter (k : PiLoop) (prev : List Nat) (aWin m : Int) : PiLoop :=
  if k.code ∈ prev then k else { k with i := limit30 ((aWin - k.p + m) * 32768) }

/-- The integrators at the end of a period (R186): the winner integrates unless held at a limit, the others track it. -/
def PiLoop.update (k : PiLoop) (winner : Nat) (aWin imax m : Int) : Int :=
  if k.code = winner then
    if (aWin = 0 ∧ k.e < 0) ∨ (aWin = imax ∧ k.e > 0) then k.i else limit30 (mac k.i k.ki k.e)
  else limit30 ((aWin - k.p + m) * 32768)

/-- Minimum selection (R185): the smallest output; a tie at Imax goes to L0, any other to the lowest limit code. -/
def selectWinner (imax : Int) (cands : List (Nat × Int)) : Nat × Int :=
  let m := (cands.map (·.2)).foldl min imax
  if m = imax then (0, m)
  else match (cands.filter fun c => c.2 == m && c.1 != 0).map (·.1) with
    | [] => (0, m)
    | k :: ks => (ks.foldl min k, m)

/-- The slope of L4 (R183): Imax over the derating span, in full-scale units, as q15x. -/
def slope4 (imax tStart tEnd : Int) : Q15x :=
  if tEnd ≤ tStart then ⟨32767, 7⟩
  else
    let q := q15xOf (imax / (tEnd - tStart : ℚ))
    if (128 : ℚ) ≤ imax / (tEnd - tStart : ℚ) then ⟨32767, 7⟩ else q

/-! ### Injection -/

/-- sin of a 32-bit phase as Q15 (R311): the 1,024-entry table, interpolated on the low 22 bits, half to even. -/
def sinQ15 (phase : BitVec 32) : Int :=
  let i := phase.toNat / 2 ^ 22
  let f : Int := (phase.toNat % 2 ^ 22 : Nat)
  let a := Config.sineEntry (i % 1024)
  let b := Config.sineEntry ((i + 1) % 1024)
  satQ15 (rheDiv (a * 2 ^ 22 + (b - a) * f) (2 ^ 22))

/-- The amplitude A (R199). -/
def State.injAmp (s : State) (c : Nat) : Int := q15Of (min (s.parF 0x304 c / 50) 2) (s.fsOf 0x302 0x304 c)

/-- The injected term before the gate (R199, R311) with `done` of `span` fade periods. -/
def injTerm (amp : Int) (weights : List Nat) (phases : List (BitVec 32)) (done span : Nat) : Int :=
  let sum := (weights.zip phases).foldl (fun a p => sat40 (a + (p.1 : Int) * toQ15 (amp * sinQ15 p.2))) 0
  clampI (-amp) amp (if done ≥ span then toQ15 sum else satQ15 (rheDiv (sum * done) (32768 * span)))

/-- Phases after one period (R311). -/
def advancePhases (tones : List Nat) (periodNs : Nat) (phases : List (BitVec 32)) : List (BitVec 32) :=
  (tones.zip phases).map fun p => p.2 + BitVec.ofInt 32 (rheDiv ((p.1 * periodNs * 2 ^ 32 : Nat) : Int) 10000000000)

/-! ### One period of a lane -/

/-- What a lane's period reports beside its state. -/
structure LaneOut where
  lane : LaneSt
  /-- v_b below LOOP.VB_MIN: no duty (R184) -/
  undervolt : Bool
  /-- the slow inputs turned stale in this period (R195) -/
  nowStale : Bool
  /-- the headroom turned stale (R196) -/
  nowEstStale : Bool
  /-- the injection gate closed (R199) -/
  gateClosed : Bool
  deriving DecidableEq, Repr

/-- A stopped channel's lane (R202): WINNER 15, zero values; the latched inputs and slow inputs stay, and a stale time that began goes on
(DESIGN CHOICE, assumption log 191). -/
def LaneSt.stopped (l : LaneSt) : LaneSt :=
  { l with i1 := 0, i2 := 0, i3 := 0, i5 := 0, iIl := 0, x1 := 0, x2 := 0, y1 := 0, y2 := 0, aWin := 0, prevPart := [],
           winner := 15, injGate := false, injFull := false, ilHeld := false, dutySat := false, deadline := false, r0 := 0,
           a := List.replicate 8 0, iRef := 0, iMeas := 0, vS := 0, vB := 0, uN := 0, duty := 0, hasDuty := false, satRun := 0,
           winRun := 0, limitUp := none, rearm := 0, fade := 0, fresh := true }

/-- The notch biquad (R191) or the value itself. -/
def notch (on : Bool) (co : Bytes) (l : LaneSt) (x : Int) : Int :=
  if on then
    let c := fun i => q15xDec (fieldAt co (4 * i) 4)
    let n := fun (q : Q15x) => (⟨-q.m, q.s⟩ : Q15x)
    toQ15 (mac (mac (mac (mac (mac 0 (c 0) x) (c 1) l.x1) (c 2) l.x2) (n (c 3)) l.y1) (n (c 4)) l.y2)
  else x

/-- C6 and C7 before selection (R195 to R197): headroom with its rise limit, and the stale-hold ramp, which starts at Imax and reads full
scale once it has left the selection. The rise limit of C6 is held in the accumulator's format like C7's ramp (DESIGN CHOICE, assumption log 192). -/
def State.clamps (s : State) (c : Nat) (l : LaneSt) (imax : Int) (stale estStale : Bool) : Int × Int :=
  let step := rhe (s.parF 0x349 c * s.parN 0x300 0 / 1000000000 / s.fsOf 0x302 0x349 c * 2 ^ 30)
  let h := if estStale then toQ15 (mac 0 ⟨s.parI 0x34C c, 0⟩ imax) else if l.charge then l.hChg else l.hDis
  let h30 := max 0 h * 32768
  let full : Int := 32767 * 32768
  let c6 := if l.fresh ∨ h30 ≤ l.c6 then h30 else min h30 (l.c6 + step)
  let c7 := if stale then max 0 (min (if l.fresh then full else l.c7) (imax * 32768) - step)
    else if l.fresh ∨ imax * 32768 ≤ l.c7 + step then full else l.c7 + step
  (c6, c7)

/-- The PI loops taking part in a direction, with their errors (Table 7.3, R182). A loop whose quantity no slow-input set holds takes no part
(DESIGN CHOICE, assumption log 190). -/
def State.piLoops (s : State) (c : Nat) (l : LaneSt) (sl : SlowIn) (vS vB : Int) : List PiLoop :=
  let en := s.parN 0x301 c
  let q := fun id => s.parQ 0x303 id c
  let mk := fun (code : Nat) (e : Int) (kp ki : Nat) (i : Int) =>
    (⟨code, satQ15 e, gainAt (s.par kp c) (satQ15 e), s.parX ki c, i⟩ : PiLoop)
  let l1 := if bitOf en 1 then [mk 1 (if l.charge then q 0x311 - vS else vS - q 0x310) 0x312 0x313 l.i1] else []
  let l2 := if bitOf en 2 ∧ l.charge then
      match sl.vMax with
      | some v => [mk 2 (q15Of (s.parF 0x318 c) (65536 / 10000) - v) 0x319 0x31A l.i2]
      | none => []
    else []
  let l3 := if bitOf en 3 ∧ !l.charge then
      match sl.vMin with
      | some v => [mk 3 (v - q15Of (s.parF 0x320 c) (65536 / 10000)) 0x321 0x322 l.i3]
      | none => []
    else []
  let l5 := if bitOf en 5 then [mk 5 (if l.charge then vB - q 0x330 else q 0x331 - vB) 0x332 0x333 l.i5] else []
  l1 ++ l2 ++ l3 ++ l5

/-- The integrator a PI loop leaves, or the one it had. -/
def intOf (ks : List PiLoop) (code : Nat) (old : Int) (f : PiLoop → Int) : Int :=
  match ks.find? fun k => k.code == code with
  | some k => f k
  | none => old

/-- The injection gate of a period (R199, R200): whether it is open, the rearm and fade counts. -/
def gateStep (l : LaneSt) (cond : Bool) (rearmN fadeN : Nat) : Bool × Nat × Nat :=
  if !(l.injReq && cond) then (false, 0, 0)
  else if l.injGate then (true, l.rearm, min (l.fade + 1) fadeN)
  else if l.rearm ≥ rearmN then (true, l.rearm, 0)
  else (false, l.rearm + 1, 0)

/-- A running lane's period (R171, R172): latched current, string and bus voltage, the generator's output r0. -/
def State.lanePeriod (s : State) (c : Nat) (iM vS vB r0 : Int) : LaneOut :=
  let l := s.lane c
  let sl := l.slowIn
  let stale := s.slowStale c
  let eStale := s.estStale c
  let charge := if r0 > 0 then false else if r0 < 0 then true else l.charge
  let l := { l with charge := charge, slowStale := stale, slowPartial := sl.merged, estStale := eStale }
  let iSet := s.parQ 0x302 (if charge then 0x306 else 0x305) c
  let imax := if s.ctOn c then min iSet (q15Of (s.parF 0x630 0) (s.parF 0x302 c)) else iSet
  let m := s.parI 0x30A c
  let aPrev := if l.fresh then 0 else l.aWin
  let ks := (s.piLoops c l sl vS vB).map fun k => k.enter (if l.fresh then [] else l.prevPart) aPrev m
  let a0 := min (absQ15 r0) imax
  let c4 := slope4 iSet (q15Of (s.parF 0x328 c) (32768 / 100)) (q15Of (s.parF 0x329 c) (32768 / 100))
  let a4 : Option Int := if bitOf (s.parN 0x301 c) 4 then
      sl.tHot.map fun t => clampI 0 imax (toQ15 (mac 0 c4 (satQ15 (q15Of (s.parF 0x329 c) (32768 / 100) - t))))
    else none
  let (c6, c7) := s.clamps c l imax stale eStale
  let a6 := toQ15 c6
  let a7 := min imax (toQ15 c7)
  let outs : List (Nat × Int) := (0, a0) :: ks.map (fun k => (k.code, k.out imax))
    ++ (match a4 with
      | some v => [(4, v)]
      | none => [])
    ++ (if a6 < imax then [(6, a6)] else []) ++ (if a7 < imax then [(7, a7)] else [])
  let (w, aWin) := selectWinner imax outs
  let amp := s.injAmp c
  let room := outs.all fun o => o.1 == 0 || decide (a0 + amp ≤ o.2)
  let cond := decide (w = 0 ∧ (s.ch c).state = 2 ∧ amp ≤ a0) && room
  let (gate, rearm, fade) := gateStep l cond (s.parN 0x350 c) (s.parN 0x351 c)
  let weights := words 2 5 (s.par 0x581 0)
  let inj := if gate then injTerm amp weights l.phase fade (s.parN 0x351 c) else 0
  let iRef := satQ15 ((if charge then -aWin else aWin) + inj)
  let eI := satQ15 (iRef - iM)
  let u := toQ15 (mac l.iIl (gainAt (s.par 0x338 c) eI) eI)
  let notchOn := bitOf (s.parN 0x301 c) 6
  let uN := notch notchOn (s.par 0x340 c) l u
  let vbMin := s.parQ 0x303 0x30B c
  let under := decide (vB < vbMin ∨ vB ≤ 0)
  let raw := if under then 0 else divQ15 (toQ15 (sat40 (mac 0 (s.parX 0x309 c) vS - uN * 32768))) vB
  let dMin := s.parI 0x307 c
  let dMax := s.parI 0x308 c
  let d := clampI dMin dMax raw
  let held := decide ((raw < dMin ∧ eI > 0) ∨ (raw > dMax ∧ eI < 0))
  let sat := decide (raw ≠ d)
  let upd := fun code old => intOf ks code old fun k => k.update w aWin imax m
  let l' := { l with
    i1 := upd 1 l.i1, i2 := upd 2 l.i2, i3 := upd 3 l.i3, i5 := upd 5 l.i5,
    iIl := if held ∨ under then l.iIl else limit30 (mac l.iIl (s.parX 0x339 c) eI),
    x1 := u, x2 := l.x1, y1 := uN, y2 := l.y1, aWin := aWin, prevPart := ks.map (·.code), c6 := c6, c7 := c7, winner := w,
    injGate := gate, injFull := gate && decide (s.parN 0x351 c ≤ fade), ilHeld := held, dutySat := sat && !under, deadline := false,
    r0 := r0,
    a := (List.range 6).map (fun k => match outs.find? fun o => o.1 == k with
      | some o => o.2
      | none => 0x7FFF) ++ [a6, a7],
    iRef := iRef, iMeas := iM, vS := vS, vB := vB, uN := uN, duty := if under then 0 else d, hasDuty := !under,
    satRun := if sat && !under then l.satRun + 1 else 0,
    winRun := if w = l.winner then l.winRun + 1 else 1,
    rearm := rearm, fade := fade, fresh := false,
    phase := if l.injReq then advancePhases (words 2 5 (s.par 0x580 0)) (s.parN 0x300 0) l.phase else l.phase,
    staleSince := if stale then (match l.staleSince with
      | some t => some t
      | none => some s.now) else none }
  { lane := l', undervolt := under, nowStale := stale && l.staleSince.isNone, nowEstStale := eStale && !(s.lane c).estStale,
    gateClosed := l.injGate && !gate }

/-- The LOOP_STATUS record of the period that is being released (Table 7.9); a stopped channel's has WINNER 15 and zeros after the period count and the
boundary's stamp (assumption log 193). -/
def State.recordNow (s : State) (c : Nat) : Bytes :=
  let l := s.lane c
  let stamp := leBytes 4 s.loop.stamp.toNat
  if (s.ch c).state = 0 ∨ (s.ch c).state = 4 then u32 (15 + s.loop.period.toNat % 65536 * 65536) ++ stamp ++ List.replicate 32 0
  else
    u32 (s.statusWord c) ++ stamp ++ sBytes 2 l.r0 ++ l.a.flatMap (sBytes 2) ++ sBytes 2 l.iRef
      ++ sBytes 2 l.iMeas ++ sBytes 2 l.vS ++ sBytes 2 l.vB ++ sBytes 2 l.uN ++ sBytes 2 l.duty ++ [0, 0]

/-- The records a release instant leaves (R201, R202). -/
def State.keepRecords (s : State) : State := { s with loop := { s.loop with records := ⟨s.recordNow 0, s.recordNow 1, s.recordNow 2, s.recordNow 3⟩ } }

/-- LOOP_STATUS (R202). -/
def execLoopStatus (h : Hdr) (mask : Byte) (s : State) : Result :=
  .next <| s.wcpReq 0x0340 h [mask] fun s =>
    s.reply 0x0340 h 0 ((bitsSet 4 mask.toNat).flatMap fun c => s.loop.records.get c)

/-- DUTY_SATURATED (R192): 5,000 consecutive clamped periods. -/
def execDutySaturated (ch : Nat) (s : State) : Result :=
  .next <| if (s.lane ch).satRun ≥ 5000 then s.raise 0x3020 ch 0 (u32 (s.lane ch).satRun) else s

/-- LIMIT_ACTIVE (Table 7.11): the limit code has won every period for 100 ms, a code that 0x3030 has not reported since L0 last won. -/
def execLimitActive (ch : Nat) (s : State) : Result :=
  .next <|
    let l := s.lane ch
    if 1 ≤ l.winner ∧ l.winner ≤ 7 ∧ 100000000 ≤ l.winRun * s.parN 0x300 0 ∧ l.limitUp ≠ some l.winner then
      (s.setLane ch { l with limitUp := some l.winner }).raise 0x3030 ch 0 (u8 l.winner)
    else s

/-- SLOW_STALE_TRIP (R195): still stale after LOOP.STALE_TRIP_MS; the string opens. -/
def execSlowStaleTrip (ch : Nat) (s : State) : Result :=
  .next <| match (s.lane ch).staleSince with
    | some t => (s.advanceTo (t + s.parN 0x34A ch * 1000000)).raise 0x3013 ch 2
    | none => s

end Sys2Proof.Machine
end

