-- ==== Sys2Proof/Machine/Profiles.lean ====
section
/-! DEFINITION. Chapter 9: the profile generators' trapezoid (R239 to R250), the actuator axes with their bridges, load angle,
homing and fire positions (R251 to R265), and the opcodes of R266. -/

namespace Sys2Proof.Machine
open Sys2Proof

/-! ### The trapezoid (R240, R242, R243) -/

/-- The limits of a tick, per tick, with 32 fraction bits (Table 9.2). -/
structure Lim where
  vmax : Int
  vstart : Int
  vstop : Int
  vbrk : Int
  a1 : Int
  a2 : Int
  d1 : Int
  d2 : Int
  dem : Int
  deriving DecidableEq, Repr

/-- One, with 32 fraction bits. -/
def fpOne : Int := 4294967296

/-- A product rounded half to even to the same format (R240). -/
def fpMul (a b : Int) : Int := rheDiv (a * b) fpOne
/-- A quotient rounded half to even to the same format (R240). -/
def fpDiv (a b : Int) : Int := rheDiv (a * fpOne) b

/-- A speed or an acceleration in per-tick units (R240): `p` is τ or τ² in s, `scale` 32,768 / LOOP.I_FS or 1. -/
def perTick (v p scale : ℚ) : Int := rhe (v * p * 4294967296 * scale)

/-- The tick τ of a generator in s (Table 9.1). -/
def State.tau (s : State) (g : Nat) : ℚ := if g < 4 then (s.parN 0x300 0 : ℚ) / 1000000000 else 1 / 10000

/-- Q15 per A of a reference generator; 1 for a position generator. -/
def State.genScale (s : State) (g : Nat) : ℚ := if g < 4 then 32768 / s.parF 0x302 g else 1

/-- The limits in force from the applied parameters. -/
def State.limits (s : State) (g : Nat) : Lim :=
  let t := s.tau g
  let k := s.genScale g
  let sp := fun id => perTick (s.parF id g) t k
  let ac := fun id => perTick (s.parF id g) (t * t) k
  ⟨sp 0x400, sp 0x401, sp 0x402, sp 0x403, ac 0x404, ac 0x405, ac 0x406, ac 0x407, ac 0x408⟩

/-- d_em in place of d1 and d2 (R247, R263). -/
def Lim.em (l : Lim) : Lim := { l with d1 := l.dem, d2 := l.dem }

def Lim.dec (l : Lim) (s : Int) : Int := if s > l.vbrk then l.d2 else l.d1
def Lim.acc (l : Lim) (s : Int) : Int := if s ≥ l.vbrk then l.a2 else l.a1

/-- Distance to slow from speed s to speed w (R243). -/
def Lim.brake (l : Lim) (s w : Int) : Int :=
  let high := if s > l.vbrk then
      let m := max w l.vbrk
      fpDiv (fpMul s s - fpMul m m) (2 * l.d2)
    else 0
  let s1 := if s > l.vbrk then max w l.vbrk else s
  high + if s1 > w then fpDiv (fpMul s1 s1 - fpMul w w) (2 * l.d1) else 0

/-- The value's own width (R240): 64 bits, or 48 bits with 32 fraction bits, in two's complement. -/
def wrapTo (bits : Nat) (v : Int) : Int := toSigned bits (v % (2 ^ bits : Nat)).toNat

/-- The speed, direction and rest flag of one tick before the value moves (R243); none on arrival. A speed above a lowered v_max falls
at d2 and d1 and never by a step (R246). -/
def genSpeed (l : Lim) (g : GenSt) : Option (Int × Int × Bool × Nat) :=
  let e := g.tgt - g.x
  let sp : Int := |g.v|
  let dir := g.v.sign
  if dir ≠ 0 ∧ dir ≠ e.sign then
    let sp' := max (sp - l.dec sp) 0
    some (sp', (if sp' = 0 then 0 else dir), g.atRest, 3)
  else if sp ≤ l.vstop ∧ |e| ≤ l.vstop then none
  else if l.brake sp l.vstop + sp ≥ |e| then some (max (sp - l.dec sp) l.vstop, e.sign, g.atRest, 3)
  else if sp = 0 then some (if g.atRest then l.vstart else l.acc 0, e.sign, false, 1)
  else if sp > l.vmax then some (max (sp - l.dec sp) l.vmax, e.sign, g.atRest, 3)
  else
    let sp' := min (sp + l.acc sp) l.vmax
    some (sp', e.sign, g.atRest, if sp' > sp then 1 else 2)

/-- What a tick reports: an unplanned pass of the target, a re-plan. -/
structure GenOut where
  g : GenSt
  overshot : Bool
  replanned : Bool

/-- A generator at rest on a value. -/
def GenSt.rest (g : GenSt) (x tgt : Int) : GenSt :=
  { g with x := x, v := 0, tgt := tgt, atRest := true, mode := .run, fresh := false, planned := false, overshoot := false,
           phase := 0 }

/-- A stop that takes its stopping point as target (R247, R255, R261). -/
def GenSt.slow (g : GenSt) (l : Lim) (bits : Nat) : GenSt :=
  let sp := max (|g.v| - l.dec |g.v|) 0
  let x := wrapTo bits (g.x + g.v.sign * sp)
  if sp = 0 then g.rest g.x g.x else { g with x := x, v := g.v.sign * sp, phase := 3 }

/-- One tick (R243), with the re-planning of R245 and the passes of R246. `slow` says that the stop has no target of its own. -/
def GenSt.tick (g : GenSt) (lims : Lim) (bits : Nat) (slow : Bool) : GenOut :=
  let l := if g.mode = .emergency ∨ g.mode = .homeStop then lims.em else lims
  if slow then ⟨g.slow l bits, false, false⟩
  else
    let e := g.tgt - g.x
    let pass := if g.fresh then g.v ≠ 0 ∧ (e = 0 ∨ (g.v.sign = e.sign ∧ l.brake |g.v| l.vstop > |e|)) else g.planned
    let g1 := { g with fresh := false, planned := pass }
    match genSpeed l g1 with
    | none => ⟨g1.rest g.tgt g.tgt, false, g.fresh⟩
    | some (sp, dir, rest, ph) =>
      let v := dir * sp
      let x := wrapTo bits (g.x + v)
      let passed := dir ≠ 0 ∧ (g.tgt - x).sign = -dir ∧ e.sign ≠ -dir
      let ovr := decide passed && !g1.planned
      ⟨{ g1 with x := x, v := v, atRest := rest, phase := if v = 0 then 0 else ph, overshoot := g1.overshoot || ovr,
                 planned := g1.planned && !passed && v ≠ 0 }, ovr, g.fresh⟩

/-! ### Generators in the state -/

def State.gen (s : State) (g : Nat) : GenSt := s.prof.gen g

def State.setGen (s : State) (g : Nat) (x : GenSt) : State :=
  if g < 4 then { s with prof := { s.prof with pg := s.prof.pg.set g x } }
  else { s with prof := { s.prof with ag := s.prof.ag.set (g - 4) x } }

def State.updGen (s : State) (g : Nat) (f : GenSt → GenSt) : State := s.setGen g (f (s.gen g))

def State.axis (s : State) (a : Nat) : AxisSt := s.prof.axis.get a

def State.setAxis (s : State) (a : Nat) (x : AxisSt) : State := { s with prof := { s.prof with axis := s.prof.axis.set a x } }

def State.updAxis (s : State) (a : Nat) (f : AxisSt → AxisSt) : State := s.setAxis a (f (s.axis a))

/-- One generator's tick with its counters and event 0x4002 (R245, R246). -/
def State.tickGen (s : State) (g : Nat) (l : Lim) : State :=
  let x := s.gen g
  let slow := 4 ≤ g ∧ x.mode ≠ .run
  let r := x.tick l (if g < 4 then 64 else 80) slow
  let s := s.setGen g r.g
  let s := if r.replanned then s.inc 0x411 g else s
  if r.overshot then (s.inc 0x413 g).raise 0x4002 g 0 else s

/-- A new target (R245), which also replaces a stop that has none of its own; it clears an axis's stall flag (Table 9.11). -/
def State.retarget (s : State) (g : Nat) (tgt : Int) : State :=
  let s := s.updGen g fun x => { x with tgt := tgt, fresh := true, mode := if x.mode = .stop then .run else x.mode }
  if g < 4 then s else s.updAxis (g - 4) fun a => { a with stalled := false }

/-- An emergency stop (R247): event 0x4001, counted; one that finds its generator at rest on its emergency target completes at once. -/
def State.estop (s : State) (g : Nat) : State :=
  let x := s.gen g
  let done := x.v = 0 ∧ x.atRest ∧ (4 ≤ g ∨ x.x = 0)
  let s := s.setGen g (
    if done then x.rest x.x (if g < 4 then 0 else x.x)
    else if g < 4 then { x with tgt := 0, mode := .emergency, fresh := true }
    else { x with mode := .emergency })
  (s.inc 0x412 g).raise 0x4001 g 0

/-- An emergency target is no re-plan (R245, R247): its first tick judges the pass and counts nothing. -/
def State.tickRef (s : State) (c : Nat) : State :=
  let x := s.gen c
  let n := s.count 0x411 c
  let s := s.tickGen c (s.limits c)
  if x.mode = .emergency ∧ s.count 0x411 c ≠ n then
    { s with wcp := { s.wcp with counters := s.wcp.counters.set (key 0x411 c) n } }
  else s

/-- The channel's generator is released: it ramps while the channel is RUNNING or STOPPING (R241, R249). -/
def State.genRuns (s : State) (c : Nat) : Bool := (s.ch c).state == 2 || (s.ch c).state == 3

/-- Reference tick of a channel at a boundary, before r0 is latched (R240, R249). -/
def State.refTick (s : State) (c : Nat) : State := if s.genRuns c then s.tickRef c else s

/-- r0 of a channel (R240). -/
def State.r0 (s : State) (c : Nat) : Int := clampI (-32768) 32767 (rheDiv (s.gen c).x fpOne)

/-- A channel passed to STOPPED or FAULTED: value, speed and target 0 at once (Table 9.3). -/
def State.zeroGen (s : State) (c : Nat) : State := s.updGen c fun g => g.rest 0 0

/-! ### Axes: energising, bridges, set-points (R251 to R256) -/

/-- The actuator supply as the axis sees it: off where PD_ACT is gated (Table 1.7). -/
def State.actMv (s : State) : Nat := if s.sys.power = .p0 ∨ s.sys.power = .p1 then s.prof.supplyMv else 0

/-- Bridges drive (R251). -/
def State.bridgeOn (s : State) (a : Nat) : Bool := s.permit && (s.axis a).energised

/-- An axis is energised: its set-points ramp from zero ovr 2 ms (R255). -/
def State.energise (s : State) (a : Nat) : State :=
  s.updAxis a fun x =>
    if x.energised then x
    else { x with energised := true, since := s.now, restAt := s.now, unheld := false, oc := false, openA := false, openB := false, holding := false,
                  prevX := (s.gen (a + 4)).x }

/-- A run of the axis ends without its event: homing and calibration report 0x0105 (DESIGN CHOICE, log 9). -/
def State.endRuns (s : State) (a : Nat) : State :=
  let x := s.axis a
  let s := s.setAxis a { x with home := none, cal := none }
  let s := match x.home with
    | some r => if r.found then s else s.complete r.op 0x0105
    | none => s
  match x.cal with
  | some r => s.complete r.op 0x0105
  | none => s

/-- De-energising stops the bridges at once; the position is kept, the generator at rest where it stood (R255, Table 9.3). -/
def State.deenergise (s : State) (a : Nat) : State :=
  if (s.axis a).energised then
    let s := (s.endRuns a).updAxis a fun x => { x with energised := false, unheld := true, holding := false, run := 0, slip := 0, declared := false }
    s.updGen (a + 4) fun g => { g with v := 0, atRest := true, mode := .run, phase := 0, planned := false, overshoot := false,
                                       tgt := if g.mode = .run then g.tgt else g.x }
  else s

/-- Entry T[k] of the applied microstep table. -/
def State.ustep (s : State) (a k : Nat) : Nat := fieldAt (s.par 0x444 a) (2 * k) 2

/-- The table terms of phases A and B at an electrical index (Table 9.5). -/
def phaseTerms (t : Nat → Nat) (mu : Nat) : Int × Int :=
  let i := mu % 256
  match mu / 256 % 4 with
  | 0 => ((t (255 - i) : Int), (t i : Int))
  | 1 => (-(t i : Int), (t (255 - i) : Int))
  | 2 => (-(t (255 - i) : Int), -(t i : Int))
  | _ => ((t i : Int), -(t (255 - i) : Int))

/-- The factor on the set-points: the 2 ms ramp, hold current, and the limit of a hot bridge (R254, R255, Table 9.6). -/
def State.phaseFactor (s : State) (a : Nat) : ℚ :=
  let x := s.axis a
  (if x.energised then min 1 ((s.now - x.since : Nat) / (2000000 : ℚ)) else 0)
    * (if x.holding then (s.parN 0x441 a : ℚ) / 100 else 1) * (if s.prof.hot = 0 then 1 else 7 / 10)

/-! ### Load angle (R257 to R260) -/

/-- Speed of an axis in thousands of full steps per second. -/
def State.kStepsPerS (s : State) (a : Nat) : ℚ := (|(s.gen (a + 4)).v| : ℚ) / 4294967296 * 10000 / 256000

/-- v_sd in microsteps/s; none while ACT.KE is 0 (R258). -/
def State.vsd (s : State) (a : Nat) : Option ℚ :=
  let ke := s.parF 0x445 a
  if ke = 0 then none else some (max (s.parF 0x448 a) (3 / 2 / ke * 256000))

/-- STALL_ARMED (R258). -/
def State.stallArmed (s : State) (a : Nat) : Bool :=
  (s.axis a).energised && match s.vsd a with
    | some v => decide (v ≤ s.kStepsPerS a * 256000)
    | none => false

/-- A phase's bridge drives its current to zero: in the 32 microsteps about its commanded zero crossing, phase A's at 256 and 768, phase B's at 0 and
512, while the axis moves and a load angle or a calibration is measured (R257, R258). -/
def State.windowed (s : State) (a mu at_ : Nat) : Bool :=
  (s.gen (a + 4)).v != 0 && (s.stallArmed a || (s.axis a).cal.isSome) && decide ((mu + 528 - at_) % 512 < 32)

/-- The set-points of both phases in mA (R252, R254, R257): the bridge moves linearly from the previous tick's position to the present one, in chop
periods of 25 µs. -/
def State.setPoints (s : State) (a : Nat) : Int × Int :=
  let x := s.axis a
  let g := s.gen (a + 4)
  let k : Int := min 4 ((s.now - s.prof.tick) / 25000 : Nat)
  let pos := Int.fdiv (x.prevX + Int.fdiv ((g.x - x.prevX) * k) 4) fpOne
  let mu := (pos % 1024).toNat
  let (ta, tb) := phaseTerms (s.ustep a) mu
  let f := s.phaseFactor a * s.parF 0x440 a * 1000 / 65535
  if s.bridgeOn a then (if s.windowed a mu 256 then 0 else rhe (ta * f), if s.windowed a mu 0 then 0 else rhe (tb * f)) else (0, 0)

/-- The cosine of a whole or half number of degrees, given in half degrees from 0 to 360. -/
def cosHalfDeg (n : Nat) : ℚ :=
  if n ≤ 180 then cosSeries ((n : ℚ) * (3141592653589793 / 1000000000000000) / 360)
  else -cosSeries (((360 - n : Nat) : ℚ) * (3141592653589793 / 1000000000000000) / 360)

/-- arccos of a ratio in whole degrees, nearest (R257). -/
def degreesOf (r : ℚ) : Nat := ((List.range 180).filter fun k => decide (r ≤ cosHalfDeg (2 * k + 1))).length

/-- The angle of a ratio exceeds a whole number of degrees. -/
def angleOver (r : ℚ) (deg : Nat) : Bool := decide (r < cosHalfDeg (2 * deg))

/-- The angle of a ratio lies below a whole number of degrees. -/
def angleUnder (r : ℚ) (deg : Nat) : Bool := decide (cosHalfDeg (2 * deg) < r)

/-- ACT.STALL_ACTION (R259): an emergency stop ends a home or a calibration that runs. -/
def State.stallAct (s : State) (a : Nat) : State :=
  match s.parN 0x449 a with
  | 1 => (s.endRuns a).estop (a + 4)
  | 2 => s.deenergise a
  | _ => s

/-- A stall (R259); its action is not applied under SF4 (R263). A stall that a home waits for is its event. -/
def State.stall (s : State) (a : Nat) : State :=
  let s := (s.updAxis a fun x => { x with stalled := true, slip := 0 }).inc 0x451 a
  let s := s.raise 0x4110 a 1
  let x := s.axis a
  if x.fire then s
  else match x.home with
    | some r => if s.parN 0x44A a = 255 ∧ !r.found then s else s.stallAct a
    | none => s.stallAct a

/-- A homing event: the position is redefined so that the event point is 0, and the axis stops at d_em (R261). -/
def State.homeEvent (s : State) (a : Nat) (r : HomeRun) : State :=
  let s := s.updAxis a fun x => { x with posValid := true, home := some { r with found := true }, prevX := x.prevX - (s.gen (a + 4)).x }
  s.updGen (a + 4) fun g => { g with x := 0, mode := .homeStop }

/-- One valid reading with its ratio e / e₀ (R259, R260): a run of readings declares one stall; a low reading within 4 full steps of one beyond 120° is a
slip, unless that run has declared its stall. -/
def State.reading (s : State) (a : Nat) (ratio : ℚ) : State :=
  let r := clampI (-1000000000) 1000000000 (rhe (ratio * 1000000000))
  let q : ℚ := (r : ℚ) / 1000000000
  let x := s.axis a
  let run := if angleOver q (s.parN 0x446 a) then x.run + 1 else 0
  let declared := x.declared && run != 0
  let slipped := x.slip > 0 ∧ angleUnder q (s.parN 0x446 a)
  let due := !declared && decide (s.parN 0x447 a ≤ run)
  let s := s.setAxis a { x with angle := degreesOf q, run := run, declared := declared || due,
                                slip := if angleOver q 120 && !declared then 4 else if slipped then 0 else x.slip - 1 }
  if due then
    let s := s.stall a
    match (s.axis a).home with
    | some h => if s.parN 0x44A a = 255 ∧ !h.found then s.homeEvent a h else s
    | none => s
  else if slipped then
    ((s.updAxis a fun x => { x with posValid := false }).incBy 0x452 a 1024).raise 0x4111 a 1
  else s

/-- LOAD_ANGLE_SAMPLE (R257): the sampled voltage in mV, its sign taken relative to the direction of motion; `settled` says that the
phase current had fallen below 20 mA at the window's centre. Below v_sd no reading is taken, but for a calibration (R258, R260). -/
def execLoadAngleSample (axis : Nat) (emf : Int) (settled : Bool) (s : State) : Result :=
  .next <|
    if 4 ≤ axis ∨ !s.bridgeOn axis ∨ (s.gen (axis + 4)).v = 0 ∨ (!s.stallArmed axis ∧ (s.axis axis).cal.isNone) then s
    else if !settled then (s.updAxis axis fun x => { x with slip := x.slip - 1 }).inc 0x453 axis
    else
      let e : ℚ := (emf : ℚ) / 1000
      let k := s.kStepsPerS axis
      match (s.axis axis).cal with
      | some c =>
        let s := if c.since.isSome then s.updAxis axis fun x => { x with cal := some { c with sum := c.sum + e / k, n := c.n + 1 } } else s
        if s.stallArmed axis then s.reading axis (e / (s.parF 0x445 axis * k)) else s
      | none => s.reading axis (e / (s.parF 0x445 axis * k))

/-! ### Position ticks -/

/-- The limits of an axis's generator, under SF4, homing and calibration (R261, R263, R260). -/
def State.axisLimits (s : State) (a : Nat) : Lim :=
  let l := s.limits (a + 4)
  let x := s.axis a
  let l := if x.fire then l.em else l
  let top := fun (v : Int) => { l with vmax := v, vstart := min l.vstart v }
  match x.home, x.cal with
  | some _, _ => top (perTick (s.parF 0x44B a) (1 / 10000) 1)
  | none, some c => top c.speed
  | none, none => l

/-- A target far in a direction: the end of the 48-bit range (R240). -/
def farTarget (up : Bool) : Int := if up then (2 ^ 47 - 1) * fpOne else -(2 ^ 47) * fpOne

/-- Homing after a tick (R261): the input, the travelled distance, and rest after the event. -/
def State.homeStep (s : State) (a : Nat) : State :=
  match (s.axis a).home with
  | none => s
  | some r =>
    let g := s.gen (a + 4)
    let input := s.parN 0x44A a
    if r.found then
      (if g.atRest ∧ g.mode = .run then (s.updAxis a fun x => { x with home := none }).complete r.op 0 else s)
    else if input < 16 ∧ s.fio.diState.getLsbD input then s.homeEvent a r
    else if |g.x - r.start| ≥ s.parN 0x44C a * fpOne then
      let s := s.updGen (a + 4) fun g => { g with mode := .stop }
      ((s.updAxis a fun x => { x with home := none }).raise 0x4112 a 1).complete r.op 0x0105
    else s

/-- Calibration after a tick (R260): two seconds at the speed given, then the mean of e / speed is stored. -/
def State.calStep (s : State) (a : Nat) : State :=
  match (s.axis a).cal with
  | none => s
  | some c =>
    match c.since with
    | none => if |(s.gen (a + 4)).v| = c.speed then s.updAxis a fun x => { x with cal := some { c with since := some s.now } } else s
    | some t =>
      if s.now < t + 2000000000 then s
      else
        let s := (s.updAxis a fun x => { x with cal := none }).updGen (a + 4) fun g => { g with mode := .stop }
        let w := toF32 (c.sum / c.n)
        let ok := c.n ≠ 0 ∧ 1036831949 ≤ w ∧ f32 w ≤ 100 ∧ w < 0x80000000
        if ok then (s.applyValue ⟨0x445, a, u32 w⟩).complete c.op 0 (u32 w) else s.complete c.op 0x0104

/-- An axis under SF4 is energised once the supply allows it (R256, R263). -/
def State.fireEnergise (s : State) (a : Nat) : State :=
  if (s.axis a).fire ∧ !(s.axis a).energised ∧ s.actMv ≥ 19000 then s.energise a else s

/-- One axis's tick (R243, R254, R258); an axis that SF4 moves waits for the energising ramp (R265). -/
def State.axisTick (s : State) (a : Nat) : State :=
  let s := s.fireEnergise a
  if !(s.axis a).energised ∨ ((s.axis a).fire ∧ s.now < (s.axis a).since + 2000000) then s
  else
    let rested := (s.gen (a + 4)).atRest
    let s := s.updAxis a fun x => { x with prevX := (s.gen (a + 4)).x }
    let s := s.tickGen (a + 4) (s.axisLimits a)
    let s := if (s.gen (a + 4)).v ≠ 0 ∨ (s.gen (a + 4)).x ≠ (s.axis a).prevX then s.updAxis a fun x => { x with holding := false } else s
    let s := if (s.gen (a + 4)).atRest ∧ !rested then s.updAxis a fun x => { x with restAt := s.now } else s
    let s := if s.stallArmed a then s else s.updAxis a fun x => { x with run := 0, slip := 0, declared := false }
    (s.homeStep a).calStep a

/-- POSITION_TICK (R239, R243): every 100 µs, at whole multiples of 100 µs, on both modules of a pair. -/
def execPositionTick (s : State) : Result :=
  .next <|
    let s := s.advanceTo ((s.now / 100000 + 1) * 100000)
    let s := { s with prof := { s.prof with tick := s.now, axisNew := true } }
    (List.range 4).foldl State.axisTick (s.boundary .axes)

/-- Every moving axis stops at d1 and d2, its target the stopping point (R255), but for one that SF4 moves or an emergency stop already slows. -/
def State.stopAxes (s : State) : State :=
  (List.range 4).foldl (fun s a =>
    if (s.gen (a + 4)).v = 0 ∨ (s.axis a).fire ∨ (s.gen (a + 4)).mode ≠ .run then s
    else (s.endRuns a).updGen (a + 4) fun g => { g with mode := .stop }) s

/-- No axis moves. -/
def State.axesStand (s : State) : Bool := (List.range 4).all fun a => (s.gen (a + 4)).v == 0

/-- HOLD_DELAY_EXPIRY (R254): ACT.HOLD_DELAY_MS after the axis came to rest; not under SF4 (R263). -/
def execHoldDelayExpiry (axis : Nat) (s : State) : Result :=
  .next <|
    if 4 ≤ axis ∨ !(s.axis axis).energised ∨ (s.axis axis).fire ∨ !(s.gen (axis + 4)).atRest then s
    else (s.advanceTo ((s.axis axis).restAt + s.parN 0x442 axis * 1000000)).updAxis axis fun x => { x with holding := true }

/-! ### Bridge diagnostics (Table 9.6) -/

/-- BRIDGE_OVERCURRENT. -/
def execBridgeOvercurrent (axis : Nat) (s : State) : Result :=
  .next <|
    if 4 ≤ axis then s
    else (((s.deenergise axis).updAxis axis fun x => { x with oc := true }).inc 0x454 axis).raise 0x4102 axis 1

/-- COIL_OPEN: phase 0 is A, 1 is B. -/
def execCoilOpen (axis phase : Nat) (s : State) : Result :=
  .next <|
    if 4 ≤ axis then s
    else ((s.deenergise axis).updAxis axis fun x => if phase = 0 then { x with openA := true } else { x with openB := true }).raise
      0x4103 axis 1

/-- ACT_SUPPLY_LOW: the measured supply. Below 17 V every axis is de-energised and its generator stopped; another value is the
supply's recovery (Table 9.11 SUPPLY_LOW). -/
def execActSupplyLow (mv : Nat) (s : State) : Result :=
  .next <|
    let s := { s with prof := { s.prof with supplyMv := mv } }
    if mv ≥ 17000 then s
    else ((List.range 4).foldl (fun s a => (s.deenergise a).estop (a + 4)) s).raise 0x4101 0 1

/-- BRIDGE_HOT: 1 above the warning threshold, 2 above the shutdown threshold, 0 below both again. -/
def execBridgeHot (level : Nat) (s : State) : Result :=
  .next <|
    let up := level > s.prof.hot
    let s := { s with prof := { s.prof with hot := min level 2 } }
    let s := if 2 ≤ level then (List.range 4).foldl State.deenergise s else s
    if up then s.raise 0x4104 0 1 (u8 level) else s

/-! ### SF4 (R263 to R265) -/

/-- The fire entry of an axis: mode, upward, position, overrun (12 SAFE.FIRE_AXIS). -/
def State.fireEntry (s : State) (a : Nat) : Nat × Bool × Int × Nat :=
  let b := s.par 0x620 0
  (fieldAt b (16 * a) 1, fieldAt b (16 * a + 1) 1 == 0, toSigned 64 (fieldAt b (16 * a + 4) 8), fieldAt b (16 * a + 12) 4)

/-- One axis on an SF4 demand (Table 9.7). -/
def State.fireAxis (s : State) (a : Nat) : State :=
  let (mode, up, pos, ovr) := s.fireEntry a
  if mode = 0 then (s.endRuns a).estop (a + 4)
  else if (s.axis a).fire then s
  else
    let s := (s.endRuns a).updAxis a fun x => { x with fire := true, holding := false }
    let g := s.gen (a + 4)
    let tgt := if mode = 1 ∧ (s.axis a).posValid then pos * fpOne else g.x + (if up then 1 else -1) * (ovr : Int) * fpOne
    let s := s.setGen (a + 4) { g with tgt := tgt, fresh := true, mode := .run }
    let s := if s.actMv ≥ 19000 then s.energise a else s
    if s.prof.supplyMv < 17000 then s.raise 0x4120 a 2 else s

/-- SF4: every axis acts, the fire time starts (R263, R264). -/
def State.sf4 (s : State) : State :=
  let s := { s with prof := { s.prof with fireSince := some (s.prof.fireSince.getD s.now) } }
  (List.range 4).foldl State.fireAxis s

/-- The reset of SF4 (R264): the axis stays where it stands and accepts targets again. -/
def State.sf4Clear (s : State) : State :=
  let s := { s with prof := { s.prof with fireSince := none } }
  (List.range 4).foldl (fun s a =>
    if (s.axis a).fire then
      let s := s.updAxis a fun x => { x with fire := false }
      s.updGen (a + 4) fun g => if g.atRest then { g with tgt := g.x, fresh := false } else { g with mode := .stop }
    else s) s

/-- SF4_INCOMPLETE (R264). -/
def execSf4Incomplete (axis : Nat) (s : State) : Result :=
  .next <|
    match s.prof.fireSince with
    | none => s
    | some t =>
      if 4 ≤ axis ∨ !(s.axis axis).fire then s
      else
        let s := s.advanceTo (t + s.parN 0x621 0 * 1000000000)
        let g := s.gen (axis + 4)
        if g.atRest ∧ g.x = g.tgt then s else s.raise 0x4120 axis 2

/-! ### Commands (Table 9.9) -/

/-- The target field as a value in the generator's own format, if in range (R249, R262). -/
def State.targetOf (s : State) (g : Nat) (w : Nat) : Option Int :=
  if g < 4 then
    (if w / 2 ^ 32 ≠ 0 then none else match f32Val w with
      | some a => if |a| ≤ s.parF 0x302 g then some (rhe (a * s.genScale g * 4294967296)) else none
      | none => none)
  else
    let t := toSigned 64 w
    let lim := s.par 0x44D (g - 4)
    if -(2 ^ 47) ≤ t ∧ t < 2 ^ 47 ∧ toSigned 48 (fieldAt lim 0 6) ≤ t ∧ t ≤ toSigned 48 (fieldAt lim 6 6) then some (t * fpOne)
    else none

/-- PROF_TARGET (R245, R247, R249, R262, R264). -/
def execProfTarget (h : Hdr) (gen : Byte) (target : BitVec 64) (s : State) : Result :=
  let g := gen.toNat
  .next <| s.wcpReq 0x0400 h (gen :: [0, 0, 0] ++ leBytes 8 target.toNat) fun s =>
    if 8 ≤ g then s.fail 0x0400 h 0x0104
    else if 4 ≤ g ∧ (s.axis (g - 4)).fire then s.fail 0x0400 h 0x0109
    else if (s.gen g).mode = .emergency ∨ (s.gen g).mode = .homeStop ∨ (g < 4 ∧ (s.ch g).state = 3)
      ∨ (4 ≤ g ∧ (!(s.axis (g - 4)).posValid ∨ (s.axis (g - 4)).home.isSome ∨ (s.axis (g - 4)).cal.isSome)) then
      s.fail 0x0400 h 0x0105
    else match s.targetOf g target.toNat with
      | none => s.fail 0x0400 h 0x0104
      | some t => (s.retarget g t).reply 0x0400 h 0

/-- PROF_ESTOP (R247). -/
def execProfEstop (h : Hdr) (mask : Byte) (s : State) : Result :=
  .next <| s.wcpReq 0x0401 h [mask] fun s =>
    let gs := bitsSet 8 mask.toNat
    if gs.any fun g => decide (4 ≤ g) && (s.axis (g - 4)).fire then s.fail 0x0401 h 0x0109
    else (gs.foldl (fun s g => (if g < 4 then s else s.endRuns (g - 4)).estop g) s).reply 0x0401 h 0

/-- PROF.STATUS (Table 9.10). -/
def State.profStatus (s : State) (g : Nat) : Nat :=
  let x := s.gen g
  let held := if g < 4 then !s.genRuns g else !(s.axis (g - 4)).energised
  x.phase + 4 * ofBits [decide (x.v < 0), x.mode == .emergency, decide (x.v ≠ 0 ∧ x.v.sign ≠ (x.tgt - x.x).sign), x.overshoot, held,
    x.atRest && x.x == x.tgt, decide (4 ≤ g) && (s.axis (g - 4)).fire]

/-- A generator value in µA or microsteps (R266). -/
def State.genOut (s : State) (g : Nat) (v : Int) : Int :=
  if g < 4 then rhe ((v : ℚ) / 4294967296 / 32768 * s.parF 0x302 g * 1000000) else rheDiv v fpOne

/-- A generator speed in mA/s or microsteps/s (R266). -/
def State.speedOut (s : State) (g : Nat) : Int :=
  let v : ℚ := (s.gen g).v
  clampI (-2147483648) 2147483647 (rhe (v / 4294967296 / s.tau g * if g < 4 then s.parF 0x302 g / 32768 * 1000 else 1))

/-- PROF_STATUS (R266). -/
def execProfStatus (h : Hdr) (mask : Byte) (s : State) : Result :=
  .next <| s.wcpReq 0x0402 h [mask] fun s =>
    s.reply 0x0402 h 0 ((bitsSet 8 mask.toNat).flatMap fun g =>
      u32 (s.profStatus g) ++ sBytes 8 (s.genOut g (s.gen g).x) ++ sBytes 4 (s.speedOut g) ++ sBytes 8 (s.genOut g (s.gen g).tgt))

/-- The status of one axis in AXIS_ENABLE. -/
def State.enableStatus (s : State) (a : Nat) (on : Bool) : Nat :=
  if (s.axis a).fire then 0x0109 else if on ∧ s.actMv < 19000 then 0x0105 else 0

/-- AXIS_ENABLE (R255). -/
def execAxisEnable (h : Hdr) (mask enable : Byte) (s : State) : Result :=
  .next <| s.wcpRun 0x0403 h [mask, enable] (decide (bitsSet 4 (mask &&& enable).toNat ≠ [])) [] fun s =>
    let axes := bitsSet 4 mask.toNat
    let sts := axes.map fun a => s.enableStatus a (enable.getLsbD a)
    let s := (axes.zip sts).foldl (fun s p =>
      if p.2 ≠ 0 then s else if enable.getLsbD p.1 then s.energise p.1 else s.deenergise p.1) s
    s.reply 0x0403 h 0 (sts.flatMap u16)

/-- ACT.HOME_SPEED lies below v_sd (R261). -/
def State.homeSlow (s : State) (a : Nat) : Bool :=
  match s.vsd a with
  | none => true
  | some v => decide (s.parF 0x44B a < v)

/-- AXIS_HOME (R261). -/
def execAxisHome (h : Hdr) (axis dir : Byte) (s : State) : Result :=
  let a := axis.toNat
  .next <| s.wcpRun 0x0404 h [axis, dir] true [] fun s =>
    if 4 ≤ a ∨ 2 ≤ dir.toNat then s.fail 0x0404 h 0x0104
    else if (s.axis a).fire then s.fail 0x0404 h 0x0109
    else if !(s.axis a).energised ∨ (s.axis a).home.isSome ∨ (s.axis a).cal.isSome ∨ (s.gen (a + 4)).mode ≠ .run then s.fail 0x0404 h 0x0105
    else if s.parN 0x44A a = 255 ∧ s.homeSlow a then s.fail 0x0404 h 0x0104
    else
      let s := s.retarget (a + 4) (farTarget (dir = 0))
      let s := s.updAxis a fun x => { x with home := some ⟨opRef 0x0404 h, dir = 0, (s.gen (a + 4)).x, false⟩ }
      s.reply 0x0404 h 1

/-- AXIS_SET_POS (R266): at rest only. -/
def execAxisSetPos (h : Hdr) (axis : Byte) (pos : BitVec 64) (s : State) : Result :=
  let a := axis.toNat
  let p := toSigned 64 pos.toNat
  .next <| s.wcpReq 0x0405 h (axis :: [0, 0, 0] ++ leBytes 8 pos.toNat) fun s =>
    if 4 ≤ a ∨ p < -(2 ^ 47) ∨ 2 ^ 47 ≤ p then s.fail 0x0405 h 0x0104
    else if (s.axis a).fire then s.fail 0x0405 h 0x0109
    else if !(s.gen (a + 4)).atRest then s.fail 0x0405 h 0x0105
    else
      let s := s.updAxis a fun x => { x with posValid := true, prevX := p * fpOne }
      (s.updGen (a + 4) fun g => g.rest (p * fpOne) (p * fpOne)).reply 0x0405 h 0

/-- AXIS_CALIBRATE (R260). -/
def execAxisCalibrate (h : Hdr) (axis : Byte) (speed : BitVec 32) (s : State) : Result :=
  let a := axis.toNat
  .next <| s.wcpRun 0x0406 h (axis :: [0, 0, 0] ++ leBytes 4 speed.toNat) true [] fun s =>
    match f32Val speed.toNat with
    | none => s.fail 0x0406 h 0x0104
    | some v =>
      if 4 ≤ a ∨ v < 2 * s.parF 0x448 a then s.fail 0x0406 h 0x0104
      else if (s.axis a).fire then s.fail 0x0406 h 0x0109
      else if !(s.axis a).energised ∨ !(s.gen (a + 4)).atRest ∨ (s.axis a).home.isSome ∨ (s.axis a).cal.isSome then s.fail 0x0406 h 0x0105
      else
        let s := s.retarget (a + 4) (farTarget true)
        let s := s.updAxis a fun x => { x with cal := some ⟨opRef 0x0406 h, perTick v (1 / 10000) 1, none, 0, 0⟩ }
        s.reply 0x0406 h 1

/-- ACT.STATUS (Table 9.11). -/
def State.actStatus (s : State) (a : Nat) : Nat :=
  let x := s.axis a
  ofBits [x.energised, x.holding, x.posValid, x.unheld, s.stallArmed a, x.stalled, x.oc, x.openA, x.openB, decide (s.prof.hot ≠ 0),
    decide (s.prof.supplyMv < 17000), x.home.isSome, x.fire] + x.angle % 256 * 65536

/-- AXIS_STATUS (R266). -/
def execAxisStatus (h : Hdr) (mask : Byte) (s : State) : Result :=
  .next <| s.wcpReq 0x0407 h [mask] fun s =>
    s.reply 0x0407 h 0 ((bitsSet 4 mask.toNat).flatMap fun a =>
      u32 (s.actStatus a) ++ sBytes 2 (s.setPoints a).1 ++ sBytes 2 (s.setPoints a).2)

end Sys2Proof.Machine
end

