-- ==== Sys2Proof/Machine/Session.lean ====
section
/-! DEFINITION. Chapter 4, sessions and transports: PING to EVENT_ACK, the host link, UDP reception with reassembly and split
requests (R74 to R81, R86 to R90), and event batches (R102, R103). -/

namespace Sys2Proof.Machine
open Sys2Proof

/-! ### Housekeeping opcodes (Table 4.9) -/

def pstateCode : PState → Nat
  | .p0 => 0 | .p1 => 1 | .p2 => 2 | .p3 => 3 | .p4 => 4 | .p5 => 5

/-- The power state of a code. -/
def pstateOf : Nat → Option PState
  | 0 => some .p0 | 1 => some .p1 | 2 => some .p2 | 3 => some .p3 | 4 => some .p4 | 5 => some .p5 | _ => none

/-- PING (R87): module time, lifecycle and power state. -/
def execPing (h : Hdr) (s : State) : Result :=
  .next <| s.wcpReq 0x0000 h [] fun s =>
    s.reply 0x0000 h 0 (time80Bytes s.now ++ u8 ((lifeCode s.sys.lifecycle)) ++ u8 (pstateCode s.sys.power))

/-- A session number the module does not hold (R77: 0x0001 to 0xFFFE). -/
def State.freshId (s : State) : Nat :=
  ((List.range 17).map fun i => (s.wcp.nextId + i - 1) % 0xFFFE + 1).find? (fun i => (s.sess i).isNone) |>.getD 1

/-- The certificate and signature of a SESSION_OPEN (R89): the subject where both hold and the role is listed. -/
def openSubject (r : OpenReq) : Option Bytes :=
  match Config.certRoles r.cert with
  | some (subject, roles) =>
    if r.role.toNat ∈ roles ∧ Config.ecdsaOk r.cert (sha256 ([r.role] ++ r.hostNonce ++ r.hostKey ++ r.cert)) r.sig
    then some subject else none
  | none => none

/-- Limits of Table 4.6: sixteen sessions, one SAFETY, one UPDATE; sessions of the twin whose requests run here are none of this module's. -/
def State.sessionRoom (s : State) (role : Role) : Bool :=
  let own := s.wcp.sessions.filter fun x => decide (x.id < 0x10000)
  own.length < 16 && !((role == .safety || role == .update) && own.any fun x => x.role == role)

/-- SESSION_OPEN's payload (Table 4.7). -/
def openPayload (r : OpenReq) : Bytes :=
  [r.role, 0] ++ padTo 16 r.hostNonce ++ padTo 65 r.hostKey ++ u16 r.cert.length ++ r.cert ++ padTo 64 r.sig

/-- SESSION_OPEN (R86, R89): checks the certificate and role, derives the keys and answers with the module's contribution. -/
def execSessionOpen (h : Hdr) (req : OpenReq) (s : State) : Result :=
  .next <| s.wcpReq 0x0001 h (openPayload req) fun s =>
    match roleOfCode req.role.toNat with
    | none => s.fail 0x0001 h 0x0106 0
    | some role =>
      if role = .update ∧ h.transport ≠ .svc then s.fail 0x0001 h 0x0106 3
      else match openSubject req with
        | none => s.fail 0x0001 h 0x0106 0
        | some subject =>
          if !s.sessionRoom role then s.fail 0x0001 h 0x0106 1
          else
            let (n, s) := s.draw
            match Config.ecdhX n req.hostKey with
            | none => s.fail 0x0001 h 0x0106 0
            | some secret =>
              let nonce := padTo 16 (Config.freeBytes n)
              let mkey := padTo 65 (Config.ephemeralKey n)
              let id := s.freshId
              let keys := hkdf64 secret (req.hostNonce ++ nonce) (ascii "WCP2" ++ u16 id ++ [req.role])
              let sig := padTo 64 (Config.moduleSign n (sha256 (req.hostNonce ++ nonce ++ req.hostKey ++ mkey ++ u16 id ++ [req.role])))
              let x : Sess := { id := id, role := role, transport := h.transport, peer := h.peer, keyIn := keys.take 32,
                                keyOut := keys.drop 32, user := (sha256 subject).take 8, lastReq := s.now }
              let s := { s with wcp := { s.wcp with sessions := s.wcp.sessions ++ [x], nextId := id % 0xFFFE + 1 } }
              s.reply 0x0001 h 0 (u16 id ++ nonce ++ mkey ++ u16 Config.deviceCert.length ++ Config.deviceCert ++ sig)

/-- EVENT_SUBSCRIBE (R102): mask bits 1 to 13 and the minimum severity. -/
def execEventSubscribe (h : Hdr) (mask : BitVec 32) (minSev : Byte) (s : State) : Result :=
  .next <| s.wcpReq 0x0005 h (leBytes 4 mask.toNat ++ [minSev]) fun s =>
    (s.updSess h.session.toNat fun x =>
      { x with mask := mask &&& 0x3FFE, minSev := minSev.toNat, subscribed := decide (mask &&& 0x3FFE ≠ 0) }).reply 0x0005 h 0

/-- An acknowledgement of v covers sequence q (R103). -/
def ackCovers (v q : Nat) : Bool := (v + 2 ^ 32 - q) % 2 ^ 32 < 2 ^ 31

/-- EVENT_ACK (R103): every batch at or below v leaves; a batch that carried GAP ends the marking. -/
def Sess.ack (x : Sess) (v : Nat) : Sess :=
  { x with unacked := x.unacked.filter fun b => !ackCovers v b.bseq
           gap := x.gap && !(x.unacked.any fun b => b.gap && ackCovers v b.bseq) }

def execEventAck (h : Hdr) (batch : BitVec 32) (s : State) : Result :=
  .next <| s.wcpReq 0x0006 h (leBytes 4 batch.toNat) fun s =>
    (s.updSess h.session.toNat fun x => x.ack batch.toNat).reply 0x0006 h 0

/-- FAULT_STATUS (R534). -/
def execFaultStatus (h : Hdr) (s : State) : Result :=
  .next <| s.wcpReq 0x0008 h [] fun s =>
    let cur := match s.fm.cur with
      | some f => u32 f.seq ++ u16 f.code ++ u8 f.sev ++ u8 f.inst
      | none => List.replicate 8 0
    s.reply 0x0008 h 0 (cur ++ u8 s.fm.queue.length ++ [0, 0, 0]
      ++ s.fm.queue.flatMap fun f => u16 f.code ++ u8 f.sev ++ u8 f.inst)

/-- DISCARD (Table 4.9): empties the session's shadow set, and its mirror by an empty PARAM_MIRROR (R92). -/
def execDiscard (h : Hdr) (s : State) : Result :=
  .next <| s.wcpReq 0x0103 h [] fun s =>
    let n := match s.sess h.session.toNat with
      | some x => x.shadow.length
      | none => 0
    let s := s.updSess h.session.toNat fun x => { x with shadow := [] }
    let s := if s.isActive then s.emit (.shallot 0x30 (leBytes 2 h.session.toNat ++ u16 0)) else s
    s.reply 0x0103 h 0 (u16 n)

/-! ### Reception (R75 to R81) -/

/-- The tag found on a received packet (R78). -/
def State.tagOf (s : State) (bs : Bytes) (len : Nat) : TagState :=
  if !bitOf (fieldAt bs 3 1) 4 then .absent
  else match s.sess (fieldAt bs 10 2) with
    | none => .wrong
    | some x => match extend x.hi (fieldAt bs 4 2) with
      | none => .wrong
      | some e => if (hmac x.keyIn (u32 e ++ slice bs 0 (16 + len))).take 16 = slice bs (16 + len) 16 then .good else .wrong

/-- The header of a received packet (Table 4.2) with what reception found of it. -/
def State.parseHdr (s : State) (t : Transport) (peer : Nat) (bs : Bytes) : Hdr :=
  let len := fieldAt bs 8 2
  let size := 16 + len + (if bitOf (fieldAt bs 3 1) 4 then 16 else 0) + 4
  { transport := t, peer := peer,
    crcOk := decide (20 ≤ bs.length ∧ slice bs 0 2 = [0x57, 0x43]
      ∧ fieldAt bs (bs.length - 4) 4 = crc32c (bs.take (bs.length - 4))),
    sizeOk := decide (len ≤ 4096 ∧ size = bs.length), version := BitVec.ofNat 8 (fieldAt bs 2 1),
    flags := BitVec.ofNat 8 (fieldAt bs 3 1), seq := BitVec.ofNat 16 (fieldAt bs 4 2),
    session := BitVec.ofNat 16 (fieldAt bs 10 2), target := BitVec.ofNat 8 (fieldAt bs 12 1),
    resv := BitVec.ofNat 24 (fieldAt bs 13 3), tag := s.tagOf bs len }

/-- The length an opcode's payload has, where it is one number (the opcode tables). -/
def payloadLen (op : Nat) : Option Nat :=
  if op ∈ [0x0000, 0x0002, 0x0003, 0x0008, 0x0021, 0x0102, 0x0103, 0x0106, 0x0420, 0x0600, 0x0700, 0x0701, 0x0703, 0x0704, 0x0705, 0x0800, 0x0801,
      0x0802, 0x0803, 0x0910, 0x0911, 0x0913, 0x0923, 0x0924, 0x0A10, 0x0A11, 0x0B00, 0x0B03, 0x0B05, 0x0B06] then some 0
  else if op ∈ [0x0020, 0x0200, 0x0201, 0x0202, 0x0300, 0x0302, 0x0303, 0x0304, 0x0310, 0x0340, 0x0401, 0x0402, 0x0407, 0x0421, 0x0422, 0x0501, 0x0510,
      0x0511, 0x0522, 0x0702, 0x0812, 0x0815, 0x0816, 0x0900, 0x0B04, 0x0B07, 0x0B08] then some 1
  else if op ∈ [0x0104, 0x0105, 0x0204, 0x0210, 0x0301, 0x0311, 0x0403, 0x0404, 0x0500, 0x0513, 0x0520, 0x0521, 0x0601, 0x0603, 0x0813, 0x0C02] then some 2
  else if op ∈ [0x0203, 0x0212, 0x0213, 0x0214, 0x0512, 0x0814] then some 3
  else if op ∈ [0x0006, 0x0502, 0x0602, 0x0811, 0x0903, 0x0B01] then some 4
  else if op = 0x0005 then some 5
  else if op = 0x0912 then some 6
  else if op = 0x0C01 then some 7
  else if op ∈ [0x0406, 0x0901, 0x0902, 0x0920] then some 8
  else if op = 0x0C00 then some 10
  else if op ∈ [0x0400, 0x0405] then some 12
  else if op = 0x0922 then some 15
  else none

/-- Where a list of entries ends short or leaves bytes over: n entries, `w` bytes each and as many more as their 16-bit word at `len` says. -/
def entriesEnd (w : Nat) (len : Option Nat) : Nat → Nat → Bytes → Option Nat
  | 0, o, b => if b = [] then none else some o
  | n + 1, o, b =>
    let size := w + match len with
      | some k => fieldAt b k 2
      | none => 0
    if b.length < size ∨ b.length < w then some (o + b.length) else entriesEnd w len n (o + size) (b.drop size)

/-- The byte offset at which a payload is not of its opcode's form, if any (Table 4.5, status 0x0102). -/
def malformed (op : Nat) (b : Bytes) : Option Nat :=
  match payloadLen op with
  | some n => if b.length = n then none else some (min n b.length)
  | none =>
    let least := fun (n : Nat) => if b.length < n then some b.length else none
    let exact := fun (n : Nat) => if b.length = n then none else some (min n b.length)
    match op with
    | 0x0001 => if b.length < 85 then some b.length else exact (149 + fieldAt b 83 2)
    | 0x0100 => if fieldAt b 0 2 = 0 ∨ 64 < fieldAt b 0 2 then some 0 else entriesEnd 4 none (fieldAt b 0 2) 2 (b.drop 2)
    | 0x0101 => if fieldAt b 0 2 = 0 ∨ 64 < fieldAt b 0 2 then some 0 else entriesEnd 6 (some 4) (fieldAt b 0 2) 2 (b.drop 2)
    | 0x0A00 => if b = [] then some 0 else exact (1 + fieldAt b 0 1)
    | 0x0A01 => if b = [] then some 0 else exact (1 + fieldAt b 0 1)
    | 0x0211 => least 3
    | 0x0810 => least 2
    | 0x0921 => least 4
    | 0x0B02 => least 4
    | _ => none

/-- A whole request (R79, R83, R85): it waits for execution, unless it waits already; a payload that is not of its opcode's form is answered 0x0102
with the offset once checks 7 to 9 have passed (assumption log 185). -/
def State.takeRequest (s : State) (h : Hdr) (op : Nat) (pl : Bytes) : State :=
  if s.wcp.queue.any fun w => w.is op h then s
  else match malformed op pl with
    | none => s.enqueue ⟨h, op, pl⟩
    | some off => match s.checkOp op h false [] with
      | .pass => (s.accept h).failAll op h pl 0x0102 off 0
      | v => s.refuse op h pl v

/-- A part of a request with SESSION 0 (R81, R87). -/
def State.assemble0 (s : State) (h : Hdr) (op : Nat) (pl : Bytes) : State :=
  let mine := fun (x : Split0) => x.transport == h.transport && x.peer == h.peer && x.opcode == op && x.seq == h.seq.toNat
  let rest := s.wcp.splits.filter fun x => !mine x
  let more := h.flags.getLsbD 2
  let s' := { s with wcp := { s.wcp with splits := rest } }
  match s.wcp.splits.find? mine with
  | some x =>
    let all := x.bytes ++ pl.drop 4
    if x.dropped ∨ all.length > 16384 ∨ pl.length < 4 ∨ fieldAt pl 0 4 ≠ x.bytes.length then
      if more then { s with wcp := { s.wcp with splits := rest ++ [{ x with dropped := true }] } }
      else s'.post (s.replyPacket op h 0x0102 (u16 0 ++ u32 0) true)
    else if more then { s with wcp := { s.wcp with splits := rest ++ [{ x with bytes := all }] } }
    else s'.takeRequest h op all
  | none =>
    if more then { s with wcp := { s.wcp with splits := rest ++ [⟨h.transport, h.peer, op, h.seq.toNat, pl, s.now, false⟩] } }
    else s.takeRequest h op pl

/-- A request, or the part of a split one (R81): executed only when its last packet has come, within 16,384 bytes; parts out of place drop it. -/
def State.assemble (s : State) (h : Hdr) (op : Nat) (pl : Bytes) : State :=
  match s.sess h.session.toNat with
  | none => s.assemble0 h op pl
  | some x =>
    let more := h.flags.getLsbD 2
    match x.split with
    | some (op', seq', got, since) =>
      if op' = op ∧ seq' = h.seq.toNat then
        let all := got ++ pl.drop 4
        if all.length > 16384 ∨ pl.length < 4 ∨ fieldAt pl 0 4 ≠ got.length then
          if more then s.setSess { x with split := none, splitDropped := some (op, h.seq.toNat) }
          else (s.setSess { x with split := none }).post (s.replyPacket op h 0x0102 (u16 0 ++ u32 0) true)
        else if more then s.setSess { x with split := some (op, h.seq.toNat, all, since) }
        else (s.setSess { x with split := none }).takeRequest h op all
      else if more then s.setSess { x with split := some (op, h.seq.toNat, pl, s.now) }
      else s.takeRequest h op pl
    | none =>
      if x.splitDropped = some (op, h.seq.toNat) then
        if more then s else (s.setSess { x with splitDropped := none }).post (s.replyPacket op h 0x0102 (u16 0 ++ u32 0) true)
      else if more then s.setSess { x with split := some (op, h.seq.toNat, pl, s.now) }
      else s.takeRequest h op pl

/-- One received packet: checks 1 to 7 of Table 4.4, then the execution queue. -/
def State.receive (s : State) (t : Transport) (peer : Nat) (bs : Bytes) : State :=
  let h := s.parseHdr t peer bs
  let op := fieldAt bs 6 2
  if !s.answers h op then s
  else match s.checkPacket h with
    | .pass => if (leastOf op).isNone then s.refuse op h [] (.err 0x0101 0 op) else s.assemble h op (slice bs 16 (fieldAt bs 8 2))
    | v => s.refuse op h [] v

/-- HL_IRQ is low (R76): a reply or event batch waits to be read. -/
def State.hlIrqLow (s : State) : Bool := !s.wcp.hostRest.isEmpty || !s.wcp.hostOut.isEmpty

/-- HOST_LINK_WRITE (R76): command 0x01 delivers one packet, 0x02 is a read's; any other command, an oversize write or HL_CS raised mid-packet is
a framing error. -/
def execHostLinkWrite (cmd : Byte) (bytes : Bytes) (cut : Bool) (s : State) : Result :=
  .next <| if cmd = 2 then s else if cmd = 1 ∧ bytes.length ≤ 4132 ∧ !cut then s.receive .host 0 bytes else s.inc 0x36 0

/-- HOST_LINK_READ (R76): two length bytes (0 if nothing waits), then one packet; HL_CS raised mid-packet discards that packet, a framing
error. -/
def execHostLinkRead (cut : Bool) (s : State) : Result :=
  .next <| match s.wcp.hostRest with
    | b :: rest =>
      let s := { s with wcp := { s.wcp with hostRest := rest } }
      if cut then s.inc 0x36 0 else s.emit (.host (u16 b.length ++ b))
    | [] => match s.wcp.hostOut with
      | [] => s.emit (.host (u16 0))
      | p :: ps => match wirePackets p with
        | [] => { s with wcp := { s.wcp with hostOut := ps } }
        | b :: rest =>
          let s := { s with wcp := { s.wcp with hostOut := ps, hostRest := rest } }
          if cut then s.inc 0x36 0 else s.emit (.host (u16 b.length ++ b))

/-- The fragments of a reassembly in order of offset. -/
def insertFrag (f : Nat × Bytes) : List (Nat × Bytes) → List (Nat × Bytes)
  | [] => [f]
  | g :: t => if f.1 ≤ g.1 then f :: g :: t else g :: insertFrag f t

/-- The datagram once every byte from `pos` to its end has come. -/
def joinFrags (total : Nat) : Nat → List (Nat × Bytes) → Option Bytes
  | pos, [] => if pos = total then some [] else none
  | pos, (o, b) :: t => if o = pos then (joinFrags total (pos + b.length) t).map (b ++ ·) else none

/-- A UDP datagram for WCP (R75): whole, or a fragment that joins its reassembly, of which at most 4 are held, each of at most 4,132 bytes. -/
def State.datagram (s : State) (t : Transport) (peer key offset : Nat) (more : Bool) (bytes : Bytes) : State :=
  if offset = 0 ∧ !more then s.receive t peer bytes
  else
    let old := s.wcp.reasm.find? fun r => r.key == key
    let rest := s.wcp.reasm.filter fun r => r.key != key
    let r : Reasm := old.getD ⟨key, [], none, s.now⟩
    let r := { r with frags := insertFrag (offset, bytes) r.frags
                      total := if more then r.total else some (offset + bytes.length) }
    if offset + bytes.length > 4132 then { s with wcp := { s.wcp with reasm := rest } }
    else if old.isNone ∧ rest.length ≥ 4 then s
    else match r.total.bind fun n => joinFrags n 0 r.frags with
      | some d => ({ s with wcp := { s.wcp with reasm := rest } }).receive t peer d
      | none => { s with wcp := { s.wcp with reasm := rest ++ [r] } }

/-- REASSEMBLY_TIMEOUT (R75): a reassembly not complete within 1 s is discarded. -/
def execReassemblyTimeout (key : Nat) (s : State) : Result :=
  .next <| match s.wcp.reasm.find? fun r => r.key == key with
    | some r =>
      let s := s.advanceTo (r.since + 1000000000)
      { s with wcp := { s.wcp with reasm := s.wcp.reasm.filter fun r => r.key != key } }
    | none => s

/-- SPLIT_REQUEST_TIMEOUT (R81): a split request not complete within 1 s is dropped; its last packet is answered 0x0102. Session 0 stands for the
oldest request without a session. -/
def execSplitRequestTimeout (session : Nat) (s : State) : Result :=
  .next <| if session = 0 then
      match s.wcp.splits.find? fun x => !x.dropped with
      | some x =>
        let s := s.advanceTo (x.since + 1000000000)
        { s with wcp := { s.wcp with splits := s.wcp.splits.map fun y => if y = x then { x with bytes := [], dropped := true } else y } }
      | none => s
    else match s.sess session with
    | some x => match x.split with
      | some (op, seq, _, since) =>
        (s.advanceTo (since + 1000000000)).setSess { x with split := none, splitDropped := some (op, seq) }
      | none => s
    | none => s

/-! ### Event batches (R102, R103) -/

/-- EVENT_BATCH (R102): the session's batch closes, 10 ms after its first event. -/
def execEventBatch (session : Nat) (s : State) : Result :=
  .next <| match s.sess session with
    | some x => if x.collecting = [] then s else (s.advanceTo (x.collectSince + 10000000)).closeBatch session
    | none => s

/-- Whether a batch is due again at an instant: SYS.WCP_EVENT_RETRY_MS since it was last sent (R103). -/
def Batch.due (b : Batch) (now period : Nat) : Bool := b.sent + period ≤ now

/-- The batches of a session at an instant (R103): each that is due is resent, up to 5 times, then dropped with GAP set. -/
def Sess.retry (x : Sess) (now period : Nat) : Sess :=
  { x with unacked := (x.unacked.filter fun b => !b.due now period || decide (b.resends < 5)).map fun b =>
             if b.due now period then { b with resends := b.resends + 1, sent := now } else b
           gap := x.gap || x.unacked.any fun b => b.due now period && decide (5 ≤ b.resends) }

/-- EVENT_BATCH_RETRY (R103): the instant at which the session's first unacknowledged batch is due again. -/
def execEventBatchRetry (session : Nat) (s : State) : Result :=
  .next <| match s.sess session with
    | some x => match x.unacked with
      | [] => s
      | b :: bs =>
        let period := s.parN 0x32 0 * 1000000
        let s := s.advanceTo (bs.foldl (fun t b => min t b.sent) b.sent + period)
        (x.unacked.filter fun b => b.due s.now period && decide (b.resends < 5)).foldl
          (fun s b => s.sendBatch session b) (s.setSess (x.retry s.now period))
    | none => s

end Sys2Proof.Machine
end

