-- ==== Sys2Proof/Machine/Net.lean ====
section
/-! DEFINITION. Chapter 14: the plant ports and PRP (R401 to R408), module time and its servo (R409 to R420), launch-time
transmission (R421, R422) and time quality (R423). -/

namespace Sys2Proof.Machine
open Sys2Proof

def State.eth (s : State) (p : Nat) : PortSt := match p with | 0 => s.net.eth0 | 1 => s.net.eth1 | _ => s.net.svc

def State.setEth (s : State) (p : Nat) (x : PortSt) : State :=
  match p with
  | 0 => { s with net := { s.net with eth0 := x } }
  | 1 => { s with net := { s.net with eth1 := x } }
  | _ => { s with net := { s.net with svc := x } }

/-! ### Frames -/

/-- PD_NET is on and the module runs (R21, R69). -/
def State.netOn (s : State) : Bool :=
  s.sys.lifecycle != .boot && (s.sys.power == .p0 || s.sys.power == .p1 || s.sys.power == .p2)

/-- A port takes part in traffic (NET.PORT_ENABLE; R406: without PRP, ETH1 is ignored). -/
def State.portOn (s : State) (p : Nat) : Bool := p < 3 && s.netOn && s.parN 0x800 p == 1 && !(p == 1 && s.parN 0x807 0 == 0)

/-- The time a frame takes on the wire at 1 Gbit/s, with its header, check sequence and gap (R421). -/
def wireNs (data : Bytes) : Nat := 8 * max 84 (data.length + 38)

/-- A frame of Q2 could not finish before the port's next launch time, or others wait before it (R421). -/
def State.q2Waits (s : State) (p : Nat) (data : Bytes) : Bool :=
  let x := s.eth p
  !x.waiting.isEmpty || x.queue.any fun f => decide (s.now ≤ f.launch ∧ f.launch < s.now + wireNs data)

/-- A frame leaves a port whose link is up: the queues of R421, where kinds 5 to 7 are PTP event messages (Q0) and 9 WSF PDUs (Q1). -/
def State.ethOut (s : State) (p kind : Nat) (data : Bytes) : State :=
  if !s.portOn p || (s.eth p).link != 1 then s
  else if !(5 ≤ kind && kind ≤ 7 || kind == 9) && s.q2Waits p data then s.setEth p { s.eth p with waiting := (s.eth p).waiting ++ [(kind, data)] }
  else (s.inc 0x841 p).emit (.eth p kind data)

/-! ### Frames received (R402) -/

/-- The tag rule of R402: one tag of NET.VLAN's identifier while its bit 15 is set, none while it is clear. -/
def State.tagsOk (s : State) (tags : List (BitVec 16)) : Bool :=
  let v := s.parN 0x806 0
  match tags with
  | [] => v < 32768
  | [t] => 32768 ≤ v && t.toNat % 4096 == v % 4096
  | _ => false

/-- A frame that R402 does not accept is dropped and counted. -/
def State.dropFrame (s : State) (f : EthIn) : State := if f.passed then s else s.inc 0x843 f.port

/-- A frame reaches a port (R402, Table 14.7): counted; a wrong check sequence or tag ends it. The content of a frame that PRP_FRAME has passed on is
counted there. -/
def State.ethIn (s : State) (f : EthIn) (act : State → State) : State :=
  if !s.portOn f.port then s
  else if f.passed then act s
  else if !f.fcsOk then s.inc 0x842 f.port
  else if !s.tagsOk f.tags then s.inc 0x843 f.port
  else act (s.inc 0x840 f.port)

/-- The redundancy control trailer (R406). -/
def prpTrailer (seq : BitVec 16) (p : Nat) : Bytes := beBytes 2 seq.toNat ++ [if p = 0 then 0xA0 else 0xB0]

/-- A plant frame other than PTP and PRP supervision: both ports, one sequence number (R406). -/
def State.plantOut (s : State) (kind : Nat) (data : Bytes) : State :=
  if s.parN 0x807 0 = 1 then
    let q := s.net.prpSeq
    let s := { s with net := { s.net with prpSeq := q + 1 } }
    (s.ethOut 0 kind (data ++ prpTrailer q 0)).ethOut 1 kind (data ++ prpTrailer q 1)
  else s.ethOut 0 kind data

/-- The module address a port answers for (R403). -/
def State.ownIp (s : State) (p : Nat) : Nat := s.parN 0x802 (if p = 2 then 2 else 0)

/-- This module holds the pair address (R404). -/
def State.holdsPair (s : State) : Bool := s.isActive && s.parN 0x805 0 != 0

/-- A port's MAC address (R403). -/
def State.mac (s : State) (p : Nat) : Bytes := s.par 0x801 (if p = 2 then 2 else 0)

/-- An address this module accepts packets for on a port (R403 to R405). -/
def State.forUs (s : State) (port : Nat) (ip : BitVec 32) : Bool :=
  (ip != 0 && ip.toNat == s.ownIp port) || (decide (port < 2) && s.holdsPair && ip.toNat == s.parN 0x805 0)

/-- ARP_REQUEST (R404, R405). -/
def execArpRequest (f : EthIn) (ip : BitVec 32) (mac : Bytes) (s : State) : Result :=
  .next <| s.ethIn f fun s =>
    let data := s.mac f.port ++ beBytes 4 ip.toNat ++ mac
    if !s.forUs f.port ip then s else if f.port = 2 then s.ethOut 2 1 data else s.plantOut 1 data

/-- ICMP_ECHO (R402): at most 10 replies a second. -/
def execIcmpEcho (f : EthIn) (dst src : BitVec 32) (data : Bytes) (s : State) : Result :=
  .next <| s.ethIn f fun s =>
    let recent := s.net.echoes.filter fun t => s.now < t + 1000000000
    if !s.forUs f.port dst then s.dropFrame f
    else if recent.length < 10 then
      let s := { s with net := { s.net with echoes := s.now :: recent } }
      let d := beBytes 4 src.toNat ++ data
      if f.port = 2 then s.ethOut 2 2 d else s.plantOut 2 d
    else { s with net := { s.net with echoes := recent } }

/-- UDP_DATAGRAM (R75, R402): to this module and port 47310 it is WCP's; WSF and PTP datagrams of the plant ports have commands of their own; any
other is dropped. -/
def execUdpDatagram (f : EthIn) (dst : BitVec 32) (dport peer key offset : Nat) (more : Bool) (bytes : Bytes) (s : State) : Result :=
  .next <| s.ethIn f fun s =>
    if dport = 47310 ∧ s.forUs f.port dst then s.datagram (if f.port = 2 then .svc else .plant) peer key offset more bytes
    else if f.port < 2 ∧ (dport = 319 ∨ dport = 320 ∨ (dport = 47311 ∧ s.forUs f.port dst)) then s
    else s.dropFrame f

/-- GRATUITOUS_ARP (R404): within 1 ms of becoming ACTIVE, after 100 ms and after 1 s. -/
def execGratuitousArp (s : State) : Result :=
  .next <| match s.net.arps with
    | [] => s
    | t :: rest =>
      let s := { s.advanceTo t with net := { s.net with arps := rest } }
      if s.holdsPair then s.plantOut 3 (s.mac 0 ++ beBytes 4 (s.parN 0x805 0)) else s

/-- PRP_SUPERVISION (R406). -/
def execPrpSupervision (s : State) : Result :=
  .next <|
    if !s.netOn ∨ s.parN 0x807 0 = 0 then s else
      let s := s.advanceTo (s.net.supAt + s.parN 0x809 0 * 1000000)
      let s := { s with net := { s.net with supAt := s.now } }
      (s.ethOut 0 4 (s.mac 0)).ethOut 1 4 (s.mac 0)

/-- A wrong-LAN frame (R407). -/
def State.wrongLan (s : State) : State :=
  let s := s.inc 0x846 0
  let ts := s.now :: s.net.wrongLan.filter fun t => s.now < t + 1000000000
  let s := { s with net := { s.net with wrongLan := ts } }
  let due : Bool := match s.net.lanRaised with
    | some t => decide (t + 60000000000 ≤ s.now)
    | none => true
  if 16 < ts.length ∧ due then ({ s with net := { s.net with lanRaised := some s.now } }).raise 0x8004 0 1 else s

/-- PRP_FRAME (R407): the first copy is delivered, its content by a command of its own; the second is discarded; `lan` is 0 for LAN A, 1 for
LAN B. -/
def execPrpFrame (f : EthIn) (src : Nat) (seq : BitVec 16) (lan : Nat) (s : State) : Result :=
  .next <|
    if 2 ≤ f.port ∨ s.parN 0x807 0 = 0 ∨ f.passed then s else s.ethIn f fun s =>
      let s := if lan ≠ f.port then s.wrongLan else s
      let fresh := fun (l : List (BitVec 16 × Nat)) => l.filter fun e => decide (s.now < e.2 + s.parN 0x808 0 * 1000000)
      let tbl : SMap (List (BitVec 16 × Nat)) := (s.net.prpSeen.map fun e => (e.1, fresh e.2)).filter fun e => e.2 ≠ []
      let seen := tbl.at src []
      if seen.any fun e => e.1 == seq then ({ s with net := { s.net with prpSeen := tbl } }).inc 0x845 0
      else if seen = [] ∧ 256 ≤ tbl.length then ({ s with net := { s.net with prpSeen := tbl } }).inc 0x847 0
      else { s with net := { s.net with prpSeen := tbl.set src ((seq, s.now) :: seen) } }

/-! ### The servo (R413 to R419) -/

/-- The path delay in use (R415): the median of the last PTP.DELAY_FILTER measurements. -/
def State.pathDelay (s : State) (p : Nat) : Int :=
  let ds := (s.eth p).delays.take (s.parN 0x86F 0)
  if ds = [] then 0 else rhe (medianQ (ds.map fun (d : Int) => (d : ℚ)))

/-- The mean of a list of nanoseconds. -/
def meanI (l : List Int) : Int := if l = [] then 0 else rhe ((l.sum : ℚ) / (l.length : ℚ))

/-- The addend of a frequency correction in ppb (R417). -/
def State.steer (s : State) (y : ℚ) : State :=
  { s with net := { s.net with y := y, addend := (rhe (34359738368 * (1 - y / 1000000000))).toNat } }

/-- Entry to LOCKED (Table 14.2). -/
def State.servoLock (s : State) : State :=
  ({ s with net := { s.net with servo := 2, everLocked := true, holdLong := false } }).raise 0x8020 0 0

/-- Entry to HOLDOVER (Table 14.2): the addend is held at the mean of the last 16. -/
def State.servoHold (s : State) : State :=
  if s.net.servo = 3 then s else
    let m := if s.net.ys = [] then s.net.y else s.net.ys.sum / (s.net.ys.length : ℚ)
    ({ s.steer m with net := { (s.steer m).net with servo := 3, holdSince := s.now } }).raise 0x8021 0 1

/-- PTP.ENABLE of a plant port, its link and its domain are in use. -/
def State.ptpOn (s : State) (p : Nat) : Bool :=
  p < 2 && s.portOn p && bitOf (s.parN 0x860 0) p && (s.eth p).link == 1

/-- The peer-to-peer mechanism (Table 14.1): the power utility profile has no other. -/
def State.p2p (s : State) : Bool := s.parN 0x861 0 == 1 || s.parN 0x862 0 == 1

/-- The PTP messages that Table 14.1 lists as received: Sync, Pdelay_Req, Pdelay_Resp, Follow_Up, Delay_Resp, Pdelay_Resp_Follow_Up, Announce. -/
def ptpKinds : List Nat := [0, 2, 3, 8, 9, 10, 11]

/-- A message on the domain and transport in use (Table 14.1). -/
def State.ptpOurs (s : State) (m : PtpHdr) : Bool :=
  ptpKinds.contains m.type && m.domain == s.parN 0x864 0 && m.udp == (s.parN 0x863 0 == 1 && s.parN 0x861 0 == 0)

/-- A PTP message reaches a port (R402, R413): one that Table 14.1 does not list or support is ignored and counted in PTP.IGNORED. -/
def State.ptpIn (s : State) (f : EthIn) (m : PtpHdr) (kinds : List Nat) (act : State → State) : State :=
  s.ethIn f fun s =>
    if 2 ≤ f.port then s.dropFrame f
    else if !s.ptpOn f.port then s
    else if !s.ptpOurs m then s.inc 0x8A2 0
    else if kinds.contains m.type then act s else s

/-- The first data set is better than the second (R416, IEEE 1588-2019). -/
def annBetter (a b : AnnounceData) : Bool :=
  let ka := [a.prio1, a.clockClass, a.accuracy, a.variance, a.prio2, ofBe a.identity, a.steps]
  let kb := [b.prio1, b.clockClass, b.accuracy, b.variance, b.prio2, ofBe b.identity, b.steps]
  match (ka.zip kb).find? fun p => p.1 != p.2 with
  | some p => decide (p.1 < p.2)
  | none => false

/-- The master a port offers as servo source. -/
def State.source (s : State) (p : Nat) : Option AnnounceData := if s.ptpOn p then (s.eth p).master else none

/-- The servo source by R416: the better master, ETH0 on a tie, the other port where one has none. -/
def State.bestPort (s : State) : Nat :=
  match s.source 0, s.source 1 with
  | some a, some b => if annBetter b a then 1 else 0
  | none, some _ => 1
  | some _, none => 0
  | none, none => s.net.port

/-- A change of source adds the ports' difference to the servo input (R416). -/
def State.reselect (s : State) : State :=
  let p := s.bestPort
  if p = s.net.port then s else
    let d := meanI s.net.diffs
    let s := { s with net := { s.net with port := p, bias := s.net.bias + (if p = 1 then d else -d), jumps := [] } }
    (s.inc 0x8A5 0).raise 0x8023 0 0 (u8 p)

/-- PTP_ANNOUNCE (R416). -/
def execPtpAnnounce (f : EthIn) (m : PtpHdr) (a : AnnounceData) (s : State) : Result :=
  .next <| s.ptpIn f m [11] fun s =>
    let x := s.eth f.port
    let take : Bool := match x.master with
      | none => true
      | some b => b.identity == a.identity || annBetter a b
    let other : Bool := match x.master with
      | none => false
      | some b => b.identity != a.identity
    if !take then s.reselect
    else
      let s := s.setEth f.port { x with master := some a, annAt := s.now }
      let s := { s with net := { s.net with annIv := a.interval, jumps := if other && f.port == s.net.port then [] else s.net.jumps } }
      s.reselect

/-- HOLDOVER from LOCKED (Table 14.2): no accepted Sync on any port for PTP.ANNOUNCE_TIMEOUT Announce intervals. -/
def State.lostSync (s : State) : State :=
  if s.net.servo = 2 ∧ !s.isStandby ∧ s.net.syncAt + s.parN 0x866 0 * s.net.annIv ≤ s.now then s.servoHold else s

/-- PTP_ANNOUNCE_TIMEOUT (R416): PTP.ANNOUNCE_TIMEOUT intervals without an Announce of the port's master. -/
def execPtpAnnounceTimeout (port : Nat) (s : State) : Result :=
  .next <| match (s.eth port).master with
    | none => s
    | some a =>
      if 2 ≤ port then s
      else
        let s := (s.advanceTo ((s.eth port).annAt + s.parN 0x866 0 * a.interval)).inc 0x8A3 0
        (s.setEth port { s.eth port with master := none, offsets := [], sync := none }).reselect.lostSync

/-- The instant of a step: a boundary at least two control periods ahead (R420). -/
def State.stepInstant (s : State) : Nat :=
  let t := s.parN 0x300 0
  (s.now / t + 3) * t

/-- A step is announced (R420). -/
def State.announceStep (s : State) (d : Int) : State :=
  let at_ := s.stepInstant
  let s := { s with net := { s.net with step := some (at_, d) } }
  if s.isActive then s.emit (.shallot 0x06 (u8 4 ++ time80Bytes at_ ++ sBytes 8 d)) else s

/-- One servo step on an accepted Sync (R417, Table 14.2). -/
def State.servoRun (s : State) (o : Int) (interval : Nat) (good : Nat) : State :=
  let lim : ℚ := s.parN 0x869 0
  let sec : ℚ := (interval : ℚ) / 1000000000
  let cl := fun (v : ℚ) => max (-lim) (min lim v)
  let i := cl (s.net.i + s.parF 0x868 0 * o / sec)
  let y := cl (s.parF 0x867 0 * o / sec + i)
  let s := s.steer y
  let s := { s with net := { s.net with i := i, ys := (y :: s.net.ys).take 16, servo := if s.net.servo = 0 then 1 else s.net.servo } }
  if 16 ≤ good ∧ s.net.servo ≠ 2 then s.servoLock else s

/-- A large offset after the first lock (R419). -/
def State.jumpSync (s : State) (o : Int) : State :=
  let j : Int := s.parN 0x86B 0
  let s := s.inc 0x8A1 0
  let js := if s.net.jumps.all fun p => decide (|p - o| ≤ j) then o :: s.net.jumps else [o]
  if js.length < s.parN 0x86C 0 then { s with net := { s.net with jumps := js } }
  else
    let m := meanI js
    let s := s.servoHold
    ({ s with net := { s.net with jumps := [], jump := some m, accepted := decide (s.parN 0x86D 0 = 1) } }).raise 0x8010 0 1 (sBytes 8 m)

/-- The jump ends without a step (R419). -/
def State.jumpOver (s : State) : State :=
  let op := s.net.jumpOp
  let s := { s with net := { s.net with jump := none, accepted := false, jumpOp := none } }
  match op with
  | some r => s.complete r 0
  | none => s

/-- The servo, step and jump logic on the offset of the selected port's Sync (R417 to R419). -/
def State.servoSync (s : State) (o : Int) (interval good : Nat) : State :=
  let j : Int := s.parN 0x86B 0
  if s.net.step.isSome then s
  else match s.net.jump with
    | some _ =>
      if !s.net.accepted then s
      else if |o| ≤ j then (s.jumpOver).servoRun o interval good
      else s.announceStep (-o)
    | none =>
      if j < |o| then
        (if s.net.everLocked then s.jumpSync o
         else ({ s with net := { s.net with servo := if s.net.servo = 0 then 1 else s.net.servo } }).announceStep (-o))
      else ({ s with net := { s.net with jumps := [] } }).servoRun o interval good

/-- Both ports receive Sync: their difference over the last 16 (R416). -/
def State.portDiff (s : State) (port : Nat) (o : Int) : State :=
  match (s.eth (1 - port)).offsets with
  | [] => s
  | p :: _ =>
    let ds := ((if port = 0 then o - p else p - o) :: s.net.diffs).take 16
    let s := { s with net := { s.net with diffs := ds } }
    let due : Bool := match s.net.diffRaised with
      | some t => decide (t + 3600000000000 ≤ s.now)
      | none => true
    if (s.parN 0x870 0 : Int) < |meanI ds| ∧ due then
      ({ s with net := { s.net with diffRaised := some s.now } }).raise 0x8024 0 1 (sBytes 8 (meanI ds))
    else s

/-- PTP_SYNC (R414, R415, R417): t1 and t2 in ns, corr the correctionField in ns, the Sync interval in ns. -/
def execPtpSync (f : EthIn) (m : PtpHdr) (t1 t2 : Nat) (corr : Int) (interval : Nat) (master : Bytes) (s : State) : Result :=
  .next <| s.ptpIn f m [0] fun s =>
    let port := f.port
    let x := s.eth port
    if (x.master.map (·.identity)) ≠ some master then s
    else
      let s := s.inc 0x8A0 0
      let rx : Int := (t2 : Int) - s.parN 0x80A port
      let o : Int := rx - t1 - corr - s.pathDelay port
      let inp := if port = s.net.port then o + s.net.bias else o
      let outlier := s.net.everLocked && decide ((s.parN 0x86B 0 : Int) < |inp|)
      let good := if outlier then x.good else if |inp| ≤ (s.parN 0x86A 0 : Int) then x.good + 1 else 0
      let x := { x with sync := some (t1, rx, corr) }
      let s := if outlier then s.setEth port x
        else
          let s := s.setEth port { x with offsets := (o :: x.offsets).take 16, good := good }
          ({ s with net := { s.net with syncAt := s.now } }).portDiff port o
      if port ≠ s.net.port ∨ s.isStandby then s else s.servoSync inp interval good

/-- A path-delay measurement joins the filter; one above 3 times its median, or negative, is discarded (R415). -/
def State.takeDelay (s : State) (port : Nat) (d : Int) : State :=
  let x := s.eth port
  if d < 0 ∨ (x.delays ≠ [] ∧ 3 * s.pathDelay port < d) then s.inc 0x8A1 0
  else s.setEth port { x with delays := (d :: x.delays).take 64 }

/-- The mean path delay of an answered request (R414, R415, IEEE 1588-2019), from its egress time: end to end with the last Sync, where t2 is the
master's receive time; peer to peer with t2 and t3 of the responder and the MAC stamp t4. -/
def State.meanPath (s : State) (port : Nat) (peer : Bool) (out : Int) (t2 t3 t4 : Nat) (corr : Int) : Option Int :=
  if peer then some (rheDiv (((t4 : Int) - s.parN 0x80A port - out) - ((t3 : Int) - t2) - corr) 2)
  else (s.eth port).sync.map fun q => rheDiv ((q.2.1 - out) + ((t2 : Int) - q.1) - q.2.2 - corr) 2

/-- PTP_DELAY_RESP (R415): the answer to the request sent last; of the mechanism not in use it is ignored (R413). -/
def execPtpDelayResp (f : EthIn) (m : PtpHdr) (t2 t3 t4 : Nat) (corr : Int) (s : State) : Result :=
  .next <| s.ptpIn f m [3, 9, 10] fun s =>
    let x := s.eth f.port
    let peer := m.type != 9
    if peer != s.p2p then s.inc 0x8A2 0
    else match x.reqAt with
      | none => s
      | some out =>
        let s := s.setEth f.port { x with reqAt := none }
        match s.meanPath f.port peer out t2 t3 t4 corr with
        | none => s
        | some d => s.takeDelay f.port d

/-- PTP_PDELAY_REQ (R413, R414): Pdelay_Resp and its follow-up. -/
def execPtpPdelayReq (f : EthIn) (m : PtpHdr) (rx : Nat) (s : State) : Result :=
  .next <| s.ptpIn f m [2] fun s =>
    (s.ethOut f.port 7 (time80Bytes (rx - s.parN 0x80A f.port))).ethOut f.port 8 (time80Bytes (s.now + s.parN 0x80B f.port))

/-- The next interval between requests, drawn from 50 % to 150 % of PTP.DELAY_REQ_MS (R415), in ns. -/
def State.drawInterval (s : State) : Nat := s.parN 0x865 0 * (500 + (Config.free32 s.free).toNat % 1001) * 1000

/-- DELAY_REQ_DUE (R415): Delay_Req in E2E, Pdelay_Req in P2P, at the drawn instant; its egress time is kept for the answer. -/
def execDelayReqDue (port : Nat) (s : State) : Result :=
  .next <|
    if !s.ptpOn port then s
    else
      let s := s.advanceTo (s.eth port).reqDue
      let out := s.now + s.parN 0x80B port
      let due := s.now + s.drawInterval
      let s := { s with free := s.free + 1 }
      (s.setEth port { s.eth port with reqAt := some (out : Int), reqDue := due }).ethOut port (if s.p2p then 6 else 5) (time80Bytes out)

/-- HOLDOVER_LONG (R417). -/
def execHoldoverLong (s : State) : Result :=
  .next <| if s.net.servo = 3 ∧ !s.net.holdLong then
    let s := s.advanceTo (s.net.holdSince + s.parN 0x86E 0 * 1000000000)
    ({ s with net := { s.net with holdLong := true } }).raise 0x8022 0 1
    else s

/-- A STANDBY steers its addend by the boundary stamps of LOOP_COPY, within the limit of the servo (R412); the law is not stated. -/
def State.steerTwin (s : State) (d : Int) : State :=
  let lim : ℚ := s.parN 0x869 0
  s.steer (max (-lim) (min lim (Config.twinPpb s.net.y d)))

/-- A takeover (R417, R419): the servo starts from the present addend, and the jump is judged afresh. -/
def State.servoTakeover (s : State) : State :=
  let s := { s with net := { s.net with jump := none, accepted := false, jumps := [], jumpOp := none, i := s.net.y, twinSet := false } }
  if 16 ≤ (s.eth s.net.port).good then s.servoLock
  else { s with net := { s.net with servo := 0 } }.servoHold

/-- PD_NET goes off: never locked under the time steps again (R411). -/
def State.netOff (s : State) : State :=
  let clear := fun (p : PortSt) => { p with queue := [], waiting := [], master := none, delays := [], offsets := [], good := 0, sync := none, reqAt := none }
  { s with net := { s.net with eth0 := clear s.net.eth0, eth1 := clear s.net.eth1, svc := clear s.net.svc, servo := 0, everLocked := false,
                               holdLong := false, jump := none, accepted := false, jumps := [], ys := [], diffs := [], bias := 0, prpSeen := [],
                               arps := [], step := none } }

/-! ### Links (R408) -/

/-- ETH_LINK_CHANGE (R401, R408): 0 down, 1 up, 2 trained at another speed and held down. -/
def execEthLinkChange (port link : Nat) (s : State) : Result :=
  .next <|
    if 3 ≤ port ∨ 3 ≤ link then s else
      let old := (s.eth port).link
      let s := if link = 2 then s.inc 0x844 port else s
      let x := s.eth port
      let s := s.setEth port (if link = 1 then { x with link := 1 }
        else { x with link := link, queue := [], waiting := [], offsets := [], sync := none, reqAt := none })
      if port = 2 then s
      else if link = 1 then (if old = 1 then s else (s.raise 0x8005 port 0).reselect)
      else if old = 1 then
        let s := s.raise (0x8001 + port) 0 1
        let s := if (s.eth (1 - port)).link ≠ 1 then s.raise 0x8003 0 1 else s
        s.reselect
      else s

/-! ### Launch times (R421, R422) -/

/-- A frame joins a port's launch queue; a WSF PDU not yet sent is replaced by the next of its connection (Table 14.4). -/
def State.queueLaunch (s : State) (p : Nat) (f : LaunchFrame) : State :=
  if !s.portOn p ∨ (s.eth p).link ≠ 1 then s else
    let x := s.eth p
    let old := x.queue.any fun g => f.conn.isSome && g.conn == f.conn
    let s := if old then s.inc 0x849 p else s
    s.setEth p { x with queue := (x.queue.filter fun g => !(f.conn.isSome && g.conn == f.conn)) ++ [f] }

/-- The frames of Q2 that had to wait for a launch leave in order of arrival (R421). -/
def State.sendWaiting (s : State) (p : Nat) : State :=
  let ws := (s.eth p).waiting
  ws.foldl (fun s w => s.ethOut p w.1 w.2) (s.setEth p { s.eth p with waiting := [] })

/-- A frame left late (R422): counted, and event 0x8030 at most once per minute. -/
def State.launchLate (s : State) (port : Nat) : State :=
  let s := s.inc 0x848 port
  let due : Bool := match s.net.lateRaised with
    | some t => decide (t + 60000000000 ≤ s.now)
    | none => true
  if due then ({ s with net := { s.net with lateRaised := some s.now } }).raise 0x8030 port 0 else s

/-- LAUNCH_TIME (R421, R422): a frame of the port's queue leaves; late when it leaves more than NET.LAUNCH_LATE_NS after its launch time. -/
def execLaunchTime (port : Nat) (frame : Bytes) (launch : Nat) (s : State) : Result :=
  .next <|
    let hit := fun (g : LaunchFrame) => g.launch == launch && g.data == frame
    match (s.eth port).queue.find? hit with
    | none => s
    | some g =>
      if 2 ≤ port then s else
        let s := s.advanceTo launch
        let x := s.eth port
        let s := (s.setEth port { x with queue := x.queue.eraseIdx (x.queue.findIdx hit) }).ethOut port g.kind frame
        let s := if s.now ≤ launch + s.parN 0x80C 0 then s else s.launchLate port
        s.sendWaiting port

/-! ### Whole seconds and steps (R410 to R412, R420) -/

/-- PPS_OUT (R411): high for 100 ms from each whole second while PTP.PPS_ENABLE is 1, else low. -/
def State.ppsOut (s : State) : Bool := s.netOn && s.parN 0x871 0 == 1 && decide (s.now % 1000000000 < 100000000)

/-- WHOLE_SECOND (R410 to R412). -/
def execWholeSecond (s : State) : Result :=
  .next <|
    if !s.netOn then s else
      let s := s.advanceTo ((s.now / 1000000000 + 1) * 1000000000)
      let s := if s.isActive then s.emit (.shallot 0x06 (u8 3 ++ time80Bytes s.now)) else s
      let s := if s.net.servo = 2 ∧ !s.isStandby then { s with sys := { s.sys with rtc := s.now } } else s
      if s.parN 0x871 0 = 1 then s.emit (.pps s.now) else s

/-- A stored instant moved by a step. -/
def sh (d : Int) (t : Nat) : Nat := ((t : Int) + d).toNat
/-- A stored ts32 moved by a step. -/
def sh32 (d : Int) (t : BitVec 32) : BitVec 32 := t + BitVec.ofInt 32 d

def Sess.shift (d : Int) (x : Sess) : Sess :=
  { x with collectSince := sh d x.collectSince, lastReq := sh d x.lastReq, split := x.split.map (fun (a, b, c, t) => (a, b, c, sh d t)),
           unacked := x.unacked.map fun (b : Batch) => { b with sent := sh d b.sent } }

def WcpSt.shift (d : Int) (w : WcpSt) : WcpSt :=
  { w with sessions := w.sessions.map (Sess.shift d), reasm := w.reasm.map fun r => { r with since := sh d r.since },
           authTimes := w.authTimes.map (sh d), authRaised := w.authRaised.map (sh d),
           commit := w.commit.map fun c => { c with since := sh d c.since } }

def RingSt.shift (d : Int) (x : RingSt) : RingSt :=
  { x with depart := sh d x.depart, txSince := sh d x.txSince, restSince := x.restSince.map (sh d), osetAt := x.osetAt.map (sh d), cmpAt := sh d x.cmpAt,
           hbAt := x.hbAt.map fun p => (p.1, sh d p.2) }

def NodeSt.shift (d : Int) (n : NodeSt) : NodeSt :=
  { n with stamp := sh32 d n.stamp, owPass := n.owPass.map fun p => (p.1, sh d p.2), owBar := n.owBar.map fun p => (p.1, sh d p.2) }

def LaneSt.shift (d : Int) (l : LaneSt) : LaneSt :=
  let set := fun (x : SlowSet) => { x with stamp := sh32 d x.stamp }
  { l with slow := l.slow.map set, slowFull := l.slowFull.map set, staleSince := l.staleSince.map (sh d), hStamp := l.hStamp.map (sh32 d) }

def ChSt.shift (d : Int) (c : ChSt) : ChSt := { c with stuckAt := c.stuckAt.map (sh d), zeroAt := c.zeroAt.map (sh d) }

def AxisSt.shift (d : Int) (a : AxisSt) : AxisSt := { a with since := sh d a.since, cal := a.cal.map fun c => { c with since := c.since.map (sh d) } }

def CellSt.shift (d : Int) (c : CellSt) : CellSt :=
  { c with gateAt := sh d c.gateAt, widen := c.widen.map (sh d), anchor := ((((c.anchor + 2 ^ 48) * 1000000000 : Nat) : Int) + d).toNat / 1000000000 % 2 ^ 48,
           drift := c.drift.map fun p => (p.1, sh d p.2) }

def StringEst.shift (d : Int) (x : StringEst) : StringEst :=
  { x with u := x.u.map (sh d), sweeps := x.sweeps.map fun w => { w with instant := sh d w.instant },
           samples := x.samples.map fun p => (sh d p.1, p.2.1, p.2.2) }

def ImpRing.shift (d : Int) (i : ImpRing) : ImpRing :=
  { i with reqAt := i.reqAt.map (sh d), lastEnd := sh d i.lastEnd, fullSince := i.fullSince.map (sh d),
           win := i.win.map fun w => { w with time := sh d w.time }, syncAt := sh d i.syncAt,
           cells := i.cells.map fun p => (p.1, { p.2 with ended := sh d p.2.ended }),
           hot := i.hot.map fun p => (p.1, sh d p.2.1, p.2.2), cool := i.cool.map fun p => (p.1, sh d p.2) }

def EstSt.shift (d : Int) (e : EstSt) : EstSt :=
  { e with tc := sh d e.tc, done := e.done.map (sh d), lastSave := sh d e.lastSave, cell := e.cell.map fun p => (p.1, p.2.shift d),
           str := e.str.map (StringEst.shift d),
           imp := e.imp.map (ImpRing.shift d),
           auth := e.auth.map fun p => (p.1, { p.2 with last := sh d p.2.last, polled := sh d p.2.polled, challenge := p.2.challenge.map fun c => (sh d c.1, c.2) }) }

def SafeSt.shift (d : Int) (x : SafeSt) : SafeSt :=
  { x with str := x.str.map fun t => { t with closeAt := sh d t.closeAt, doubt := t.doubt.map fun q => (sh d q.1, q.2) },
           si := x.si.map fun i => { i with since := i.since.map (sh d), apart := i.apart.map (sh d) },
           wsf := x.wsf.map fun w => { w with deadline := sh d w.deadline, crcFails := w.crcFails.map (sh d) },
           reset := x.reset.map fun r => { r with since := sh d r.since, armed := r.armed.map (sh d) },
           ct := x.ct.map fun c => { c with since := sh d c.since, begun := c.begun.map (sh d) } }

def NetSt.shift (d : Int) (n : NetSt) : NetSt :=
  let port := fun (p : PortSt) => { p with queue := if d < 0 then p.queue.map fun f => { f with launch := sh d f.launch } else p.queue, offsets := [],
                                             good := 0, annAt := sh d p.annAt, sync := none, reqAt := none, reqDue := sh d p.reqDue }
  { n with eth0 := port n.eth0, eth1 := port n.eth1, prpSeen := n.prpSeen.map fun e => (e.1, e.2.map fun q => (q.1, sh d q.2)),
           wrongLan := n.wrongLan.map (sh d), lanRaised := n.lanRaised.map (sh d), diffRaised := n.diffRaised.map (sh d),
           lateRaised := n.lateRaised.map (sh d), echoes := n.echoes.map (sh d), arps := n.arps.map (sh d), supAt := sh d n.supAt,
           holdSince := sh d n.holdSince, syncAt := sh d n.syncAt }

def TwinSt.shift (d : Int) (t : TwinSt) : TwinSt :=
  { t with copy := t.copy.map fun c => (c.1, sh d c.2), aheadSince := sh d t.aheadSince, suspectAt := sh d t.suspectAt,
           arb := t.arb.map fun a => { a with since := sh d a.since }, kat := t.kat.map (sh d), silence := t.silence.map (sh d), dropped := t.dropped.map (sh d),
           swapTry := sh d t.swapTry, watch := t.watch.map (sh d), heardAt := sh d t.heardAt, safety := t.safety.map fun c => (c.1, sh d c.2),
           safetySent := t.safetySent.map fun c => (c.1, sh d c.2) }

def BistSt.shift (d : Int) (b : BistSt) : BistSt :=
  { b with running := b.running.map fun r => (r.1, sh d r.2), started := sh d b.started, p0Since := sh d b.p0Since,
           holdAt := b.holdAt.map (sh d), pollAt := sh d b.pollAt, rotAt := sh d b.rotAt, katAt := sh d b.katAt, series := b.series.map fun p => (sh d p.1, p.2), scrubs := b.scrubs.map (sh d),
           temps := b.temps.map fun p => (p.1, p.2.map fun q => (sh d q.1, q.2)) }

def FioSt.shift (d : Int) (f : FioSt) : FioSt :=
  { f with ovflAt := f.ovflAt.map (sh d), frameAt := sh d f.frameAt,
           di := f.di.map fun p => (p.1, { p.2 with lowAt := p.2.lowAt.map (sh d), fineAt := p.2.fineAt.map (sh d) }),
           dout := f.dout.map fun p => (p.1, { p.2 with limitAt := p.2.limitAt.map (sh d), openAt := p.2.openAt.map (sh d),
                                                        highAt := p.2.highAt.map (sh d), lowAt := p.2.lowAt.map (sh d) }) }

/-- Every interval measured across a step is corrected by it (R420): the stored instants move with module time. -/
def State.shiftTimes (s : State) (d : Int) : State :=
  { s with
    sys := { s.sys with prepSince := sh d s.sys.prepSince, lastVisit := sh d s.sys.lastVisit, negSince := sh d s.sys.negSince, bootAt := sh d s.sys.bootAt }
    twin := s.twin.shift d
    bist := s.bist.shift d
    recd := { s.recd with failAt := s.recd.failAt.map (sh d), arm := s.recd.arm.map fun a => { a with since := sh d a.since } }
    upd := { s.upd with mixedSince := s.upd.mixedSince.map (sh d), deadline := s.upd.deadline.map (sh d), trialSince := sh d s.upd.trialSince,
                        handTry := sh d s.upd.handTry }
    wcp := s.wcp.shift d
    rings := { s.rings with ring := s.rings.ring.map (RingSt.shift d), node := s.rings.node.map fun p => (p.1, p.2.shift d) }
    loop := { s.loop with stamp := sh32 d s.loop.stamp, base := sh d s.loop.base, lane := s.loop.lane.map (LaneSt.shift d) }
    psi := { s.psi with loopAt := sh d s.psi.loopAt, ch := s.psi.ch.map (ChSt.shift d) }
    prof := { s.prof with axis := s.prof.axis.map (AxisSt.shift d), fireSince := s.prof.fireSince.map (sh d), tick := sh d s.prof.tick }
    est := s.est.shift d
    safe := s.safe.shift d
    net := s.net.shift d
    can := { c0 := { s.can.c0 with rxRaised := s.can.c0.rxRaised.map (sh d), tdcRaised := s.can.c0.tdcRaised.map (sh d) }
             c1 := { s.can.c1 with rxRaised := s.can.c1.rxRaised.map (sh d), tdcRaised := s.can.c1.tdcRaised.map (sh d) } }
    fio := s.fio.shift d }

/-- Frames whose launch time a forward step has passed leave at once (Table 14.4). -/
def State.flushPast (s : State) (p : Nat) : State :=
  let x := s.eth p
  let due := x.queue.filter fun f => f.launch < s.now
  due.foldl (fun s f => s.ethOut p f.kind f.data) (s.setEth p { x with queue := x.queue.filter fun f => s.now ≤ f.launch })

/-- TIME_STEP (R420): the step announced is applied. -/
def execTimeStep (s : State) : Result :=
  .next <| match s.net.step with
    | none => s
    | some (at_, d) =>
      let s := s.advanceTo at_
      let s := s.wcp.sessions.foldl (fun s x => s.closeBatch x.id) s
      let old := s.now
      let s := s.shiftTimes d
      let new := sh d old
      let s := { s with now := new, sys := { s.sys with rtc := new },
                        net := { s.net with step := none, stepBatch := true, stepRec := true, jump := none, accepted := false, jumpOp := none } }
      ((((s.inc 0x8A4 0).flushPast 0).flushPast 1).fbEvent 1 (time80Bytes old ++ time80Bytes new)).raise 0x8011 0 0 (time80Bytes old ++ time80Bytes new)

/-! ### Commands (R425) -/

/-- TIME_JUMP_ACCEPT (R419). -/
def execTimeJumpAccept (h : Hdr) (s : State) : Result :=
  .next <| s.wcpReq 0x0802 h [] fun s =>
    if h.target ≠ 0 then s.fail 0x0802 h 0x0108 s.activeSlot
    else if s.net.jump.isNone then s.fail 0x0802 h 0x0105
    else ({ s with net := { s.net with accepted := true, jumpOp := some (opRef 0x0802 h) } }).reply 0x0802 h 1

/-- TIME_JUMP_REJECT (R419). -/
def execTimeJumpReject (h : Hdr) (s : State) : Result :=
  .next <| s.wcpReq 0x0803 h [] fun s =>
    if h.target ≠ 0 then s.fail 0x0803 h 0x0108 s.activeSlot
    else if s.net.jump.isNone then s.fail 0x0803 h 0x0105
    else
      let s := match s.net.jumpOp with
        | some r => s.complete r 0x0109
        | none => s
      ({ s with net := { s.net with jump := none, accepted := false, jumps := [], jumpOp := none } }).reply 0x0803 h 0

/-- NET_STATUS (Table 14.5). -/
def execNetStatus (h : Hdr) (s : State) : Result :=
  .next <| s.wcpReq 0x0800 h [] fun s =>
    s.reply 0x0800 h 0 (([0, 1, 2].flatMap fun p => u8 (s.eth p).link ++ [0, 0, 0]) ++ u32 (s.parN 0x805 0)
      ++ u8 (if s.holdsPair then 1 else 0))

/-- PTP.STATUS (Table 14.6). -/
def State.ptpStatus (s : State) : Nat :=
  let cls := match s.source s.net.port with
    | some m => m.clockClass
    | none => 255
  (if s.isStandby then 4 else s.net.servo) + 8 * ofBits [s.net.port == 1, s.net.jump.isSome, s.net.everLocked, s.net.holdLong] + cls * 256

/-- PTP_STATUS (Table 14.5). -/
def execPtpStatus (h : Hdr) (s : State) : Result :=
  .next <| s.wcpReq 0x0801 h [] fun s =>
    let port := fun p => sBytes 8 ((s.eth p).offsets.headD 0) ++ sBytes 8 (s.pathDelay p) ++ padTo 8 (match (s.eth p).master with
      | some m => m.identity
      | none => [])
    s.reply 0x0801 h 0 (time80Bytes s.now ++ u32 s.ptpStatus ++ u8 (s.quality s.net.stepBatch) ++ [0, 0, 0] ++ port 0 ++ port 1
      ++ u32 (toF32 s.net.y) ++ sBytes 8 (s.net.jump.getD 0))

end Sys2Proof.Machine
end

