-- ==== Sys2Proof/Machine/Estimator.lean ====
section
/-! DEFINITION. Chapter 10: estimator cycles, the cell model, the filters' inputs and what is drawn from their results (gating,
offset fusion, attribution, anchors, compensation, headroom, string figures), persistence and the opcodes of R305. -/

namespace Sys2Proof.Machine
open Sys2Proof

def State.strE (s : State) (r : Nat) : StringEst := s.est.str.get r
def State.setStrE (s : State) (r : Nat) (x : StringEst) : State := { s with est := { s.est with str := s.est.str.set r x } }
def State.updStrE (s : State) (r : Nat) (f : StringEst → StringEst) : State := s.setStrE r (f (s.strE r))
def State.cellE (s : State) (k : Nat) : CellSt := s.est.cell.at k {}
def State.setCellE (s : State) (k : Nat) (c : CellSt) : State := { s with est := { s.est with cell := s.est.cell.set k c } }
def State.updCellE (s : State) (k : Nat) (f : CellSt → CellSt) : State := s.setCellE k (f (s.cellE k))
def State.imp (s : State) (r : Nat) : ImpRing := s.est.imp.get r
def State.setImp (s : State) (r : Nat) (x : ImpRing) : State := { s with est := { s.est with imp := s.est.imp.set r x } }
def State.updImp (s : State) (r : Nat) (f : ImpRing → ImpRing) : State := s.setImp r (f (s.imp r))
def State.auth (s : State) (k : Nat) : AuthSt := s.est.auth.at k {}
def State.setAuth (s : State) (k : Nat) (a : AuthSt) : State := { s with est := { s.est with auth := s.est.auth.set k a } }
def State.updAuth (s : State) (k : Nat) (f : AuthSt → AuthSt) : State := s.setAuth k (f (s.auth k))

/-- Cell number: ring, node, cell order (R271). -/
def cellKey (ring node cell : Nat) : Nat := nodeKey ring node * 16 + cell

/-- The keys of a ring's cells that have filters. -/
def State.ringCells (s : State) (r : Nat) : List Nat := (s.est.cell.map (·.1)).filter fun k => k / 448 = r

/-- A cell counts as measured: its node's mask of unmeasured cells does not name it (Table 6.15). -/
def State.measured (s : State) (k : Nat) : Bool := !(s.node (k / 16)).unmeasured.getLsbD (k % 16)

/-- The cells that have protection bounds: measured, or of a bounded pair (R146, R154). -/
def State.judgedCells (s : State) (r : Nat) : List Nat := (s.ringCells r).filter fun k => (s.node (k / 16)).judged (k % 16)

def State.measuredCells (s : State) (r : Nat) : List Nat := (s.ringCells r).filter s.measured

/-- A cell's temperature as the last sweep gave it (R276). -/
def State.cellTempC (s : State) (k : Nat) : ℚ := (s.node (k / 16)).tempC.getD (k % 16 / 4) 25

/-! ### Sample history (R138, R275) -/

/-- The first-order filter of Table 6.1, τ = 100 µs, over one step of the 50 kS/s stream (8 R212). -/
def filterCurrent (x y : Int) : Int :=
  let alpha := rhe ((1 - expNeg (1 / 5)) * 1073741824)
  y + rheDiv ((x * 32768 - y) * alpha) 1073741824

/-- A sample of the string current at an instant joins the history, which keeps what the next update needs and at least 50 ms. -/
def State.pushAt (s : State) (c t : Nat) (x : Int) : State :=
  s.updStrE c fun e =>
    let y := match e.samples.head? with
      | some p => filterCurrent x p.2.2
      | none => x * 32768
    let keep : Nat := match e.u with
      | some u => min u (t - 50000000)
      | none => t - 50000000
    { e with samples := (t, x, y) :: e.samples.filter fun p => keep ≤ p.1 }

/-- A boundary's latched current joins it. -/
def State.pushSample (s : State) (c : Nat) (x : Int) : State := s.pushAt c s.now x

/-- The area under the line from (t0, a) to (t1, b) between u0 and u1. -/
def areaBetween (u0 u1 : Nat) (p q : Nat × Int) : ℚ :=
  let lo := max u0 p.1
  let hi := min u1 q.1
  if hi ≤ lo ∨ q.1 ≤ p.1 then 0
  else
    let at_ : Nat → ℚ := fun t => (p.2 : ℚ) + ((q.2 - p.2 : Int) : ℚ) * ((t - p.1 : Nat) : ℚ) / ((q.1 - p.1 : Nat) : ℚ)
    (at_ lo + at_ hi) / 2 * ((hi - lo : Nat) : ℚ)

/-- The trapezoidal sum over samples given newest first. -/
def areaOf (u0 u1 : Nat) : List (Nat × Int) → ℚ
  | q :: p :: t => areaBetween u0 u1 p q + areaOf u0 u1 (p :: t)
  | _ => 0

/-- String charge between two instants, As (R275). -/
def State.chargeAs (s : State) (r u0 u1 : Nat) : ℚ :=
  areaOf u0 u1 ((s.strE r).samples.map fun p => (p.1, p.2.1)) * s.parF 0x302 r / 32768 / 1000000000

/-- A value of the filtered stream at an instant, interpolated linearly, samples newest first. -/
def valueAt (t : Nat) : List (Nat × Int) → ℚ
  | [] => 0
  | [p] => p.2
  | q :: p :: rest =>
    if q.1 ≤ t then q.2
    else if p.1 ≤ t then (p.2 : ℚ) + ((q.2 - p.2 : Int) : ℚ) * ((t - p.1 : Nat) : ℚ) / ((q.1 - p.1 : Nat) : ℚ)
    else valueAt t (p :: rest)

/-- The paired current of a sweep, A (R138). -/
def State.pairedCurrent (s : State) (r t : Nat) : ℚ :=
  valueAt t ((s.strE r).samples.map fun p => (p.1, p.2.2)) * s.parF 0x302 r / 32768 / 32768

/-! ### The cell model (R274 to R277) -/

/-- Bin centres, °C. -/
def State.centres (s : State) : List ℚ := (words 2 8 (s.par 0x504 0)).map fun w => (toSigned 16 w : ℚ) / 100

/-- One value per bin, interpolated in temperature. -/
def State.inBins (s : State) (temp : ℚ) (f : Nat → ℚ) : ℚ :=
  let (i, j, w) := bracket s.centres temp
  f i + (f j - f i) * w

/-- A table of u16 entries over SOC, interpolated in SOC and then in temperature (R276). -/
def State.tableAt (s : State) (id n : Nat) (scale z temp : ℚ) : ℚ :=
  s.inBins temp fun bin => interpUnit ((words 2 n (s.par id bin)).map fun (w : Nat) => (w : ℚ) / scale) z

def State.ocv (s : State) (z temp : ℚ) : ℚ := s.tableAt 0x505 101 10000 z temp
def State.hystM (s : State) (z temp : ℚ) : ℚ := s.tableAt 0x506 21 10000 z temp
def State.rshape (s : State) (z temp : ℚ) : ℚ := s.tableAt 0x507 11 4096 z temp

/-- Entry i of EST.RC_TABLE: ρ1, τ1, ρ2, τ2, γ, η_chg. -/
def State.rc (s : State) (i : Nat) (temp : ℚ) : ℚ := s.inBins temp fun bin => f32 (fieldAt (s.par 0x508 bin) (4 * i) 4)

/-- The predicted terminal voltage (R275). -/
def State.vPred (s : State) (c : CellSt) (temp ip b : ℚ) : ℚ :=
  s.ocv c.z temp + s.hystM c.z temp * c.h - c.v1 - c.v2 - c.thR * s.rshape c.z temp * (ip - b)

/-- The time update of a cell's mean (R275): string charge and bleed charge over dt seconds. -/
def State.propagate (s : State) (c : CellSt) (qs qbal dt b temp : ℚ) : CellSt :=
  if dt ≤ 0 then c else
    let q := qs - b * dt + qbal
    let ibar := q / dt
    let f := s.rshape c.z temp
    let eta := if 0 < q then 1 else s.rc 5 temp
    let e1 := expNeg (dt / s.rc 1 temp)
    let e2 := expNeg (dt / s.rc 3 temp)
    let eh := expNeg (s.rc 4 temp * |q| / (3600 * c.thQ))
    { c with z := c.z - eta * q / (3600 * c.thQ), v1 := c.v1 * e1 + s.rc 0 temp * c.thR * f * (1 - e1) * ibar,
             v2 := c.v2 * e2 + s.rc 2 temp * c.thR * f * (1 - e2) * ibar,
             h := c.h * eh - (1 - eh) * (if 0 < q then 1 else if q < 0 then -1 else 0) }

/-! ### Reset values (Table 10.10) -/

/-- The factor with these standard deviations on its diagonal, lower triangle in row order. -/
def diagFac (sd : List ℚ) : List ℚ :=
  (List.range 6).flatMap fun i => (List.range (i + 1)).map fun j => if i = j then sd.getD i 0 else 0

/-- A cell at its reset values, with θ_R and θ_Q nominal or as a history gives them; counts and tables stay. -/
def State.resetCell (s : State) (k : Nat) (old : CellSt) (hist : Option (ℚ × ℚ)) : CellSt :=
  let r := k / 448
  let (tr, tq) := hist.getD (s.parF 0x502 r / 1000, s.parF 0x503 r)
  let sd : List ℚ := [(s.parN 0x53B 0 : ℚ) / 10000, 1 / 20, 1 / 20, 1, tr / 2, tq / 5]
  { thR := tr, thQ := tq, temp := old.temp, sd := sd, fac := diagFac sd, anchor := (s.now / 1000000000 + 2 ^ 48 - s.parN 0x524 0 * 3600) % 2 ^ 48, seek := true,
    efc := old.efc, trend := old.trend, health := old.health, bins := old.bins, drift := old.drift, compLo := old.compLo,
    compHi := old.compHi }

/-- z at the first usable sweep: the middle of the SOC span within 1 mV of the measured voltage (Table 10.10). -/
def State.ocvInverse (s : State) (v temp : ℚ) : ℚ :=
  let tbl := (List.range 101).map fun i => s.ocv ((i : ℚ) / 100) temp
  let cross : ℚ → ℚ := fun y =>
    match (List.range 100).find? fun i => decide (tbl.getD i 0 ≤ y ∧ y < tbl.getD (i + 1) 0) with
    | some i => ((i : ℚ) + (y - tbl.getD i 0) / (tbl.getD (i + 1) 1 - tbl.getD i 0)) / 100
    | none => if y < tbl.getD 0 0 then 0 else 1
  (cross (v - 1 / 1000) + cross (v + 1 / 1000)) / 2

/-! ### Assignment and cycle instants (R269, R271) -/

/-- Units in service, in cluster and unit order. -/
def State.unitsIn (s : State) : List (Nat × Nat) :=
  (List.range 4).flatMap fun c =>
    let x := s.sys.est.get c
    if !s.clusterIn c then [] else ((List.range 8).filter fun u => !x.unitsOut.getLsbD u).map fun u => (c, u)

/-- The unit of a dealing that computes a cell (R271): 1,792 cells in shares that differ by at most one. -/
def unitAmong (us : List (Nat × Nat)) (k : Nat) : Option (Nat × Nat) :=
  let n := us.length
  if n = 0 then none
  else if n = 32 then some (k / 448, k % 448 / 56)
  else
    let q := 1792 / n
    let big := 1792 % n
    us[if k < big * (q + 1) then k / (q + 1) else big + (k - big * (q + 1)) / q]?

/-- P_f of a rate, ns (R269). -/
def cyclePeriod (hz : Nat) : Nat := if hz = 0 then 0 else (2 * 1000000000 + hz) / (2 * hz)

/-- The filters run (R303). -/
def State.estRuns (s : State) : Bool := (s.isActive || s.isStandby) && (s.sys.power == .p0 || s.sys.power == .p1) && s.filterHz != 0

/-- A unit error during a cycle: the updates of the cells dealt to it as the cycle began are skipped and counted (R14). -/
def State.dropUnit (s : State) (cluster : Nat) (unit : Option Nat) : State :=
  if !s.est.busy then s else
    let mine := s.est.work.filter fun p => match unitAmong s.est.dealt p.1 with
      | some (c, u) => c == cluster && (match unit with
        | some v => u == v
        | none => true)
      | none => false
    let rest := s.est.work.filter fun p => !(mine.map (·.1)).contains p.1
    ({ s with est := { s.est with work := rest } }).incBy 0x553 0 mine.length

/-! ### One cell's update (R279 to R289, R292) -/

/-- Bleed charge of a cell over the sweeps of an interval, As (R163). -/
def bleedAs (sweeps : List SweepRec) (node cell : Nat) : ℚ :=
  (sweeps.map fun w => match w.nodes.find? fun m => m.node == node with
    | some m => if m.bal.getLsbD cell then m.v.getD cell 0 / 39 * (((w.period - 520000 : Nat) : ℚ) / 1000000000) else 0
    | none => 0).sum

/-- The filter's inputs for a cell. -/
def State.filterIn (s : State) (c : CellSt) (dt : Nat) (q b sb2 temp : ℚ) (meas : Option (ℚ × ℚ × ℚ)) : Config.FilterIn :=
  let wide : Bool := match c.widen with
    | some t => decide (s.est.tc < t)
    | none => false
  let boost : ℚ := if wide then (s.parN 0x51B 0 : ℚ) else 1
  { x := [c.z, c.v1, c.v2, c.h, c.thR, c.thQ], fac := c.fac, dtNs := dt, chargeAs := q, b := b, sb2 := sb2,
    curSigma := s.parF 0x511 0, qnR := s.parF 0x512 0, qnQ := s.parF 0x513 0, inputBoost := boost,
    walkBoost := if c.mismatch then 0 else boost, temp := temp, gate := s.parF 0x518 0,
    tables := [0x505, 0x506, 0x507, 0x508].flatMap (fun id => (List.range 8).map fun bin => s.par id bin) ++ [s.par 0x504 0],
    meas := meas, extra := c.extra }

/-- σ_m² of a cell voltage (R281). -/
def State.measVar (s : State) (c : CellSt) (v margin temp : ℚ) : ℚ :=
  let a := s.parF 0x510 0 / 1000
  let e := margin * v
  let i := c.thR * s.rshape c.z temp * s.parF 0x511 0
  a * a + e * e + i * i

/-- What a cell's measurement is in the update sweep (Table 10.4): the measurement, and whether it comes from a pair alone. -/
def State.cellMeas (s : State) (k : Nat) (c : CellSt) (m : NodeMeas) (ip b sb2 temp : ℚ) : Option (ℚ × ℚ × ℚ) × Bool :=
  let j := k % 16
  if !m.usable ∨ m.full then (none, false)
  else if !m.unmeas.getLsbD j then
    let v := m.v.getD j 0
    (some (v, s.measVar c v m.margin temp, ip), false)
  else match m.pairs.find? fun p => j = p.1 ∨ j = p.1 + 1 with
    | none => (none, false)
    | some p =>
      let o := s.cellE (k - j + if j = p.1 then j + 1 else p.1)
      let v := p.2 - s.vPred o temp ip b
      let sd := Config.predictSd (s.filterIn o 0 0 b sb2 temp none)
      (some (v, 2 * s.measVar c v m.margin temp + sd * sd, ip), true)

/-- R284: a state held in its range; true when the bound is reached. -/
def bounded (lo hi v : ℚ) : ℚ × Bool := if v ≤ lo then (lo, true) else if hi ≤ v then (hi, true) else (v, false)

/-- The persistence timer (R288) after an update at time u. -/
def CellSt.gateTimer (c : CellSt) (beyond : Bool) (sign : Int) (u : Nat) : CellSt :=
  if !beyond then { c with gateNs := 0, gateSign := 0 }
  else if c.gateSign = sign then { c with gateNs := c.gateNs + (u - c.gateAt), gateAt := u }
  else { c with gateNs := 0, gateSign := sign, gateAt := u }

/-- Which node a cell fault names, with cell data (R537). -/
def State.raiseCell (s : State) (code k sev : Nat) (rest : Bytes) : State := s.raise code (k / 16) sev (u8 (k % 16) ++ rest)

/-- One cell's cycle: time and measurement update, gating, bounds, anchor, cycle count (R275 to R288, R292, R319 to R321). -/
def State.cellCycle (s : State) (k u0 u1 : Nat) (qs : ℚ) (sweeps : List SweepRec) (upd : Option SweepRec) : State :=
  let r := k / 448
  let node := k / 16 % 28 + 1
  let e := s.strE r
  let c0 := match s.est.cell.find k with
    | some c => c
    | none => s.resetCell k {} none
  let c0 := if c0.resetDue then s.resetCell k c0 none else c0
  let m := upd.bind fun w => w.nodes.find? fun m => m.node == node
  let temp := match m with
    | some m => m.temps.getD (k % 16 / 4) 0
    | none => s.cellTempC k
  let ip := (upd.map (·.ip)).getD 0
  let (meas, pairOnly) := match m with
    | some m => s.cellMeas k c0 m ip e.b e.sb2 temp
    | none => (none, false)
  let s := if upd.isSome ∧ !((m.map (·.usable)).getD false) then s.inc 0x553 0 else s
  let c := match meas with
    | some (v, _, i) => if c0.seek ∧ !pairOnly then
        { c0 with seek := false, z := if |i| * 10 ≤ s.parN 0x283 r then s.ocvInverse v temp else c0.z }
      else c0
    | none => c0
  let qbal := bleedAs sweeps node (k % 16)
  let dtS : ℚ := ((u1 - u0 : Nat) : ℚ) / 1000000000
  let q := qs - e.b * dtS + qbal
  let o := Config.filterUpdate (s.filterIn c (u1 - u0) q e.b e.sb2 temp meas)
  let cap := s.parF 0x503 r
  let efc := c.efc + |q| / (7200 * cap) * 1000
  let passed := s.parN 0x596 0 ≠ 0 ∧ (efc / 1000 / s.parN 0x596 0).floor ≠ (c.efc / 1000 / s.parN 0x596 0).floor
  if o.lost then
    let c' := { s.resetCell k c none with efc := efc, temp := temp }
    let s := (s.raiseCell 0x5002 k 1 []).inc 0x554 0
    { s with est := { s.est with work := s.est.work.set k ⟨c', none⟩ } }
  else
    let x := fun i => o.x.getD i 0
    let (tr, atR) := if c.mismatch then (c.thR, c.atR) else bounded (s.parF 0x502 r / 2000) (s.parF 0x502 r / 250) (x 4)
    let (tq, atQ) := if c.mismatch then (c.thQ, c.atQ) else bounded (cap * 3 / 10) (cap * 6 / 5) (x 5)
    let gate := s.parF 0x518 0
    let beyond := meas.isSome ∧ o.nu * o.nu > gate * gate * o.s
    let c' := { c with temp := temp, z := x 0, v1 := x 1, v2 := x 2, h := x 3, thR := tr, thQ := tq, fac := o.fac, sd := o.sd, atR := atR,
                       atQ := atQ, pairOnly := pairOnly, extra := [], efc := efc,
                       trend := if passed then ((efc, tr, tq) :: c.trend).take 8 else c.trend }
    let c' := if meas.isSome then c'.gateTimer beyond (if 0 ≤ o.nu then 1 else -1) u1 else c'
    let ends := x 0 ≤ (s.parN 0x520 0 : ℚ) / 100 ∨ (s.parN 0x521 0 : ℚ) / 100 ≤ x 0
    let tight := o.sd.getD 0 1 ≤ (s.parN 0x522 0 : ℚ) / 10000
    let impAnchor := (c.extra.zip o.extraOk).any fun p => p.1.1 == 0 && p.2
    let anchored := (meas.isSome ∧ !beyond ∧ ends ∧ tight) ∨ (impAnchor ∧ tight)
    let c' := if anchored then { c' with anchor := u1 / 1000000000 } else c'
    let s := if beyond then s.inc 0x552 0 else s
    let s := if atR ∧ !c.atR then s.raiseCell 0x5014 k 1 (u8 4) else s
    let s := if atQ ∧ !c.atQ then s.raiseCell 0x5014 k 1 (u8 5) else s
    let sUsed := if beyond then o.nu * o.nu / (gate * gate) else o.s
    { s with est := { s.est with work := s.est.work.set k ⟨c', if meas.isSome then some (o.nu, sUsed, o.g) else none⟩ } }

/-! ### The cycle (R270, R272) -/

/-- The cells a ring has: every cell of the nodes enumerated or already filtered. -/
def State.cycleCells (s : State) (r : Nat) : List Nat :=
  let n := (s.ring r).n
  (List.range 448).filterMap fun i =>
    let k := r * 448 + i
    if i / 16 < n ∨ (s.est.cell.find k).isSome then some k else none

/-- One ring's part of a cycle (R270). -/
def State.ringCycle (s : State) (r : Nat) : State :=
  let e := s.strE r
  let lim := s.est.tc - s.parN 0x203 r * 1000000
  let upd := e.sweeps.find? fun w => decide (w.instant ≤ lim) && (match e.u with
    | some u => decide (u < w.instant)
    | none => true)
  let u1 := match upd with
    | some w => w.instant
    | none => lim
  let u0 := e.u.getD u1
  let used := e.sweeps.filter fun w => u0 < w.instant ∧ w.instant ≤ u1
  let qs := s.chargeAs r u0 u1
  let s := (s.cycleCells r).foldl (fun s k => s.cellCycle k u0 u1 qs used upd) s
  let cap := s.parF 0x503 r
  s.updStrE r fun e => { e with u := some u1, dt := u1 - u0, noUpdate := upd.isNone, sweeps := e.sweeps.filter fun w => u1 < w.instant,
                                efc := e.efc + |qs| / (7200 * cap) * 1000 }

/-! ### State parts on Shallot and in MRAM (Tables 13.5, 10.9, 10.10) -/

def flagsByte (s : State) (k : Nat) (c : CellSt) : Nat := ofBits [(s.auth (k / 16)).untrusted, c.mismatch, c.pairOnly]

/-- EST.STRING_STATUS (Table 10.8). -/
def State.stringStatus (s : State) (r : Nat) : Nat :=
  let e := s.strE r
  ofBits [e.anchorReq, e.offAttrib, e.offFault] + 8 * (e.eod % 4) + 32 * (e.eoc % 4)
    + 128 * ofBits [e.disBySoc, e.chgBySoc, e.untrusted, e.compStale, e.noUpdate, (s.ringCells r).any fun k => (s.cellE k).mismatch]
    + 65536 * (e.conf % 256)

def fw (v : ℚ) : Bytes := u32 (toF32 v)

/-- The 16 cells of the nodes 1 to n of a ring. -/
def State.partCells (s : State) (r : Nat) : List Nat := (List.range ((s.ring r).n * 16)).map fun i => r * 448 + i

/-- A part of a ring's state as EST_COPY carries it (Table 13.5). -/
def State.estPart (s : State) (r part : Nat) : Bytes :=
  let e := s.strE r
  match part with
  | 0 => padTo 32 (fw e.b ++ fw e.sb2 ++ fw (if e.offAttrib then (s.parN 0x51B 0 : ℚ) else 1) ++ u32 e.efc.floor.toNat ++ u32 (s.stringStatus r))
  | 1 => (s.partCells r).flatMap fun k =>
      let c := s.cellE k
      padTo 128 (([c.z, c.v1, c.v2, c.h, c.thR, c.thQ] ++ (List.range 21).map fun i => c.fac.getD i 0).flatMap fw
        ++ fw ((c.gateNs : ℚ) / 1000000000) ++ leBytes 6 c.anchor ++ u8 (flagsByte s k c) ++ sBytes 1 c.gateSign)
  | 2 => (List.range (s.ring r).n).flatMap fun i =>
      let x := s.node (r * 28 + i)
      ([x.oA, x.gA] ++ x.mA ++ [x.oT, x.gT] ++ x.mT).flatMap fw
  | _ => (s.partCells r).flatMap fun k => let c := s.cellE k
      padTo 256 c.bins ++ u32 c.efc.floor.toNat

/-- A cell taken from its 128 bytes; what the copy does not carry stays. -/
def cellOfCopy (c : CellSt) (b : Bytes) : CellSt :=
  let f := fun i => f32 (fieldAt b (4 * i) 4)
  let fac := (List.range 21).map fun i => f (6 + i)
  { c with z := f 0, v1 := f 1, v2 := f 2, h := f 3, thR := f 4, thQ := f 5, fac := fac,
           gateNs := (f 27 * 1000000000).floor.toNat, anchor := fieldAt b 112 6, mismatch := (fieldAt b 118 1).testBit 1,
           pairOnly := (fieldAt b 118 1).testBit 2, gateSign := toSigned 8 (fieldAt b 119 1) }

/-- A standby takes the part of a ring's state that a copy brought whole. -/
def State.takePart (s : State) (r part : Nat) (b : Bytes) : State :=
  match part with
  | 0 =>
    let st := fieldAt b 16 4
    s.updStrE r fun e => { e with b := f32 (fieldAt b 0 4), sb2 := f32 (fieldAt b 4 4), efc := (fieldAt b 12 4 : ℚ),
                                  anchorReq := st.testBit 0, offAttrib := st.testBit 1, offFault := st.testBit 2, eod := st / 8 % 4,
                                  eoc := st / 32 % 4, disBySoc := st.testBit 7, chgBySoc := st.testBit 8, untrusted := st.testBit 9,
                                  compStale := st.testBit 10, noUpdate := st.testBit 11, conf := st / 65536 % 256 }
  | 1 => (List.range (b.length / 128)).foldl (fun s i => s.updCellE (r * 448 + i) fun c => cellOfCopy c (slice b (128 * i) 128)) s
  | 2 => (List.range (b.length / 144)).foldl (fun s i =>
      let f := fun j => f32 (fieldAt b (144 * i + 4 * j) 4)
      s.updNode (r * 28 + i) fun x => { x with oA := f 0, gA := f 1, mA := (List.range 16).map fun j => f (2 + j),
                                               oT := f 18, gT := f 19, mT := (List.range 16).map fun j => f (20 + j) }) s
  | _ => (List.range (b.length / 260)).foldl (fun s i => s.updCellE (r * 448 + i) fun c =>
      { c with bins := slice b (260 * i) 256, efc := (fieldAt b (260 * i + 256) 4 : ℚ) }) s

/-- Bytes of a part of a ring's state (Table 13.5). -/
def State.partSize (s : State) (r part : Nat) : Nat :=
  match part with
  | 0 => 32
  | 1 => 2048 * (s.ring r).n
  | 2 => 144 * (s.ring r).n
  | _ => 4160 * (s.ring r).n

/-- A copy has arrived whole (R380): of the cycle before or, while the standby's count lies behind, of a later one; the first one it takes
may be of any cycle (R304). -/
def State.estCopyWhole (s : State) : Option Nat :=
  match s.twin.estCopyCycle with
  | none => none
  | some c =>
    let parts := (List.range 4).all fun r => (List.range 3).all fun p =>
      decide (s.partSize r p ≤ ((s.twin.estCopy : SMap Bytes).at (4 * r + p) []).length)
    if parts ∧ (!s.twin.estIn ∨ (c + 2 ^ 32 - s.est.cycle) % 2 ^ 32 < 2 ^ 31) then some c else none

/-- The sweeps whose exchange is not complete at a cycle instant are missing for their ring, whose result is not compared (R379). -/
def State.dropExchange (s : State) (r : Nat) : State :=
  let lim := s.now - s.parN 0x203 r * 1000000
  let open_ := fun (w : SweepRec) => !w.adopted && decide (w.instant ≤ lim)
  if (s.strE r).sweeps.any open_ then
    let s := s.updStrE r fun e => { e with sweeps := e.sweeps.filter fun w => !open_ w }
    { s with twin := { s.twin with estBlind := r :: s.twin.estBlind } }
  else s

/-- A standby starts a cycle from the active's state of the cycle before, if its copy has arrived; else that cycle is uncompared (R380). -/
def State.takeEstCopy (s : State) : State :=
  if !s.isStandby then s
  else
    let s := match s.estCopyWhole with
      | none => { s with twin := { s.twin with estBlind := [0, 1, 2, 3] } }
      | some c =>
        let s := { s with twin := { s.twin with estBlind := [], estIn := true }, est := { s.est with cycle := c } }
        (List.range 4).foldl (fun s r => (List.range 3).foldl (fun s p =>
          s.takePart r p ((s.twin.estCopy : SMap Bytes).at (4 * r + p) [])) s) s
    (List.range 4).foldl State.dropExchange s

/-! ### Completion (R273, R283, R289, R294, R298 to R300) -/

/-- The offset fusion of a string (R283). -/
def State.fuse (s : State) (r : Nat) : State :=
  let ups := (s.est.work.filter fun p => p.1 / 448 == r).filterMap fun p => p.2.upd
  let e := s.strE r
  let boost : ℚ := if e.offAttrib then (s.parN 0x51B 0 : ℚ) else 1
  let dtH : ℚ := (e.dt : ℚ) / 3600000000000
  let w := s.parF 0x514 0 * boost
  let pb := e.sb2 + w * w * dtH
  let n : ℚ := ups.length
  let i0 : ℚ := if pb = 0 then 0 else 1 / pb
  let gi : ℚ := if ups = [] then 0 else (ups.map fun u => u.2.2 * u.2.2 / u.2.1).sum / n
  let gn : ℚ := if ups = [] then 0 else (ups.map fun u => u.2.2 * u.1 / u.2.1).sum / n
  let info := i0 + gi
  if pb = 0 ∨ info = 0 then s.setStrE r { e with sb2 := pb }
  else s.setStrE r { e with b := e.b + gn / info, sb2 := 1 / info }

/-- A cell's headroom (R298): by voltage and by SOC, discharge then charge. -/
def State.cellHeadroom (s : State) (k : Nat) (temp : ℚ) : (ℚ × ℚ) × ℚ × ℚ :=
  let r := k / 448
  let c := s.cellE k
  let hor := s.parF 0x530 0
  let e1 := expNeg (hor / s.rc 1 temp)
  let e2 := expNeg (hor / s.rc 3 temp)
  let reff := c.thR * s.rshape c.z temp * (1 + s.rc 0 temp * (1 - e1) + s.rc 2 temp * (1 - e2))
  let sz := c.sd.getD 0 0
  let lo := max 0 (c.z - 3 * sz)
  let hi := min 1 (c.z + 3 * sz)
  let mar : ℚ := (s.parN 0x531 0 : ℚ) / 1000
  let ivd := (s.ocv lo temp - s.hystM lo temp - c.v1 * e1 - c.v2 * e2 - (s.parF 0x320 r + mar)) / reff
  let ivc := ((s.parF 0x318 r - mar) - s.ocv hi temp - s.hystM hi temp + c.v1 * e1 + c.v2 * e2) / reff
  let izd := max 0 (lo - (s.parN 0x533 0 : ℚ) / 100) * 3600 * c.thQ / s.parN 0x532 0
  let izc := max 0 ((s.parN 0x534 0 : ℚ) / 100 - hi) * 3600 * c.thQ / (s.rc 5 temp * s.parN 0x532 0)
  ((ivd, izd), ivc, izc)

/-- The anchor age of a cell, ns (R293); an anchor time is 48 bits of seconds. -/
def State.anchorAge (s : State) (k : Nat) : Nat :=
  let ago := (s.now / 1000000000 + 2 ^ 48 - (s.cellE k).anchor) % 2 ^ 48
  if ago < 2 ^ 47 then ago * 1000000000 + s.now % 1000000000 else 0

/-- SOC confidence in % (R293). -/
def State.confidence (s : State) (k : Nat) : Nat :=
  (rhe (100 * exp2Neg ((s.anchorAge k : ℚ) / ((s.parN 0x523 0 * 3600000000000 : Nat) : ℚ)))).toNat

def clampN (hi : Nat) (v : ℚ) : Nat := (min (hi : Int) (max 0 (rhe v))).toNat

/-- A string's headroom and figures, published to its lane (R273, R298 to R300). -/
def State.stringFigures (s : State) (r : Nat) : State :=
  let ks := s.ringCells r
  let ms := s.measuredCells r
  let js := s.judgedCells r
  if ks = [] then s
  else
    let hs := ks.map fun k => s.cellHeadroom k (s.cellE k).temp
    let der : ℚ := if (List.range 28).any fun i => (s.auth (r * 28 + i)).untrusted then (s.parI 0x535 0 : ℚ) / 32768 else 1
    let dis := minQ (hs.map fun h => max 0 (min h.1.1 h.1.2))
    let chg := minQ (hs.map fun h => max 0 (min h.2.1 h.2.2))
    let disSoc := minQ (hs.map fun h => h.1.2) ≤ minQ (hs.map fun h => h.1.1)
    let chgSoc := minQ (hs.map fun h => h.2.2) ≤ minQ (hs.map fun h => h.2.1)
    let hd := dis * der
    let hc := chg * der
    let zs := ms.map fun k => (s.cellE k).z
    let pct := fun (z : ℚ) => u16 (clampN 65535 (z * 10000))
    let lim : ℚ := (s.parN 0x533 0 : ℚ) / 100
    let top : ℚ := (s.parN 0x534 0 : ℚ) / 100
    let e := s.strE r
    let conf := (ms.map s.confidence).foldl min 255
    let age := (ms.map s.anchorAge).foldl max 0
    let figs := leBytes 4 (ts32 s.est.tc).toNat ++ fw hd ++ fw hc ++ pct (minQ zs) ++ pct (if zs = [] then 0 else zs.sum / (zs.length : ℚ))
      ++ pct (maxQ zs) ++ fw e.b ++ fw (sqrtQ e.sb2) ++ fw (minQ (ks.map fun k => (s.cellE k).thQ))
      ++ fw (minQ (ms.map fun k => ((s.cellE k).z - lim) * (s.cellE k).thQ))
      ++ fw (minQ (ms.map fun k => (top - (s.cellE k).z) * (s.cellE k).thQ / s.rc 5 (s.cellE k).temp))
      ++ fw ((ks.map fun k => (s.cellE k).thR * s.rshape (s.cellE k).z (s.cellE k).temp).sum)
      ++ u16 (min 65535 (age / 3600000000000)) ++ u16 (clampN 65535 (minQ (js.map fun k => (s.cellE k).compLo * 10000)))
      ++ u16 (clampN 65535 (maxQ (js.map fun k => (s.cellE k).compHi * 10000)))
    let s := s.setStrE r { e with figs := padTo 52 figs, conf := if ms = [] then 0 else conf, disBySoc := disSoc, chgBySoc := chgSoc,
                                  untrusted := decide (der ≠ 1) }
    let q15 := fun (v : ℚ) => min 32767 (q15Of v (s.parF 0x302 r))
    s.updLane r fun l => { l with hDis := q15 hd, hChg := q15 hc, hStamp := some (ts32 s.est.tc) }

/-- A cell is persistent (R288). -/
def State.persistent (s : State) (c : CellSt) : Bool := c.gateSign != 0 && s.parN 0x519 0 * 1000000000 ≤ c.gateNs

/-- Row 2 and row 3 of Table 10.5 on one persistent cell. -/
def State.attributeCell (s : State) (k : Nat) : State :=
  let c := s.cellE k
  let span := s.parN 0x519 0 * 1000000000
  let again := match c.widen with
    | some t => decide (t ≤ s.est.tc ∧ s.est.tc ≤ t + 2 * span)
    | none => false
  let s := s.setCellE k { c with widen := some (s.est.tc + span), gateNs := 0, mismatch := c.mismatch || again }
  let s := s.raiseCell 0x5012 k 0 []
  if again ∧ !c.mismatch then s.raiseCell 0x5013 k 1 [] else s

/-- Table 10.5 on one string. -/
def State.attribute (s : State) (r updated : Nat) : State :=
  let ks := s.ringCells r
  let pos := (ks.filter fun k => s.persistent (s.cellE k) && decide (0 < (s.cellE k).gateSign)).length
  let neg := (ks.filter fun k => s.persistent (s.cellE k) && decide ((s.cellE k).gateSign < 0)).length
  let quorum := s.parN 0x51A 0 * updated
  let row1 := updated ≠ 0 ∧ (quorum ≤ 100 * pos ∨ quorum ≤ 100 * neg)
  let e := s.strE r
  let attrib := if row1 then true else if 200 * pos < quorum ∧ 200 * neg < quorum then false else e.offAttrib
  let s := s.setStrE r { e with offAttrib := attrib }
  let s := if row1 ∧ !e.offAttrib then s.raise 0x5011 r 0 else s
  let s := if row1 then s else (ks.filter fun k => s.persistent (s.cellE k)).foldl State.attributeCell s
  let bad := decide (|e.b| > s.parF 0x51C 0)
  let s := s.updStrE r fun e => { e with offFault := bad }
  if bad ∧ !e.offFault then s.raise 0x5010 r 2 (fw e.b) else s

/-- ANCHOR_REQUEST (R294). -/
def State.anchorRequest (s : State) (r : Nat) : State :=
  let ms := s.measuredCells r
  let req := ms ≠ [] ∧ s.parN 0x524 0 * 3600000000000 ≤ (ms.map s.anchorAge).foldl max 0
  let e := s.strE r
  let s := s.setStrE r { e with anchorReq := req }
  if req ∧ !e.anchorReq then s.raise 0x5020 r 0 (u8 r ++ u8 (s.parN 0x525 0))
  else if ¬req ∧ e.anchorReq then s.raise 0x5021 r 0 (u8 r) else s

/-- Health events of one cell (R322, Table 11.4). -/
def State.healthCell (s : State) (k : Nat) (median : ℚ) : State :=
  let r := k / 448
  let c := s.cellE k
  let now := [decide (c.thQ < (s.parN 0x597 0 : ℚ) / 100 * s.parF 0x503 r),
    decide (c.thR > (s.parN 0x598 0 : ℚ) / 100 * (s.parF 0x502 r / 1000)),
    s.measured k && decide (c.thR > median * (1 + (s.parN 0x599 0 : ℚ) / 100))]
  let s := s.setCellE k { c with health := BitVec.ofNat 3 (ofBits now) }
  (List.range 3).foldl (fun s i =>
    if now.getD i false ∧ !c.health.getLsbD i then s.raiseCell (0x5070 + i) k (if i = 2 then 1 else 0) [] else s) s

def State.health (s : State) (r : Nat) : State :=
  let m := medianQ ((s.measuredCells r).map fun k => (s.cellE k).thR)
  (s.ringCells r).foldl (fun s k => s.healthCell k m) s

/-- The CRC of a ring's compared state (R381). -/
def State.ringCrc (s : State) (r : Nat) : Nat := crc32c (s.estPart r 0 ++ s.estPart r 1 ++ s.estPart r 2)

/-- EST_DIGEST (Table 13.2). -/
def State.digestBytes (s : State) : Bytes :=
  u32 s.est.cycle ++ (List.range 4).flatMap fun r =>
    u32 (s.ringCrc r) ++ sBytes 2 (s.lane r).hDis ++ sBytes 2 (s.lane r).hChg

/-- EST_COPY frames of one part (Table 13.5). -/
def State.copyFrames (s : State) (r part : Nat) : List Out :=
  let b := s.estPart r part
  (List.range ((b.length + 503) / 504)).map fun i =>
    .shallot 0x20 (u32 s.est.cycle ++ u8 r ++ u8 part ++ u16 (63 * i) ++ slice b (504 * i) 504)

/-- The state copy and digest of a cycle (R273, R380): parts 0 to 2 of every ring. -/
def State.sendCopy (s : State) : State :=
  if s.isStandby then s.emit (.shallot 0x21 s.digestBytes)
  else if !s.isActive then s
  else ({ s with out := s.out ++ ((List.range 4).flatMap fun r => (List.range 3).flatMap fun p => s.copyFrames r p)
                  ++ [Out.shallot 0x21 s.digestBytes] }).place .est

/-- The standby becomes SUSPECT (R388): self-tests passed before count no more. -/
def State.becomeSuspect (s : State) : State :=
  if s.twin.suspect then s else { s with twin := { s.twin with suspect := true, tested := [] } }

/-- One ring's fields of the digests differ (R381). -/
def State.digestDiffers (s : State) (m : EstDigestMsg) (r : Nat) : Bool :=
  (m.crc.get r).toNat != s.ringCrc r || m.hDis.get r != (s.lane r).hDis || m.hChg.get r != (s.lane r).hChg

/-- A compared cycle's result for one ring (R381): 0x7022, and SUSPECT at the third difference in a row. -/
def State.judgeDigest (s : State) (m : EstDigestMsg) (r : Nat) : State :=
  let n := if s.digestDiffers m r then s.twin.estDiff.get r + 1 else 0
  let s := { s with twin := { s.twin with estDiff := s.twin.estDiff.set r n } }
  if n = 0 then s
  else
    let s := (s.inc 0x723 0).raise 0x7022 r 1 (u8 r)
    let s := { s with twin := { s.twin with suspectAt := s.now } }
    if 3 ≤ n then s.becomeSuspect else s

/-- The standby compares its digest of a cycle with the active's, once it has both (R380, R381). -/
def State.compareEst (s : State) : State :=
  match s.twin.digest with
  | none => s
  | some m =>
    if !s.isStandby || s.est.busy || s.upd.mixed 3 || m.cycle.toNat != s.est.cycle then s
    else
      let rs := (List.range 4).filter fun r => !s.twin.estBlind.contains r
      rs.foldl (fun s r => s.judgeDigest m r) { s with twin := { s.twin with digest := none } }

/-- The number of cells a cycle updated in a string. -/
def State.updatedIn (s : State) (r : Nat) : Nat := (s.est.work.filter fun p => p.1 / 448 == r && p.2.upd.isSome).length

/-- What leaves a cycle last (R273): the state copy, which so carries the flags of R291 and R294 as well, the flight buffer's digest, and
the comparison of R381. -/
def State.cycleSent (s : State) : State := ((s.sendCopy).fbEvent 6 s.digestBytes).compareEst

/-- EST_CYCLE_COMPLETE (R272, R273, R289, R294, R322); `late` says that the next cycle instant has passed. -/
def execEstCycleComplete (late : Bool) (s : State) : Result :=
  .next <|
    if !s.est.busy then s
    else
      let s := if late ∧ !s.est.overrun then
          (({ s with est := { s.est with skip := true } } : State).inc 0x551 0).raise 0x5001 0 1
        else s
      let ups := (List.range 4).map s.updatedIn
      let s := (List.range 4).foldl State.fuse s
      let cells := s.est.work.foldl (fun m p => m.set p.1 p.2.cell) s.est.cell
      let s := { s with est := { s.est with cell := cells, work := [], busy := false, overrun := false, done := some s.est.tc,
                                            cycle := (s.est.cycle + 1) % 2 ^ 32 } }
      let s := s.inc 0x550 0
      let s := (List.range 4).foldl State.stringFigures s
      let s := (List.range 4).foldl (fun s r => s.attribute r (ups.getD r 0)) s
      ((List.range 4).foldl (fun s r => (s.anchorRequest r).health r) s).cycleSent

/-! ### Compensation and warnings (R295, R296) -/

/-- The last completed cycle is too old for the compensation of string r, by its own channel's LOOP.EST_STALE_CYCLES (R295). -/
def State.compStale (s : State) (r : Nat) : Bool :=
  match s.est.done with
  | none => true
  | some t => decide (s.parN 0x34B r * cyclePeriod s.filterHz < s.now - t) || s.filterHz == 0

/-- Δ_n in V (R295). -/
def State.compensation (s : State) (k : Nat) (ip : ℚ) : ℚ :=
  let r := k / 448
  let c := s.cellE k
  let rcn := min c.thR (s.parF 0x52B 0 * (s.parF 0x502 r / 1000)) * s.rshape c.z c.temp
  let m : ℚ := (s.parN 0x52C 0 : ℚ) / 1000
  if s.compStale r then 0 else max (-m) (min m ((ip - (s.strE r).b) * rcn))

/-- Compensated voltages of the nodes a sweep held (R295). -/
def State.compSweep (s : State) (r : Nat) (ip : ℚ) (held : List Nat) : State :=
  let s := s.updStrE r fun e => { e with compStale := s.compStale r }
  held.foldl (fun s node =>
    let x := s.node (nodeKey r node)
    (List.range 16).foldl (fun s j =>
      let k := cellKey r node j
      match s.est.cell.find k with
      | none => s
      | some c => let d := s.compensation k ip
        s.setCellE k { c with compLo := x.vLo.getD j 0 + d, compHi := x.vHi.getD j 0 + d }) s) s

/-- The new level of a set of three warnings (R296): `beyond i h` says that level i's condition, widened by h volts, is met. -/
def warnLevel (old : Nat) (beyond : Nat → ℚ → Bool) (hyst : ℚ) : Nat :=
  ((List.range 3).filter fun i => beyond i 0 || (decide (i < old) && beyond i hyst)).length

/-- The cell with the lowest or highest of a figure. -/
def bestCell (f : Nat → ℚ) : List Nat → Option Nat
  | [] => none
  | a :: t => some (t.foldl (fun m k => if f k < f m then k else m) a)

/-- Compensated-voltage warnings of a string (Table 10.6). -/
def State.compWarn (s : State) (r : Nat) : State :=
  let ks := s.judgedCells r
  match bestCell (fun k => (s.cellE k).compLo) ks, bestCell (fun k => -(s.cellE k).compHi) ks with
  | some kl, some kh =>
    let lo := (s.cellE kl).compLo
    let hi := (s.cellE kh).compHi
    let hyst : ℚ := (s.parN 0x52A 0 : ℚ) / 1000
    let wd := fun i => (fieldAt (s.par 0x528 0) (2 * i) 2 : ℚ) / 1000
    let wc := fun i => (fieldAt (s.par 0x529 0) (2 * i) 2 : ℚ) / 1000
    let eodT : ℚ := (s.parN 0x603 0 : ℚ) / 1000
    let eocT : ℚ := (s.parN 0x604 0 : ℚ) / 1000
    let e := s.strE r
    let eod := warnLevel e.eod (fun i h => decide (lo < eodT + wd i + h)) hyst
    let eoc := warnLevel e.eoc (fun i h => decide (hi > eocT - wc i - h)) hyst
    let s := s.setStrE r { e with eod := eod, eoc := eoc }
    let data := fun (k : Nat) (v : ℚ) => u8 r ++ u8 (k / 16 % 28 + 1) ++ u8 (k % 16) ++ [0] ++ u16 (clampN 65535 (v * 10000))
    let s := (List.range 3).foldl (fun s i => if e.eod ≤ i ∧ i < eod then s.raise (0x5031 + i) r (if i = 2 then 1 else 0) (data kl lo) else s) s
    (List.range 3).foldl (fun s i => if e.eoc ≤ i ∧ i < eoc then s.raise (0x5035 + i) r (if i = 2 then 1 else 0) (data kh hi) else s) s
  | _, _ => s

/-- A finalised sweep waits for the filters (R270), where they run. -/
def State.pushSweep (s : State) (r : Nat) (w : SweepRec) : State :=
  if s.estRuns then s.updStrE r fun e => { e with sweeps := w :: e.sweeps } else s

/-! ### Persistence and restore (R301, R302) -/

/-- A cell record (Table 10.10). -/
def State.cellRecord (s : State) (k : Nat) : Bytes :=
  let c := s.cellE k
  let sd := fun i => c.sd.getD i 0
  let rel := fun (a b : ℚ) => u16 (clampN 65535 (if b = 0 then 0 else a / b * 65535))
  padTo 32 (u16 (clampN 65535 (c.z * 65535)) ++ u16 (clampN 65535 (sd 0 * 65535))
    ++ sBytes 2 (clampI (-32768) 32767 (rhe (c.v1 * 10000))) ++ sBytes 2 (clampI (-32768) 32767 (rhe (c.v2 * 10000)))
    ++ sBytes 2 (clampI (-32768) 32767 (rhe (c.h * 32768))) ++ u32 (clampN 4294967295 (c.thR * 1000000000)) ++ rel (sd 4) c.thR
    ++ u32 (clampN 4294967295 (c.thQ * 1000)) ++ rel (sd 5) c.thQ ++ leBytes 6 c.anchor ++ u8 (flagsByte s k c))

/-- A ring's persistence block (Table 10.9). -/
def State.ringBlock (s : State) (r : Nat) : Bytes :=
  let e := s.strE r
  let body := padTo 64 (time80Bytes s.now ++ u8 r ++ u8 (s.ring r).n ++ fw e.b ++ fw (sqrtQ e.sb2) ++ u32 s.est.cycle
      ++ (List.range 28).map (fun i => ((s.node (r * 28 + i)).epoch).getD 0))
    ++ (List.range 448).flatMap (fun i => s.cellRecord (r * 448 + i))
  body ++ u32 (crc32c body)

/-- Every ring's block goes to the older of its two copies; a write that fails to read back, `bad` by ring, spoils that copy alone (R301).
Without the non-volatile die every write fails. -/
def State.persistEst (s : State) (bad : Nat) : State :=
  if s.sys.vinWarn then s
  else
    let bad := if s.sys.diesLost.getLsbD 4 then 15 else bad
    let s := (List.range 4).foldl (fun s r =>
      let b := s.ringBlock r
      if bad.testBit r then ((s.updStrE r fun e => { e with mram := e.mram.take 1 }).inc 0x555 0).raise 0x5040 r 1
      else (s.updStrE r fun e => { e with mram := b :: e.mram.take 1 }).inc 0x555 0) s
    { s with est := { s.est with lastSave := s.now } }

/-- ESTIMATOR_PERSIST (R301): the first completed cycle after EST.PERSIST_S; `bad` names the rings whose write fails to read back. -/
def execEstimatorPersist (bad : BitVec 4) (s : State) : Result :=
  .next <|
    if !s.estRuns ∨ s.est.busy then s
    else (s.advanceTo (s.est.lastSave + s.parN 0x538 0 * 1000000000)).persistEst bad.toNat

/-- A copy whose CRC is correct. -/
def blockValid (b : Bytes) : Bool := b.length == 14404 && fieldAt b 14400 4 == crc32c (b.take 14400)

/-- A cell restored from its record after `days` (R302). -/
def State.restoreCell (s : State) (k : Nat) (b : Bytes) (days : ℚ) (old : CellSt) : CellSt :=
  let temp := s.cellTempC k
  let z : ℚ := (fieldAt b 0 2 : ℚ) / 65535 - s.parF 0x539 0 / 100 * days
  let sz := min (1 / 2) ((fieldAt b 2 2 : ℚ) / 65535 + s.parF 0x53A 0 / 100 * days)
  let v := fun (o : Nat) (i : Nat) => (toSigned 16 (fieldAt b o 2) : ℚ) / 10000 * expNeg (days * 86400 / s.rc i temp)
  let tr : ℚ := (fieldAt b 10 4 : ℚ) / 1000000000
  let tq : ℚ := (fieldAt b 16 4 : ℚ) / 1000
  let sd := [sz, 1 / 20, 1 / 20, 1, (fieldAt b 14 2 : ℚ) / 65535 * tr, (fieldAt b 20 2 : ℚ) / 65535 * tq]
  let fl := fieldAt b 28 1
  { s.resetCell k old (some (tr, tq)) with
      z := z, v1 := v 4 1, v2 := v 6 3, h := (toSigned 16 (fieldAt b 8 2) : ℚ) / 32768, sd := sd, fac := diagFac sd,
      anchor := fieldAt b 22 6, mismatch := fl.testBit 1, pairOnly := fl.testBit 2, seek := false }

/-- A ring's estimator state is loaded (R302): the newest valid copy, else reset values with fault 0x5041. Cells of a node whose EPOCH
differs from the stored one take reset values. -/
def State.restoreRing (s : State) (r : Nat) : State :=
  let e := s.strE r
  match e.mram.find? blockValid with
  | none =>
    let s := (s.cycleCells r).foldl (fun s k => s.setCellE k (s.resetCell k (s.cellE k) none)) s
    s.raise 0x5041 r 1
  | some b =>
    let days : ℚ := ((s.now - time80Ns b : Nat) : ℚ) / 86400000000000
    let sb := max (f32 (fieldAt b 16 4)) (s.parF 0x511 0)
    let s := s.setStrE r { e with b := f32 (fieldAt b 12 4), sb2 := sb * sb, u := none, sweeps := [] }
    (List.range (fieldAt b 11 1 * 16)).foldl (fun s i =>
      let k := r * 448 + i
      let old := s.cellE k
      let same := match (s.node (k / 16)).epoch with
        | some ep => decide (ep.toNat = fieldAt b (24 + i / 16) 1)
        | none => true
      s.setCellE k (if same then s.restoreCell k (slice b (64 + 512 * (i / 16) + 32 * (i % 16)) 32) days old
        else s.resetCell k old none)) s

/-- All rings (R302); a standby's restored state is replaced by the active's (R304). -/
def State.restoreEst (s : State) : State :=
  let s := { s with est := { s.est with busy := false, skip := false, overrun := false, work := [], loaded := true } }
  (List.range 4).foldl State.restoreRing s

/-- The filters stop: what runs is dropped, the published headroom ages (R303). -/
def State.stopEst (s : State) : State := { s with est := { s.est with busy := false, skip := false, overrun := false, work := [] } }

/-! ### Commands (Table 10.11) -/

/-- A node that exists in the ring: 1 to n. -/
def State.nodeOk (s : State) (ring node : Nat) : Bool := ring < 4 && 1 ≤ node && node ≤ (s.ring ring).n

/-- One cell of EST_CELLS. -/
def State.estCellBytes (s : State) (k : Nat) : Bytes :=
  let c := s.cellE k
  u16 (clampN 65535 (c.z * 10000)) ++ u16 (clampN 65535 (c.sd.getD 0 0 * 10000)) ++ sBytes 2 (clampI (-32768) 32767 (rhe (c.v1 * 10000)))
    ++ sBytes 2 (clampI (-32768) 32767 (rhe (c.v2 * 10000))) ++ sBytes 2 (clampI (-32768) 32767 (rhe (c.h * 32768)))
    ++ u32 (clampN 4294967295 (c.thR * 1000000000)) ++ u32 (clampN 4294967295 (c.thQ * 1000)) ++ u16 (clampN 65535 (c.compLo * 10000))
    ++ u8 (s.confidence k) ++ u8 (flagsByte s k c) ++ u16 (min 65535 (s.anchorAge k / 3600000000000))

/-- EST_CELLS (R305). -/
def execEstCells (h : Hdr) (ring node : Byte) (s : State) : Result :=
  .next <| s.wcpReq 0x0500 h [ring, node] fun s =>
    if !s.nodeOk ring.toNat node.toNat then s.fail 0x0500 h 0x0104
    else s.reply 0x0500 h 0 (u32 s.est.cycle ++ leBytes 4 (ts32 (s.est.done.getD 0)).toNat
      ++ (List.range 16).flatMap fun j => s.estCellBytes (cellKey ring.toNat node.toNat j))

/-- EST_STRING (R305): one record of Table 10.7 per ring. -/
def execEstString (h : Hdr) (mask : Byte) (s : State) : Result :=
  .next <| s.wcpReq 0x0501 h [mask] fun s =>
    s.reply 0x0501 h 0 ((bitsSet 4 mask.toNat).flatMap fun r => u32 (s.stringStatus r) ++ padTo 52 (s.strE r).figs)

/-- EST_RESET (R305): the cells take the reset values at the next cycle start. -/
def execEstReset (h : Hdr) (ring node : Byte) (mask : BitVec 16) (s : State) : Result :=
  .next <| s.wcpReq 0x0502 h ([ring, node] ++ leBytes 2 mask.toNat) fun s =>
    let r := ring.toNat
    if 4 ≤ r ∨ (node.toNat ≠ 255 ∧ !s.nodeOk r node.toNat) then s.fail 0x0502 h 0x0104
    else
      let nodes := if node.toNat = 255 then (List.range (s.ring r).n).map (· + 1) else [node.toNat]
      let ks := nodes.flatMap fun n => (bitsSet 16 mask.toNat).map fun j => cellKey r n j
      let s := ks.foldl (fun s k => s.updCellE k fun c => { c with resetDue := true }) s
      (s.incBy 0x554 0 ks.length).reply 0x0502 h 0

end Sys2Proof.Machine
end

