-- ==== Sys2Proof/Machine/Impedance.lean ====
section
/-! DEFINITION. Chapter 11: injection runs and their windows, the impedance table, resistance tracking and anchors, the runaway
precursor, node identity and history, the opcodes of R334; and the estimator cycle, whose start applies committed values and may
abandon a run. -/

namespace Sys2Proof.Machine
open Sys2Proof

/-! ### Runs (R309, R310, R333) -/

/-- The train time of a ring, ns (R136). -/
def trainNs (syncOffset nodes : Nat) : Nat := syncOffset + 20000 + (nodes - 1) * 28800 + 24800 + 40000

/-- The start conditions of R309; no run starts under the junction warning (17 Table 17.6). -/
def State.impReady (s : State) (r : Nat) : Bool :=
  s.isActive && s.sys.power == .p0 && (s.ch r).state == 2 && ((s.ring r).mode == 2 || (s.ring r).mode == 3)
    && decide (2 ≤ s.estClusters) && decide (trainNs (s.parN 0x202 r) (s.parN 0x201 r) ≤ 1000000) && (s.imp r).run == 0
    && !s.bist.warn

/-- A run starts (R310): the ring is raised to 1 kHz at its next SYNC. -/
def State.startRun (s : State) (r : Nat) : State :=
  (s.updImp r fun i => { i with run := 1, due := false, reqAt := none, cells := [], rejected := [], inRun := [], fullSince := none, win := [] }).inc 0x5B0 0

/-- The injection request is withdrawn; the ring returns to its rate at the next SYNC (R310). -/
def State.withdraw (s : State) (r : Nat) : State :=
  let s := s.updLane r fun l => { l with injReq := false }
  s.updImp r fun i => { i with run := if (s.ring r).fast then 3 else 0, reqAt := none, fullSince := none, win := [] }

/-- An IMP_RUN whose rings have all ended completes (R82); an abandoned run gives 0x0105 (assumption log 62). -/
def State.runDone (s : State) (q : RingOp) : State :=
  if q.waiting = [] then s.complete q.op (if q.failed then 0x0105 else 0) else { s with est := { s.est with runs := s.est.runs ++ [q] } }

/-- Ring r's run ends for the requests that wait for it. -/
def State.runEnded (s : State) (r : Nat) (failed : Bool) : State :=
  let qs := s.est.runs.map fun (q : RingOp) =>
    if r ∈ q.waiting then { q with waiting := q.waiting.filter fun x => x != r, failed := q.failed || failed } else q
  qs.foldl State.runDone { s with est := { s.est with runs := [] } }

/-! ### Histories in the nodes: writing (R330 to R332) -/

/-- A node's history block (Table 11.7). -/
def State.historyBlock (s : State) (nk : Nat) : Bytes :=
  let cells := (List.range 16).map fun j => s.cellE (nk * 16 + j)
  let mean := ((cells.map fun c => c.efc.floor.toNat).sum) / 16
  let body := [0x57, 0x48, 0x42, 0x01, 1, 16] ++ u16 (s.parN 0x58C (nk / 28)) ++ leBytes 4 (s.auth nk).nvgen.toNat ++ time80Bytes s.now ++ u32 mean
    ++ (s.centres.flatMap fun c => sBytes 2 (rhe (c * 100))) ++ List.replicate 6 0
    ++ cells.flatMap fun c => u32 c.efc.floor.toNat ++ u32 (clampN 4294967295 (c.thR * 1000000000)) ++ u32 (clampN 4294967295 (c.thQ * 1000))
        ++ u32 0 ++ padTo 256 c.bins
  body ++ u32 (crc32c body)

/-- Send a node its history: writes of 120 bytes, then the digest (R331). -/
def State.writeNode (s : State) (r node : Nat) : State :=
  let b := s.historyBlock (nodeKey r node)
  let s := (List.range 37).foldl (fun s i =>
    let part := slice b (120 * i) 120
    s.command r node 0x1D (u8 1 ++ [0] ++ u16 (120 * i) ++ u8 part.length ++ [0] ++ part)) s
  s.sendCmd r node 0x1D (u8 2 ++ [0] ++ sha256 b) none 2

/-- The next node of a ring's history write, or its end (R332): one at a time, never during a run or while it returns to its rate. -/
def State.syncNext (s : State) (r : Nat) : State :=
  match (s.imp r).sync with
  | none => s
  | some y =>
    if (s.imp r).run ≠ 0 then s
    else match y.nodes with
      | [] =>
        let s := s.updImp r fun i => { i with sync := none }
        match y.op with
        | some op => s.complete op 0
        | none => s
      | n :: _ => s.writeNode r n

/-! ### The end of a run (R310, R333) -/

/-- A run is abandoned at once (R333): event 0x5052, or 0x5053 for want of clusters. -/
def State.abandonRun (s : State) (r code : Nat) : State :=
  if (s.imp r).run = 1 ∨ (s.imp r).run = 2 then (((s.withdraw r).raise code r 0).runEnded r true).syncNext r else s

def State.abandonRuns (s : State) (code : Nat) : State := (List.range 4).foldl (fun s r => s.abandonRun r code) s

/-- Fewer than 2 clusters in service: runs are abandoned (Table 11.8). -/
def State.impClusters (s : State) : State := if s.estClusters < 2 then s.abandonRuns 0x5053 else s

/-- A cluster rotation or another test of a cluster is in progress (R466). -/
def State.rotating (s : State) : Bool := s.bist.running.any fun b => 0x10 ≤ b.1 && b.1 ≤ 0x13

/-- A due run starts when its conditions hold (R309), after a cluster rotation (R466). -/
def State.impDue (s : State) (r : Nat) : State := if (s.imp r).due ∧ s.impReady r ∧ !s.rotating then s.startRun r else s

/-- The model tables follow the installed set once both modules hold it (19 R513). -/
def State.followTables (s : State) : State :=
  let p := s.upd.run.get 2
  let both : Bool := s.upd.twinParts.any fun e => e.type == 3 && e.version == p.entry.version
  if both && p.valid then { s with upd := { s.upd with tables := p.payload } } else s

/-- A rotation that is due starts at a cycle start when its conditions hold (R466). -/
def State.rotStart (s : State) : State :=
  let k := s.bist.rotNext
  let left := s.estUnits - (8 - (bitsSet 8 (s.sys.est.get k).unitsOut.toNat).length)
  if s.bist.rotDue ∧ s.estClusters = 4 ∧ s.est.noRun ∧ !s.bist.warn ∧ s.parN 0x500 0 ≤ 15 * left / 8 then
    let b := s.bist
    ({ s with bist := { b with rotDue := false, rotAt := s.now, rotNext := (k + 1) % 4,
                               running := b.running ++ [(0x10 + k, s.now + 500000000)] } }).inc 0xA20 0
  else s

/-- Sweeps of a window (R312). -/
def State.windowLen (s : State) : Nat := 1000 * s.parN 0x582 0

/-- A period of a run while injection is requested (R200, R312): full amplitude, or the window in progress is rejected for every cell (Table 11.1). -/
def State.impFull (s : State) (r : Nat) (full : Bool) : State :=
  let i := s.imp r
  if full then s.setImp r { i with run := 2, fullSince := some (i.fullSince.getD s.now) }
  else
    let part := i.win.length % s.windowLen
    let s := s.setImp r { i with run := 1, fullSince := none, win := i.win.drop part }
    if part = 0 then s else s.incBy 0x5B2 0 (16 * (s.ring r).n)

/-- A boundary's part in a run (R310, R312): the request at the first boundary after the SYNC that raised the rate, and whether the
amplitude is full. -/
def State.impBoundary (s : State) (r : Nat) : State :=
  let i := s.imp r
  let l := s.lane r
  if i.run = 1 ∨ i.run = 2 then
    (if i.reqAt.isNone then
      (if (s.ring r).fast then
        (s.setImp r { i with reqAt := some s.now }).setLane r { l with injReq := true, phase := List.replicate 5 0, rearm := 0, fade := 0 }
       else s)
     else s.impFull r l.injFull)
  else s.impDue r

/-- IMP_RUN (R309). -/
def execImpRun (h : Hdr) (mask : Byte) (s : State) : Result :=
  .next <| s.wcpReq 0x0510 h [mask] fun s =>
    let rs := bitsSet 4 mask.toNat
    if rs = [] then (s.reply 0x0510 h 1).complete (opRef 0x0510 h) 0
    else if rs.all s.impReady then
      let s := rs.foldl State.startRun s
      ({ s with est := { s.est with runs := s.est.runs ++ [(⟨opRef 0x0510 h, rs, rs, false⟩ : RingOp)] } }).reply 0x0510 h 1
    else s.fail 0x0510 h 0x0105

/-- IMP_STOP (R333, R334). -/
def execImpStop (h : Hdr) (mask : Byte) (s : State) : Result :=
  .next <| s.wcpReq 0x0511 h [mask] fun s =>
    ((bitsSet 4 mask.toNat).foldl (fun s r => s.abandonRun r 0x5052) s).reply 0x0511 h 0

/-- IMP_SCHEDULE_DUE (R309): the run starts, or waits as DUE. -/
def execImpScheduleDue (ring : Nat) (s : State) : Result :=
  .next <|
    if 4 ≤ ring ∨ !s.isActive ∨ s.parN 0x586 ring = 0 then s
    else
      let s := s.advanceTo ((s.imp ring).lastEnd + s.parN 0x586 ring * 3600000000000)
      (s.updImp ring fun i => { i with due := true }).impDue ring

/-! ### Windows (R312, R313) -/

/-- Calibration of a node has settled (R146). -/
def State.settled (s : State) (nk : Nat) : Bool := s.parN 0x290 (nk / 28) ≤ (s.node nk).cycles

/-- The cell keys of a ring's enumerated nodes. -/
def State.nodeCells (s : State) (r : Nat) : List Nat := (List.range ((s.ring r).n * 16)).map fun i => r * 448 + i

/-- The columns of the fit at a time in s: offset, slope, and a cosine and a sine at each tone (R314). -/
def toneRow (tones : List ℚ) (t : ℚ) : List ℚ := [1, t] ++ tones.flatMap fun f => [cosTurn (f * t), sinTurn (f * t)]

/-- The fit of values over their times in s (R314). -/
def fitTones (tones : List ℚ) (ps : List (ℚ × ℚ)) : Option (List ℚ) :=
  leastSquares (2 + 2 * tones.length) (ps.map fun p => (toneRow tones p.1, p.2))

/-- The mean square of what the fit leaves. -/
def fitResidual (tones : List ℚ) (ps : List (ℚ × ℚ)) (x : List ℚ) : ℚ :=
  (ps.map fun p => (p.2 - dotQ (toneRow tones p.1) x) ^ 2).sum / ps.length

/-- The cosine and sine coefficients of tone k in a fit. -/
def toneOf (x : List ℚ) (k : Nat) : ℚ × ℚ := (x.getD (2 + 2 * k) 0, x.getD (3 + 2 * k) 0)

/-- -V / I of two complex amplitudes c - i s, in nΩ (R315). -/
def zOf (v i : ℚ × ℚ) : ℚ × ℚ :=
  let d := i.1 * i.1 + i.2 * i.2
  if d = 0 then (0, 0) else (-(v.1 * i.1 + v.2 * i.2) / d * 1000000000, -(v.1 * i.2 - v.2 * i.1) / d * 1000000000)

/-- The tones in Hz and their commanded amplitudes in A (R199, R311). -/
def State.tones (s : State) : List ℚ := (words 2 5 (s.par 0x580 0)).map fun f => (f : ℚ) / 10

def State.toneAmps (s : State) (r : Nat) : List ℚ :=
  (words 2 5 (s.par 0x581 0)).map fun w => min (s.parF 0x304 r / 50) 2 * (w : ℚ) / 32768

/-- Time of a sweep in s from the window's first. -/
def winTime (w : List WinSweep) (t : Nat) : ℚ := ((t - (w.getLast?.map (·.time)).getD 0 : Nat) : ℚ) / 1000000000

/-- The sweeps of a window follow one another by 1 ms (Table 11.1). -/
def evenSweeps : List WinSweep → Bool
  | a :: b :: t => a.time == b.time + 1000000 && evenSweeps (b :: t)
  | _ => true

/-- The current's fit in a window, unless the window is rejected for every cell of the ring (Table 11.1). -/
def State.windowCurrent (s : State) (r : Nat) (w : List WinSweep) : Option (List ℚ) :=
  match fitTones s.tones (w.map fun x => (winTime w x.time, x.ip)) with
  | none => none
  | some x =>
    let strong := (s.toneAmps r).zipIdx.all fun p => decide ((p.1 / 2) ^ 2 ≤ (toneOf x p.2).1 ^ 2 + (toneOf x p.2).2 ^ 2)
    if evenSweeps w && strong && decide (|x.getD 1 0| * s.parN 0x582 0 ≤ s.parF 0x587 0) then some x else none

/-- A cell's impedance at each tone and its sensor's mean temperature in 0.01 °C over a window, where the window is accepted for the cell (Table 11.1, R314,
R315). -/
def State.windowCell (s : State) (k : Nat) (w : List WinSweep) (i : List ℚ) : Option (List (ℚ × ℚ) × ℚ) :=
  let r := k / 448
  let node := k / 16 % 28 + 1
  let held := w.filterMap fun x => (x.nodes.find? fun p => p.1 == node).map fun p => (winTime w x.time, p.2.1.getD (k % 16) 0, p.2.2.getD (k % 16 / 4) 0)
  let temps := held.map fun h => h.2.2
  let ps := held.map fun h => (h.1, h.2.1)
  if s.parN 0x588 0 < w.length - held.length ∨ !s.settled (k / 16) ∨ (s.node (k / 16)).unmeasured ≠ 0 ∨ node ∈ (s.imp r).rejected
    ∨ s.parF 0x589 0 < maxQ temps - minQ temps then none
  else match fitTones s.tones ps with
    | none => none
    | some v =>
      if (s.parF 0x58A 0 / 1000) ^ 2 < fitResidual s.tones ps v then none
      else some ((List.range 5).map fun t => zOf (toneOf v t) (toneOf i t), temps.sum / temps.length * 100)

/-- An accepted window joins a cell's run (R316). -/
def RunCell.join (c : RunCell) (z : List (ℚ × ℚ)) (temp : ℚ) (ended : Nat) : RunCell :=
  { n := c.n + 1, temp := c.temp + temp, ended := ended,
    z := (List.range 5).map fun i => ((c.z.getD i (0, 0)).1 + (z.getD i (0, 0)).1, (c.z.getD i (0, 0)).2 + (z.getD i (0, 0)).2) }

/-- One cell's part of a window: it joins the run, or counts as rejected (R313). -/
def State.joinWindow (s : State) (r : Nat) (w : List WinSweep) (i : Option (List ℚ)) (k : Nat) : State :=
  match i.bind (s.windowCell k w) with
  | some (z, temp) => (s.updImp r fun i => { i with cells := i.cells.set k ((i.cells.at k {}).join z temp ((w.head?.map (·.time)).getD s.now)) }).inc 0x5B1 0
  | none => s.inc 0x5B2 0

/-- IMP_WINDOW_END (R312, R313): the oldest window is whole; each cell takes its result or not. -/
def execImpWindowEnd (ring : Nat) (s : State) : Result :=
  .next <|
    let i := s.imp ring
    let n := s.windowLen
    if 4 ≤ ring ∨ !(i.run = 1 ∨ i.run = 2) ∨ i.reqAt.isNone ∨ n = 0 ∨ i.win.length < n then s
    else
      let w := i.win.drop (i.win.length - n)
      let s := s.setImp ring { i with win := i.win.take (i.win.length - n) }
      let x := s.windowCurrent ring w
      (s.nodeCells ring).foldl (fun s k => s.joinWindow ring w x k) s

/-! ### Run results (R316 to R319, R323) -/

/-- The mean impedance of a run at a tone, in nΩ. -/
def RunCell.mean (c : RunCell) (i : Nat) : ℚ × ℚ :=
  let z := c.z.getD i (0, 0)
  (z.1 / c.n, z.2 / c.n)

/-- The bin whose centre lies nearest a temperature in 0.01 °C. -/
def State.nearestBin (s : State) (temp : ℚ) : Nat :=
  let d := s.centres.map fun c => |c * 100 - temp|
  d.findIdx fun v => v == minQ d

def satS16 (v : Int) : Int := clampI (-32767) 32767 v

/-- Component j of bin `bin` of a cell's records. -/
def binComp (b : Bytes) (bin j : Nat) : Int := toSigned 16 (fieldAt b (32 * bin + 2 * j) 2)

def binHolds (b : Bytes) (bin : Nat) : Bool := (fieldAt b (32 * bin + 30) 1).testBit 0

/-- The phase of a bin at a tone, 0.01°. -/
def binPhase (b : Bytes) (bin tone : Nat) : Int := phaseCdeg (binComp b bin (2 * tone)) (binComp b bin (2 * tone + 1))

/-- Fold a run into the table (R316, Table 11.3). -/
def State.foldRun (s : State) (k : Nat) (c : RunCell) (high : Nat) : State :=
  let lsb : ℚ := s.parN 0x58C (k / 448)
  let temp : ℚ := c.temp / c.n
  let bin := s.nearestBin temp
  let x := s.cellE k
  let held := binHolds x.bins bin
  let comp := fun (j : Nat) =>
    let z := if j % 2 = 0 then (c.mean (j / 2)).1 / lsb else (c.mean (j / 2)).2 / lsb
    let old : ℚ := binComp x.bins bin j
    satS16 (rhe (if held then old + (z - old) / s.parN 0x58B 0 else z))
  let wins := if held then min 65535 (fieldAt x.bins (32 * bin + 20) 2 + c.n) else min 65535 c.n
  let phase := if held then toSigned 16 (fieldAt x.bins (32 * bin + 28) 2)
    else phaseCdeg (rhe ((c.mean high).1)) (rhe ((c.mean high).2))
  let fl := if held then fieldAt x.bins (32 * bin + 30) 1 else 1
  let recb := ((List.range 10).flatMap fun j => sBytes 2 (comp j)) ++ u16 wins ++ sBytes 2 (rhe temp) ++ u32 (s.now / 1000000000 / 3600)
    ++ sBytes 2 phase ++ u8 fl ++ [0]
  s.setCellE k { x with bins := patch x.bins (32 * bin) recb }

/-- The reference phase of a cell's table at the highest tone for a temperature in 0.01 °C (R323). -/
def State.refPhase (s : State) (k : Nat) (temp : ℚ) (high : Nat) : Option ℚ :=
  let b := (s.cellE k).bins
  let (i, j, w) := bracket s.centres (temp / 100)
  let ph := fun n => (binPhase b n high : ℚ)
  match binHolds b i, binHolds b j with
  | true, true => some (ph i + (ph j - ph i) * w)
  | true, false => if |s.centres.getD i 0 - temp / 100| ≤ 5 then some (ph i) else none
  | false, true => if |s.centres.getD j 0 - temp / 100| ≤ 5 then some (ph j) else none
  | false, false => none

/-- The phase drift of a run result (R323). -/
def State.runDrift (s : State) (k : Nat) (c : RunCell) (high : Nat) : Option Int :=
  (s.refPhase k (c.temp / c.n) high).map fun p =>
    rhe (atan2Q ((c.mean high).2) ((c.mean high).1) * 18000 / piQ - p)

/-- Slopes of F per segment of a tenth of SOC at a temperature. -/
def State.fSlopes (s : State) (temp : ℚ) : List (ℚ × ℚ) :=
  (List.range 10).map fun (i : Nat) => (s.rshape ((i : ℚ) / 10) temp, s.rshape (((i + 1 : Nat) : ℚ) / 10) temp)

/-- The part of a segment of F, from a to b over a tenth from i/10, that lies in [lo, hi]. -/
def segIn (i : Nat) (a b lo hi : ℚ) : Option (ℚ × ℚ) :=
  if a = b then (if lo ≤ a ∧ a ≤ hi then some ((i : ℚ) / 10, ((i + 1 : Nat) : ℚ) / 10) else none)
  else
    let p := (lo - a) / (b - a)
    let q := (hi - a) / (b - a)
    let x := max 0 (min p q)
    let y := min 1 (max p q)
    if x ≤ y then some (((i : ℚ) + x) / 10, ((i : ℚ) + y) / 10) else none

/-- Each interval begins where the one before ends. -/
def contiguous : List (ℚ × ℚ) → Bool
  | a :: b :: t => decide (a.2 = b.1) && contiguous (b :: t)
  | _ => true

/-- Resistance tracking or impedance anchor of one cell after a complete run (R318). -/
def State.trackCell (s : State) (k : Nat) (c : RunCell) (high : Nat) : State :=
  let x := s.cellE k
  let temp : ℚ := c.temp / c.n / 100
  let w := 2 * piQ * ((fieldAt (s.par 0x580 0) (2 * high) 2 : ℚ) / 10)
  let pol := fun (rho tau : ℚ) => rho / (1 + (w * tau) * (w * tau))
  let m := 1 + pol (s.rc 0 temp) (s.rc 1 temp) + pol (s.rc 2 temp) (s.rc 3 temp)
  let re : ℚ := (c.mean high).1 / 1000000000
  let var := Config.runVariance re c.n
  let f := s.rshape x.z temp
  let segs := s.fSlopes temp
  let sz := x.sd.getD 0 0
  let flat := (segs.zipIdx).all fun p =>
    let lo : ℚ := (p.2 : ℚ) / 10
    !(decide (lo ≤ x.z + 3 * sz ∧ x.z - 3 * sz ≤ lo + 1 / 10)) || decide (|(p.1.2 - p.1.1) * 10| < s.parF 0x595 0)
  let fm := re / (x.thR * m)
  let sf := sqrtQ var / (x.thR * m)
  let hits := (segs.zipIdx).filterMap fun p => (segIn p.2 p.1.1 p.1.2 (fm - 3 * sf) (fm + 3 * sf)).map fun q => (q, |(p.1.2 - p.1.1) * 10|)
  let steep := s.parN 0x593 0 = 1 ∧ hits ≠ [] ∧ (hits.all fun h => decide (s.parF 0x594 0 ≤ h.2)) ∧ contiguous (hits.map (·.1))
  if flat then s.setCellE k { x with extra := x.extra ++ [(4, re / (f * m), var)] }
  else if steep then
    let lo := minQ (hits.map fun h => h.1.1)
    let hi := maxQ (hits.map fun h => h.1.2)
    let sd := (hi - lo) / 2 / 3
    s.setCellE k { x with extra := x.extra ++ [(0, (lo + hi) / 2, sd * sd)] }
  else s

/-! ### Runaway precursor (R324) -/

/-- The rise rate of a sensor, K/min: at least 10 readings over at least 20 s (R474). -/
def State.cellRate (s : State) (key : Nat) : Option ℚ :=
  let ps := s.bist.temps.at key []
  match ps, ps.getLast? with
  | p :: _, some q =>
    if ps.length < 10 ∨ p.1 < q.1 + 20000000000 then none
    else some (60 * slopeQ (ps.map fun r => (((r.1 - q.1 : Nat) : ℚ) / 1000000000, (r.2 : ℚ) / 100)))
  | _, _ => none

/-- The moment since which a sensor's rate is met (R324). -/
def State.metAt (s : State) (sensor : Nat) : Nat := ((s.imp (sensor / 112)).hot.at sensor (s.now, false)).1

/-- A cell's drift value is fresh for a rate met at a moment (R324). -/
def State.freshDrift (s : State) (k met : Nat) : Bool := match (s.cellE k).drift with
  | some (_, t) => decide (met ≤ t + s.parN 0x592 0 * 1000000000)
  | none => false

/-- One cell against a rise rate of its sensor, K/min (R324). -/
def State.precursorCell (s : State) (k : Nat) (rate : ℚ) : State :=
  let r := k / 448
  let d := ((s.cellE k).drift.map (·.1)).getD 0
  if s.parF 0x590 0 ≤ rate ∧ s.freshDrift k (s.metAt (k / 4)) ∧ (s.parN 0x591 0 : Int) ≤ |d| then
    let s := if (s.imp r).run = 0 then s else s.updImp r fun i => { i with inRun := k :: i.inRun }
    if k ∈ (s.imp r).precursor then s
    else
      let s := (s.updImp r fun i => { i with precursor := k :: i.precursor }).inc 0x5B4 0
      s.raiseCell 0x5060 k 1 ([0] ++ sBytes 2 d ++ fw rate)
  else s

/-- How long a sensor's rate has been met, and how long it has stayed below half the threshold (R324); a rate without a fresh drift value calls for
runs. -/
def ImpRing.watch (i : ImpRing) (sensor now : Nat) (rate level : ℚ) (fresh : Bool) : ImpRing :=
  let old := i.hot.at sensor (now, false)
  { i with hot := if rate < level then i.hot.del sensor else i.hot.set sensor (old.1, old.2 || !fresh),
           cool := if rate < level / 2 then i.cool.set sensor (i.cool.at sensor now) else i.cool.del sensor }

/-- One sensor of a node with its rise rate: a rate without a fresh drift value calls for a run at once, which repeats while the rate stays;
a run in progress serves (R324, Table 11.8). -/
def State.precursorSensor (s : State) (nk sensor : Nat) (rate : ℚ) : State :=
  let r := nk / 28
  let key := nk * 4 + sensor
  let ks := (List.range 4).map fun i => nk * 16 + 4 * sensor + i
  let fresh := ks.any fun k => s.freshDrift k (s.metAt key)
  let s := s.updImp r fun i => i.watch key s.now rate (s.parF 0x590 0) fresh
  let s := ks.foldl (fun s k => s.precursorCell k rate) s
  if ((s.imp r).hot.at key (0, false)).2 && s.isActive && (s.imp r).run == 0 then (s.updImp r fun i => { i with due := true }).impDue r else s

/-- PRECURSOR_CLEARED (R324): the precursors of a ring whose sensors' rates have stayed below half the threshold for 600 s, the first of them now due,
clear with event 0x5061 each. -/
def execPrecursorCleared (ring : Nat) (s : State) : Result :=
  .next <|
    let i := s.imp ring
    let due := i.precursor.filterMap fun k => (i.cool.find (k / 4)).map fun t => t + 600000000000
    match due with
    | [] => s
    | t :: ts =>
      if 4 ≤ ring then s
      else
        let s := s.advanceTo (ts.foldl min t)
        let gone := i.precursor.filter fun k => (i.cool.find (k / 4)).any fun t => t + 600000000000 ≤ s.now
        let s := s.updImp ring fun i => { i with precursor := i.precursor.filter fun k => !gone.contains k }
        gone.foldl (fun s k => s.raiseCell 0x5061 k 0 []) s

/-- A run's result for each cell with enough windows: drift, precursor, table (R310, R316, R323, R324). -/
def State.cellResult (s : State) (k : Nat) (high : Nat) (complete : Bool) : State :=
  let c := (s.imp (k / 448)).cells.at k {}
  if c.n < s.parN 0x584 0 then s
  else
    let s := match s.runDrift k c high with
      | some d => s.updCellE k fun x => { x with drift := some (d, c.ended) }
      | none => s
    let s := match s.cellRate (k / 4) with
      | some q => s.precursorCell k q
      | none => s
    let s := if k ∈ (s.imp (k / 448)).inRun then s else s.foldRun k c high
    if complete then s.trackCell k c high else s

/-- The index of the highest tone. -/
def State.highTone (s : State) : Nat :=
  let t := words 2 5 (s.par 0x580 0)
  t.findIdx fun f => f == t.foldl max 0

/-! ### Histories in the nodes (R330 to R332) -/

/-- A history block that is whole (Table 11.7) and hashes to the digest the node signed (R328). -/
def historyOk (b digest : Bytes) : Bool :=
  b.length == 4404 && b.take 4 == [0x57, 0x48, 0x42, 0x01] && fieldAt b 4400 4 == crc32c (b.take 4400) && sha256 b == digest

/-- Bin records rescaled from one LSB to another; `keep` says which bins are taken (R317, R330). -/
def rescaleBins (b : Bytes) (num den : Nat) (keep : Nat → Bool) (fromNode : Bool) : Bytes :=
  (List.range 8).flatMap fun bin =>
    let rb := slice b (32 * bin) 32
    if !keep bin then List.replicate 32 0
    else
      let comps := (List.range 10).flatMap fun j => sBytes 2 (satS16 (rheDiv (toSigned 16 (fieldAt rb (2 * j) 2) * num) den))
      let rest := rb.drop 20
      let fl := fieldAt rb 30 1
      padTo 32 (comps ++ patch rest 10 (u8 (if fromNode ∧ fl.testBit 0 then fl ||| 2 else fl)))

/-- History values of a node's cell: cycle count, θ_R, θ_Q. -/
def histCell (b : Bytes) (j : Nat) : ℚ × ℚ × ℚ :=
  let o := 48 + 272 * j
  ((fieldAt b o 4 : ℚ), (fieldAt b (o + 4) 4 : ℚ) / 1000000000, (fieldAt b (o + 8) 4 : ℚ) / 1000)

/-- Cycle counts and impedance tables of a node are loaded from its block (R330). -/
def State.loadHistory (s : State) (nk : Nat) (b : Bytes) : State :=
  let lsb := s.parN 0x58C (nk / 28)
  let keep := fun bin => decide (|(toSigned 16 (fieldAt b (26 + 2 * bin) 2) : ℚ) - s.centres.getD bin 0 * 100| ≤ 50)
  (List.range 16).foldl (fun s j =>
    s.updCellE (nk * 16 + j) fun c =>
      { c with efc := (histCell b j).1, bins := rescaleBins (slice b (64 + 272 * j) 256) (fieldAt b 6 2) lsb keep true }) s

/-- The genuine nodes of a ring. -/
def State.genuine (s : State) (r : Nat) : List Nat :=
  ((List.range (s.ring r).n).filter fun i => (s.auth (r * 28 + i)).result == 1 && !(s.auth (r * 28 + i)).untrusted).map (· + 1)

/-- A history write of every genuine node of a ring begins, or joins the one in progress (R332). -/
def State.syncStart (s : State) (r : Nat) (op : Option OpRef) : State :=
  let ns := s.genuine r
  let s := ns.foldl (fun s n => s.updAuth (nodeKey r n) fun a => { a with syncPending := true }) s
  match (s.imp r).sync with
  | some y => s.updImp r fun i => { i with sync := some { y with nodes := y.nodes.take 1 ++ ns.filter fun n => !(y.nodes.take 1).contains n,
                                                                  op := if op.isSome then op else y.op } }
  | none => (s.updImp r fun i => { i with sync := some ⟨op, ns, 0⟩, syncAt := s.now }).syncNext r

/-- A ring that stops ends its history write, and the return of its rate after a run. -/
def State.dropSync (s : State) (r : Nat) : State :=
  let i := s.imp r
  let s := s.setImp r { i with sync := none, run := if i.run = 3 then 0 else i.run }
  let s := (s.ringNodes r).foldl (fun s n => s.updAuth (nodeKey r n) fun a => { a with syncPending := false }) s
  match i.sync.bind (·.op) with
  | some op => s.complete op 0x0105
  | none => s

/-- The histories are written before P4 (R332): a write is in progress on no ring that can carry it. -/
def State.historiesKept (s : State) : Bool :=
  [0, 1, 2, 3].all fun r => (s.imp r).sync.isNone || !(s.canSend r false || s.canSend r true)

/-- A node's answer to the digest of a history write (R331, R332). -/
def State.syncReply (s : State) (r node : Nat) (good : Bool) (nvgen : BitVec 32) : State :=
  match (s.imp r).sync with
  | none => s
  | some y =>
    if y.nodes.head? ≠ some node then s
    else if good then
      let s := s.updAuth (nodeKey r node) fun a => { a with nvgen := nvgen, committed := nvgen, syncPending := false }
      (s.updImp r fun i => { i with sync := some { y with nodes := y.nodes.drop 1, tries := 0 } }).syncNext r
    else if y.tries = 0 then (s.updImp r fun i => { i with sync := some { y with tries := 1 } }).syncNext r
    else
      let s := (s.updAuth (nodeKey r node) fun a => { a with syncPending := false }).raise 0x5084 (nodeKey r node) 1
      (s.updImp r fun i => { i with sync := some { y with nodes := y.nodes.drop 1, tries := 0 } }).syncNext r

/-- NODE_SYNC_DUE (R332): IMP.NODE_SYNC_H after the last. -/
def execNodeSyncDue (ring : Nat) (s : State) : Result :=
  .next <| if 4 ≤ ring ∨ !s.isActive then s
    else (s.advanceTo ((s.imp ring).syncAt + s.parN 0x5A2 0 * 3600000000000)).syncStart ring none

/-- IMP_NODE_SYNC (R332): one completion event when every named ring has written. -/
def execImpNodeSync (h : Hdr) (mask : Byte) (s : State) : Result :=
  .next <| s.wcpReq 0x0522 h [mask] fun s =>
    let rs := bitsSet 4 mask.toNat
    let s := s.reply 0x0522 h 1
    match rs.reverse with
    | [] => s.complete (opRef 0x0522 h) 0
    | last :: rest => (rest.reverse.foldl (fun s r => s.syncStart r none) s).syncStart last (some (opRef 0x0522 h))

/-- IMP_RUN_END (R310): every measured cell holds its windows, or IMP.RUN_MAX_S has passed. -/
def execImpRunEnd (ring : Nat) (s : State) : Result :=
  .next <|
    let i := s.imp ring
    match i.reqAt with
    | none => s
    | some t0 =>
      if 4 ≤ ring ∨ !(i.run = 1 ∨ i.run = 2) then s
      else
        let ms := s.measuredCells ring
        let count := fun k => (i.cells.at k {}).n
        let s := if ms.all fun k => s.parN 0x583 0 ≤ count k then s else s.advanceTo (t0 + s.parN 0x585 0 * 1000000000)
        let short := ms.filter fun k => count k < s.parN 0x584 0
        let s := s.withdraw ring
        let high := s.highTone
        let s := ms.foldl (fun s k => s.cellResult k high (short.isEmpty)) s
        let s := if s.isActive then { s with out := s.out ++ s.copyFrames ring 3 } else s
        let s := if short.isEmpty then (s.updImp ring fun i => { i with lastEnd := s.now }).raise 0x5050 ring 0
          else s.raise 0x5051 ring 0 (u8 short.length ++ (short.take 5).flatMap fun k => u8 (k / 16 % 28 + 1) ++ u8 (k % 16))
        (s.runEnded ring false).syncNext ring

/-! ### Node identity (R325 to R329) -/

/-- A challenge is sent (R325, R326). -/
def State.challengeWith (s : State) (nk : Nat) (nonce : Bytes) : State :=
  let n := padTo 32 nonce
  let s := s.updAuth nk fun a => { a with challenge := some (s.now, n), polled := s.now }
  s.sendCmd (nk / 28) (nk % 28 + 1) 0x1C (u8 0 ++ [0] ++ n) none 0

/-- A challenge with a fresh random nonce. -/
def State.challenge (s : State) (nk : Nat) : State :=
  ({ s with free := s.free + 1 } : State).challengeWith nk (Config.freeBytes s.free)

/-- A node's answer is fetched every 20 ms while a challenge is in progress (R326). -/
def State.pollAuth (s : State) (nk : Nat) : State :=
  let a := s.auth nk
  if a.challenge.isSome && decide (a.polled + 20000000 ≤ s.now) then
    (s.setAuth nk { a with polled := s.now }).command (nk / 28) (nk % 28 + 1) 0x1C [2, 0]
  else s

/-- The next challenge of a node falls due (R325): IMP.AUTH_RETRY_S after a failed answer, IMP.REAUTH_H after another outcome. -/
def State.challengeDue (s : State) (nk : Nat) : Nat :=
  let a := s.auth nk
  if a.result = 0 then s.now else a.last + (if 2 ≤ a.result then s.parN 0x5A0 0 else 3600 * s.parN 0x5A1 0) * 1000000000

/-- AUTH_CHALLENGE_DUE (R325). A standby never challenges. -/
def execAuthChallengeDue (node : Nat) (nonce : Bytes) (s : State) : Result :=
  .next <| if 112 ≤ node ∨ !s.isActive ∨ !s.nodeOk (node / 28) (node % 28 + 1) then s
    else (s.advanceTo (s.challengeDue node)).challengeWith node nonce

/-- The bytes a node signs (R327). -/
def signedBytes (nonce : Bytes) (d : AuthData) : Bytes :=
  [0x57, 0x4E, 0x41, 0x01] ++ nonce ++ padTo 16 d.serial ++ [d.epoch] ++ leBytes 4 d.nvgen.toNat ++ padTo 32 d.histDigest

/-- The chain is read from the node only when CERT_ID differs from the cached one (R327). -/
def AuthSt.cached (a : AuthSt) (d : AuthData) : Bool := d.certId == a.certId && a.chain != []

/-- The certificates an answer is judged by. -/
def AuthSt.chainFor (a : AuthSt) (d : AuthData) : Bytes := if a.cached d then a.chain else d.cert ++ d.issuer

/-- The reads of a node's two certificates, 120 bytes each (Table 11.5). -/
def State.readChain (s : State) (nk : Nat) (d : AuthData) : State :=
  let one := fun (chain : Nat) (b : Bytes) (s : State) => (List.range ((b.length + 119) / 120)).foldl (fun s i =>
    s.command (nk / 28) (nk % 28 + 1) 0x1C ([1, 0] ++ u8 chain ++ u16 (120 * i))) s
  one 1 d.issuer (one 0 d.cert s)

/-- The reads of a node's history block, 120 bytes each (R331). -/
def State.readHistory (s : State) (nk : Nat) : State :=
  (List.range 37).foldl (fun s i =>
    s.command (nk / 28) (nk % 28 + 1) 0x1D ([0, 0] ++ u16 (120 * i) ++ u8 (min 120 (4404 - 120 * i)) ++ [0])) s

/-- The answer is genuine (R327); dates are checked only under PTP lock. -/
def State.answerGenuine (s : State) (a : AuthSt) (nonce : Bytes) (d : AuthData) : Bool :=
  let chain := a.chainFor d
  Config.nodeChainOk chain (padTo 16 d.serial) (s.quality false % 8 == 2)
    && Config.ecdsaOk chain (sha256 (signedBytes nonce d)) d.sig

/-- The 16 filters of a node take their reset values, with the θ_R and θ_Q of a history by cell where it has them (R328). -/
def State.resetNodeCells (s : State) (nk : Nat) (hist : Nat → Option (ℚ × ℚ)) : State :=
  (List.range 16).foldl (fun s j => s.setCellE (nk * 16 + j) (s.resetCell (nk * 16 + j) (s.cellE (nk * 16 + j)) (hist j))) s

/-- The θ_R and θ_Q of a cell of a node that MRAM keeps (R328), or the running ones before the first save. -/
def State.keptHistory (s : State) (nk j : Nat) : Option (ℚ × ℚ) :=
  match (s.strE (nk / 28)).mram.find? blockValid with
  | some b =>
    let o := 64 + 512 * (nk % 28) + 32 * j
    if nk % 28 < fieldAt b 11 1 then some ((fieldAt b (o + 10) 4 : ℚ) / 1000000000, (fieldAt b (o + 16) 4 : ℚ) / 1000) else none
  | none => match s.est.cell.find (nk * 16 + j) with
    | some c => if c.thR = 0 then none else some (c.thR, c.thQ)
    | none => none

/-- A later genuine answer from an untrusted node (R329). -/
def State.authRecover (s : State) (nk : Nat) (b : Bytes) : State :=
  let s := (s.updAuth nk fun a => { a with untrusted := false, loaded := true, invalid := false }).loadHistory nk b
  let s := (List.range 16).foldl (fun s j =>
    let k := nk * 16 + j
    let h := (histCell b j).2
    let fac : CellSt → List ℚ := fun c => c.fac.take 10 ++ [0, 0, 0, 0, h.1 / 2] ++ [0, 0, 0, 0, 0, h.2 / 5]
    s.updCellE k fun (c : CellSt) => { c with thR := h.1, thQ := h.2, sd := c.sd.take 4 ++ [h.1 / 2, h.2 / 5], fac := fac c }) s
  s.raise 0x5085 nk 0

/-- The failed row of Table 11.6. -/
def State.authReject (s : State) (nk : Nat) (absent invalid : Bool) : State :=
  let s := (s.updAuth nk fun a => { a with result := if absent then 3 else 2, untrusted := true, loaded := false, invalid := invalid }).inc 0x5B3 0
  let s := s.resetNodeCells nk fun _ => none
  let s := (List.range 16).foldl (fun s j => s.updCellE (nk * 16 + j) fun c => { c with bins := List.replicate 256 0 }) s
  s.raise (if invalid then 0x5083 else 0x5081) nk 1

/-- The history of a genuine node is read (Table 11.6, R329): a node replaced or first met, one whose EPOCH and NVGEN have changed, or an untrusted one. -/
def AuthSt.needs (a : AuthSt) (d : AuthData) : Bool :=
  a.serial != padTo 16 d.serial || (a.epoch != d.epoch && d.nvgen != a.committed) || a.untrusted

/-- The genuine rows of Table 11.6. A node that stood untrusted keeps its running filters (R329), unless its EPOCH has changed since the
answer that failed. -/
def State.authAccept (s : State) (nk : Nat) (d : AuthData) : State :=
  let a := s.auth nk
  let same := a.serial = padTo 16 d.serial
  let changed := a.epoch ≠ d.epoch
  let ok := historyOk d.history d.histDigest
  let s := if a.needs d then s.readHistory nk else s
  if a.needs d && !ok then (s.authReject nk false true).updAuth nk fun x => { x with epoch := d.epoch }
  else
    let s := s.setAuth nk { a with serial := padTo 16 d.serial, result := 1, epoch := d.epoch, nvgen := d.nvgen, certId := padTo 8 d.certId,
                                   chain := a.chainFor d, invalid := false }
    let replaced := !same
    let block := fun (j : Nat) => some (histCell d.history j).2
    let s := if replaced then s.raise 0x5082 nk 0 else s
    if a.untrusted then
      let s := ((if changed then s.resetNodeCells nk block else s).authRecover nk d.history).updAuth nk fun x => { x with committed := d.nvgen }
      if replaced then s.raise 0x5080 nk 0 else s
    else if replaced then
      let s := (s.resetNodeCells nk block).loadHistory nk d.history
      (s.updAuth nk fun x => { x with loaded := true, committed := d.nvgen }).raise 0x5080 nk 0
    else if changed then
      (if d.nvgen ≠ a.committed then
        ((s.resetNodeCells nk block).loadHistory nk d.history).updAuth nk fun x => { x with loaded := true, committed := d.nvgen }
       else s.resetNodeCells nk (s.keptHistory nk))
    else s

/-- AUTH_ANSWER (R326 to R328): the fetched answer, or none 500 ms after the challenge. -/
def execAuthAnswer (node : Nat) (answer : Option AuthData) (s : State) : Result :=
  .next <|
    match (s.auth node).challenge with
    | none => s
    | some (t, nonce) =>
      let s := match answer with
        | none => s.advanceTo (t + 500000000)
        | some _ => s
      let op := (s.auth node).op
      let s := s.updAuth node fun a => { a with challenge := none, last := s.now, op := none }
      let s := match answer with
        | none => s.authReject node true false
        | some d =>
          let s := if (s.auth node).cached d then s else s.readChain node d
          if s.answerGenuine (s.auth node) nonce d then s.authAccept node d
          else (s.authReject node false false).updAuth node fun a => { a with epoch := d.epoch }
      match op with
      | some o => if s.est.auth.any fun p => p.2.op == some o then s else s.complete o 0
      | none => s

/-- NODE_REAUTH (R334). -/
def execNodeReauth (h : Hdr) (ring node : Byte) (s : State) : Result :=
  .next <| s.wcpReq 0x0521 h [ring, node] fun s =>
    let r := ring.toNat
    if 4 ≤ r ∨ (node.toNat ≠ 255 ∧ !s.nodeOk r node.toNat) then s.fail 0x0521 h 0x0104
    else
      let ns := if node.toNat = 255 then (List.range (s.ring r).n).map (· + 1) else [node.toNat]
      let s := s.reply 0x0521 h 1
      if ns = [] then s.complete (opRef 0x0521 h) 0
      else ns.foldl (fun s n =>
        (s.updAuth (nodeKey r n) fun a => { a with op := some (opRef 0x0521 h) }).challenge (nodeKey r n)) s

/-! ### Readings (Table 11.9 to 11.11) -/

/-- IMP.STATUS (Table 11.10). -/
def State.impStatus (s : State) (r : Nat) : Nat :=
  let i := s.imp r
  let few := (s.measuredCells r).map fun k => (i.cells.at k {}).n
  i.run + 4 * ofBits [i.due, !i.precursor.isEmpty, decide (s.estClusters < 2)]
    + 256 * (if i.run = 0 ∨ few = [] then 0 else few.foldl min 255)

/-- IMP.NODE_AUTH (Table 11.11). -/
def State.nodeAuth (s : State) (nk : Nat) : Nat :=
  let a := s.auth nk
  a.result + 4 * ofBits [a.untrusted, a.loaded, a.invalid, a.syncPending] + 256 * a.epoch.toNat

/-- IMP_TABLE. -/
def execImpTable (h : Hdr) (ring node cell : Byte) (s : State) : Result :=
  .next <| s.wcpReq 0x0512 h [ring, node, cell] fun s =>
    if !s.nodeOk ring.toNat node.toNat ∨ 16 ≤ cell.toNat then s.fail 0x0512 h 0x0104
    else s.reply 0x0512 h 0 (padTo 256 (s.cellE (cellKey ring.toNat node.toNat cell.toNat)).bins)

/-- A trend in 0.01 % of nominal per 1,000 cycles (R321). -/
def trendOf (ps : List (ℚ × ℚ)) (nominal : ℚ) : Int :=
  clampI (-32768) 32767 (rhe (slopeQ (ps.map fun p => (p.1 / 1000000, p.2)) / nominal * 10000))

/-- IMP_HEALTH. -/
def execImpHealth (h : Hdr) (ring node : Byte) (s : State) : Result :=
  .next <| s.wcpReq 0x0513 h [ring, node] fun s =>
    if !s.nodeOk ring.toNat node.toNat then s.fail 0x0513 h 0x0104
    else s.reply 0x0513 h 0 ((List.range 16).flatMap fun j =>
      let c := s.cellE (cellKey ring.toNat node.toNat j)
      u32 c.efc.floor.toNat ++ sBytes 2 (trendOf (c.trend.map fun t => (t.1, t.2.1)) (s.parF 0x502 ring.toNat / 1000))
        ++ sBytes 2 (trendOf (c.trend.map fun t => (t.1, t.2.2)) (s.parF 0x503 ring.toNat))
        ++ match c.drift with
          | some d => sBytes 2 (clampI (-32768) 32766 d.1)
          | none => u16 0x7FFF)

/-- NODE_IDENTITY. -/
def execNodeIdentity (h : Hdr) (ring node : Byte) (s : State) : Result :=
  .next <| s.wcpReq 0x0520 h [ring, node] fun s =>
    if !s.nodeOk ring.toNat node.toNat then s.fail 0x0520 h 0x0104
    else
      let k := nodeKey ring.toNat node.toNat
      let a := s.auth k
      s.reply 0x0520 h 0 (padTo 16 a.serial ++ u32 (s.nodeAuth k) ++ leBytes 4 a.nvgen.toNat ++ padTo 8 a.certId)

/-! ### The cycle instant (R269 to R272, R317, R333) -/

/-- Values accepted or committed for the estimator apply at a cycle start (Table 4.14): bin records follow a new IMP.Z_LSB_NOHM, and new
tones, weights or window lengths abandon runs (R317, Table 11.8). -/
def State.estBoundary (s : State) : State :=
  let old := s
  let s := s.boundary .estimator
  let s := (List.range 4).foldl (fun s r =>
    let a := old.parN 0x58C r
    let b := s.parN 0x58C r
    if a = b then s else
      (s.ringCells r).foldl (fun s k => s.updCellE k fun c => { c with bins := rescaleBins c.bins a b (fun _ => true) false }) s) s
  if s.par 0x580 0 = old.par 0x580 0 ∧ s.par 0x581 0 = old.par 0x581 0 ∧ s.par 0x582 0 = old.par 0x582 0 then s else s.abandonRuns 0x5052

/-- ESTIMATOR_CYCLE (R269 to R272); an ISOLATED module only rotates its clusters (17 Table 17.5). -/
def execEstimatorCycle (s : State) : Result :=
  .next <|
    if !s.estRuns then (if s.sys.lifecycle == .isolated then s.estBoundary.rotStart else s.estBoundary)
    else
      let hz := if s.est.gridHz = 0 then s.filterHz else s.est.gridHz
      let p := cyclePeriod hz
      let s := s.advanceTo ((s.now / p + 1) * p)
      let s := { s with est := { s.est with gridHz := s.filterHz } }
      if s.est.busy then
        (if s.est.overrun then s
         else (({ s with est := { s.est with overrun := true } }.inc 0x551 0).raise 0x5001 0 1).fbEvent 2 (u32 s.est.cycle))
      else if s.est.skip then ({ s with est := { s.est with skip := false } } : State).fbEvent 2 (u32 s.est.cycle)
      else
        let s := s.estBoundary.followTables.rotStart.takeEstCopy
        let s := { s with est := { s.est with busy := true, tc := s.now, work := [], dealt := s.unitsIn } }
        let due := s.fbOn && s.now % (s.parN 0x902 0 * 1000000000) == 0
        let s := if due then { s with recd := { s.recd with fb := { s.recd.fb with ckptDue := some s.now } } } else s
        (List.range 4).foldl State.ringCycle s

end Sys2Proof.Machine
end

