-- ==== Sys2Proof/Machine/Psi.lean ====
section
/-! DEFINITION. Chapter 8, the power-stage interface: run states and faulted channels (R230 to R235), PWM edges (R215 to R218), the
input, clock, gate-driver and read-back detectors (R207, R221 to R228), loopback (R224), and the group 0x03 commands. -/

namespace Sys2Proof.Machine
open Sys2Proof

/-! ### PWM edges (R215 to R218) -/

/-- PWM units of 156.25 ps in a period (R215). -/
def pwmUnits (periodNs : Nat) : Nat := periodNs * 32 / 5

/-- High-side on-time of a duty (R215). -/
def nOn (n : Nat) (duty : Int) : Nat := (rheDiv (duty * n) 32768).toNat

/-- Intervals that last. -/
def lasting (l : List (Nat × Nat)) : List (Nat × Nat) := l.filter fun p => decide (p.1 < p.2)

/-- High-side on-intervals of phase 0 and phase 1 (R216). -/
def highSide (n on : Nat) : List (Nat × Nat) × List (Nat × Nat) :=
  (lasting [((n - on) / 2, (n - on) / 2 + on)], lasting [(0, (on + 1) / 2), (n - on / 2, n)])

/-- What intervals in ascending order leave of the time from lo to hi. -/
def gaps (lo hi : Nat) : List (Nat × Nat) → List (Nat × Nat)
  | [] => [(lo, hi)]
  | p :: t => (lo, min p.1 hi) :: gaps (max lo p.2) hi t

/-- Low-side on-intervals of a phase (R217): on outside the high side's intervals of the previous, the present and the next period, each widened by the dead
time on both sides. -/
def lowSide (n dead : Nat) (prev on next : List (Nat × Nat)) : List (Nat × Nat) :=
  let wide := fun (k : Nat) (l : List (Nat × Nat)) => l.map fun p => (p.1 + k * n - dead, p.2 + k * n + dead)
  (lasting (gaps n (2 * n) (wide 0 prev ++ wide 1 on ++ wide 2 next))).map fun p => (p.1 - n, p.2 - n)

/-- The on-intervals of H0, L0, H1 and L1 (Table 8.1) for the on-times of three periods; in mode 2 the direction picks the switch that pulses. -/
def pwmEdges (n prev on next dead mode : Nat) (charge : Bool) : Four (List (Nat × Nat)) :=
  let h := highSide n on
  let l0 := lowSide n dead (highSide n prev).1 h.1 (highSide n next).1
  let l1 := lowSide n dead (highSide n prev).2 h.2 (highSide n next).2
  match mode with
  | 0 => ⟨h.1, l0, h.2, l1⟩
  | 1 => ⟨h.1, l0, [], []⟩
  | _ => if charge then ⟨h.1, [], h.2, []⟩ else ⟨[], l0, [], l1⟩

/-- The on-time of a duty of a channel in units. -/
def State.onOf (s : State) (duty : Int) : Nat := nOn (pwmUnits (s.parN 0x300 0)) duty

/-- A channel's edges are placed: driven, or on a standby for the comparison of R223. -/
def State.places (s : State) (c : Nat) : Bool := (s.ch c).driven || (s.isStandby && ((s.ch c).state == 2 || (s.ch c).state == 3))

/-- The edges of the present period, with the on-time that follows (R215 to R218). -/
def State.placeEdges (s : State) (c next : Nat) : State :=
  s.updCh c fun x => { x with
    pwm := if s.places c then
        pwmEdges (pwmUnits (s.parN 0x300 0)) x.onBefore x.onNow next (rhe (s.parN 0x38B c * 32 / 5)).toNat (s.parN 0x38A c) (s.lane c).appliedDir
      else ⟨[], [], [], []⟩ }

/-- What the PWM region held of a channel's inputs and outputs, lost with its power domain (Table 1.7); the disable latch and the run state stand. -/
def ChSt.pwmOff (x : ChSt) : ChSt :=
  { x with fclk := 0, clkBad := 0, bits := [], same := [0, 0, 0], dsi := 0, dsv := 0, dsb := 0, capture := 0, stuckAt := none, freeze := none,
           trans := [0, 0, 0], driven := false, ocRun := 0, onBefore := 0, onNow := 0, pwm := ⟨[], [], [], []⟩ }

/-! ### Starts and stops -/

/-- The channels of a mask with a status each. -/
def statusBytes (l : List (Nat × Nat)) : Bytes := l.flatMap fun p => u16 p.2

/-- The first non-zero status in channel order (R231). -/
def overall (l : List (Nat × Nat)) : Nat := ((l.map (·.2)).find? fun v => v != 0).getD 0

/-- A request whose channels all have a status is answered: an error carries no more than the overall status (R85, R231). -/
def State.answerAll (s : State) (op : Nat) (h : Hdr) (l : List (Nat × Nat)) : State :=
  if 0x0100 ≤ overall l then s.fail op h (overall l) else s.reply op h (overall l) (statusBytes l)

/-- A start whose channels are all decided. -/
def State.startDone (s : State) (r : StartReq) : State :=
  if r.status.all fun p => p.2.isSome then s.answerAll 0x0300 r.hdr (r.status.map fun p => (p.1, p.2.getD 0))
  else { s with psi := { s.psi with starts := s.psi.starts ++ [r] } }

/-- The start of channel c ends with a status (R232). -/
def State.startStatus (s : State) (c v : Nat) : State :=
  let rs := s.psi.starts.map fun (r : StartReq) =>
    { r with status := r.status.map fun p => if p.1 = c ∧ p.2.isNone then (c, some v) else p }
  rs.foldl State.startDone { s with psi := { s.psi with starts := [] } }

/-- Masks of a stop's result (Table 4.19). -/
def StopReq.result (r : StopReq) : Bytes := u8 (ofBitList r.stopped) ++ u8 (ofBitList r.timedOut)

/-- A ramp stop whose channels have all ended completes (R233). -/
def State.stopDone (s : State) (r : StopReq) : State :=
  if r.waiting = [] then s.complete r.op (if r.lockedOut then 0x0109 else 0) r.result
  else { s with psi := { s.psi with stops := s.psi.stops ++ [r] } }

/-- Channel c leaves the ramp stops that wait for it: 0 stopped, 1 timed out, 2 faulted. -/
def State.stopStatus (s : State) (c how : Nat) : State :=
  let rs := s.psi.stops.map fun (r : StopReq) =>
    if c ∈ r.waiting then
      { r with waiting := r.waiting.filter fun d => d != c, stopped := if how = 0 then r.stopped ++ [c] else r.stopped,
               timedOut := if how = 1 then r.timedOut ++ [c] else r.timedOut, lockedOut := r.lockedOut || how == 2 }
    else r
  rs.foldl State.stopDone { s with psi := { s.psi with stops := [] } }

/-- Channel c's outputs are high-impedance and its lane and generator are at rest (R202, R220, Table 9.3); a start or stop in
progress ends. -/
def State.endChannel (s : State) (c state start stop : Nat) : State :=
  let old := (s.ch c).state
  let s := s.updCh c fun x => { x with state := state, driven := false, stopNow := false, freeze := none, lowRun := 0, zeroAt := none,
                                       same := [0, 0, 0], onBefore := 0, onNow := 0, pwm := ⟨[], [], [], []⟩ }
  let s := if (s.lane c).injGate then s.inc 0x363 c else s
  let s := s.updLane c fun l => { l.stopped with shadow := none, applied := none }
  let s := if old = 1 ∨ old = 2 ∨ old = 3 then s.zeroGen c else s
  let s := if old = 1 then s.startStatus c start else s
  (s.stopStatus c stop).abandonRun c 0x5052

/-- A channel goes STOPPED (Table 8.3). -/
def State.stopChannel (s : State) (c : Nat) : State := s.endChannel c 0 0x0105 0

/-- A detector, a gate closure or a severity 2 or 3 fault: outputs high-impedance, state FAULTED (Table 8.5). -/
def State.faultChannel (s : State) (c : Nat) : State := s.endChannel c 4 0x0105 2

/-- The module leaves ACTIVE: every channel that is not FAULTED goes STOPPED (Table 8.5). -/
def State.stopAll (s : State) : State :=
  [0, 1, 2, 3].foldl (fun s c => if (s.ch c).state = 4 then s else s.stopChannel c) s

/-- A derived gate of a channel that may drive has closed: outputs high-impedance, state FAULTED (R220, Table 8.5). -/
def State.sweepGates (s : State) : State :=
  if !s.isActive then s
  else [0, 1, 2, 3].foldl (fun s c =>
    if 1 ≤ (s.ch c).state ∧ (s.ch c).state ≤ 3 ∧ !(s.gateSafe c && s.gateTurnip c) then s.faultChannel c else s) s

/-- The hardware disable latch is set: outputs high-impedance (R220). -/
def State.disable (s : State) (c : Nat) (f : ChSt → ChSt) : State :=
  (s.updCh c fun x => { f x with hwDisable := true }).faultChannel c

/-! ### Detectors -/

/-- DS_CLOCK_LOSS (R207). -/
def execDsClockLoss (ch : Nat) (s : State) : Result :=
  .next <| ((s.disable ch fun x => { x with clkLoss := true }).inc 0x3B2 ch).raise 0x3103 ch 2

/-- DS_CLOCK_RANGE (R207): out of range for 3 consecutive periods. -/
def execDsClockRange (ch : Nat) (s : State) : Result :=
  .next <| if (s.ch ch).clkBad < 3 then s else
    ((s.disable ch fun x => { x with clkRange := true }).inc 0x3B2 ch).raise 0x3104 ch 2 (u32 (s.ch ch).fclk)

/-- DS_STUCK (R225): the disable latch, no duty in the period in progress, fault 0x3101 naming the input. -/
def execDsStuck (ch line : Nat) (s : State) : Result :=
  .next <|
    let s := s.disable ch fun x => { x with stuck := x.stuck ||| BitVec.ofNat 3 (2 ^ line), stuckAt := some s.now,
                                            trans := x.trans.set line 0 }
    (s.inc 0x3B0 ch).raise 0x3101 ch 2 (u8 line)

/-- DS_FROZEN (R226): the last duty is released for two more periods, then the outputs stop with fault 0x3102. -/
def execDsFrozen (ch line : Nat) (s : State) : Result :=
  .next <|
    let x := s.ch ch
    if x.same.getD line 0 < s.parN 0x389 ch ∨ x.frozen.getLsbD line then s else
      (s.updCh ch fun x =>
        { x with frozen := x.frozen ||| BitVec.ofNat 3 (2 ^ line),
                 freeze := if x.freeze.isSome then x.freeze else some (if s.loop.passed then 1 else 2, s.loop.stamp, line) }).inc 0x3B1 ch

/-- TURNIP_DS_STUCK (R227): Turnip closes its gate. -/
def execTurnipDsStuck (ch : Nat) (s : State) : Result :=
  .next <|
    let s := s.updCh ch fun x => { x with turnipStuck := true, gateTurnipShut := true }
    (s.faultChannel ch).raise 0x3109 ch 2

/-- GATE_DRIVER_FAULT (R221): GD_FLTn low for PSI.GDF_FILTER_NS or longer. -/
def execGateDriverFault (ch lowNs : Nat) (s : State) : Result :=
  .next <| if lowNs < s.parN 0x38D ch then s else ((s.disable ch fun x => { x with gdf := true }).inc 0x3B3 ch).raise 0x3105 ch 2

/-- A period's lines disagree with the commanded edges (R222): one is missing or out by more than a tolerance, or there is another. -/
def readbackBad (b : Readback) (tolPs : Nat) : Bool :=
  b.others != 0 || b.edges.any fun e => match e with
    | none => true
    | some d => decide (tolPs < d.natAbs)

/-- They disagreed in each of the latest 3 periods. -/
def threeBad (rb : List Readback) (tolPs : Nat) : Bool :=
  let l := rb.reverse.take 3
  l.length == 3 && l.all fun b => readbackBad b tolPs

/-- READBACK_ACTIVE (R222): on a running channel of the active. -/
def execReadbackActive (ch : Nat) (rb : List Readback) (s : State) : Result :=
  .next <| if !(s.isActive && (s.ch ch).driven) || !threeBad rb (1000 * s.parN 0x391 ch) then s else
    ((s.disable ch fun x => { x with rbActive := true }).inc 0x3B4 ch).raise 0x3106 ch 2

/-- READBACK_SHADOW (R223): on the standby for a running channel, with 2 LSB of duty more tolerance; its handling reports it to the active
(Table 13.2). -/
def execReadbackShadow (ch : Nat) (rb : List Readback) (s : State) : Result :=
  .next <| if !s.isStandby || (s.ch ch).state != 2 || !threeBad rb (1000 * s.parN 0x391 ch + 2000 * s.parN 0x300 0 / 32768) then s else
    ((s.updCh ch fun x => { x with rbShadow := true }).inc 0x3B4 ch).raise 0x3107 ch 1

/-! ### Loopback (R224) -/

/-- A lane or output has passed since strings were handed back: all eight end that bar (13 R394). -/
def State.backPass (s : State) (code : Nat) : State :=
  let l := if s.twin.backTested.contains code then s.twin.backTested else code :: s.twin.backTested
  let n := s.sys.notActive
  let done := [0x20, 0x21, 0x22, 0x23, 0x40, 0x41, 0x42, 0x43].all fun b => l.contains b
  { s with twin := { s.twin with backTested := l }, sys := { s.sys with notActive := { n with handback := n.handback && !done } } }

/-- The outcome of a channel's loopback: a failure raises 0x3108 and bars the active role until a later run passes. -/
def State.loopbackResult (s : State) (c : Nat) (ok : Bool) : State :=
  let s := s.updCh c fun x => { x with loopFail := !ok }
  let s := if ok then (s.passBlock (0x40 + c)).backPass (0x40 + c) else s
  let s := if ok then s else (s.inc 0x3B5 c).raise 0x3108 c 1
  { s with sys := { s.sys with notActive := { s.sys.notActive with
      loopback := [0, 1, 2, 3].any fun d => (s.ch d).loopFail } } }

/-- BIST.RESULT after a loopback by rule or command (17 Table 17.2). -/
def State.noteLoopback (s : State) (c : Nat) (ok : Bool) : State :=
  let old := (s.bistRes (0x40 + c)).count
  ({ s with bist := { s.bist with results := s.bist.results.set (0x40 + c) ⟨if ok then 2 else 3, false, false, old⟩ } }).loopbackResult c ok

/-- LOOPBACK_RUN (R224): never on an ACTIVE module. -/
def execLoopbackRun (h : Hdr) (mask : Byte) (s : State) : Result :=
  .next <|
    let cs := bitsSet 4 mask.toNat
    s.wcpRun 0x0303 h [mask] false (cs.map fun c => 0x40 + c) fun s =>
      if s.isActive ∨ s.psi.loopback.isSome then s.fail 0x0303 h 0x0105
      else
        let s := { s with psi := { s.psi with loopback := some (opRef 0x0303 h, cs) },
                          bist := { s.bist with running := s.bist.running ++ cs.map fun c => (0x40 + c, s.now + 100000000) } }
        s.reply 0x0303 h 1 (statusBytes (cs.map fun c => (c, 1)))

/-- An output passes (R224): the edges at all 32 taps in both directions are there, each within 100 ps of its commanded time. -/
def outputPassed (edges : List (Option Int)) : Bool :=
  edges.length == 64 && edges.all fun e => match e with
    | some d => decide (|d| ≤ 100)
    | none => false

/-- The four outputs of channel c passed. -/
def fourPassed (edges : List (List (Option Int))) (c : Nat) : Bool := [0, 1, 2, 3].all fun i => outputPassed (edges.getD (4 * c + i) [])

/-- The outputs of some channels that passed, as a mask. -/
def passedMask (edges : List (List (Option Int))) (cs : List Nat) : Nat :=
  ofBits ((List.range 16).map fun i => cs.contains (i / 4) && outputPassed (edges.getD i []))

/-- LOOPBACK_DUE (R224): a run by command ends, or every PSI.LOOPBACK_S the scheduled run of a STANDBY or ISOLATED module; `edges` gives by output how
far, in ps, each edge lay from its commanded time. -/
def execLoopbackDue (edges : List (List (Option Int))) (s : State) : Result :=
  .next <|
    match s.psi.loopback with
    | some (op, cs) =>
      let run := cs.filter fun c => s.bist.running.any fun b => b.1 == 0x40 + c
      let s := run.foldl (fun s c => s.noteLoopback c (fourPassed edges c)) s
      let s := { s with psi := { s.psi with loopback := none },
                        bist := { s.bist with running := s.bist.running.filter fun b => !(cs.any fun c => b.1 == 0x40 + c) } }
      s.complete op 0 (u16 (passedMask edges run))
    | none =>
      if !(s.isStandby || s.sys.lifecycle == .isolated) then s
      else
        let s := s.advanceTo (s.psi.loopAt + s.parN 0x390 0 * 1000000000)
        [0, 1, 2, 3].foldl (fun s c => s.noteLoopback c (fourPassed edges c)) { s with psi := { s.psi with loopAt := s.now } }

/-! ### Commands -/

/-- The conditions of R231 on a STOPPED channel, at acceptance. -/
def State.startable (s : State) (h : Hdr) (c : Nat) : Bool :=
  let x := s.ch c
  s.isActive && s.sys.power == .p0 && !s.sys.awaitP0 && h.target == 0 && x.state == 0 && s.closed c && !x.hwDisable && !x.gdf && !x.clkLoss
    && !x.clkRange && !(s.sys.lane.get c).fenced
    && (match x.stuckAt with
        | some t => decide (t + 1000000 < s.now)
        | none => true)
    && decide (s.parQ 0x303 0x30B c ≤ x.dsb) && !s.slowStale c && !s.estStale c && s.gateSafe c && s.gateTurnip c

/-- A channel's status at acceptance: none while it starts (R231, R355). -/
def State.startJudge (s : State) (h : Hdr) (c : Nat) : Option Nat :=
  let l := s.safe.str.get c
  if (s.ch c).state = 2 then some 0
  else if l.core.runStop ∨ l.turnip.runStop then some 0x0109
  else if s.startable h c then none else some 0x0105

/-- A channel begins to start (Table 8.4): its generator at zero, the lane fresh. -/
def State.beginStart (s : State) (c : Nat) : State :=
  let s := s.updCh c fun x => { x with state := 1, stopNow := false, lowRun := 0, zeroAt := none }
  s.updLane c fun l => { l.stopped with shadow := none, applied := none }

/-- CH_START (R231): each named channel judged alone; the reply waits for those that start. -/
def execChStart (h : Hdr) (mask : Byte) (s : State) : Result :=
  .next <|
    let cs := bitsSet 4 mask.toNat
    s.wcpRun 0x0300 h [mask] true (cs.flatMap fun c => [0x20 + c, 0x34 + c, 0x40 + c]) fun s =>
      let js := cs.map fun c => (c, s.startJudge h c)
      let s := (js.filter fun j => j.2.isNone).foldl (fun s j => s.beginStart j.1) s
      s.startDone ⟨h, cs, js⟩

/-- A start abandoned by CH_STOP (Table 8.5). -/
def State.dropStart (s : State) (c : Nat) : State := if (s.ch c).state = 1 then s.stopChannel c else s

/-- A running channel begins its stop sequence (R233): the ramp to zero; its injection run is abandoned (11 R333). -/
def State.rampStop (s : State) (c : Nat) : State :=
  ((s.updCh c fun x => { x with state := 3, lowRun := 0, zeroAt := none }).retarget c 0).abandonRun c 0x5052

/-- CH_STOP mode 0 (R233): running channels ramp to zero; the completion follows when all have ended. -/
def execChStopRamp (h : Hdr) (mask : Byte) (s : State) : Result :=
  .next <|
    let cs := bitsSet 4 mask.toNat
    s.wcpReq 0x0301 h [mask, 0] fun s =>
      let s := cs.foldl State.dropStart s
      let go := cs.filter fun c => (s.ch c).state == 2
      let wait := cs.filter fun c => (s.ch c).state == 2 || (s.ch c).state == 3
      let s := go.foldl State.rampStop s
      if wait = [] then s.reply 0x0301 h 0 (statusBytes (cs.map fun c => (c, 0)))
      else
        let s := { s with psi := { s.psi with stops := s.psi.stops ++ [(⟨opRef 0x0301 h, wait, [], [], false⟩ : StopReq)] } }
        s.reply 0x0301 h 1 (statusBytes (cs.map fun c => (c, if c ∈ wait then 1 else 0)))

/-- CH_STOP mode 1 (R233): high-impedance at the next application instant. -/
def execChStopImmediate (h : Hdr) (mask : Byte) (s : State) : Result :=
  .next <|
    let cs := bitsSet 4 mask.toNat
    s.wcpReq 0x0301 h [mask, 1] fun s =>
      let s := cs.foldl State.dropStart s
      let s := (cs.filter fun c => (s.ch c).state == 2 || (s.ch c).state == 3).foldl
        (fun s c => s.updCh c fun x => { x with stopNow := true }) s
      s.reply 0x0301 h 0 (statusBytes (cs.map fun c => (c, 0)))

/-- STOP_COMPLETE (R233): 10 consecutive periods of low current after the ramp's end; the channel goes STOPPED. -/
def execStopComplete (ch : Nat) (s : State) : Result :=
  .next <| if (s.ch ch).state = 3 ∧ 10 ≤ (s.ch ch).lowRun then s.stopChannel ch else s

/-- STOP_TIMEOUT (R233): disabled anyway, with event 0x3120. -/
def execStopTimeout (ch : Nat) (s : State) : Result :=
  .next <| match (s.ch ch).zeroAt with
    | some t =>
      if (s.ch ch).state = 3 then
        let s := s.advanceTo (t + s.parN 0x38F ch * 1000000)
        let s := (s.stopStatus ch 1).endChannel ch 0 0x0105 0
        s.raise 0x3120 ch 0
      else s
    | none => s

/-- A cause in PSI.DS_STATUS still stands (R235). -/
def ChSt.cause (x : ChSt) : Bool := x.stuck != 0 || x.frozen != 0 || x.clkLoss || x.clkRange || x.gdf || x.turnipStuck

/-- PSI_FAULT_CLEAR on one channel (R235). -/
def State.clearFault (s : State) (c : Nat) : Nat × State :=
  let x := s.ch c
  if x.state = 0 then (0, s)
  else if x.state ≠ 4 ∨ x.cause ∨ s.closed c then (0x0105, s)
  else (0, s.setCh c { x with state := 0, hwDisable := false, oc := false, rbActive := false, rbShadow := false })

/-- PSI_FAULT_CLEAR (R235). -/
def execPsiFaultClear (h : Hdr) (mask : Byte) (s : State) : Result :=
  .next <|
    let cs := bitsSet 4 mask.toNat
    s.wcpReq 0x0302 h [mask] fun s =>
      let l := cs.map fun c => (c, (s.clearFault c).1)
      (cs.foldl (fun s c => (s.clearFault c).2) s).answerAll 0x0302 h l

/-- One record of PSI_STATUS (Table 8.6). -/
def State.psiRecord (s : State) (c : Nat) : Bytes :=
  let x := s.ch c
  u8 x.state ++ [0] ++ u32 (s.dsStatus c) ++ u32 x.fclk ++ sBytes 2 x.dsi ++ sBytes 2 x.dsv ++ sBytes 2 x.dsb
    ++ leBytes 4 x.capture.toNat

/-- PSI_STATUS (R236). -/
def execPsiStatus (h : Hdr) (mask : Byte) (s : State) : Result :=
  .next <| s.wcpReq 0x0304 h [mask] fun s => s.reply 0x0304 h 0 ((bitsSet 4 mask.toNat).flatMap fun c => s.psiRecord c)

end Sys2Proof.Machine
end

