-- ==== Sys2Proof/Machine/Thermal.lean ====
section
/-! DEFINITION. Chapter 17, temperatures: the module's sensors (R469, R470), the cells' rise rates and warnings (R474, R475). -/

namespace Sys2Proof.Machine
open Sys2Proof

/-! ### Cells -/

/-- A reading of a cell temperature sensor joins its series of 30 s (R474). -/
def State.pushTemp (s : State) (key t : Nat) (v : Int) : State :=
  let old := (s.bist.temps.at key []).filter fun p => decide (t ≤ p.1 + 30000000000)
  { s with bist := { s.bist with temps := s.bist.temps.set key ((t, v) :: old) } }

/-- A node's series start again (R474). -/
def State.dropTemps (s : State) (nk : Nat) : State :=
  { s with bist := { s.bist with temps := s.bist.temps.filter fun p => p.1 / 4 != nk } }

/-- The warnings of R475 on one sensor's newest reading (°C) and rate. -/
def State.cellWarnings (s : State) (key : Nat) (temp : ℚ) (rate : Option ℚ) : State :=
  let lim := s.parF 0xA82 0
  let stands := s.bist.cellWarn.contains key
  let data := u8 (key % 4) ++ sBytes 2 (rhe (temp * 100))
  let s := if !stands ∧ lim ≤ temp then
      (({ s with bist := { s.bist with cellWarn := key :: s.bist.cellWarn } }).inc 0xAA0 0).raise 0xB020 (key / 4) 1 data
    else if stands ∧ temp ≤ lim - 2 then { s with bist := { s.bist with cellWarn := s.bist.cellWarn.filter fun k => k != key } } else s
  let rl := s.parF 0xA83 0
  let rs := s.bist.cellRate.contains key
  match rate with
  | none => s
  | some q =>
    if !rs ∧ rl ≤ q then
      (({ s with bist := { s.bist with cellRate := key :: s.bist.cellRate } }).inc 0xAA0 0).raise 0xB021 (key / 4) 1 (u8 (key % 4) ++ u32 (toF32 q))
    else if rs ∧ q ≤ rl / 2 then { s with bist := { s.bist with cellRate := s.bist.cellRate.filter fun k => k != key } } else s

/-! ### The module's own sensors -/

/-- Working readings of the sensors with their numbers. -/
def State.working (s : State) : List (Nat × Int) :=
  (List.range 7).filterMap fun i => if s.bist.failed.getLsbD i then none else match s.bist.sensors.getD i none with
    | some v => some (i, v)
    | none => none

/-- The highest of some readings with its sensor; the lowest number on a tie. -/
def hottest (l : List (Nat × Int)) : Option (Nat × Int) :=
  l.foldl (fun best p => match best with
    | none => some p
    | some b => if b.2 < p.2 then some p else some b) none

/-- A sensor's reading marks it failed (R469): outside -55 to 150 degrees, or more than 25 K from the mean of the others after 10 min
in P0. -/
def State.sensorBad (s : State) (rs : List (Option Int)) (i : Nat) : Bool :=
  match rs.getD i none with
  | none => true
  | some v =>
    let others := (List.range 7).filterMap fun j => if j = i ∨ s.bist.failed.getLsbD j then none else rs.getD j none
    decide (v < -5500 ∨ 15000 < v)
      || (decide (s.sys.power = .p0 ∧ s.bist.p0Since + 600000000000 ≤ s.now ∧ others ≠ []) &&
          decide ((2500 : ℚ) < |(v : ℚ) - (others.sum : ℚ) / (others.length : ℚ)|))

/-- One reading of the seven sensors (R469, R470): failures, the working maximum, the warning with its hysteresis. -/
def State.takeRow (s : State) (t : Nat) (row : List (Option Int)) : State :=
  let bad := (List.range 7).filter fun i => s.sensorBad row i
  let fresh := bad.filter fun i => !s.bist.failed.getLsbD i
  let series := (t, row) :: s.bist.series.filter fun p => decide (t < p.1 + 1000000000)
  let s := { s with bist := { s.bist with sensors := row, failed := BitVec.ofNat 7 ((bad.map fun i => 2 ^ i).sum), series := series } }
  let s := fresh.foldl (fun s i => s.raise 0xB010 0 1 (u8 i)) s
  let use := s.working.filter fun p => p.1 != 5
  let top : ℚ := match hottest use with
    | some p => (p.2 : ℚ) / 100
    | none => -273
  let was := s.bist.warn
  let lim : ℚ := s.parF 0xA80 0 - if was then 5 else 0
  let warn : Bool := if was then decide (lim < top) else decide (lim ≤ top)
  let s := { s with bist := { s.bist with warn := warn } }
  if warn && !was then (s.inc 0xAA0 0).raise 0xB001 0 1 (sBytes 2 (rhe (top * 100))) else if !warn && was then s.raise 0xB005 0 0 else s

/-- The rate of a sensor in K/s (R470): the least-squares slope of its readings of the last second. -/
def State.sensorRate (s : State) (i : Nat) : ℚ :=
  slopeQ (s.bist.series.filterMap fun p => match p.2.getD i none with
    | some v => some (((p.1 : ℚ) - (s.now : ℚ)) / 1000000000, (v : ℚ) / 100)
    | none => none)

/-- The rate rows of Table 17.6. -/
def State.judgeRates (s : State) : State :=
  let old := s.bist
  let use := s.working.filter fun p => p.1 != 5
  let run : List Nat := (List.range 7).map fun i =>
    if (use.any fun p => p.1 == i) && decide (s.parF 0xA81 0 < s.sensorRate i) then old.rateRun.getD i 0 + 1 else 0
  let rate : Bool := run.any fun n => decide (3 ≤ n)
  let trip : Bool := rate && old.warn
  let s := { s with bist := { s.bist with rateRun := run, rate := rate, rateTrip := trip } }
  let s := if rate && !old.rate then s.raise 0xB003 0 1 else s
  if trip && !old.rateTrip then s.raise 0xB004 0 3 else s

/-- THERMAL_EVALUATION (R469, R470, Table 17.6), every 100 ms: `rows` are the 1 kHz readings since the last in 0.01 °C, oldest first. -/
def execThermalEvaluation (rows : List (List (Option Int))) (s : State) : Result :=
  .next <|
    if !(s.sys.power = .p0 ∨ s.sys.power = .p1 ∨ s.sys.power = .p2) then s else
      let s := s.advanceTo ((s.now / 100000000 + 1) * 100000000)
      let n := rows.length
      ((rows.zipIdx).foldl (fun s p => s.takeRow (s.now - (n - 1 - p.2) * 1000000) p.1) s).judgeRates

/-- THERM.MODULE_MAX with its sensor (R469). -/
def State.moduleMax (s : State) : Nat × ℚ :=
  match hottest s.working with
  | some p => (p.1, (p.2 : ℚ) / 100)
  | none => (0, 0)

/-- THERM.STATUS (Table 17.9). -/
def State.thermStatus (s : State) : Nat :=
  ofBits [s.bist.warn, s.bist.rate, s.bist.flag] + 8 * s.bist.failed.toNat
    + 1024 * ofBits [!s.bist.cellWarn.isEmpty, !s.bist.cellRate.isEmpty] + 65536 * s.moduleMax.1

/-- THERM.SENSORS (Table 17.10). -/
def State.thermSensors (s : State) : Bytes := (List.range 7).flatMap fun i => sBytes 2 ((s.bist.sensors.getD i none).getD 0)

/-- THERM_STATUS (Table 17.8). -/
def execThermStatus (h : Hdr) (s : State) : Result :=
  .next <| s.wcpReq 0x0A10 h [] fun s =>
    s.reply 0x0A10 h 0 (u32 s.thermStatus ++ u32 (toF32 s.moduleMax.2) ++ s.thermSensors)

end Sys2Proof.Machine
end

