-- ==== Sys2Proof/Machine/Latches.lean ====
section
/-! DEFINITION. Chapter 12, the shared operations: outputs and their openings (R337, R338, R347), latches and demands (R339, R342, R345,
R346, R355, R356), the end of what a demand ends (Table 12.5), thresholds (R344), the block and its CRC (R360), status words. -/

namespace Sys2Proof.Machine
open Sys2Proof

/-! ### Outputs -/

def State.str (s : State) (r : Nat) : StringSt := s.safe.str.get r

def State.setStr (s : State) (r : Nat) (x : StringSt) : State := { s with safe := { s.safe with str := s.safe.str.set r x } }

def State.updStr (s : State) (r : Nat) (f : StringSt → StringSt) : State := s.setStr r (f (s.str r))

def State.so (s : State) (n : Nat) : SoSt := s.safe.so.at n {}

def State.setSo (s : State) (n : Nat) (x : SoSt) : State := { s with safe := { s.safe with so := s.safe.so.set n x } }

/-- String and kind of an output: 1 main, 2 precharge, any other unused (R347). -/
def State.soMap (s : State) (n : Nat) : Nat × Nat :=
  let b := fieldAt (s.par 0x610 0) n 1
  (b % 4, b / 4 % 4)

/-- The outputs of a string of one kind. -/
def State.outs (s : State) (r kind : Nat) : List Nat := (List.range 8).filter fun n => s.soMap n == (r, kind)

/-- The outputs SAFE.SO_MAP assigns to a string. -/
def State.outsOf (s : State) (r : Nat) : List Nat := s.outs r 1 ++ s.outs r 2

/-- Energised: both switches closed (R337). -/
def State.soOn (s : State) (n : Nat) : Bool := (s.so n).p && (s.so n).t

/-- An output opens; in P3 its bit of the hold register goes with it (R59). -/
def State.openSo (s : State) (how : Opening) (n : Nat) : State :=
  let s := s.setSo n ⟨false, false, how⟩
  if s.sys.holdOn then { s with sys := { s.sys with holdReg := s.sys.holdReg &&& ~~~(BitVec.ofNat 8 (2 ^ n)) } } else s

def State.closeSo (s : State) (n : Nat) : State := s.setSo n { s.so n with p := true, t := true }

/-- A string's outputs open. -/
def State.openOuts (s : State) (r : Nat) (how : Opening) : State :=
  ((s.outsOf r).foldl (fun s n => s.openSo how n) s).updStr r fun x => { x with closed := false }

/-- A STRING_CLOSE request whose sequences have all ended completes (R350). -/
def State.closeDone (s : State) (q : CloseReq) : State :=
  if q.waiting = [] then s.complete q.op (if q.abandoned = [] then 0 else q.status) (u8 (ofBitList q.closed) ++ u8 (ofBitList q.abandoned))
  else { s with safe := { s.safe with closes := s.safe.closes ++ [q] } }

/-- String r leaves the close requests that wait for it: closed, or abandoned with a status. -/
def State.closeEnd (s : State) (r : Nat) (abandoned : Option Nat) : State :=
  let qs := s.safe.closes.map fun (q : CloseReq) =>
    if r ∈ q.waiting then
      let q := { q with waiting := q.waiting.filter fun x => x != r }
      match abandoned with
      | none => { q with closed := q.closed ++ [r] }
      | some v => { q with abandoned := q.abandoned ++ [r], status := if q.abandoned = [] then v else q.status }
    else q
  qs.foldl State.closeDone { s with safe := { s.safe with closes := [] } }

/-- A close sequence is abandoned (Table 12.5). -/
def State.abandonClose (s : State) (r status : Nat) : State :=
  if (s.str r).closing = 0 then s else (s.updStr r fun x => { x with closing := 0 }).closeEnd r (some status)

/-- A string opens: its close sequence, if any, is abandoned with a status. -/
def State.openString (s : State) (r : Nat) (how : Opening) (status : Nat) : State := (s.abandonClose r status).openOuts r how

/-- Every safety output opens (R345; loss of the field die: Table 1.6). -/
def State.openEvery (s : State) (how : Opening) (status : Nat) : State :=
  let s := [0, 1, 2, 3].foldl (fun s r => s.openString r how status) s
  (List.range 8).foldl (fun s n => s.openSo how n) s

def State.openAll (s : State) : State := s.openEvery .clamp 0x0109

/-! ### What a demand ends -/

/-- An armed reset lapses (R358, Table 12.5). -/
def State.lapseArm (s : State) : State :=
  match s.safe.reset with
  | none => s
  | some a => if a.armed.isNone then s
    else (({ s with safe := { s.safe with reset := none } }).raise 0x6081 0 0).complete a.op 0x0109

/-- The commissioning test ends (R364): the channel stops, the string clamp-opens; one that has not begun is refused. -/
def State.endCt (s : State) : State :=
  match s.safe.ct with
  | none => s
  | some t =>
    let s := { s with safe := { s.safe with ct := none } }
    match t.begun with
    | none => s.complete t.op 0x0109
    | some _ =>
      let s := if (s.ch t.ch).state = 1 then s.stopChannel t.ch
        else if (s.ch t.ch).state = 2 ∨ (s.ch t.ch).state = 3 then s.updCh t.ch fun x => { x with stopNow := true } else s
      (s.openString t.ch .clamp 0x0109).raise 0x6091 t.ch 0

/-- Both gates of a channel close (R342, R346). -/
def State.shutGates (s : State) (c : Nat) : State :=
  (s.updCh c fun x => { x with gateSafeShut := true, gateTurnipShut := true }).faultChannel c

/-- What a run stop ends: it is no trip, and a commissioning test goes on (R359, R364, R467). -/
def State.stopEnds (s : State) : State := s.lapseArm.preempt

/-- What every other demand ends (R359, R364, R467). -/
def State.demandEnds (s : State) : State := (s.lapseArm.endCt).preempt

/-- The first trigger since the last reset (Table 12.11 CAUSE). -/
def StringSt.blame (x : StringSt) (cause : Nat) : StringSt := { x with cause := if x.cause = 0 then cause else x.cause }

/-- The string's outputs clamp-open and both gates of its channel close (R342). -/
def State.safeOpen (s : State) (r : Nat) : State := ((s.openString r .clamp 0x0109).shutGates r).demandEnds

/-! ### Latches and demands -/

def StringSt.tripped (x : StringSt) : Bool := x.core.tripped || x.turnip.tripped
def StringSt.locked (x : StringSt) : Bool := x.core.lockout || x.turnip.lockout
def StringSt.stopped (x : StringSt) : Bool := x.core.runStop || x.turnip.runStop
def SafeSt.fire (x : SafeSt) : Bool := x.fireCore || x.fireTurnip

/-- SF1 on a string: opened, gates closed, TRIPPED latched in both channels (R339, R342); a check visit becomes a stay in P2 (R60). -/
def State.trip (s : State) (r cause : Nat) : State :=
  let x := s.str r
  let s := { s with sys := { s.sys with checkVisit := false } }
  let s := if x.core.tripped && x.turnip.tripped then s else
    (s.setStr r ({ x with core := { x.core with tripped := true }, turnip := { x.turnip with tripped := true } }.blame cause)).inc 0x690 0
  s.safeOpen r

/-- The fault 0x6010 of a latching of TRIPPED, raised once (R525). -/
def State.tellTrip (s : State) (r by_ : Nat) : State :=
  if (s.str r).told then s
  else
    let s := s.updStr r fun x => { x with told := true }
    let f := mkFault s 0x6010 r 2 (u16 (s.str r).cause) none (some (BitVec.ofNat 4 (2 ^ r)))
    { s with fm := { s.fm with raised := s.fm.raised ++ [{ f with by_ := by_ }] } }

/-- A demand for SF1 with no trigger fault of its own. -/
def State.sf1 (s : State) (r : Nat) : State := (s.trip r 0x6010).tellTrip r 0

/-- A trigger fault of severity 2 that demands SF1 of strings: the hardware acts at once, the handling raises 0x6010 (R342, R525). -/
def State.tripFault (s : State) (code inst : Nat) (strings : List Nat) (data : Bytes := []) : State :=
  (strings.foldl (fun s r => s.trip r code) s).raiseWith code inst 2 data none (some (BitVec.ofNat 4 (ofBitList strings)))

/-- A string lock-out (R356): LOCKOUT latched in both channels, the string opened. -/
def State.lockString (s : State) (r cause : Nat) : State :=
  let x := s.str r
  (s.setStr r ({ x with core := { x.core with lockout := true }, turnip := { x.turnip with lockout := true } }.blame cause)).safeOpen r

/-- A fault whose effect is the lock-out of strings (Table 12.4). -/
def State.lockFault (s : State) (code inst : Nat) (strings : List Nat) (data : Bytes := []) : State :=
  (strings.foldl (fun s r => s.lockString r code) s).raiseWith code inst 2 data none (some (BitVec.ofNat 4 (ofBitList strings)))

/-- SF2 on a channel (R346): RUN_STOP latched, both gates closed; the contactors stay as they are. -/
def State.sf2 (s : State) (c : Nat) : State :=
  let x := s.str c
  if x.core.runStop && x.turnip.runStop then s.stopEnds
  else
    let s := s.setStr c ({ x with core := { x.core with runStop := true }, turnip := { x.turnip with runStop := true } }.blame 0x6020)
    (s.shutGates c).stopEnds.raiseWith 0x6020 c 2 [] none (some 0)

/-- A POWER_SET whose transition is given up ends with a status. -/
def State.dropTarget (s : State) (status : Nat) : State :=
  match s.sys.targetOp with
  | none => s
  | some op => ({ s with sys := { s.sys with targetOp := none } }).complete op status

/-- A wake toward P0 (R65, R66). -/
def State.wake (s : State) : State :=
  if s.sys.power = .p0 ∧ s.sys.target.isNone then s
  else
    let s := s.dropTarget 0x0105
    { s with sys := { s.sys with target := some .p0, preparing := false } }

/-- SF4 starts on the ACTIVE module once the actuator supply is on (R263, R265, R345). -/
def State.startSf4 (s : State) : State :=
  if s.isActive ∧ s.safe.fire ∧ s.prof.fireSince.isNone ∧ (s.sys.power = .p0 ∨ s.sys.power = .p1) then
    (s.raiseWith 0x6031 0 0 [] (some (0x6030, 0)) none).sf4
  else s

/-- SF3 (R345): every output opens, every gate closes, FIRE is latched, SF4 starts. -/
def State.sf3 (s : State) : State :=
  let first := !(s.safe.fireCore && s.safe.fireTurnip)
  let s := { s with safe := { s.safe with fireCore := true, fireTurnip := true } }
  let s := s.openAll
  let s := ([0, 1, 2, 3].foldl State.shutGates s).demandEnds
  let s := if first then s.raiseWith 0x6030 0 2 [] none (some 0) else s
  s.wake.startSf4

/-! ### Thresholds (R344) -/

/-- The largest discharge and charge current of a channel before SF1, A; under a commissioning test SAFE.CT_OC_A. -/
def State.ocAmps (s : State) (c : Nat) : ℚ × ℚ := if s.ctOn c then (s.parF 0x631 0, s.parF 0x631 0) else (s.parF 0x609 c, s.parF 0x60A c)

/-- N of a current: round_half_even(M² (I − O) / G). -/
def ocCount (m : Nat) (g o amps : ℚ) : Int := if g = 0 then 0 else rhe ((m * m : Nat) * (amps - o) / g)

/-- The sums of a list's tails, the empty one last. -/
def suffixSums : List Int → List Int
  | [] => [0]
  | x :: t => let r := suffixSums t
    (x + r.headD 0) :: r

/-- The moving sums of the last m values, newest first; before the first value come zeros (assumption log 194). -/
def movingSums (m : Nat) (l : List Int) : List Int :=
  let r := suffixSums l
  List.zipWith (fun a b => a - b) r (r.drop m ++ List.replicate m 0)

/-- S_1, S_2 and S_3 of bits as ±1, newest first (R209): the newest value of the given stage. -/
def sinc (m : Nat) (bits : List Int) : Nat → Int
  | 0 => bits.headD 0
  | k + 1 => (Nat.iterate (movingSums m) (k + 1) (bits.take ((k + 1) * m))).headD 0

/-- N_dis and N_chg of a channel. -/
def State.ocCounts (s : State) (c : Nat) : Int × Int :=
  let a := s.ocAmps c
  let n := ocCount (s.parN 0x608 c) (s.parF 0x60B c) (s.parF 0x60C c)
  (n a.1, n (-a.2))

/-- Turnip's S_2 over the bits of a channel's DSI, newest first, lies at or beyond a threshold; with a negative gain the comparisons are reversed (R344). -/
def State.ocTrips (s : State) (c : Nat) (bits : List Bool) : Bool :=
  let s2 := sinc (s.parN 0x608 c) (bits.map fun b => if b then 1 else -1) 2
  let n := s.ocCounts c
  if s.parF 0x60B c < 0 then decide (s2 ≤ n.1 ∨ n.2 ≤ s2) else decide (n.1 ≤ s2 ∨ s2 ≤ n.2)

/-- A threshold count converted back to the lane's Q15 through the same gain and offset. -/
def State.ocQ15 (s : State) (c : Nat) (n : Int) : Int :=
  let m := s.parN 0x608 c
  if m = 0 then 0 else q15Of ((n : ℚ) * s.parF 0x60B c / (m * m : Nat) + s.parF 0x60C c) (s.parF 0x302 c)

/-- The latched current lies beyond a threshold (R344). -/
def State.ocBeyond (s : State) (c : Nat) (x : Int) : Bool :=
  let n := s.ocCounts c
  decide (s.ocQ15 c n.1 ≤ x ∨ x ≤ s.ocQ15 c n.2)

/-! ### The safety block (R360) -/

/-- CRC-32 of R360. -/
def crc32s (bs : Bytes) : Nat := crcUp 32 0x741B8CD7 0xFFFFFFFF bs ^^^ 0xFFFFFFFF

/-- The values of the block in ascending ID and instance order. -/
def State.blockValues (s : State) : Bytes :=
  (dictionary.filter fun r => 0x600 ≤ r.id && r.id < 0x680).flatMap fun r => (List.range r.inst).flatMap fun i => s.par r.id i

def State.blockBytes (s : State) : Bytes := u16 1 ++ u16 s.blockValues.length ++ s.blockValues

/-- SAFE.BLOCK_CRC. -/
def State.blockCrc (s : State) : Nat := crc32s s.blockBytes

/-! ### Status (Tables 12.9 and 12.11) -/

/-- Every axis with a fire entry stands at rest on its fire target. -/
def State.sf4Done (s : State) : Bool :=
  s.safe.fire && [0, 1, 2, 3].all fun a =>
    (s.fireEntry a).1 == 0 || ((s.axis a).fire && (s.gen (a + 4)).atRest && (s.gen (a + 4)).x == (s.gen (a + 4)).tgt)

def bits4 (f : Nat → Bool) : Nat := ofBits ([0, 1, 2, 3].map f)

/-- SAFE.STATUS. -/
def State.safeStatus (s : State) : Nat :=
  (if s.safe.mismatch then 2 else if s.safe.confirmed then 1 else 0)
    + 4 * ofBits [s.safe.lockout, s.safe.fire, s.sf4Done, (match s.safe.reset with
        | some a => a.armed.isSome
        | none => false), (match s.safe.ct with
        | some t => t.begun.isSome
        | none => false)]
    + 256 * ofBits ((List.range 8).map s.soOn) + 65536 * bits4 (fun c => s.gateSafe c && s.gateTurnip c)
    + 1048576 * bits4 fun k => (s.safe.wsf.get k).state == 1

/-- SAFE.LATCH of a string. -/
def State.latchWord (s : State) (r : Nat) : Nat :=
  let x := s.str r
  ofBits [x.tripped, x.stopped, x.locked, x.closed, s.ctOn r] + 65536 * x.cause

/-- The produced module status of 8 bytes (Table 12.9). -/
def State.moduleStatus (s : State) : Bytes :=
  u32 (bits4 (fun r => (s.str r).closed) + 16 * bits4 (fun r => (s.str r).tripped) + 256 * bits4 (fun r => (s.str r).locked)
    + 4096 * bits4 (fun c => s.gateSafe c && s.gateTurnip c)
    + 65536 * ofBits [s.safe.fire, s.sf4Done, s.safe.confirmed, (match s.safe.ct with
        | some t => t.begun.isSome
        | none => false)]) ++ u32 s.blockCrc

/-- Any latch stands (18 R485). -/
def State.anyLatch (s : State) : Bool :=
  s.safe.fire || s.safe.lockout || [0, 1, 2, 3].any fun r => (s.str r).tripped || (s.str r).stopped || (s.str r).locked

end Sys2Proof.Machine
end

