-- ==== Sys2Proof/Machine/Lifecycle.lean ====
section
/-! DEFINITION. The lifecycle (R22 to R27, R397), role and drive (R28, R38, R375), eligibility (R71), takeover (R389, R390), the end
of sessions (R90) and reset (R67 to R69): the shared operations, and the two commands that end a session. -/

namespace Sys2Proof.Machine
open Sys2Proof

/-! ### Sessions end (R90) -/

/-- What belongs to a session ends with it (R90, R104, R359, R364), and the standby's mirror of its shadow set (R92). -/
def State.dropSess (s : State) (id : Nat) : State :=
  let shadowed := s.isActive && s.wcp.sessions.any fun x => x.id == id && !x.shadow.isEmpty
  let s := { s with wcp := { s.wcp with sessions := s.wcp.sessions.filter fun x => x.id != id,
                                        snaps := s.wcp.snaps.filter fun p => p.session != id } }
  let s := if shadowed then s.emit (.shallot 0x30 (u16 id ++ u16 0)) else s
  let s := match s.safe.reset with
    | some a => if a.op.session = id then s.lapseArm else s
    | none => s
  match s.safe.ct with
  | some t => if t.op.session = id then s.endCt else s
  | none => s

/-- The staging area is discarded (R505, event 0xD007). -/
def State.dropStage (s : State) : State :=
  ({ s with upd := { s.upd with state := 0, stage := none, op := none, session := 0 } }).raise 0xD007 0 0

/-- An update session before activation (R505). -/
def State.updOpen (s : State) : Bool := 1 ≤ s.upd.state && s.upd.state ≤ 3

/-! ### Lifecycle and drive -/

/-- Legal pairs of lifecycle and power state (Table 1.8, R24). -/
def legal (l : Lifecycle) (p : PState) : Bool :=
  match l, p with
  | _, .p0 => true
  | .active, p => p != .p5
  | .standby, p => p != .p5
  | .safe, p => p == .p1
  | .isolated, p => p == .p1
  | _, _ => false

/-- Drive ends (R375): outputs freewheel, ROLE_OUT falls; the permit gone, each gate closes and its channel's outputs go high-impedance (R220). -/
def State.endDrive (s : State) : State :=
  let s := [0, 1, 2, 3].foldl (fun s r => s.openString r .freewheel 0x0109) s
  let s := (List.range 8).foldl (fun s n => if s.soOn n then s.openSo .freewheel n else s) s
  let s := [0, 1, 2, 3].foldl (fun s c => s.updCh c fun x => { x with driven := false }) s
  ({ s with sys := { s.sys with roleOut := false, driveEnded := true } }).sweepGates

/-- A lifecycle change and the power state (R26): an illegal target is given up, an illegal state is left for P0. -/
def State.checkPower (s : State) : State :=
  let l := s.sys.lifecycle
  let bad : Bool := match s.sys.target with
    | some t => !legal l t
    | none => false
  let home : Option PState := if s.sys.power = .p0 then none else some .p0
  let status : Nat := if l = .safe then 0x0109 else 0x0105
  let gone := { s with sys := { s.sys with target := home, aborted := true, preparing := false } }
  let s := if bad then gone.dropTarget status else s
  if s.sys.target.isNone ∧ !legal l s.sys.power then { s with sys := { s.sys with target := some .p0 } } else s

/-- A module that leaves ACTIVE: drive ends, channels stop, what ran on it ends (R375, Tables 8.5, 11.8, 12.5, 15.4). -/
def State.leaveActive (s : State) (next : Lifecycle) : State :=
  let s := ((s.stopAll).endDrive).lapseArm.abandonRuns 0x5052
  let s := (s.canClear 0).canClear 1
  let s := if next = .standby then s else [0, 1, 2, 3].foldl State.deenergise s
  { s with twin := { s.twin with hand := none, watch := none }, net := { s.net with arps := [] } }

/-- A module that stops being a STANDBY drops what it shadowed. -/
def State.leaveStandby (s : State) : State :=
  { s with twin := { s.twin with ahead := false, aheadLong := false, arb := none, kat := none, run := 0, copyNew := false,
                                 handTwin := none, katIdle := [], uncomp := ⟨0, 0, 0, 0⟩ },
           sys := { s.sys with riseActive := false } }

/-- A module that becomes STANDBY takes everything from the active anew (R304, R396, R412). -/
def State.enterStandby (s : State) : State :=
  { s with twin := { s.twin with xfer := false, agreed := false, storeDue := false, dict := [], exchange := [], estCopy := [], estCopyCycle := none, estIn := false, digest := none, copy := none,
                                 copyNew := false, estDiff := ⟨0, 0, 0, 0⟩ },
           net := { s.net with twinSet := false } }

/-- Every session ends (R90), and what is mirrored of the other module's (R92); an update session before activation is discarded with its own
(R505). -/
def State.endSessions (s : State) : State :=
  let ids := s.wcp.sessions.map (·.id)
  let s := ids.foldl State.dropSess s
  let s := { s with wcp := { s.wcp with mirror := [] } }
  if s.updOpen ∧ s.upd.session ∈ ids then s.dropStage else s

/-- The filters run in ACTIVE and STANDBY only (R303). What ran is saved on entry to ISOLATED, SAFE, UPDATE or REPLAY (R301); start-up and
the return from those restore the saved state (R302), and NEGOTIATE keeps it. -/
def State.estLife (s : State) (old new : Lifecycle) : State :=
  let runs := fun (l : Lifecycle) => l == .active || l == .standby
  if runs new then (if runs old || s.est.loaded then s else s.restoreEst)
  else if new == .negotiate then s.stopEst
  else
    let s := (if s.est.loaded then s.persistEst 0 else s).stopEst
    { s with est := { s.est with loaded := false } }

/-- A change of lifecycle, complete with its mirror (R22): Tables 8.5 and 13.10, R26, R90, R364, and the flight buffer's event. -/
def State.setLifecycle (s : State) (new : Lifecycle) : State :=
  let old := s.sys.lifecycle
  if old = new then s
  else
    let s := if old = .active then s.leaveActive new else if old = .standby then s.leaveStandby else s
    let s := { s with sys := { s.sys with lifecycle := new, mirror := new } }
    let s := if new = .negotiate then { s with sys := { s.sys with negSince := s.now, judged := false } } else s
    let s := if new = .standby then s.enterStandby else s
    let s := if old = .active ∨ new = .active then s.endSessions else s
    ((s.endCt.checkPower).estLife old new).fbEvent 4 (u8 (lifeCode new))

/-- The permit's line is asserted where R38 allows. -/
def State.assertRole (s : State) : State :=
  if s.sys.mirror = .active ∧ !s.sys.roleIn ∧ !s.sys.mateOpen ∧ !s.sys.oscFault ∧ !s.sys.conflict ∧ !s.sys.driveEnded
      ∧ !s.sys.vinLow then
    { s with sys := { s.sys with roleOut := true } }
  else s

/-- The module becomes ACTIVE: role line, ring transmitters, network, CAN at zero (R38, R46, R404, R417, R428, Table 11.8). -/
def State.goActive (s : State) : State :=
  let s := { s with sys := { s.sys with driveEnded := false } }
  let s := (s.setLifecycle .active).assertRole
  let t := s.now
  let s := { s with net := { s.net with arps := if s.parN 0x805 0 = 0 then [] else [t, t + 100000000, t + 1000000000] },
                    can := ⟨{ s.can.c0 with tec := 0, rec_ := 0, off := 0 }, { s.can.c1 with tec := 0, rec_ := 0, off := 0 }⟩ }
  [0, 1, 2, 3].foldl (fun s r => (s.updRing r fun x => { x with txSince := t }).updImp r fun i => { i with lastEnd := t }) s

/-! ### Frames heard over Shallot (R376, R377, R386) -/

/-- A valid frame has come: the link is up and silence is over (R386); the frames a gap in the SEQ of its class leaves out are lost (R377). -/
def State.heard (s : State) (bulk : Bool) (f : Link) : State :=
  let last := if bulk then s.twin.rxBulk else s.twin.rxUrgent
  let gap := match last with
    | some q => (f.seq - q - 1).toNat
    | none => 0
  { s with twin := { s.twin with linkUp := true, silence := none, heardAt := s.now, lost := s.twin.lost + gap,
                                 rxUrgent := if bulk then s.twin.rxUrgent else some f.seq,
                                 rxBulk := if bulk then some f.seq else s.twin.rxBulk } }

/-- A frame with a wrong CRC is discarded and counted; more than 100 within 1 s raise 0x7032 (R377), and the count starts over. -/
def State.badLink (s : State) : State :=
  let times := (s.twin.dropped.filter fun t => s.now < t + 1000000000) ++ [s.now]
  let many : Bool := 100 < times.length
  let s := ({ s with twin := { s.twin with dropped := if many then [] else times } }).inc 0x724 0
  if many then s.raise 0x7032 0 1 else s

/-- A frame of a class as received: what a valid one does, else its discard (R377). -/
def State.onLink (s : State) (bulk : Bool) (f : Link) (act : State → State) : State := if f.crcOk then act (s.heard bulk f) else s.badLink

/-- A frame as it leaves (Table 13.1): types below 0x10 are urgent; CRC-32C over all before it. -/
def shallotBytes (type seq : Nat) (data : Bytes) : Bytes :=
  let body := u8 type ++ u8 (if type < 16 then 0 else 1) ++ u16 seq ++ u16 data.length ++ u16 0 ++ data
  body ++ u32 (crc32c body)

/-- The frames among what the module has sent, in order, with the SEQ of each class (R376, Table 13.1). -/
def shallotFrames : Nat → Nat → List Out → List Bytes
  | _, _, [] => []
  | u, b, .shallot type data :: rest =>
    if type < 16 then shallotBytes type u data :: shallotFrames ((u + 1) % 65536) b rest
    else shallotBytes type b data :: shallotFrames u ((b + 1) % 65536) rest
  | u, b, _ :: rest => shallotFrames u b rest

/-- Every Shallot frame sent since reset, as it leaves. -/
def State.shallotSent (s : State) : List Bytes := shallotFrames 0 0 s.out

/-! ### Eligibility (R71, R374) -/

def NotActive.any (n : NotActive) : Bool := n.loopback || n.lanes || n.dictionary || n.handback || n.faulted || n.block

def State.activeEligible (s : State) : Bool :=
  s.sys.imageConfirmed && s.sys.selfTest == .passed && !s.bist.flag && !s.safe.lockout && !s.sys.notActive.any

def State.standbyEligible (s : State) : Bool := s.sys.imageValid && (s.sys.selfTest == .passed || s.sys.selfTest == .standbyOnly)

/-- The standby's view of the active is current (R374): at P0 a copy of the last 2 periods or a bounded run ahead, at P1 the last
LOOP_COPY and a SAFETY_COPY of the last 20 ms. -/
def State.shadowFresh (s : State) : Bool :=
  if s.sys.power = .p0 then
    (match s.twin.copy with
      | some (_, t) => decide (s.now ≤ t + 2 * s.parN 0x300 0)
      | none => false) || (s.twin.ahead && !s.twin.aheadLong)
  else
    s.sys.power == .p1 && s.twin.power == .p1 && s.twin.copy.isSome
      && (match s.twin.safety with
        | some (_, t) => decide (s.now ≤ t + 20000000)
        | none => false)

/-- TAKEOVER_READY (R374). -/
def State.takeoverReady (s : State) : Bool :=
  s.isStandby && s.activeEligible && s.sys.startPhase == 7 && s.shadowFresh
    && (match s.twin.arb with
      | none => true
      | some a => a.own == some 15)

/-- TWIN.STATE (Table 13.12). -/
def State.twinState (s : State) : Nat :=
  let t := s.twin
  ofBits [s.takeoverReady, t.suspect, t.linkUp, t.ahead, t.arb.isSome, t.swapDue, t.watch.isSome]
    + 256 * (match t.life with
      | some l => lifeCode l
      | none => 0) + 4096 * t.run + 65536 * t.ownLanes + 1048576 * t.twinLanes

/-- The twin as last reported is STANDBY and takeover-ready (Table 13.12 bit 0). -/
def State.twinReady (s : State) : Bool := s.twin.life == some .standby && s.twin.rstate.getLsbD 0

/-! ### Takeover (R389, R390) -/

/-- The outputs that the last SAFETY_COPY shows energised: SO_ON of SAFE.STATUS (Table 12.11). -/
def State.copiedOn (s : State) (n : Nat) : Bool :=
  match s.twin.safety with
  | some (m, _) => m.status.getLsbD (8 + n)
  | none => false

/-- The outputs that the shadowed latches and SAFETY_COPY show energised close again, under the permit; the others stay open (R28, R389). -/
def State.resumeStrings (s : State) : State :=
  [0, 1, 2, 3].foldl (fun s r =>
    let x := s.str r
    if s.permit && !x.tripped && !x.locked && !s.safe.fire && !s.safe.lockout then
      ((s.outsOf r).filter s.copiedOn).foldl State.closeSo (s.updStr r fun x => { x with closing := 0 })
    else s.updStr r fun x => { x with closed := false, closing := 0 }) s

/-- Channels continue from the shadow: one that was STARTING, and every one outside P0, is STOPPED (R27, R389). -/
def State.resumeChannels (s : State) : State :=
  [0, 1, 2, 3].foldl (fun s c =>
    let st := (s.ch c).state
    if st = 1 ∨ ((st = 2 ∨ st = 3) ∧ s.sys.power ≠ .p0) then s.stopChannel c else s) s

/-- A takeover with its cause; a planned handover raises 0x7002 instead, a drill begins its watch (R389, R392 to R394). -/
def State.takeover (s : State) (planned drill : Bool) (cause : Nat) : State :=
  let closed := s.safe.str.map (·.closed)
  let s := (s.goActive).servoTakeover
  let s := { s with safe := { s.safe with str := s.safe.str.mapIdx fun r x => { x with closed := closed.get r } } }
  let s := s.resumeStrings.resumeChannels
  let s := { s with twin := { s.twin with copy := none, handTwin := none, handDrill := false, silence := none,
                                          watch := if drill then some s.now else none, watchSeq := s.fm.lastSeq } }
  let s := if planned then s.raise 0x7002 0 0 else (s.inc 0x726 0).raise 0x7001 0 0 (u8 cause)
  (if drill then s.inc 0x727 0 else s).startSf4

/-- A module becomes ACTIVE with every string open and every channel STOPPED (R390, TWIN_PROMOTE); below P1 it first rises to P0 (R27). -/
def State.activeOpen (s : State) : State :=
  if s.sys.power ≠ .p0 ∧ s.sys.power ≠ .p1 then ({ s with sys := { s.sys with riseActive := true } }).wake else
  let s := s.goActive.servoTakeover
  let s := [0, 1, 2, 3].foldl (fun s r => s.updStr r fun x => { x with closed := false, closing := 0 }) s
  let s := ([0, 1, 2, 3].foldl (fun s c => if (s.ch c).state = 4 then s else s.stopChannel c) s)
  (if s.sys.power = .p0 then s else s.wake).startSf4

/-- A STANDBY module that is not takeover-ready sees ROLE_IN fall (R390, R27). -/
def State.notReady (s : State) : State :=
  let s := s.raiseWith 0x7011 0 2 [] none (some 0)
  if s.activeEligible then s.activeOpen else s

/-- The strings go back within the watch of a swap drill (R394): 0x7042; not active-eligible until loopback and self-test pass. -/
def State.handedBack (s : State) (code : Nat) : State :=
  ({ s with sys := { s.sys with notActive := { s.sys.notActive with handback := true } },
            twin := { s.twin with watch := none, backTested := [] } }).raise 0x7042 0 1 (u16 code)

/-! ### Module lock-out and severity 3 (R356, R526) -/

/-- A module lock-out (Table 12.4): MODULE_LOCKOUT, drive ended by freewheel opening, lifecycle SAFE. -/
def State.moduleLock (s : State) (code inst : Nat) (data : Bytes := []) : State :=
  let s := { s with safe := { s.safe with lockout := true } }
  let s := (s.demandEnds.endDrive).raise code inst 3 data
  if s.isActive || s.isStandby || s.sys.lifecycle == .negotiate then s.setLifecycle .safe else s

/-- The blocks whose self-test clears a severity 3 fault (R526): the lane, the lanes, the clusters, the safety cores or Turnip, the field
die; 0xFF where only a restart tests the block (assumption log 60). -/
def faultBlocks (code inst : Nat) : List Nat :=
  if code = 0x1030 ∨ code = 0x3001 then [0x20 + inst]
  else if code = 0x7024 then [0x20, 0x21, 0x22, 0x23]
  else if code = 0x1021 then [0x10, 0x11, 0x12, 0x13]
  else if code = 0x6041 ∨ code = 0x6042 then [0x02]
  else if code = 0x6043 then [0x02, 0x05]
  else if code / 256 = 0xA0 then [0x50]
  else [0xFF]

/-! ### Reset (R67 to R69) -/

/-- Parameters at a restart: the newest valid stored copy, and the safety block from its own store (R101). -/
def State.bootParams (s : State) : SMap Bytes :=
  let own := s.wcp.params.filter fun p => 0x600 ≤ p.1 / 256 && p.1 / 256 < 0x680
  let vals := match s.wcp.stored.find? (·.valid) with
    | some c => c.values
    | none => []
  own.foldl (fun (m : SMap Bytes) p => m.set p.1 p.2) vals

/-- The generation of that copy, 0 without one (R101). -/
def State.bootGeneration (s : State) : BitVec 32 :=
  match s.wcp.stored.find? (·.valid) with
  | some c => BitVec.ofNat 32 c.generation
  | none => 0

/-- Neither stored copy is valid (R101). -/
def State.noDict (s : State) : Bool := s.wcp.stored.all fun c => !c.valid

/-- What the AO logic keeps of the first chapters, with the pins (R40, R67). A mating detect that stands open holds the dies in reset until the 100 ms
of R51 have passed again. -/
def SysSt.restart (x : SysSt) (cause : Nat) : SysSt :=
  { resetCause := x.resetCause ||| BitVec.ofNat 16 (2 ^ cause), rtc := x.rtc, slotId := x.slotId, slotIdn := x.slotIdn, mated := x.mated && !x.mateOpen,
    eeprom := x.eeprom, roleIn := x.roleIn, vinLow := x.vinLow, aoLost := x.aoLost, mateOpen := x.mateOpen, bootAt := x.rtc }

/-- WCP at a restart: no session, the stored dictionary (R90, R101). -/
def State.restartWcp (s : State) : WcpSt :=
  { nextId := s.wcp.nextId, stored := s.wcp.stored, params := s.bootParams, generation := s.bootGeneration }

/-- Positions stay, not valid; everything else of chapter 9 starts again (R252). -/
def ProfSt.restart (p : ProfSt) : ProfSt := { ag := p.ag.map fun g => g.rest g.x g.x, supplyMv := p.supplyMv }

/-- A cell's figures of the MRAM (R301, R320, R321). -/
def CellSt.restart (c : CellSt) : CellSt := { bins := c.bins, efc := c.efc, trend := c.trend }

/-- A node's identity of the MRAM (R327, R328). -/
def AuthSt.restart (a : AuthSt) : AuthSt := { a with result := 0, challenge := none, op := none }

/-- Estimator data kept in MRAM (R301, R317, R320, R328). -/
def EstSt.restart (e : EstSt) : EstSt :=
  { str := e.str.map fun x => { mram := x.mram, efc := x.efc }, auth := e.auth.map fun p => (p.1, p.2.restart),
    cell := e.cell.map fun p => (p.1, p.2.restart), lastSave := e.lastSave }

/-- The latches stay, every output opens (R72, R355). -/
def SafeSt.restart (x : SafeSt) : SafeSt :=
  { str := x.str.map fun y => { core := y.core, turnip := y.turnip, cause := y.cause, told := y.told }, fireCore := x.fireCore,
    fireTurnip := x.fireTurnip, lockout := x.lockout, confirmed := x.confirmed, mismatch := x.mismatch, faulty := x.faulty }

/-- The partitions of the MRAM stay, with a frozen flight buffer; records not written are lost (R491, R532), and the march of the LPDDR4
empties partition 4 (R462). -/
def RecSt.restart (x : RecSt) : RecSt :=
  { part := x.part.filter fun p => p.1 != 4, fb := { desc := x.fb.desc, chunks := if x.fb.desc.isSome then x.fb.chunks else [], ckpt := x.fb.ckpt } }

/-- The parts and the transaction record stay; staging, and the request, survive a restart by Sprout (R507, Table 19.6). -/
def UpdSt.restart (u : UpdSt) (lost : Bool) : UpdSt :=
  { u with stage := if 4 ≤ u.state ∧ u.state ≤ 6 then u.stage else none, state := if lost then 0 else u.state, session := 0,
           op := if u.state = 4 ∨ u.state = 6 ∨ u.state = 7 then u.op else none, mixedSince := none, mixedLong := false, twinParts := [],
           loads := [], nodeBad := false }

/-- The highest valid sequence of the partitions in MRAM (R482). -/
def RecSt.highest (x : RecSt) : Nat :=
  (x.part.filter fun p => p.1 != 4).foldl (fun n p => p.2.slots.foldl (fun n q => if fieldAt q.2 63 1 = 0xA5 then max n (fieldAt q.2 0 4) else n) n) 0

/-- Every die but the AO logic resets (R68): what lives in the AO logic, the non-volatile die, Turnip's store and the powered memory die
stays. Module time starts from the real-time clock (14 R411). -/
def State.restart (s : State) (cause : Nat) : State :=
  { pending := s.pending, now := s.sys.rtc, frac := s.frac, out := s.out, free := s.free, sys := s.sys.restart cause, wcp := s.restartWcp,
    prof := s.prof.restart, est := s.est.restart, safe := s.safe.restart,
    twin := { lastSwap := s.twin.lastSwap, swapTry := s.twin.swapTry }, bist := { flag := s.bist.flag, recOk := s.bist.recOk, hold := s.bist.hold, polls := s.bist.polls, pollAt := s.bist.pollAt,
                                                                                                         p0Since := s.sys.rtc },
    recd := s.recd.restart, upd := s.upd.restart s.updOpen, fm := { lastSeq := s.recd.highest } }

/-- The control SoC alone resets (R20): what lives in the field die and in Turnip's logic goes on. -/
def State.restartSoc (s : State) (cause : Nat) : State :=
  let t := s.restart cause
  { t with fio := s.fio, safe := { t.safe with si := s.safe.si.map fun x => { x with core := false } },
           rings := { t.rings with ring := s.rings.ring.map fun x => { turnipSet := x.turnipSet, hbLost := x.hbLost } },
           prof := { t.prof with axis := s.prof.axis } }

/-- The update that a reset of a state interrupts (R508: a trial boot that resets before READY has failed, the third starts the rollback; Table
19.6: staging is lost). -/
def State.afterReset (s : State) (failed lost : Bool) : State :=
  let s := if lost then s.raise 0xD007 0 0 else s
  let pair : Bool := match s.upd.tx with
    | some t => t.pair
    | none => false
  let s := if failed && pair && 2 ≤ s.upd.fails then s.emit (.shallot 0x06 (u8 9)) else s
  let s := { s with upd := { s.upd with trialSince := if s.upd.state = 5 then s.now else s.upd.trialSince } }
  if failed then ({ s with upd := { s.upd with fails := min 3 (s.upd.fails + 1), state := if 2 ≤ s.upd.fails then 6 else 5 } }).raise 0xD020 0 1
  else s

/-- A trial boot has not reached READY. -/
def State.trialOpen (s : State) : Bool := s.upd.state == 5 && s.sys.startPhase != 7

/-- A reset of every die but the AO logic. -/
def State.resetModule (s : State) (cause : Nat) : State := (s.restart cause).afterReset s.trialOpen s.updOpen

/-- A reset of the control SoC. -/
def State.resetSoc (s : State) (cause : Nat) : State := (s.restartSoc cause).afterReset s.trialOpen s.updOpen

/-! ### The commands that end a session -/

/-- A module in UPDATE returns: NEGOTIATE from STANDBY, ISOLATED from ISOLATED (R505). -/
def State.leaveUpdate (s : State) : State :=
  if s.sys.lifecycle ≠ .update then s
  else
    let back := if s.upd.from_ = some .isolated then Lifecycle.isolated else .negotiate
    let s := s.setLifecycle back
    { s with upd := { s.upd with from_ := none } }

/-- A session ends (R90, R505). -/
def State.endSession (s : State) (id : Nat) : State :=
  let s := s.dropSess id
  if s.updOpen ∧ s.upd.session = id then s.dropStage.leaveUpdate else s

/-- SESSION_CLOSE (R90): the reply leaves with the session's key before it ends. -/
def execSessionClose (h : Hdr) (s : State) : Result :=
  .next <| s.wcpReq 0x0002 h [] fun s => (s.reply 0x0002 h 0).endSession h.session.toNat

/-- SESSION_IDLE_TIMEOUT (R90): SYS.WCP_IDLE_S seconds without an accepted request. -/
def execSessionIdleTimeout (session : Nat) (s : State) : Result :=
  .next <| match s.sess session with
    | none => s
    | some x => (s.advanceTo (x.lastReq + s.parN 0x30 0 * 1000000000)).endSession session

end Sys2Proof.Machine
end

