-- ==== Sys2Proof/Machine/Safety.lean ====
section
/-! DEFINITION. Chapter 12, the commands: detectors and demands (R339, R340, R344, R347, R353, R354, R356, R357), switch tests (R351,
R352), string close and open (R350), the two-part reset (R358), the block (R361, R362), commissioning test (R364), the Welfer Safe
Frame (R365 to R369, R539). -/

namespace Sys2Proof.Machine
open Sys2Proof

/-! ### Faulted functions (R356, R358) -/

def State.markFaulty (s : State) (code inst : Nat) : State :=
  if s.safe.faulty.contains (code, inst) then s else { s with safe := { s.safe with faulty := s.safe.faulty ++ [(code, inst)] } }

def State.clearFaulty (s : State) (code inst : Nat) : State :=
  { s with safe := { s.safe with faulty := s.safe.faulty.filter fun p => !(p == (code, inst)) } }

/-! ### Safety inputs (R353) -/

/-- Function, mode and string mask of pair k (R353). -/
def State.siFunc (s : State) (k : Nat) : Nat × Nat × Nat :=
  let b := slice (s.par 0x618 0) (4 * k) 4
  (fieldAt b 0 1, fieldAt b 1 1, fieldAt b 2 1)

def State.si (s : State) (k : Nat) : SiSt := s.safe.si.get k

def State.setSi (s : State) (k : Nat) (x : SiSt) : State := { s with safe := { s.safe with si := s.safe.si.set k x } }

/-- No demand in the levels of a pair: both high, or in antivalent mode the normally closed high and the normally open low. -/
def siHealthy (mode a b : Bool) : Bool := a && (if mode then !b else b)

/-- The strings a fault of a pair locks out: every string for a fire pair (Table 12.4). -/
def State.siStrings (s : State) (k : Nat) : List Nat :=
  let f := s.siFunc k
  if f.1 = 0 then [] else if f.1 = 1 then [0, 1, 2, 3] else bitsSet 4 f.2.2

/-! ### WSF data as the arming check and R350 see them -/

/-- The data a consumed connection is judged by for arming: the latest good data of a FAILSAFE connection ready to resume (R367). -/
def WsfSt.judged (c : WsfSt) : BitVec 32 := if c.state = 2 ∧ 3 ≤ c.good then c.pending else c.data

/-! ### The two-part reset (R358) -/

/-- Strings a reset of a scope concerns. -/
def resetStrings (scope mask : Nat) : List Nat := if scope = 0 then bitsSet 4 mask else [0, 1, 2, 3]

/-- Every enumerated heartbeat of a ring is seen. -/
def State.heartsOk (s : State) (r : Nat) : Bool :=
  let x := s.ring r
  x.turnipSet &&& (~~~ x.hbSeen ||| x.hbLost) == 0

/-- The bound of each judged cell of a node satisfies a condition. -/
def State.cellsOk (s : State) (nk : Nat) (vs : List ℚ) (ok : ℚ → Bool) : Bool :=
  (List.range 16).all fun i => match vs[i]? with
    | some v => !(s.node nk).judged i || ok v
    | none => true

def State.voltsOk (s : State) (nk : Nat) : Bool :=
  let h : ℚ := s.parN 0x602 0
  s.cellsOk nk (s.node nk).vHi (fun v => decide (v * 1000 ≤ s.parN 0x600 0 - h))
    && s.cellsOk nk (s.node nk).vLo (fun v => decide ((s.parN 0x601 0 : ℚ) + h ≤ v * 1000))

def State.compOk (s : State) (k : Nat) : Bool :=
  let c := s.cellE k
  let h : ℚ := s.parN 0x602 0
  !(s.node (k / 16)).judged (k % 16) || decide ((s.parN 0x603 0 : ℚ) + h ≤ c.compLo * 1000 ∧ c.compHi * 1000 ≤ s.parN 0x604 0 - h)

def State.tempsOk (s : State) (nk : Nat) : Bool :=
  (List.range 4).all fun i => match (s.node nk).tempC[i]? with
    | some t => decide (t ≤ s.parF 0x605 0 - 5)
    | none => true

def State.ratesOk (s : State) (nk : Nat) : Bool :=
  (List.range 4).all fun i => match s.cellRate (nk * 4 + i) with
    | some q => decide (q < s.parF 0x606 0 / 2)
    | none => true

/-- A faulted function that belongs to a scope (Table 12.4). -/
def State.faultyIn (s : State) (scope : Nat) (strings : List Nat) (p : Nat × Nat) : Bool :=
  if p.1 = 0x2132 then scope != 2 && strings.contains (p.2 / 896)
  else if p.1 = 0x2133 then scope != 2 && strings.contains (p.2 / 28)
  else if p.1 = 0x6061 then scope != 2 && (s.siStrings (p.2 / 2)).any strings.contains
  else scope == 2

/-- The first cause of R358 still present, numbered in the rule's order from 1; 10 a faulted function whose test has not passed. -/
def State.firstCause (s : State) (scope mask : Nat) : Option Nat :=
  let rs := resetStrings scope mask
  let nodes := rs.flatMap fun r => (s.ringNodes r).map fun n => nodeKey r n
  let pairs := [0, 1, 2, 3].filter fun k => (s.siFunc k).1 != 0
  if !(rs.all s.heartsOk) then some 1
  else if !(nodes.all s.voltsOk) then some 2
  else if !(rs.all fun r => (s.ringCells r).all s.compOk) then some 3
  else if !(nodes.all s.tempsOk) then some 4
  else if !(nodes.all s.ratesOk) then some 5
  else if rs.any fun r => s.ocBeyond r (s.ch r).dsi then some 6
  else if pairs.any fun k => (s.si k).core || (s.si k).turnip || (s.si k).disagree then some 7
  else if s.isActive ∧ s.consumed.any fun k =>
      let d := (s.safe.wsf.get k).judged
      d.getLsbD 8 || rs.any fun r => !(d.getLsbD r) || !(d.getLsbD (4 + r)) then some 8
  else if s.parN 0x61B 0 < 16 ∧ (s.fio.di.at (s.parN 0x61B 0) {}).state then some 9
  else if s.safe.faulty.any (s.faultyIn scope rs) then some 10
  else none

/-- A reset that waits arms once every cause is absent (R358). -/
def State.tryArm (s : State) : State :=
  match s.safe.reset with
  | none => s
  | some a =>
    if a.armed.isSome ∨ (s.firstCause a.scope a.mask).isSome then s
    else { s with safe := { s.safe with reset := some { a with armed := some s.now } } }

/-- Gates reopen for a channel whose string holds no latch, without FIRE (R355). -/
def State.reopenGates (s : State) (c : Nat) : State :=
  let x := s.str c
  if x.tripped || x.stopped || x.locked || s.safe.fire then s
  else s.updCh c fun x => { x with gateSafeShut := false, gateTurnipShut := false }

/-- A connection returns to RUN: it uses its data from the next PDU (R367, event 0x6072). -/
def State.wsfResume (s : State) (k : Nat) : State :=
  let c := s.safe.wsf.get k
  let s' := { s with safe := { s.safe with wsf := s.safe.wsf.set k { c with state := 1 } } }
  if c.state = 2 then s'.raise 0x6072 k 0 else s'

/-- Consumed connections on completion of a string reset (R367). -/
def State.wsfReset (s : State) : State :=
  s.consumed.foldl (fun s k =>
    let c := s.safe.wsf.get k
    let s := { s with safe := { s.safe with wsf := s.safe.wsf.set k { c with crcLocked := false } } }
    if c.state = 2 ∧ 3 ≤ c.good then s.wsfResume k else s) s

/-- The latches of a scope clear in both channels (R358). -/
def State.clearScope (s : State) (scope mask : Nat) : State :=
  let s := if scope = 0 then
      (bitsSet 4 mask).foldl (fun s r => s.updStr r fun x => { x with core := {}, turnip := {}, cause := 0, told := false, doubt := none }) s
    else if scope = 1 then { s with safe := { s.safe with fireCore := false, fireTurnip := false } }.sf4Clear
    else
      let n := { s.sys.notActive with faulted := false, blocks := [] }
      { s with safe := { s.safe with lockout := false }, sys := { s.sys with notActive := n } }
  let s := (resetStrings scope mask).foldl State.reopenGates s
  if scope = 0 then s.wsfReset else s

/-- A reset is armed, and its 10 s have not passed (R358). -/
def State.armedNow (s : State) : Bool :=
  match s.safe.reset with
  | some a => (match a.armed with
    | some t => decide (s.now ≤ t + 10000000000)
    | none => false)
  | none => false

/-- An armed reset completes (R358): latches cleared, event 0x6080; a module lock-out is left for NEGOTIATE. -/
def State.completeReset (s : State) : State :=
  match s.safe.reset with
  | none => s
  | some a =>
    if a.armed.isNone then s
    else
      let s := { s with safe := { s.safe with reset := none } }
      let s := ((s.clearScope a.scope a.mask).inc 0x696 0).raise 0x6080 0 0 (u8 a.scope ++ u8 a.mask)
      let s := s.complete a.op 0
      if a.scope = 2 ∧ s.sys.lifecycle = .safe then s.setLifecycle .negotiate else s

/-- A scope holds no standing latch (R358). -/
def State.nothingLatched (s : State) (scope mask : Nat) : Bool :=
  if scope = 0 then (bitsSet 4 mask).all fun r => !((s.str r).tripped || (s.str r).locked || (s.str r).stopped)
  else if scope = 1 then !s.safe.fire
  else !s.safe.lockout

/-- The trips of tripped nodes of the scope are cleared first (R159, R358). -/
def State.clearTrips (s : State) (rs : List Nat) : State :=
  rs.foldl (fun s r => (s.ringNodes r).foldl (fun s n =>
    let x := s.node (nodeKey r n)
    if x.ovTrips ≠ 0 ∨ x.uvTrips ≠ 0 then s.sendCmd r n 0x1B ([2, 0] ++ List.replicate 10 0) none 0 else s) s) s

/-- The comparator tests and threshold writes of the faulted nodes of a scope are repeated (R358): OP 3 on the comparator that did not fire, OP 0
with the block's thresholds. -/
def State.retestNodes (s : State) (rs : List Nat) : State :=
  s.safe.faulty.foldl (fun s p =>
    let nk := if p.1 = 0x2132 then p.2 / 32 else p.2
    let i := p.2 % 32
    if !rs.contains (nk / 28) then s
    else if p.1 = 0x2132 then
      s.sendCmd (nk / 28) (nk % 28 + 1) 0x1B ([3, BitVec.ofNat 8 (i / 2 + i % 2 * 128)] ++ List.replicate 10 0) none (32 + i)
    else if p.1 = 0x2133 then
      s.sendCmd (nk / 28) (nk % 28 + 1) 0x1B ([0, 0] ++ u16 (s.parN 0x600 0) ++ u16 (s.parN 0x601 0) ++ u16 (s.parN 0x602 0) ++ [0, 0, 0, 0]) none 0
    else s) s

/-- The tests of the faulted functions are repeated (R358): for a module lock-out the self-tests of the blocks its faults name, the safety cores'
and, for the cross-demand, Turnip's (17 Table 17.1); switch and input pulses come again at their next instants. -/
def State.retest (s : State) (scope mask : Nat) : State :=
  let s := if scope = 2 then s else s.retestNodes (resetStrings scope mask)
  let due := if scope ≠ 2 then [] else (s.safe.faulty.flatMap fun p =>
    if p.1 = 0x6041 ∨ p.1 = 0x6042 then [((0x02 : Nat), (300000000 : Nat))]
    else if p.1 = 0x6043 then [(0x02, 300000000), (0x05, 50000000)] else []).dedup
  let fresh := due.filter fun x => !s.bist.running.any fun y => y.1 == x.1
  ({ s with bist := { s.bist with running := s.bist.running ++ fresh.map fun (x : Nat × Nat) => (x.1, s.now + x.2) } }).incBy 0xA20 0 fresh.length

/-- SAFETY_RESET (R358, Table 12.5). -/
def execSafetyReset (h : Hdr) (scope mask : Byte) (s : State) : Result :=
  .next <| s.wcpReq 0x0601 h [scope, mask] fun s =>
    let op := opRef 0x0601 h
    let sc := scope.toNat
    if 2 < sc then s.fail 0x0601 h 0x0104
    else if (sc ≠ 2 ∧ h.target ≠ 0) ∨ s.nothingLatched sc mask.toNat then s.fail 0x0601 h 0x0105
    else
      let s := s.reply 0x0601 h 1
      let fresh : ResetReq := ⟨op, sc, mask.toNat, s.now, none⟩
      match s.safe.reset with
      | some a =>
        if a.armed.isSome then
          ({ s with safe := { s.safe with reset := some { a with op := op, armed := some s.now } } }).complete a.op 0x0109
        else
          let s := ({ s with safe := { s.safe with reset := some fresh } }).complete a.op 0x0109
          ((s.clearTrips (resetStrings sc mask.toNat)).retest sc mask.toNat).tryArm
      | none => ((({ s with safe := { s.safe with reset := some fresh } }).clearTrips (resetStrings sc mask.toNat)).retest sc mask.toNat).tryArm

/-- RESET_ARM_TIMEOUT (R358): a cause still present after 2 s. -/
def execResetArmTimeout (s : State) : Result :=
  .next <| match s.safe.reset with
    | none => s
    | some a =>
      if a.armed.isSome then s
      else
        let s := (s.advanceTo (a.since + 2000000000)).tryArm
        match s.firstCause a.scope a.mask with
        | none => s
        | some c => (({ s with safe := { s.safe with reset := none } }).raise 0x6082 0 0 (u8 c)).complete a.op 0x0109

/-- A rising edge of the reset input that qualifies (R358): low for 100 ms, seen by both channels within 20 ms. -/
def State.edgeOk (s : State) (input lowMs skewMs : Nat) : Bool := input == s.parN 0x61B 0 && 100 ≤ lowMs && skewMs ≤ 20

/-- The commissioning test that waits for the edge begins (R364). -/
def State.beginCt (s : State) : State :=
  match s.safe.ct with
  | none => s
  | some t =>
    if t.begun.isSome ∨ t.since + 10000000000 < s.now then s
    else
      let s := { s with safe := { s.safe with ct := some { t with begun := some s.now } } }
      (s.raise 0x6090 t.ch 0).complete t.op 0

/-- RESET_INPUT_EDGE (R358, R364): within 10 s of arming; ignored with nothing armed. -/
def execResetInputEdge (input lowMs skewMs : Nat) (s : State) : Result :=
  .next <|
    if !s.edgeOk input lowMs skewMs then s
    else
      let s := if s.armedNow then s.completeReset else s
      s.beginCt

/-- RESET_LAPSED (R358): no edge within 10 s of arming. -/
def execResetLapsed (s : State) : Result :=
  .next <| match s.safe.reset with
    | none => s
    | some a => match a.armed with
      | none => s
      | some t => (s.advanceTo (t + 10000000000)).lapseArm

/-! ### Inputs, outputs and channels -/

/-- The offset of an input's test pulse in each 50 ms (R354): the pair's second input 25 ms after the first, pair k at k × 6.25 ms. -/
def sitOff (input : Nat) : Nat := input / 2 * 6250000 + input % 2 * 25000000

/-- The next instant of the test pulse of an input (R354). -/
def sitAt (now input : Nat) : Nat :=
  if now % 50000000 ≤ sitOff input then now / 50000000 * 50000000 + sitOff input else (now / 50000000 + 1) * 50000000 + sitOff input

/-- An input's own test pulse of 400 µs and the 100 µs after it, whose samples the filter leaves out (R354). -/
def sitBusy (now input : Nat) : Bool := (now + 50000000 - sitOff input) % 50000000 < 500000

/-- One sample of a pair at 10 kHz (R353): a pair without demand ends its demand; one with demand holds it since its first such sample. -/
def State.siSample (s : State) (levels : Byte) (k : Nat) : State :=
  let f := s.siFunc k
  let x := s.si k
  let take := fun (n : Nat) (old : Bool) => if s.permit && !f.2.1.testBit 1 && sitBusy s.now n then old else levels.getLsbD n
  let x := { x with hiA := take (2 * k) x.hiA, hiB := take (2 * k + 1) x.hiB }
  if f.1 = 0 then s
  else if siHealthy (f.2.1.testBit 0) x.hiA x.hiB then
    s.setSi k { x with core := false, turnip := false, disagree := false, since := none, apart := none }
  else s.setSi k { x with since := some (x.since.getD s.now) }

/-- The field die's scan of the safety inputs (R353); a reset that waits may arm (R358). -/
def State.siScan (s : State) (levels : Byte) : State := ([0, 1, 2, 3].foldl (fun s k => s.siSample levels k) s).tryArm

/-- A channel's demand takes effect (R353); the other's may be missing. -/
def SiSt.demand (x : SiSt) (turnip : Bool) (now : Nat) : SiSt :=
  let y := if turnip then { x with turnip := true } else { x with core := true }
  { y with apart := if y.core = y.turnip then none else some (x.apart.getD now) }

/-- SI_DEMAND (R353): a channel's demand has held for SAFE.SI_FILTER_MS and acts at once, by the pair's function. -/
def execSiDemand (pair : Nat) (turnip : Bool) (s : State) : Result :=
  .next <|
    let f := s.siFunc pair
    if 4 ≤ pair ∨ f.1 = 0 ∨ !s.fieldOn then s
    else
      let s := s.advanceTo ((s.si pair).since.getD s.now + s.parN 0x619 0 * 1000000)
      let s := s.setSi pair ((s.si pair).demand turnip s.now)
      match f.1 with
      | 1 => s.sf3
      | 2 => (bitsSet 4 f.2.2).foldl State.sf1 s
      | 3 => (bitsSet 4 f.2.2).foldl State.sf2 s
      | _ => s

/-- SI_DISCREPANCY (R353, Table 12.4): one channel's demand has stood alone for SAFE.SI_DISC_MS. -/
def execSiDiscrepancy (pair : Nat) (s : State) : Result :=
  .next <| match (s.si pair).apart with
    | none => s
    | some t =>
      if 4 ≤ pair ∨ (s.siFunc pair).1 = 0 then s
      else
        let s := s.advanceTo (t + s.parN 0x61A 0 * 1000000)
        (s.setSi pair { s.si pair with disagree := true }).lockFault 0x6060 pair (s.siStrings pair)

/-- SI_TEST_PULSE (R349, R354): the module that holds the permit drives the pulse on SIT; the input must be low within 250 µs of it and still during its
partner's. Three consecutive failures raise 0x6061. OSSD pairs use no test pulses. -/
def execSiTestPulse (input : Nat) (lowUs : Option Nat) (moved : Bool) (s : State) : Result :=
  .next <|
    let k := input / 2
    let f := s.siFunc k
    let ok := lowUs.any (fun t => t ≤ 250) && !moved
    if 8 ≤ input ∨ f.1 = 0 ∨ f.2.1.testBit 1 ∨ !s.fieldOn ∨ !s.permit then s
    else
      let t := sitAt s.now input
      let s := (s.advanceTo t).emit (.sit input t)
      let x := s.si k
      let n := if ok then 0 else (if input % 2 = 0 then x.failsA else x.failsB) + 1
      let s := s.setSi k (if input % 2 = 0 then { x with failsA := n } else { x with failsB := n })
      if ok then s.clearFaulty 0x6061 input
      else if n = 3 then (s.markFaulty 0x6061 input).lockFault 0x6061 input (s.siStrings k)
      else s

/-- A level lies within 2 V of another. -/
def near2V (a b : Nat) : Bool := a ≤ b + 2000 && b ≤ a + 2000

/-- One channel's readback passes (Table 12.3): of an off-pulse or an on-pulse, of switch P (0) or T. An output is unchanged where it stays on its side of
3 V (DESIGN CHOICE, assumption log 208). -/
def pulsePass (off : Bool) (sw : Nat) (x : SwitchLevels) : Bool :=
  let full := x.supply ≤ x.mid + 2000
  if off then (if sw = 0 then decide (x.mid < 3000) else full) && x.out < 3000 && x.supply ≤ x.after + 2000
  else (if sw = 0 then full else near2V x.mid x.out) && (decide (x.out < 3000) == decide (x.before < 3000)) && near2V (2 * x.idle) x.supply

/-- The scheduled instant of a switch's pulse (R351). -/
def pulseAt (now out sw : Nat) : Nat :=
  let off := out * 125000000 + sw * 62500000
  if now % 1000000000 ≤ off then now / 1000000000 * 1000000000 + off else (now / 1000000000 + 1) * 1000000000 + off

/-- A switch pulse with its readback (Table 12.3): a failure locks the module out. -/
def State.pulse (s : State) (out sw : Nat) (good : Bool) : State :=
  let s := (s.advanceTo (pulseAt s.now out sw)).inc 0x691 0
  if good then s.clearFaulty 0x6050 (2 * out + sw) else (s.markFaulty 0x6050 (2 * out + sw)).moduleLock 0x6050 out (u8 sw)

/-- OFF_PULSE (R351): of an energised output; it passes only if the readback holds in both channels. -/
def execOffPulse (out sw : Nat) (core turnip : SwitchLevels) (s : State) : Result :=
  .next <| if 8 ≤ out ∨ 2 ≤ sw ∨ !s.fieldOn ∨ !s.soOn out then s else s.pulse out sw (pulsePass true sw core && pulsePass true sw turnip)

/-- ON_PULSE (R352): of an output that is not energised, on an ACTIVE or STANDBY module and before a reset arms (R358). -/
def execOnPulse (out sw : Nat) (core turnip : SwitchLevels) (s : State) : Result :=
  .next <| if 8 ≤ out ∨ 2 ≤ sw ∨ !s.fieldOn ∨ s.soOn out ∨ !(s.isActive || s.isStandby || s.safe.reset.isSome) then s
    else s.pulse out sw (pulsePass false sw core && pulsePass false sw turnip)

/-- SO_OVERLOAD (R347): Turnip clamp-opens the output; LOCKOUT of its string. -/
def execSoOverload (out : Nat) (s : State) : Result :=
  .next <| if 8 ≤ out ∨ !s.soOn out then s else (s.openSo .clamp out).lockFault 0x6051 out [(s.soMap out).1]

/-- SO_OPEN_LOAD (R347). -/
def execSoOpenLoad (out : Nat) (s : State) : Result :=
  .next <| if 8 ≤ out ∨ !s.soOn out then s else s.lockFault 0x6052 out [(s.soMap out).1]

/-- OVERCURRENT (R229, R344): where the sum of Turnip's filter over the bits has reached a threshold, Turnip closes its gate and demands SF1. -/
def execOvercurrent (ch : Nat) (bits : List Bool) (s : State) : Result :=
  .next <| if 4 ≤ ch ∨ !s.ocTrips ch bits then s else ((s.updCh ch fun x => { x with oc := true }).inc 0x3B6 ch).tripFault 0x6011 ch [ch]

/-- Turnip's detection time at a measured DSCLK, (2M − 1) / f + 0.3 µs, exceeds 3 µs (R344). -/
def State.ocSlow (s : State) (c hz : Nat) : Bool := 27 * hz < (2 * s.parN 0x608 c - 1) * 10000000

/-- OC_TIME_EXCEEDED (R344): Turnip closes its gate; the severity 2 action opens the string. -/
def execOcTimeExceeded (ch hz : Nat) (s : State) : Result :=
  .next <| if 4 ≤ ch ∨ !s.ocSlow ch hz then s else
    ((s.updCh ch fun x => { x with gateTurnipShut := true }).faultChannel ch).raiseWith 0x6017 ch 2 [] none
      (some (BitVec.ofNat 4 (2 ^ ch)))

/-- SAFETY_HEARTBEAT_LOSS (R340, R67, Tables 1.6, 3.4 and 12.4): the module lock-out ends drive, then Turnip resets the control SoC with SAFE_WDOG among
the causes; the lock-out stands over the start that follows. -/
def execSafetyHeartbeatLoss (s : State) : Result :=
  .next <|
    let s := ({ s with safe := { s.safe with lockout := true } }).demandEnds.endDrive
    ((s.markFaulty 0x6041 0).resetSoc 4).raise 0x6041 0 3

/-- SAFETY_LOCKSTEP (R340, Table 12.4). -/
def execSafetyLockstep (s : State) : Result := .next <| (s.markFaulty 0x6042 0).moduleLock 0x6042 0

/-- One channel latches on a string and opens its own switches and gate. -/
def State.latchOne (s : State) (fromTurnip : Bool) (r cause : Nat) (f : Latch → Latch) (outs : Bool) : State :=
  let s := s.updStr r fun x => (if fromTurnip then { x with core := f x.core } else { x with turnip := f x.turnip }).blame cause
  let s := if !outs then s else
    let s := s.abandonClose r 0x0109
    let s := (s.outsOf r).foldl (fun s n =>
      let o := s.so n
      s.setSo n (if fromTurnip then { o with p := false, opening := .clamp } else { o with t := false, opening := .clamp })) s
    s.updStr r fun x => { x with closed := false }
  let s := s.updCh r fun x => if fromTurnip then { x with gateSafeShut := true } else { x with gateTurnipShut := true }
  if outs then (s.faultChannel r).demandEnds else (s.faultChannel r).stopEnds

/-- CROSS_DEMAND (R339): the receiving channel latches and opens its own switches and gates. -/
def execCrossDemand (kind : DemandKind) (strings : Nat) (fromTurnip : Bool) (s : State) : Result :=
  .next <|
    let rs := bitsSet 4 strings
    match kind with
    | .stringTrip => rs.foldl (fun s r =>
        let s := if (s.str r).tripped then s else s.inc 0x690 0
        s.latchOne fromTurnip r 0x6010 (fun l => { l with tripped := true }) true) s
    | .runStop => rs.foldl (fun s r => s.latchOne fromTurnip r 0x6020 (fun l => { l with runStop := true }) false) s
    | .stringLockout => rs.foldl (fun s r => s.latchOne fromTurnip r 0x6040 (fun l => { l with lockout := true }) true) s
    | .moduleLockout =>
      let s := { s with safe := { s.safe with lockout := true } }.demandEnds.endDrive
      if s.isActive || s.isStandby || s.sys.lifecycle == .negotiate then s.setLifecycle .safe else s
    | .fire =>
      let s := { s with safe := if fromTurnip then { s.safe with fireCore := true } else { s.safe with fireTurnip := true } }
      let s := [0, 1, 2, 3].foldl (fun s r => s.latchOne fromTurnip r (s.str r).cause id true) s
      ((List.range 8).foldl (fun s n =>
        let o := s.so n
        s.setSo n (if fromTurnip then { o with p := false, opening := .clamp } else { o with t := false, opening := .clamp })) s).startSf4

/-- CROSS_DEMAND_TIMEOUT (R356). -/
def execCrossDemandTimeout (s : State) : Result := .next <| (s.markFaulty 0x6043 0).moduleLock 0x6043 0

/-- The other channel sees the cause of an SF1 decision (R357): of a heartbeat trip the safety cores, by the node's trips, a recorded break or its missing
frame; of an overcurrent the safety cores decided, Turnip. -/
def State.causeSeen (s : State) (r : Nat) : Option Nat → Bool
  | some nk =>
    let x := s.node nk
    x.ovTrips != 0 || x.uvTrips != 0 || (s.ring r).brk.isSome || !((s.ring r).held.any fun p => p.1 == nk % 28 + 1)
  | none => (s.ch r).oc

/-- CHANNEL_DISCREPANCY (R357), 50 ms after one channel's decision whose cause the other has not seen: LOCKOUT of the string. -/
def execChannelDiscrepancy (string : Nat) (s : State) : Result :=
  .next <| match (s.str string).doubt with
    | none => s
    | some (t, cause) =>
      if 4 ≤ string then s
      else
        let s := (s.advanceTo (t + 50000000)).updStr string fun x => { x with doubt := none }
        if s.causeSeen string cause then s else s.lockFault 0x6040 string [string]

/-- Turnip alone trips a string, in P3 (R59, Table 12.5): its latch, its switches and its gate. -/
def State.turnipTrip (s : State) (r code inst : Nat) : State :=
  let s := if (s.str r).tripped then s else s.inc 0x690 0
  (s.latchOne false r code (fun l => { l with tripped := true }) true).raiseWith code inst 2 [] none (some (BitVec.ofNat 4 (2 ^ r)))

/-- The safety cores take over the latches that Turnip has set in P3, at a check visit or on leaving P3 (Table 12.5). -/
def State.coresLatch (s : State) : State :=
  [0, 1, 2, 3].foldl (fun s r => if (s.str r).turnip.tripped && !(s.str r).core.tripped then s.trip r (s.str r).cause else s) s

/-- FREEWHEEL_TO_CLAMP (R338). -/
def execFreewheelToClamp (out : Nat) (s : State) : Result :=
  .next <| if 8 ≤ out ∨ s.soOn out ∨ (s.so out).opening = .clamp then s else s.setSo out { s.so out with opening := .clamp }

/-- SAFETY_SWITCH_FRAME_LOSS (16 R455): the switches of one channel open; false switch P, true switch T. In P3 Turnip's frames keep the hold register too,
so that switch P opens with them (R59). -/
def execSafetySwitchFrameLoss (sw : Bool) (s : State) : Result :=
  .next <|
    let held := s.sys.holdOn
    let s := (List.range 8).foldl (fun s n =>
      let o := s.so n
      s.setSo n { o with p := o.p && sw && !held, t := o.t && !sw, opening := .clamp }) s
    let s := if held then { s with sys := { s.sys with holdReg := 0 } } else s
    [0, 1, 2, 3].foldl (fun s r => (s.abandonClose r 0x0109).updStr r fun x => { x with closed := false }) s

/-! ### Closing and opening strings (R350) -/

/-- No node of the ring runs a version other than the running node slot's (19 R516). -/
def State.nodeVersionsOk (s : State) (r : Nat) : Bool :=
  s.upd.nodeVer.all fun p => p.1 / 28 != r || p.2 == s.upd.running 4

/-- The conditions of STRING_CLOSE on one string. -/
def State.closeOk (s : State) (r : Nat) : Bool :=
  let x := s.str r
  s.isActive && s.permit && s.sys.power == .p0 && !x.tripped && !x.locked && !s.safe.fire && !s.safe.lockout
    && ((s.safe.confirmed && !s.safe.mismatch) || s.ctOn r) && s.heartsOk r && !s.slowStale r && s.wsfPermits r && (s.ch r).state == 0
    && s.nodeVersionsOk r

/-- A string's status at acceptance: 1 starts, 0 left as it is, or the refusal. -/
def State.closeJudge (s : State) (r : Nat) : Nat :=
  if (s.str r).closed ∨ (s.str r).closing ≠ 0 then 0 else if s.closeOk r then 1 else 0x0105

/-- A close sequence starts: the precharge outputs are energised. -/
def State.beginClose (s : State) (r : Nat) : State :=
  (s.outs r 2).foldl State.closeSo (s.updStr r fun x => { x with closing := 1, closeAt := s.now })

/-- STRING_CLOSE (R350). -/
def execStringClose (h : Hdr) (mask : Byte) (s : State) : Result :=
  .next <| s.wcpRun 0x0310 h [mask] true [0x01, 0x02, 0x50] fun s =>
    let js := (bitsSet 4 mask.toNat).map fun r => (r, s.closeJudge r)
    let go := (js.filter fun j => j.2 == 1).map (·.1)
    if go = [] then s.answerAll 0x0310 h js
    else
      let s := go.foldl State.beginClose s
      let s := { s with safe := { s.safe with closes := s.safe.closes ++ [(⟨opRef 0x0310 h, go, [], [], 0⟩ : CloseReq)] } }
      s.reply 0x0310 h 1 (statusBytes js)

/-- PRECHARGE_ELAPSED (R350): the main outputs, and 100 ms later the end of precharge. -/
def execPrechargeElapsed (string : Nat) (s : State) : Result :=
  .next <|
    let x := s.str string
    if 4 ≤ string ∨ x.closing ≠ 1 then s
    else
      let s := s.advanceTo (x.closeAt + s.parN 0x611 0 * 1000000)
      let s := (s.outs string 1).foldl State.closeSo (s.updStr string fun x => { x with closed := true })
      let s := s.advanceTo (s.now + 100000000)
      let s := (s.outs string 2).foldl (fun s n => s.openSo .clamp n) (s.updStr string fun x => { x with closing := 0 })
      s.closeEnd string none

/-- STRING_OPEN mode 0 (R350): refused unless the channel of every named string is STOPPED. -/
def execStringOpenStopped (h : Hdr) (mask : Byte) (s : State) : Result :=
  .next <| s.wcpReq 0x0311 h [mask, 0] fun s =>
    let rs := bitsSet 4 mask.toNat
    if rs.any fun r => (s.ch r).state != 0 then s.fail 0x0311 h 0x0105
    else (rs.foldl (fun s r => s.openString r .clamp 0x0105) s).reply 0x0311 h 0

/-- One string of STRING_OPEN mode 1: CH_STOP mode 1, and the outputs 10 us after the gate closes. -/
def State.openRunning (s : State) (r : Nat) : State :=
  let s := s.dropStart r
  let st := (s.ch r).state
  if st = 2 ∨ st = 3 then
    let s := (s.updCh r fun x => { x with stopNow := true }).abandonClose r 0x0105
    { s with safe := { s.safe with openSoon := s.safe.openSoon ++ [r] } }
  else s.openString r .clamp 0x0105

/-- STRING_OPEN mode 1 (R350). -/
def execStringOpenRunning (h : Hdr) (mask : Byte) (s : State) : Result :=
  .next <| s.wcpReq 0x0311 h [mask, 1] fun s => ((bitsSet 4 mask.toNat).foldl State.openRunning s).reply 0x0311 h 0

/-! ### Status, block, commissioning test -/

/-- SAFETY_STATUS (R371). -/
def execSafetyStatus (h : Hdr) (s : State) : Result :=
  .next <| s.wcpReq 0x0600 h [] fun s =>
    let crc := s.blockCrc
    let crcT := if s.safe.mismatch then (Config.free32 s.free).toNat else crc
    let s := if s.safe.mismatch then { s with free := s.free + 1 } else s
    s.reply 0x0600 h 0 (u32 s.safeStatus ++ u32 crc ++ u32 crcT ++ [0, 1, 2, 3].flatMap (fun r => u32 (s.latchWord r))
      ++ [0, 1, 2, 3].flatMap fun k => let c := s.safe.wsf.get k
                                       u8 c.state ++ [0] ++ leBytes 2 c.last.toNat)

/-- CONFIRM_SAFETY_CONFIG (R362): the entered CRC must be that of both channels. -/
def execConfirmSafetyConfig (h : Hdr) (crc : BitVec 32) (s : State) : Result :=
  .next <| s.wcpReq 0x0602 h (leBytes 4 crc.toNat) fun s =>
    if s.safe.mismatch ∨ crc.toNat ≠ s.blockCrc then s.fail 0x0602 h 0x0104
    else
      let user := match s.sess h.session.toNat with
        | some x => x.user
        | none => []
      let s := { s with safe := { s.safe with confirmed := true } }
      (s.raise 0x6003 0 0 (u32 crc.toNat ++ padTo 8 user)).reply 0x0602 h 0

/-- COMMISSIONING_TEST OP 0 (R364): it awaits the reset edge. -/
def execCommissioningTestStart (h : Hdr) (ch : Byte) (s : State) : Result :=
  .next <| s.wcpRun 0x0603 h [0, ch] true [] fun s =>
    if 4 ≤ ch.toNat then s.fail 0x0603 h 0x0104
    else if s.safe.ct.isSome ∨ s.safe.lockout ∨ (s.str ch.toNat).locked then s.fail 0x0603 h 0x0105
    else
      ({ s with safe := { s.safe with ct := some ⟨opRef 0x0603 h, ch.toNat, s.now, none⟩ } }).reply 0x0603 h 1

/-- COMMISSIONING_TEST OP 1 (R364). -/
def execCommissioningTestStop (h : Hdr) (ch : Byte) (s : State) : Result :=
  .next <| s.wcpReq 0x0603 h [1, ch] fun s =>
    match s.safe.ct with
    | some t => if t.ch = ch.toNat then s.endCt.reply 0x0603 h 0 else s.fail 0x0603 h 0x0105
    | none => s.fail 0x0603 h 0x0105

/-- CT_TIME_EXPIRY (R364): SAFE.CT_TIME_S after the start, or 10 s without the edge. -/
def execCtTimeExpiry (ch : Nat) (s : State) : Result :=
  .next <| match s.safe.ct with
    | none => s
    | some t =>
      if t.ch ≠ ch then s
      else match t.begun with
        | some b => (s.advanceTo (b + s.parN 0x632 0 * 1000000000)).endCt
        | none => (s.advanceTo (t.since + 10000000000)).endCt

/-- The thresholds of the block to every enumerated node (06 R158). -/
def State.writeThresholds (s : State) (r : Nat) : State :=
  let b := [0, 0] ++ u16 (s.parN 0x600 0) ++ u16 (s.parN 0x601 0) ++ u16 (s.parN 0x602 0) ++ [0, 0, 0, 0]
  (s.ringNodes r).foldl (fun s n => s.sendCmd r n 0x1B b none 0) s

/-- SAFE_BLOCK_APPLY (R361): UNCONFIRMED, event 0x6002, node thresholds rewritten; a connection the block changes starts in INIT (R539). -/
def execSafeBlockApply (s : State) : Result :=
  .next <|
    let due : Bool := match s.wcp.commit with
      | some c => c.entries.any fun v => inBlock v.id
      | none => false
    if !due ∨ !s.halted 0x600 0 then s
    else
      let old := (List.range 4).map s.wsfEntry
      let s := s.boundary .safety
      let s := (List.range 4).foldl (fun s k =>
        if old[k]? = some (s.wsfEntry k) then s else { s with safe := { s.safe with wsf := s.safe.wsf.set k {} } }) s
      let s := ({ s with safe := { s.safe with confirmed := false, mismatch := false } }).sweepGates
      (s.raise 0x6002 0 0 (u32 s.blockCrc)).writeThresholds 0 |>.writeThresholds 1 |>.writeThresholds 2 |>.writeThresholds 3

/-! ### The Welfer Safe Frame -/

def State.wsfSt (s : State) (k : Nat) : WsfSt := s.safe.wsf.get k

def State.setWsf (s : State) (k : Nat) (c : WsfSt) : State := { s with safe := { s.safe with wsf := s.safe.wsf.set k c } }

/-- The data in use change (R539): a permit that falls demands SF1 or SF2, FIRE that rises SF3, a rising RESET completes a reset. -/
def State.useData (s : State) (k : Nat) (d : BitVec 32) : State :=
  let o := (s.wsfSt k).data
  let s := s.setWsf k { s.wsfSt k with data := d }
  let falls := fun (i : Nat) => o.getLsbD i && !d.getLsbD i
  let s := ([0, 1, 2, 3].filter falls).foldl State.sf1 s
  let s := (([0, 1, 2, 3].filter fun c => falls (4 + c)).foldl State.sf2 s).sweepGates
  let s := if d.getLsbD 8 && !o.getLsbD 8 then s.sf3 else s
  if d.getLsbD 9 && !o.getLsbD 9 && s.parN 0x61C 0 == 1 && s.armedNow then s.completeReset else s

/-- CRC-32 of a PDU under a CONN_ID: over the ID and bytes 0 to 5 + LEN (R365). -/
def wsfCrc (id : Nat) (b : Bytes) : Nat := crc32s (u32 id ++ b.take (6 + fieldAt b 1 1))

def wsfCrcOk (id : Nat) (b : Bytes) : Bool :=
  10 + fieldAt b 1 1 ≤ b.length && fieldAt b (6 + fieldAt b 1 1) 4 == wsfCrc id b

/-- A PDU of a PDU's length, or of a CAN frame's with padding (R366). -/
def wsfWhole (transport : Nat) (b : Bytes) : Bool := 10 ≤ b.length && (transport != 0 || b.length == 10 + fieldAt b 1 1)

/-- A CRC failure counted against an entry (R367): more than 10 within 1 s put it in FAILSAFE. -/
def State.wsfCrcFail (s : State) (k : Nat) : State :=
  let c := s.wsfSt k
  let ts := (s.now :: c.crcFails).filter fun t => s.now < t + 1000000000
  let s := (s.inc 0x693 0).setWsf k { c with crcFails := ts }
  if ts.length ≤ 10 then s
  else
    let first := !(c.crcLocked && c.state == 2)
    let s := s.setWsf k { s.wsfSt k with state := 2, good := 0, crcLocked := true }
    let s := s.useData k 0
    if first then s.lockFault 0x6071 k [0, 1, 2, 3] else s

/-- A sequence error (R367). -/
def State.wsfSeqErr (s : State) (k : Nat) : State :=
  let c := s.wsfSt k
  (s.inc 0x694 0).setWsf k (if c.state = 1 then c else { c with good := 0 })

/-- A PDU with a correct CRC under connection k (R367). -/
def State.wsfJudge (s : State) (k : Nat) (b : Bytes) : State :=
  let s := s.inc 0x692 0
  let c := s.wsfSt k
  let vt := fieldAt b 0 1
  let len := fieldAt b 1 1
  let seq := BitVec.ofNat 16 (fieldAt b 2 2)
  let wd := fieldAt b 4 2
  if vt % 16 ≠ 1 ∨ 1 < vt / 16 ∨ 32 < len ∨ wd = 0 ∨ (s.wsfEntry k).wd < wd then s.inc 0x694 0
  else if vt / 16 = 1 then
    (if c.state = 1 then s
     else s.setWsf k { c with last := seq, good := 0, started := true, deadline := s.now + wd * 1000000 })
  else if !c.started ∨ len ≠ 4 then s.wsfSeqErr k
  else
    let d := (seq - c.last).toNat
    if d = 0 ∨ s.parN 0x629 0 < d then s.wsfSeqErr k
    else
      let c := { c with last := seq, deadline := s.now + wd * 1000000 }
      let data := BitVec.ofNat 32 (fieldAt b 6 4)
      if c.state = 1 then (s.setWsf k c).useData k data
      else
        let c := { c with good := c.good + 1, pending := data }
        let s := s.setWsf k c
        if 3 ≤ c.good ∧ (c.state = 0 ∨ (s.parN 0x62A 0 = 0 ∧ !c.crcLocked)) then s.wsfResume k else s

/-- A PDU received (R366): judged under the matching entry whose CONN_ID makes its CRC correct. Only the ACTIVE module checks (R368). -/
def State.wsfReceive (s : State) (transport peer : Nat) (b : Bytes) : State :=
  let ks := s.consumed.filter fun k => (s.wsfEntry k).transport == transport && (s.wsfEntry k).peer == peer
  if !s.isActive ∨ ks = [] then s
  else match ks.find? fun k => wsfWhole transport b && wsfCrcOk (s.wsfEntry k).id b with
    | some k => s.wsfJudge k b
    | none => ks.foldl State.wsfCrcFail s

/-- The consumed connection a CAN identifier belongs to (15 R438). -/
def State.wsfOfCan (s : State) (ctl : Nat) (id : BitVec 32) : Option Nat :=
  s.consumed.find? fun k => (s.wsfEntry k).transport == ctl + 1 && (s.wsfEntry k).peer == id.toNat

/-- WSF_PDU (R366, R367). -/
def execWsfPdu (transport peer : Nat) (bytes : Bytes) (s : State) : Result := .next <| s.wsfReceive transport peer bytes

/-- WSF_WATCHDOG (R367): the 100 us check after the deadline. -/
def execWsfWatchdog (conn : Nat) (s : State) : Result :=
  .next <|
    let c := s.wsfSt conn
    if 4 ≤ conn ∨ !s.isActive ∨ !c.started ∨ (s.wsfEntry conn).kind ≠ 1 then s
    else
      let s := s.advanceTo ((c.deadline / 100000 + 1) * 100000)
      let s := s.inc 0x695 0
      if c.state = 1 then
        let s := (s.setWsf conn { c with state := 2, good := 0 }).raise 0x6070 conn 1
        s.useData conn 0
      else s.setWsf conn { c with good := 0 }

/-- The least DLC of a CAN FD frame that holds n bytes (R366). -/
def dlcFor (n : Nat) : Nat := (((List.range 16).find? fun d => decide (n ≤ [0, 1, 2, 3, 4, 5, 6, 7, 8, 12, 16, 20, 24, 32, 48, 64].getD d 64)).getD 15)

/-- The PDU of a produce connection (Table 12.6). -/
def wsfPdu (id type : Nat) (seq : BitVec 16) (wd : Nat) (data : Bytes) : Bytes :=
  let b := u8 (1 + 16 * type) ++ u8 data.length ++ leBytes 2 seq.toNat ++ u16 wd ++ data
  b ++ u32 (wsfCrc id b)

/-- A PDU of connection k goes to its transport; one not yet sent is replaced and hands on its SEQ (R421, R422, R433). -/
def State.wsfSend (s : State) (k type : Nat) (data : Bytes) : State :=
  let e := s.wsfEntry k
  let c := s.wsfSt k
  let waits := if e.transport = 0 then s.net.eth0.queue.any (fun g => g.conn == some k) || s.net.eth1.queue.any (fun g => g.conn == some k)
    else ((s.ctl (e.transport - 1)).wsf : SMap CanEntry).find k |>.isSome
  let seq := if waits then c.seq - 1 else c.seq
  let b := wsfPdu e.id type seq e.wd data
  let s := s.setWsf k { c with seq := seq + 1, startSent := true }
  if e.transport = 0 then
    let src := if s.parN 0x805 0 ≠ 0 then s.parN 0x805 0 else s.ownIp 0
    let body := beBytes 4 src ++ beBytes 4 e.peer ++ b
    let q := s.net.prpSeq
    if s.parN 0x807 0 = 1 then
      let s := { s with net := { s.net with prpSeq := q + 1 } }
      let f := fun (p : Nat) => (⟨1, some k, s.now, 9, body ++ prpTrailer q p⟩ : LaunchFrame)
      (s.queueLaunch 0 (f 0)).queueLaunch 1 (f 1)
    else s.queueLaunch 0 ⟨1, some k, s.now, 9, body⟩
  else
    let x := s.ctl (e.transport - 1)
    let d := dlcFor b.length
    let n := [0, 1, 2, 3, 4, 5, 6, 7, 8, 12, 16, 20, 24, 32, 48, 64].getD d 64
    s.setCtl (e.transport - 1) { x with wsf := (x.wsf : SMap CanEntry).set k ⟨BitVec.ofNat 32 e.peer, 3, BitVec.ofNat 8 d, 0, padTo n b⟩ }

/-- WSF_PRODUCE (R368): at its launch grid a START after every start-up, then DATA with the module status. -/
def execWsfProduce (conn : Nat) (s : State) : Result :=
  .next <|
    let e := s.wsfEntry conn
    if 4 ≤ conn ∨ e.kind ≠ 2 ∨ !s.isActive ∨ e.period = 0 then s
    else
      let p := e.period * 1000000
      let off := conn * 250000
      let s := s.advanceTo (if s.now < off then off else ((s.now - off) / p + 1) * p + off)
      let s := if (s.wsfSt conn).startSent then s else s.wsfSend conn 1 []
      s.wsfSend conn 0 s.moduleStatus

/-! ### The state copy of the safety functions (R355, R368) -/

/-- The state of connection k as SAFETY_COPY carries it (R368). -/
def State.wsfCopy (s : State) (k : Nat) : WsfCopy :=
  let c := s.wsfSt k
  let made : Bool := (s.wsfEntry k).kind == 2
  ⟨c.state, if made then c.seq - 1 else c.last, c.deadline, if made then c.startSent else c.started, c.crcLocked, c.good, c.data, c.pending⟩

/-- A standby's connection k takes a copied state (R368). -/
def State.wsfTake (s : State) (k : Nat) (c : WsfSt) (v : WsfCopy) : WsfSt :=
  if (s.wsfEntry k).kind = 2 then { c with seq := v.last + 1, startSent := v.started }
  else { c with state := v.state, last := v.last, deadline := v.deadline, started := v.started, crcLocked := v.locked, good := v.good,
                data := v.data, pending := v.pending }

def wsfCopyBytes (v : WsfCopy) : Bytes :=
  u8 v.state ++ leBytes 2 v.last.toNat ++ u64 v.deadline ++ u8 (ofBits [v.started, v.locked]) ++ u8 (min 255 v.good) ++ u32 v.data.toNat
    ++ u32 v.pending.toNat

/-- SAFETY_COPY as sent (Table 13.2). -/
def State.safetyBytes (s : State) : Bytes :=
  u32 s.safeStatus ++ [0, 1, 2, 3].flatMap (fun r => u32 (s.latchWord r))
    ++ [0, 1, 2, 3].flatMap fun k => wsfCopyBytes (s.wsfCopy k)

/-- The active sends it on any change and every 10 ms. -/
def State.sendSafety (s : State) : State :=
  let b := s.safetyBytes
  let due : Bool := match s.twin.safetySent with
    | some (old, t) => old != b || decide (t + 10000000 ≤ s.now)
    | none => true
  if s.isActive && due then (({ s with twin := { s.twin with safetySent := some (b, s.now) } }).emit (.shallot 0x05 b)).place .safety else s

/-- One shadowed latch bit: set with the copy, cleared when the copy clears it (R355, R358). -/
def shadowBit (own now_ was : Bool) : Bool := now_ || (own && !was)

/-- SAFETY_COPY (R355, R368): the standby takes the latches, but for MODULE_LOCKOUT, and the connections' states. -/
def execSafetyCopy (f : Link) (m : SafetyCopyMsg) (s : State) : Result :=
  .next <| s.onLink false f fun s => if !s.isStandby then s else
    let was : SafetyCopyMsg := match s.twin.safety with
      | some (o, _) => o
      | none => ⟨0, ⟨0, 0, 0, 0⟩, m.wsf⟩
    let str := s.safe.str.mapIdx fun r x =>
      let w := m.latch.get r
      let o := was.latch.get r
      let f := fun (l : Latch) => (⟨shadowBit l.tripped (w.getLsbD 0) (o.getLsbD 0), shadowBit l.runStop (w.getLsbD 1) (o.getLsbD 1),
        shadowBit l.lockout (w.getLsbD 2) (o.getLsbD 2)⟩ : Latch)
      { x with core := f x.core, turnip := f x.turnip, closed := w.getLsbD 3, cause := if w.toNat / 65536 ≠ 0 then w.toNat / 65536
                 else if o.toNat / 65536 ≠ 0 then 0 else x.cause,
               told := shadowBit x.told (w.getLsbD 0) (o.getLsbD 0) }
    let fire := fun (own : Bool) => shadowBit own (m.status.getLsbD 3) (was.status.getLsbD 3)
    let wsf := s.safe.wsf.mapIdx fun k (c : WsfSt) => s.wsfTake k c (m.wsf.get k)
    let s := { s with safe := { s.safe with str := str, fireCore := fire s.safe.fireCore, fireTurnip := fire s.safe.fireTurnip, wsf := wsf,
                                            confirmed := m.status.toNat % 4 == 1 },
                      twin := { s.twin with safety := some (m, s.now) } }
    [0, 1, 2, 3].foldl (fun s c =>
      let x := s.str c
      if x.tripped || x.stopped || x.locked || s.safe.fire then s.updCh c fun y => { y with gateSafeShut := true, gateTurnipShut := true }
      else if (was.latch.get c).toNat % 8 ≠ 0 ∨ was.status.getLsbD 3 then s.reopenGates c else s) s

end Sys2Proof.Machine
end

