-- ==== Sys2Proof/Machine/Can.lean ====
section
/-! DEFINITION. Chapter 15, the CAN FD controllers: transmission with aborts and flushes, reception through the filters, errors and
bus-off (R428 to R444). -/

namespace Sys2Proof.Machine
open Sys2Proof

/-- Data bytes a DLC stands for. -/
def dlcLen (dlc : Nat) : Nat := [0, 1, 2, 3, 4, 5, 6, 7, 8, 12, 16, 20, 24, 32, 48, 64].getD dlc 64

def canRtr (f : CanEntry) : Bool := f.id.getLsbD 30
def canFdf (f : CanEntry) : Bool := f.fmt.getLsbD 0
def canBrs (f : CanEntry) : Bool := f.fmt.getLsbD 1

/-- A frame entry as Table 15.2 lays it out. -/
def canBytes (f : CanEntry) : Bytes := leBytes 4 f.id.toNat ++ [f.fmt, f.dlc] ++ leBytes 2 f.handle.toNat ++ f.data

/-- A submitted entry is well formed (Tables 15.1 and 15.2). -/
def canOk (f : CanEntry) : Bool :=
  !(canFdf f && canRtr f) && (f.dlc.toNat ≤ 8 || (f.dlc.toNat ≤ 15 && canFdf f))
    && f.data.length == (if canRtr f then 0 else dlcLen f.dlc.toNat)

/-- An entry with its reserved bits, which are ignored (00 R5), at zero. -/
def canClean (f : CanEntry) : CanEntry := { f with id := f.id &&& 0xDFFFFFFF, fmt := f.fmt &&& 3 }

/-- Bus monitoring mode (R429, Table 15.4). -/
def State.canMonitor (s : State) (c : Nat) : Bool := !s.isActive || s.parN 0x8C0 c == 0

/-- CAN_TX (R433): placed whole, or refused in full. -/
def execCanTx (h : Hdr) (ctl : Byte) (entries : List CanEntry) (s : State) : Result :=
  .next <| s.wcpReq 0x0810 h ([ctl] ++ u8 entries.length ++ entries.flatMap canBytes) fun s =>
    let c := ctl.toNat
    if 2 ≤ c ∨ !(entries.all canOk) ∨ s.parN 0x8C8 c < (s.ctl c).tx.length + entries.length then s.fail 0x0810 h 0x0104
    else
      let x := s.ctl c
      (s.setCtl c { x with tx := x.tx ++ entries.map fun f => ⟨canClean f, 0, false, false, false⟩ }).reply 0x0810 h 0 (u8 entries.length)

/-- A completion record joins the results queue of 64 (R434). -/
def State.canResult (s : State) (c : Nat) (t : TxFrame) (result : Nat) (tooLate : Bool) (stamp : BitVec 32) : State :=
  let x := s.ctl c
  let r : TxResult := ⟨t.f.handle, result, ofBits [tooLate, t.lost, t.err], stamp⟩
  if x.results.length < 64 then s.setCtl c { x with results := x.results ++ [r] }
  else (s.setCtl c { x with lostResults := x.lostResults + 1 }).raise 0x9011 c 0

/-- The head of the FIFO leaves with its record. -/
def State.canLeave (s : State) (c : Nat) (t : TxFrame) (result : Nat) (tooLate : Bool) (stamp : BitVec 32) : State :=
  let x := s.ctl c
  (s.setCtl c { x with tx := x.tx.tail }).canResult c t result tooLate stamp

/-- CAN_TX_ABORT (R436): by the frame's stage. -/
def execCanTxAbort (h : Hdr) (ctl : Byte) (handle : BitVec 16) (s : State) : Result :=
  .next <| s.wcpReq 0x0811 h ([ctl, 0] ++ leBytes 2 handle.toNat) fun s =>
    let c := ctl.toNat
    let x := s.ctl c
    match if 2 ≤ c then none else x.tx.find? fun t => t.f.handle == handle with
    | none => s.fail 0x0811 h 0x0104
    | some t =>
      let i := x.tx.findIdx fun t => t.f.handle == handle
      let s := if t.stage = 0 then (s.setCtl c { x with tx := x.tx.eraseIdx i }).canResult c t 1 false 0
        else s.setCtl c { x with tx := x.tx.set i { t with abort := true } }
      s.reply 0x0811 h 0

/-- CAN_TX_FLUSH (R437): a frame in transmission stays, with an abort pending. -/
def execCanTxFlush (h : Hdr) (ctl : Byte) (s : State) : Result :=
  .next <| s.wcpReq 0x0812 h [ctl] fun s =>
    let c := ctl.toNat
    let x := s.ctl c
    if 2 ≤ c then s.fail 0x0812 h 0x0104
    else
      let gone := x.tx.filter fun t => t.stage == 0
      let kept := (x.tx.filter fun t => t.stage != 0).map fun t => { t with abort := true }
      (s.setCtl c { x with tx := kept }).reply 0x0812 h 0 (u8 gone.length ++ gone.flatMap fun t => canBytes t.f)

/-- CAN_TX_RESULTS (R434). -/
def execCanTxResults (h : Hdr) (ctl max : Byte) (s : State) : Result :=
  .next <| s.wcpReq 0x0813 h [ctl, max] fun s =>
    let c := ctl.toNat
    let x := s.ctl c
    if 2 ≤ c then s.fail 0x0813 h 0x0104
    else
      let rs := x.results.take max.toNat
      (s.setCtl c { x with results := x.results.drop max.toNat }).reply 0x0813 h 0 (u8 rs.length ++ rs.flatMap fun r =>
        leBytes 2 r.handle.toNat ++ u8 r.result ++ u8 r.flags ++ leBytes 4 r.stamp.toNat)

/-- CAN_RX_READ (R439). -/
def execCanRxRead (h : Hdr) (ctl fifo max : Byte) (s : State) : Result :=
  .next <| s.wcpReq 0x0814 h [ctl, fifo, max] fun s =>
    let c := ctl.toNat
    let x := s.ctl c
    if 2 ≤ c ∨ 2 ≤ fifo.toNat then s.fail 0x0814 h 0x0104
    else
      let q := if fifo = 0 then x.rx0 else x.rx1
      let out := q.take max.toNat
      let x := if fifo = 0 then { x with rx0 := q.drop max.toNat } else { x with rx1 := q.drop max.toNat }
      (s.setCtl c x).reply 0x0814 h 0 (time80Bytes s.now ++ u8 out.length
        ++ out.flatMap fun f => leBytes 4 f.1.toNat ++ canBytes { f.2 with handle := 0 })

/-- CAN_RECOVER (R440, Table 15.4). -/
def execCanRecover (h : Hdr) (ctl : Byte) (s : State) : Result :=
  .next <| s.wcpReq 0x0815 h [ctl] fun s =>
    let c := ctl.toNat
    if 2 ≤ c then s.fail 0x0815 h 0x0104
    else if (s.ctl c).off ≠ 2 then s.fail 0x0815 h 0x0105
    else (s.setCtl c { s.ctl c with off := 3 }).reply 0x0815 h 0

/-- Transmitter delay compensation applies (R431). -/
def State.tdcOn (s : State) (c : Nat) : Bool := bitOf (s.parN 0x8C3 c) 0 && fieldAt (s.par 0x8C2 c) 0 1 ≤ 2

def CanCtl.passive (x : CanCtl) : Bool := 128 ≤ x.tec || 128 ≤ x.rec_

/-- CAN.STATUS (Table 15.6). -/
def State.canStatusWord (s : State) (c : Nat) : Nat :=
  let x := s.ctl c
  (if x.off ≠ 0 then x.off else if x.passive then 1 else 0)
    + 4 * ofBits [s.canMonitor c, !s.permit, s.tdcOn c, decide (64 ≤ x.rx0.length), decide (64 ≤ x.rx1.length)]

/-- CAN_STATUS (R442). -/
def execCanStatus (h : Hdr) (ctl : Byte) (s : State) : Result :=
  .next <| s.wcpReq 0x0816 h [ctl] fun s =>
    let c := ctl.toNat
    let x := s.ctl c
    if 2 ≤ c then s.fail 0x0816 h 0x0104
    else s.reply 0x0816 h 0 (u32 (s.canStatusWord c) ++ u8 (min 255 x.tec) ++ u8 (min 255 x.rec_) ++ u8 x.tx.length
      ++ u8 x.rx0.length ++ u8 x.rx1.length ++ u8 (min 255 x.delay))

/-- The controller goes bus-off (R440, Table 15.4): the frame in transmission stays at the head, or leaves ABORTED under a pending abort. -/
def State.goBusOff (s : State) (c : Nat) : State :=
  let x := s.ctl c
  let s := (s.setCtl c { x with off := if s.parN 0x8C7 c = 1 then 3 else 2, wsfTx := none, tec := 256 }).inc 0x8E4 c
  let s := match x.tx with
    | t :: rest => if t.abort then s.canLeave c t 1 false 0
      else s.setCtl c { s.ctl c with tx := { t with stage := 0 } :: rest }
    | [] => s
  s.raise 0x9001 c 1

/-- The error counters move; entry to error passive raises 0x9002 (R440). -/
def State.canCount (s : State) (c : Nat) (f : CanCtl → CanCtl) : State :=
  let old := s.ctl c
  let s := s.setCtl c (f old)
  if !old.passive ∧ (s.ctl c).passive then s.raise 0x9002 c 0 else s

/-- A frame goes out on the wire; format bit 2 is ESI of an FD frame, set while the controller is error passive (R428). -/
def State.canSent (s : State) (c : Nat) (f : CanEntry) : State :=
  let esi := canFdf f && (s.ctl c).passive
  (s.inc 0x8E0 c).emit (.can c f.id.toNat (f.fmt.toNat % 4 + if esi then 4 else 0) f.dlc.toNat f.data)

/-- The loop delay is measured in this frame (R431). -/
def State.measures (s : State) (c : Nat) (f : CanEntry) : Bool := s.tdcOn c && canFdf f && canBrs f

/-- A measured delay is above CAN.TDC_MAX_NS (R431). -/
def State.tooSlow (s : State) (c : Nat) (f : CanEntry) (clocks : Nat) : Bool := s.measures c f && decide (2 * s.parN 0x8C4 c < 25 * clocks)

/-- The last measured loop delay (Table 15.5). -/
def State.keepDelay (s : State) (c : Nat) (f : CanEntry) (clocks : Nat) : State :=
  if s.measures c f then s.setCtl c { s.ctl c with delay := clocks } else s

/-- The head of the FIFO was sent whole (R434, R436). -/
def State.headSent (s : State) (c : Nat) (t : TxFrame) (stamp : BitVec 32) (clocks : Nat) : State :=
  ((s.keepDelay c t.f clocks).canSent c t.f).canLeave c t 0 t.abort stamp

/-- The head of the FIFO failed to go out (R435, R436, Table 15.4). -/
def State.headFailed (s : State) (c : Nat) (t : TxFrame) : State :=
  if s.parN 0x8C6 c = 1 then s.canLeave c t 2 false 0
  else if t.abort then s.canLeave c t 1 false 0
  else let x := s.ctl c
    s.setCtl c { x with tx := { t with stage := 0 } :: x.tx.tail }

/-- A bit error of the controller as transmitter: its counter rises by 8, but not an error-passive one's that misses an acknowledgement (ISO 11898-1);
above 255 it goes bus-off (R440). -/
def State.txError (s : State) (c : Nat) (noAck : Bool := false) : State :=
  let s := s.inc 0x8E3 c
  let s := if noAck && (s.ctl c).passive then s else s.canCount c fun x => { x with tec := min 256 (x.tec + 8) }
  if 255 < (s.ctl c).tec ∧ (s.ctl c).off = 0 then s.goBusOff c else s

/-- A measured delay beyond CAN.TDC_MAX_NS (R431), at most once a minute. -/
def State.tdcRange (s : State) (c clocks : Nat) : State :=
  let s := (s.inc 0x8E6 c).setCtl c { s.ctl c with delay := clocks }
  let due : Bool := match (s.ctl c).tdcRaised with
    | some t => decide (t + 60000000000 ≤ s.now)
    | none => true
  if due then (s.setCtl c { s.ctl c with tdcRaised := some s.now }).raise 0x9021 c 1 (u8 clocks) else s

/-- The outcome of a WSF PDU, always one-shot (R433, R435). -/
def State.wsfOutcome (s : State) (c conn : Nat) (f : CanEntry) (o : CanOutcome) : State :=
  let x := s.ctl c
  let gone := s.setCtl c { x with wsf := x.wsf.del conn, wsfTx := none }
  match o with
  | .started => s
  | .arbWon => s
  | .arbLost => gone.inc 0x8E2 c
  | .success _ n => if s.tooSlow c f n then (gone.tdcRange c n).txError c
    else ((gone.keepDelay c f n).canSent c f).canCount c fun x => { x with tec := x.tec - 1 }
  | .error => gone.txError c
  | .noAck => gone.txError c true
  | .measured n => if s.tooSlow c f n then (gone.tdcRange c n).txError c else s.keepDelay c f n

/-- The head met an error: off the bus it stays as bus-off left it (Table 15.4), else R435 and R436 apply. -/
def State.headError (s : State) (c : Nat) (t : TxFrame) (noAck : Bool := false) : State :=
  let t := { t with err := true }
  let s := (s.setCtl c { s.ctl c with tx := t :: (s.ctl c).tx.tail }).txError c noAck
  if (s.ctl c).off = 0 then s.headFailed c t else s

/-- The outcome of the FIFO head (R433 to R436): a won arbitration makes an abort that waited for it ineffective. -/
def State.headOutcome (s : State) (c : Nat) (t : TxFrame) (o : CanOutcome) : State :=
  let x := s.ctl c
  let put := fun (t : TxFrame) => s.setCtl c { x with tx := t :: x.tx.tail }
  match o with
  | .started => put { t with stage := 1 }
  | .arbWon => put { t with stage := 2, abort := if t.stage = 2 then t.abort else false }
  | .arbLost => (s.inc 0x8E2 c).headFailed c { t with lost := true }
  | .success st n => if s.tooSlow c t.f n then (s.tdcRange c n).headError c t
    else (s.headSent c t st n).canCount c fun x => { x with tec := x.tec - 1 }
  | .error => s.headError c t
  | .noAck => s.headError c t true
  | .measured n => if s.tooSlow c t.f n then (s.tdcRange c n).headError c t else s.keepDelay c t.f n

/-- CAN_TX_DONE (R434): what is in transmission, else what is offered - a WSF PDU ahead of the FIFO head - moves on or ends. Nothing
is transmitted off the bus or in bus monitoring mode (R429, R440). -/
def execCanTxDone (ctl : Nat) (outcome : CanOutcome) (s : State) : Result :=
  .next <|
    let x := s.ctl ctl
    if 2 ≤ ctl ∨ s.canMonitor ctl ∨ x.off ≠ 0 then s
    else match x.wsfTx.bind fun n => (x.wsf.find n).map fun f => (n, f) with
      | some (n, f) => s.wsfOutcome ctl n f outcome
      | none => match x.tx, x.wsf with
        | t :: _, [] => s.headOutcome ctl t outcome
        | t :: rest, (n, f) :: _ =>
          if t.stage ≠ 0 then s.headOutcome ctl t outcome
          else (s.setCtl ctl { x with tx := t :: rest, wsfTx := some n }).wsfOutcome ctl n f outcome
        | [], (n, f) :: _ => (s.setCtl ctl { x with wsfTx := some n }).wsfOutcome ctl n f outcome
        | [], [] => s

/-- The action of the first filter element a frame matches (R438): 1 FIFO 0, 2 FIFO 1, 3 reject. -/
def State.canFilter (s : State) (c : Nat) (id : BitVec 32) : Nat :=
  let blob := s.par 0x8C9 c
  match (List.range 32).find? fun i =>
      let want := BitVec.ofNat 32 (fieldAt blob (12 * i) 4)
      let mask := BitVec.ofNat 32 (fieldAt blob (12 * i + 4) 4)
      fieldAt blob (12 * i + 8) 1 != 0 && (id ^^^ want) &&& mask &&& 0x1FFFFFFF == 0 && id.getLsbD 31 == want.getLsbD 31 with
  | some i => fieldAt blob (12 * i + 8) 1
  | none => s.parN 0x8CA c

/-- A frame finds its FIFO full (R439). -/
def State.canOverflow (s : State) (c : Nat) : State :=
  let s := s.inc 0x8E5 c
  let due : Bool := match (s.ctl c).rxRaised with
    | some t => decide (t + 60000000000 ≤ s.now)
    | none => true
  if due then (s.setCtl c { s.ctl c with rxRaised := some s.now }).raise 0x9010 c 1 else s

/-- A frame reaches its FIFO with the stamp of its start (R438, R439). -/
def State.canStore (s : State) (c : Nat) (f : CanEntry) (sof : BitVec 32) : State :=
  let x := s.ctl c
  let item := (sof, f)
  match s.canFilter c f.id with
  | 1 => if x.rx0.length < 64 then s.setCtl c { x with rx0 := x.rx0 ++ [item] } else s.canOverflow c
  | 2 => if x.rx1.length < 64 then s.setCtl c { x with rx1 := x.rx1 ++ [item] } else s.canOverflow c
  | _ => s

/-- A received frame that meets an error: an error frame, but none from bus monitoring (R428, R429). -/
def State.rxError (s : State) (c : Nat) : State :=
  if s.canMonitor c then s else (s.inc 0x8E3 c).canCount c fun x => { x with rec_ := min 255 (x.rec_ + 1) }

/-- CAN_RX_FRAME (R438, R439), with the stamp of its start of frame; a recessive res bit is a protocol exception or an error by CAN.PEX. -/
def execCanRxFrame (ctl : Nat) (f : CanEntry) (sof : BitVec 32) (flaw : CanFlaw) (s : State) : Result :=
  .next <|
    if 2 ≤ ctl ∨ (s.ctl ctl).off ≠ 0 then s
    else match flaw with
      | .res => if s.parN 0x8C5 ctl = 1 then (s.inc 0x8E7 ctl).raise 0x9020 ctl 0 else s.rxError ctl
      | .error => s.rxError ctl
      | .none =>
        let s := (s.inc 0x8E1 ctl).canCount ctl fun x => { x with rec_ := if 127 < x.rec_ then 127 else x.rec_ - 1 }
        match s.wsfOfCan ctl f.id with
        | some _ => s.wsfReceive (ctl + 1) f.id.toNat f.data
        | none => s.canStore ctl f sof

/-- CAN_BUS_OFF (R440). -/
def execCanBusOff (ctl : Nat) (s : State) : Result :=
  .next <| if 2 ≤ ctl ∨ s.canMonitor ctl ∨ (s.ctl ctl).off ≠ 0 then s else s.goBusOff ctl

/-- CAN_RECOVERED (R440). -/
def execCanRecovered (ctl : Nat) (s : State) : Result :=
  .next <| if ctl < 2 ∧ (s.ctl ctl).off = 3 then
    (s.setCtl ctl { s.ctl ctl with off := 0, tec := 0, rec_ := 0 }).raise 0x9003 ctl 0 else s

end Sys2Proof.Machine
end

