-- ==== Sys2Proof/Machine/Fio.lean ====
section
/-! DEFINITION. Chapter 16, the field die: the 10 kHz scan, standard inputs and their edges, standard outputs with their
diagnostics, and the field watchdog (R445 to R459). -/

namespace Sys2Proof.Machine
open Sys2Proof

def State.di (s : State) (n : Nat) : DiSt := s.fio.di.at n {}
def State.setDi (s : State) (n : Nat) (x : DiSt) : State := { s with fio := { s.fio with di := s.fio.di.set n x } }

/-- A change of a filtered state joins the edge queue (R448). -/
def State.stampEdge (s : State) (n : Nat) (v : Bool) : State :=
  let s := s.inc 0x4A0 0
  if s.fio.edges.length < 64 then { s with fio := { s.fio with edges := s.fio.edges ++ [⟨ts32 s.now, n, v⟩] } }
  else
    let s := s.inc 0x4A1 0
    let due : Bool := match s.fio.ovflAt with
      | some t => decide (t + 60000000000 ≤ s.now)
      | none => true
    if due then ({ s with fio := { s.fio with ovflAt := some s.now } }).raise 0xA002 n 0 else s

/-- The comparator of an input (R446): high from 10.0 V, low from 9.2 V, else as it was. -/
def rawLevel (was : Bool) (mv : Nat) : Bool := if 10000 ≤ mv then true else if mv ≤ 9200 then false else was

/-- Since when a condition has held: kept while it holds, else none. -/
def since (now : Nat) (holds : Bool) (was : Option Nat) : Option Nat := if holds then some (was.getD now) else none

/-- The filter of an input at a scan (R447, R449); a channel out of service keeps its state (01 R11). -/
def State.scanDi (s : State) (n : Nat) (high : Bool) : State :=
  let x := s.di n
  let top := s.parN 0x480 n
  if x.isOpen || s.sys.fieldErr.getLsbD n then s
  else if !s.fio.sampled then s.setDi n { x with c := if high then top else 0, state := high }
  else
    let c := if high then min (x.c + 1) top else min x.c top - 1
    if c = top ∧ !x.state then (s.setDi n { x with c := c, state := true }).stampEdge n true
    else if c = 0 ∧ x.state then (s.setDi n { x with c := c, state := false }).stampEdge n false
    else s.setDi n { x with c := c }

/-- One sample of one input: comparator, open-wire times, filter (R446, R447, R449). -/
def State.sampleDi (s : State) (n : Nat) (d : DiIn) : State :=
  let x := s.di n
  let raw := rawLevel x.raw d.mv
  let low : Bool := d.ua < 350
  let s := s.setDi n { x with raw := raw, lowAt := since s.now (low && !x.isOpen && bitOf (s.parN 0x481 0) n) x.lowAt
                              fineAt := since s.now (!low && x.isOpen) x.fineAt }
  s.scanDi n raw

/-- What a scan measures of an output, and how long the conditions of Table 16.1 have stood. -/
def DoSt.sense (o : DoSt) (now : Nat) (on : Bool) (d : DoIn) : DoSt :=
  { o with ma := d.ma, hot := decide (135 < d.temp), past := decide (150 < d.temp), limitAt := since now (on && d.limit) o.limitAt,
           openAt := since now (on && decide (d.ma.toNat < 10)) o.openAt, highAt := since now (!on && decide (3000 < d.mv)) o.highAt,
           lowAt := since now (decide (d.supplyMv < 17000)) o.lowAt, supplyUp := decide (19000 < d.supplyMv) }

/-- The outputs at a scan (R445, R450, R454): without the permit nothing is held; with a valid frame each follows FIO.DO_SET, without one it
keeps its state until the watchdog acts. -/
def State.scanDo (s : State) (d : ScanData) (n : Nat) : State :=
  let on := s.doOn n
  s.updDo n fun o =>
    { (match d.dout[n]? with
        | some m => o.sense s.now on m
        | none => o) with
      cmd := if !s.permit then false else if s.fio.wdog || !d.frameOk then o.cmd else bitOf (s.parN 0x482 0) n }

/-- FIELD_SCAN (R445): the next whole multiple of 100 us of module time. -/
def execFieldScan (d : ScanData) (s : State) : Result :=
  .next <|
    let s := s.advanceTo ((s.now / 100000 + 1) * 100000)
    if !s.fieldOn then s else
      let s := s.boundary .field
      let s := if d.frameOk then { s with fio := { s.fio with wdog := false, frameAt := s.now } } else s
      let s := (List.range 16).foldl (fun s n => s.sampleDi n (d.di.getD n ⟨0, 0⟩)) s
      let s := (List.range 8).foldl (fun s n => s.scanDo d n) s
      let s := { s with fio := { s.fio with sampled := true, si := d.si, so := d.so, missed := if d.replyOk then 0 else s.fio.missed + 1 } }
      s.siScan d.si

/-- DI_OPEN_WIRE (R449): an enabled input open, or recovered, for 100 ms. -/
def execDiOpenWire (n : Nat) (isOpen : Bool) (s : State) : Result :=
  .next <|
    let x := s.di n
    if 16 ≤ n then s
    else match isOpen, x.isOpen, x.lowAt, x.fineAt with
      | true, false, some t, _ =>
        let s := s.advanceTo (t + 100000000)
        let s := s.setDi n { x with isOpen := true, state := false, c := 0, lowAt := none }
        let s := if x.state then s.stampEdge n false else s
        s.raise 0xA001 n 1
      | false, true, _, some t => (s.advanceTo (t + 100000000)).setDi n { x with isOpen := false, c := 0, fineAt := none }
      | _, _, _, _ => s

/-- Over-temperature latches an output off at once (Table 16.1). -/
def State.doOverTemp (s : State) (n : Nat) : State :=
  if !(s.dout n).past || (s.dout n).ot then s else ((s.updDo n fun o => { o with ot := true }).inc 0x4A2 0).raise 0xA013 n 1

/-- An overload that has stood for FIO.DO_OVL_MS latches an output off; an over-temperature that stands as well is recorded first (Tables 16.1,
16.2). -/
def State.doOverload (s : State) (n t : Nat) : State :=
  let s := (s.advanceTo (t + s.parN 0x484 0 * 1000000)).doOverTemp n
  ((s.updDo n fun o => { o with ovl := true }).inc 0x4A2 0).raise 0xA010 n 1

/-- DO_DIAGNOSTIC (Table 16.1), where the condition stands: its time passes, and it is reported or ends. -/
def execDoDiagnostic (n : Nat) (d : DoDiag) (s : State) : Result :=
  .next <|
    let on := bitOf (s.parN 0x483 0) n
    let o := s.dout n
    if 8 ≤ n then s else match d with
      | .overTemp => s.doOverTemp n
      | .overload => (match o.limitAt with
        | some t => if o.ovl then s else s.doOverload n t
        | none => s)
      | .openOn => (match o.openAt with
        | some t => if on && !o.openOn then ((s.advanceTo (t + 100000000)).updDo n fun o => { o with openOn := true }).raise 0xA011 n 1 else s
        | none => s)
      | .offHigh => (match o.highAt with
        | some t => if on && !o.offHigh then ((s.advanceTo (t + 100000000)).updDo n fun o => { o with offHigh := true }).raise 0xA012 n 1 else s
        | none => s)
      | .supplyLow => (match o.lowAt with
        | some t => if on && !o.supplyLow then ((s.advanceTo (t + 1000000)).updDo n fun o => { o with supplyLow := true }).raise 0xA014 n 1 else s
        | none => s)
      | .supplyOk => if o.supplyUp then s.updDo n fun o => { o with supplyLow := false } else s
      | .openOnEnd => if o.openAt.isNone then s.updDo n fun o => { o with openOn := false } else s
      | .offHighEnd => if o.highAt.isNone then s.updDo n fun o => { o with offHigh := false } else s

/-- An output's declared safe state (R454): off, on, or its present state. -/
def State.safeState (s : State) (n : Nat) : Bool :=
  match fieldAt (s.par 0x485 0) n 1 with
  | 0 => false
  | 1 => s.permit
  | _ => s.doOn n

/-- FIELD_WATCHDOG (R454). -/
def execFieldWatchdog (s : State) : Result :=
  .next <|
    if !s.fieldOn ∨ s.fio.wdog then s else
      let s := (s.advanceTo (s.fio.frameAt + s.parN 0x486 0 * 1000000)).inc 0x4A3 0
      let s := (List.range 8).foldl (fun t n => t.updDo n fun o => { o with cmd := s.safeState n }) s
      { s with fio := { s.fio with wdog := true } }

/-- BARRIER_LINK_LOST (R454): the reply was missed on 3 scans in a row; the handling of severity 3 ends drive and the twin takes over. -/
def execBarrierLinkLost (s : State) : Result :=
  .next <| if s.fio.missed < 3 then s else ({ s with fio := { s.fio with missed := 0 } }).raise 0xA020 0 3

/-- The field die is reset (R453, Table 1.6): every field output is de-energised, the safety outputs' switches among them. -/
def State.fieldReset (s : State) : State := [0, 1, 2, 3].foldl State.deenergise (s.fieldOff).openAll

/-- FIELD_SUPPLY_LOW (R453). -/
def execFieldSupplyLow (s : State) : Result := .next <| s.fieldReset.raise 0xA030 0 3

/-- FIO.DO_STATUS of an output (Table 16.4). -/
def State.doStatus (s : State) (n : Nat) : Nat :=
  let o := s.dout n
  ofBits [s.doOn n, s.permit, s.fio.wdog, o.ovl, o.ot, o.openOn, o.offHigh, o.supplyLow] + o.ma.toNat * 65536

/-- FIO.DI_OPEN (Table 16.5). -/
def State.diOpen (s : State) : Nat := ofBits ((List.range 16).map fun n => (s.di n).isOpen)

/-- FIO_STATUS (Table 16.3). -/
def execFioStatus (h : Hdr) (s : State) : Result :=
  .next <| s.wcpReq 0x0420 h [] fun s =>
    s.reply 0x0420 h 0 (leBytes 2 s.fio.diState.toNat ++ u16 s.diOpen ++ leBytes 1 s.fio.si.toNat ++ [0]
      ++ ((List.range 8).flatMap fun n => u32 (s.doStatus n)) ++ leBytes 2 s.fio.so.toNat)

/-- FIO_EDGES (R448): the oldest edges leave the queue. -/
def execFioEdges (h : Hdr) (max : Byte) (s : State) : Result :=
  .next <| s.wcpReq 0x0421 h [max] fun s =>
    let es := s.fio.edges.take max.toNat
    ({ s with fio := { s.fio with edges := s.fio.edges.drop max.toNat } }).reply 0x0421 h 0
      (time80Bytes s.now ++ u8 es.length
        ++ es.flatMap fun (e : Edge) => leBytes 4 e.stamp.toNat ++ u8 e.input ++ u8 (if e.state then 1 else 0))

/-- An output's latch cleared (R452, Table 16.2): it follows FIO.DO_SET at the next scan, or its safe state under the watchdog. -/
def State.clearDo (s : State) (n : Nat) : State :=
  s.updDo n fun o => if o.ovl || o.ot then
    { o with ovl := false, ot := false, cmd := s.fio.wdog && fieldAt (s.par 0x485 0) n 1 == 1 && s.permit } else o

/-- FIO_DO_CLEAR (R452): refused for an output whose switch is still above 135 degrees. -/
def execFioDoClear (h : Hdr) (mask : Byte) (s : State) : Result :=
  .next <| s.wcpReq 0x0422 h [mask] fun s =>
    let ns := bitsSet 8 mask.toNat
    let sts := ns.map fun n => if (s.dout n).hot then 0x0105 else 0
    let s := ns.foldl (fun s n => if (s.dout n).hot then s else s.clearDo n) s
    s.reply 0x0422 h 0 (sts.flatMap u16)

end Sys2Proof.Machine
end

