-- ==== Sys2Proof/Machine/Boundary.lean ====
section
/-! DEFINITION. The control period (R171 to R173, R210 to R214): boundary, release instant and application instant, the state copies
that leave at release (R250, R378), and the standby's use of them (R384, R385). -/

namespace Sys2Proof.Machine
open Sys2Proof

/-! ### The latch (R207, R209 to R212) -/

/-- One input of a bitstream as ±1: 0 DSI, 1 DSV, 2 DSB. -/
def inputBits (k : Nat) (l : List (Bool × Bool × Bool)) : List Int :=
  l.map fun b => if (match k with
    | 0 => b.1
    | 1 => b.2.1
    | _ => b.2.2) then 1 else -1

/-- Q15 of a latched S_3 (R211): the density, then gain and offset of the input in units of its full scale. -/
def State.latchQ15 (s : State) (c k : Nat) (s3 : Int) : Int :=
  let m := s.parN 0x382 c
  let n := if m = 0 then 0 else satQ15 (rheDiv (s3 * 32768) (m * m * m : Nat))
  let fsId := if k = 0 then 0x302 else 0x303
  let fs := s.fsOf fsId (0x383 + 2 * k) c
  toQ15 (Sys2Proof.Machine.mac (s.parQ fsId (0x384 + 2 * k) c * 32768) (q15xOf (if fs = 0 then 0 else s.parF (0x383 + 2 * k) c / fs)) n)

/-- The scaled value of an input of a channel after the bits given, newest first. -/
def State.inputQ15 (s : State) (c k : Nat) (bits : List (Bool × Bool × Bool)) : Int :=
  let m := s.parN 0x382 c
  s.latchQ15 c k (sinc m (inputBits k (bits.take (3 * m))) 3)

/-- Changes of one input over bits given oldest first, after the bit before them. -/
def changes (k : Nat) (before : List (Bool × Bool × Bool)) (l : List (Bool × Bool × Bool)) : Nat :=
  let v := inputBits k (before.take 1 ++ l)
  ((v.zip (v.drop 1)).filter fun p => p.1 != p.2).length

/-- Clock, stuck and frozen inputs and gate-driver line as this boundary finds them (R207, R221, R226, R231, Table 8.7). -/
def ChSt.sense (x : ChSt) (d : DsSample) (now periodNs fhz tolPpm : Nat) : ChSt :=
  let edges := d.bits.length
  let f := if periodNs = 0 then 0 else edges * 1000000000 / periodNs
  let bad := decide (|((f : Int) - (fhz : Int) : ℚ)| * 1000000 > (fhz * tolPpm : Nat))
  let new := (List.range 3).map fun k => changes k x.bits d.bits
  let tr := (List.range 3).map fun i => if x.stuck.getLsbD i then x.trans.getD i 0 + new.getD i 0 else 0
  let stuck := ofBits ((List.range 3).map fun i => x.stuck.getLsbD i && decide (tr.getD i 0 < 256))
  let still := (List.range 3).any fun i => x.stuck.getLsbD i && new.getD i 0 == 0
  { x with fclk := f, clkBad := if bad then x.clkBad + 1 else 0, clkLoss := x.clkLoss && edges == 0,
           clkRange := x.clkRange && bad, trans := tr, stuck := BitVec.ofNat 3 stuck, stuckAt := if still then some now else x.stuckAt,
           gdf := d.gdLow, turnipStuck := x.turnipStuck && new.getD 0 0 == 0 }

/-- A latched input has not changed in its four low bits (R226). -/
def lowSame (a b : Int) : Bool := (a - b) % 16 == 0

/-- The latched values take their place; unchanged periods are counted while the outputs switch, and a change ends a frozen input
(R226, Table 8.7). -/
def ChSt.take (x : ChSt) (run : Bool) (stamp : BitVec 32) (i v b : Int) : ChSt :=
  let same := [lowSame i x.dsi, lowSame v x.dsv, lowSame b x.dsb]
  { x with dsi := i, dsv := v, dsb := b, capture := stamp,
           same := (List.range 3).map fun k => if run && same.getD k false then x.same.getD k 0 + 1 else 0,
           frozen := BitVec.ofNat 3 (ofBits ((List.range 3).map fun k => x.frozen.getLsbD k && same.getD k false)) }

/-- One channel at the latch. -/
def State.latch (s : State) (c : Nat) (d : DsSample) : State :=
  let bits := ((d.bits.reverse) ++ (s.ch c).bits).take (3 * s.parN 0x382 c)
  let run := s.places c && decide (0 < s.onOf ((s.lane c).applied.getD 0))
  s.updCh c fun x => { (x.sense d s.now (s.parN 0x300 0) (s.parN 0x380 c) (s.parN 0x381 c)).take run d.stamp (s.inputQ15 c 0 bits)
    (s.inputQ15 c 1 bits) (s.inputQ15 c 2 bits) with bits := bits }

/-- The offset of the time base from whole multiples of the period: the multiple that its last boundary stands for (R214). -/
def State.aligned (s : State) : Nat :=
  let t := s.parN 0x300 0
  let b := s.loop.base
  if b % t ≤ t / 2 then b - b % t else b + (t - b % t)

/-- The points of the 20 µs grid of the time base in the period that the last boundary ended (R212). -/
def State.gridTimes (s : State) : List Nat :=
  let a := s.aligned
  let k := (a - s.parN 0x300 0) / 20000
  (List.range (a / 20000 - k)).map fun i => 20000 * (k + 1 + i) + s.loop.base - a

/-- The four channels' inputs at a point of the grid, which their bitstreams had reached after the counts of bits given. -/
def State.gridSet (s : State) (d : Four DsSample) (j : Nat) : List Int :=
  [0, 1, 2, 3].flatMap fun c => (List.range 3).map fun k =>
    s.inputQ15 c k ((((d.get c).bits.take ((d.get c).grid.getD j 0)).reverse) ++ (s.ch c).bits)

/-- The 50 kS/s stream (R212): at a period of 20 µs the latched values, else the inputs at each point of the grid, from the state before the latch; it feeds
the current pairing and the flight buffer. -/
def State.streamIn (s : State) (before : State) (d : Four DsSample) : State :=
  if s.parN 0x300 0 = 20000 then [0, 1, 2, 3].foldl (fun s c => s.pushSample c (s.ch c).dsi) s
  else
    let sets := s.gridTimes.zipIdx.map fun p => (p.1, before.gridSet d p.2)
    let s := sets.foldl (fun s p => [0, 1, 2, 3].foldl (fun s c => s.pushAt c p.1 (p.2.getD (3 * c) 0)) s) s
    if sets = [] then s else s.fbPush 2 s.now (u16 sets.length ++ [0, 0] ++ sets.flatMap fun p => p.2.flatMap (sBytes 2))

/-- What a lost mixed-signal die still brings (Table 1.6): no bits. -/
def State.heardBits (s : State) (d : Four DsSample) : Four DsSample :=
  if s.sys.diesLost.getLsbD 2 then d.map fun x => { x with bits := [], grid := [] } else d

/-- The safety cores' own overcurrent decision on the latched value (R344): 2 consecutive periods. -/
def State.ocProcessor (s : State) (c : Nat) : State :=
  let n := if s.ocBeyond c (s.ch c).dsi then (s.ch c).ocRun + 1 else 0
  let s := s.updCh c fun x => { x with ocRun := n }
  if n = 2 then (s.tripFault 0x6018 c [c]).updStr c fun x => { x with doubt := some (s.now, none) } else s

/-! ### The standby's start from the copy (R250, R384) -/

/-- The PI loops that take part for a direction (R180, Table 7.3). -/
def State.partOf (s : State) (c : Nat) (charge : Bool) : List Nat :=
  [1, 2, 3, 5].filter fun k => bitOf (s.parN 0x301 c) k && (k != 2 || charge) && (k != 3 || !charge)

/-- The lane state a LOOP_COPY record brings. The copy names neither the loops that took part nor C6's accumulator: the first follow from the direction,
the second from the own state where it agrees with the copied output (assumption log 68). -/
def LaneSt.ofCopy (l : LaneSt) (c : ChanCopy) (part : List Nat) (fadeN now : Nat) : LaneSt :=
  { l with i1 := c.i1, i2 := c.i2, i3 := c.i3, i5 := c.i5, iIl := c.iIl, x1 := c.x1, x2 := c.x2, y1 := c.y1, y2 := c.y2, charge := c.dir,
           prevPart := if c.winner = 15 then [] else part, c7 := c.c7, c6 := if toQ15 l.c6 = c.a6 then l.c6 else c.a6 * 32768,
           injGate := c.injGate, injFull := c.injFull, phase := c.phase,
           injReq := c.injGate || c.phase.any fun p => p != 0,
           rearm := c.rearm, fade := (rheDiv (c.fade * fadeN) 32767).toNat, fresh := c.winner == 15,
           staleSince := if c.staleSet then some (now - c.staleMs * 1000000) else none }

/-- The generator state a LOOP_COPY record brings. -/
def GenSt.ofCopy (g : GenSt) (c : ChanCopy) : GenSt :=
  let st := c.profStatus.toNat
  { g with x := c.pgX, v := c.pgV, tgt := c.pgT, fresh := g.fresh || c.pgT != g.tgt, phase := st % 4,
           mode := if st.testBit 3 then .emergency else .run, overshoot := st.testBit 5,
           atRest := st.testBit 7 || (c.pgV == 0 && g.atRest) }

/-- The shadowed run state of a channel (R389): its own disable latch keeps it FAULTED. -/
def State.shadowCh (s : State) (c : Nat) (st : Nat) : State :=
  let x := s.ch c
  if x.hwDisable ∨ x.state = st then s
  else if st = 0 ∨ 4 ≤ st then (s.endChannel c (min st 4) 0x0105 0)
  else s.updCh c fun x => { x with state := st }

/-- One channel continues from its record. -/
def State.loadCh (s : State) (c : Nat) (r : ChanCopy) : State :=
  let s := s.shadowCh c r.chState
  let s := s.setGen c ((s.gen c).ofCopy r)
  if (s.ch c).state = 0 ∨ (s.ch c).state = 4 then s
  else s.setLane c ((s.lane c).ofCopy r (s.partOf c r.dir) (s.parN 0x351 c) s.now)

/-- No copy of the previous period came: it is uncompared for every running channel (R382, R383). -/
def State.missedCopy (s : State) : State :=
  let run := [0, 1, 2, 3].filter fun c => (s.ch c).state == 2
  if run = [] then s
  else ({ s with twin := { s.twin with uncomp := s.twin.uncomp.mapIdx fun c n => if run.contains c then n + 1 else n } }).inc 0x722 0

/-- The previous period's copy is missing: the standby runs ahead (R385). -/
def State.runAhead (s : State) : State :=
  let s := s.missedCopy
  if s.twin.ahead then s else { s with twin := { s.twin with ahead := true, aheadSince := s.now } }

/-- A STANDBY module starts its period from the copy of the previous one, or runs ahead without it (R384, R385). -/
def State.shadowStart (s : State) : State :=
  match s.twin.copy with
  | some (m, _) =>
    if s.twin.copyNew then
      let s := { s with twin := { s.twin with copyNew := false, ahead := false, aheadLong := false },
                        loop := { s.loop with period := m.period } }
      [0, 1, 2, 3].foldl (fun s c => s.loadCh c (m.ch.get c)) s
    else s.runAhead
  | none => s.runAhead

/-! ### A lane's period (R172) -/

/-- What a computed period reports: counters and faults of chapter 7. -/
def State.laneReports (s : State) (c : Nat) (o : LaneOut) : State :=
  let l := o.lane
  let s := if l.winner < 8 then s.inc 0x361 (8 * c + l.winner) else s
  let s := if l.dutySat then s.inc 0x364 c else s
  let s := if o.gateClosed then s.inc 0x363 c else s
  let s := if o.nowStale then (s.inc 0x362 c).raise 0x3010 c 1 else s
  let s := if o.nowEstStale then s.raise 0x3011 c 1 else s
  let s := match l.limitUp with
    | some _ => if l.winner = 0 then (s.updLane c fun l => { l with limitUp := none }).raise 0x3031 c 0 else s
    | none => s
  if o.undervolt then (s.faultChannel c).raise 0x3012 c 2 else s

/-- The stop condition of R233: the ramp's output at zero, then periods of low current. -/
def State.stopWatch (s : State) (c : Nat) : State :=
  let x := s.ch c
  if x.state ≠ 3 then s
  else
    let g := s.gen c
    let zero := g.x == 0 && g.v == 0
    let low := decide (|x.dsi| ≤ s.parQ 0x302 0x38E c)
    s.updCh c fun x => { x with zeroAt := if zero then some (x.zeroAt.getD s.now) else none,
                                lowRun := if zero && low then x.lowRun + 1 else 0 }

/-- Lanes stand still while a known-answer test runs on them (R382, R387). -/
def State.lanesHeld (s : State) : Bool := s.twin.kat.isSome

/-- The period of a STARTING, RUNNING or STOPPING channel. -/
def State.runLane (s : State) (c : Nat) : State :=
  let st := (s.ch c).state
  if st = 0 ∨ st = 4 ∨ (s.sys.lane.get c).fenced then s
  else
    let s := (s.refTick c).stopWatch c
    if s.lanesHeld then s
    else
      let x := s.ch c
      let o := s.lanePeriod c x.dsi x.dsv x.dsb (s.r0 c)
      (s.setLane c o.lane).laneReports c o

/-- A channel runs, so the time base only slews (R214). -/
def State.pwmRuns (s : State) : Bool := [0, 1, 2, 3].any fun c => (s.ch c).state == 2 || (s.ch c).state == 3

/-- What ±50 ppm allow over the next n periods (R214). -/
def State.slewMax (s : State) (n : Nat) : Nat :=
  let t := s.parN 0x300 0
  let k := s.loop.period.toNat
  (k + n) * t / 20000 - k * t / 20000

/-- The next boundary of the time base (R214): at the next whole multiple of the period, or while a channel runs one period after the last, moved by at
most 50 ppm toward such a multiple, on a standby toward the boundaries of its active (R378). -/
def State.nextBoundary (s : State) : Nat :=
  let t := s.parN 0x300 0
  if !s.pwmRuns then (s.now / t + 1) * t
  else
    let n := (s.now - s.loop.base) / t + 1
    let b := s.loop.base + n * t
    let step := s.slewMax n
    if s.isStandby then ((b : Int) + max (-(step : Int)) (min (step : Int) s.loop.steer)).toNat
    else if b % t ≤ t / 2 then b - min (b % t) step else b + min (t - b % t) step

/-- What is left to steer after a boundary. -/
def State.steerLeft (s : State) : Int :=
  let n := (s.now - s.loop.base) / s.parN 0x300 0 + 1
  let step := s.slewMax n
  if s.pwmRuns then s.loop.steer - max (-(step : Int)) (min (step : Int) s.loop.steer) else 0

/-- A boundary of the time base; a standby starts it from its active's copy (R384). -/
def State.toBoundary (s : State) : State :=
  let b := s.nextBoundary
  let left := s.steerLeft
  let s := s.advanceTo b
  let s := if s.isStandby then s.shadowStart else s
  { s with loop := { s.loop with base := b, steer := left, period := s.loop.period + 1, stamp := ts32 b, open_ := true, passed := false } }

/-- CONTROL_BOUNDARY (R172, R210): every channel is latched, the safety cores judge, the lanes of an ACTIVE or STANDBY module compute.
Periods run in P0 only. -/
def execControlBoundary (samples : Four DsSample) (s : State) : Result :=
  .next <|
    if s.sys.power ≠ .p0 then s
    else
      let d := s.heardBits samples
      let b := ((s.toBoundary).boundary .channels).boundary .reference
      let s := [0, 1, 2, 3].foldl (fun s c => (s.latch c (d.get c)).ocProcessor c) b
      let s := s.streamIn b d
      if s.isActive || s.isStandby then
        [0, 1, 2, 3].foldl (fun s c => s.impBoundary c) ([0, 1, 2, 3].foldl State.runLane s)
      else s

/-! ### The release instant (R172, R173) -/

/-- The active's twin is a STANDBY that could take over (R173; assumption log 61). -/
def State.twinEligible (s : State) : Bool := s.isActive && s.twinReady

/-- A lane that missed its release (R173): no duty, the channel's PWM disabled. -/
def State.missRelease (s : State) (c : Nat) : State :=
  let sev := if s.twinEligible then 3 else 2
  let s := (s.inc 0x365 c).faultChannel c
  (s.updLane c fun l => { l with deadline := true }).raise 0x3001 c sev

/-- The duty goes to the shadow registers of the PWM timers; a channel with a frozen input keeps its last duty (R172, R226, R384). -/
def State.releaseLane (s : State) (c : Nat) : State :=
  let x := s.ch c
  if x.state = 0 ∨ x.state = 4 then s
  else
    let s := if x.freeze.isSome then s
      else s.updLane c fun l => { l with shadow := if l.hasDuty then some l.duty else none, shadowDir := l.charge }
    s.placeEdges c (s.onOf ((s.lane c).shadow.getD 0))

/-- Bytes 34 and 35 of a period record: per channel disable latch, Turnip gate closed, safety-core gate closed, GD_FLTn low. -/
def State.flagNibbles (s : State) : Nat :=
  ofBits ([0, 1, 2, 3].flatMap fun c => [(s.ch c).hwDisable, !s.gateTurnip c, !s.gateSafe c, (s.ch c).gdf])

/-- The period record of 36 bytes (Table 18.5). -/
def State.periodRecord (s : State) : Bytes :=
  [0, 1, 2, 3].flatMap (fun c => sBytes 2 (s.ch c).dsi ++ sBytes 2 (s.ch c).dsv ++ sBytes 2 (s.ch c).dsb)
    ++ [0, 1, 2, 3].flatMap (fun c => sBytes 2 ((s.lane c).shadow.getD 0))
    ++ u16 (([0, 1, 2, 3].map fun c => (s.lane c).winner * 16 ^ c).sum) ++ u16 s.flagNibbles

/-- Fade factor in Q15 (Table 13.4). -/
def State.fadeQ15 (s : State) (c : Nat) : Int :=
  let n := s.parN 0x351 c
  if n = 0 then 32767 else rheDiv ((min (s.lane c).fade n : Nat) * 32767) (n : Int)

/-- A channel record of LOOP_COPY (Table 13.4). -/
def State.chanCopy (s : State) (c : Nat) : Bytes :=
  let l := s.lane c
  let g := s.gen c
  let ms := match l.staleSince with
    | some t => min 65535 ((s.now - t) / 1000000)
    | none => 0
  sBytes 2 (l.shadow.getD 0) ++ u8 (l.winner + 16 * ofBits [l.charge, l.injGate, l.injFull, l.ilHeld]) ++ u8 (s.ch c).state
    ++ (match l.slow with
      | some v => leBytes 2 v.sweep.toNat
      | none => [0, 0])
    ++ u8 (ofBits [l.slowPartial, l.slowStale, l.estStale]) ++ [0]
    ++ (match l.hStamp with
      | some t => leBytes 4 t.toNat
      | none => [0, 0, 0, 0])
    ++ sBytes 5 l.i1 ++ sBytes 5 l.i2 ++ sBytes 5 l.i3 ++ sBytes 5 l.i5 ++ sBytes 5 l.iIl
    ++ sBytes 2 l.x1 ++ sBytes 2 l.x2 ++ sBytes 2 l.y1 ++ sBytes 2 l.y2 ++ sBytes 5 l.c7 ++ sBytes 2 (l.a.getD 6 0)
    ++ l.phase.flatMap (fun p => leBytes 4 p.toNat) ++ sBytes 2 (s.fadeQ15 c) ++ u16 l.rearm ++ u16 ms ++ [0, 0]
    ++ sBytes 8 g.x ++ sBytes 8 g.v ++ sBytes 8 g.tgt ++ u32 (s.profStatus c) ++ [0, 0, 0, 0]

/-- A COMMIT leaves with this copy (R100). -/
def State.carries (s : State) : Option Commit :=
  match s.wcp.commit with
  | some k => if k.placed.contains .loop then none else some k
  | none => none

/-- LOOP_COPY (Tables 13.3 and 13.4). -/
def State.loopCopyBytes (s : State) : Bytes :=
  let carried := s.carries
  let set := match carried with
    | some k => k.whole.filter fun e => pairCoherent e.id (((PRow.find e.id).map (·.cls)).getD 0)
    | none => []
  leBytes 4 s.loop.period.toNat ++ leBytes 4 s.loop.stamp.toNat ++ u32 (s.wcp.generation.toNat + if carried.isSome then 1 else 0)
    ++ u8 (ofBits [!set.isEmpty, s.twin.kat.isSome]) ++ [0, 0, 0]
    ++ (if set.isEmpty then List.replicate 32 0 else setDigest set)
    ++ [0, 1, 2, 3].flatMap s.chanCopy

/-- AXIS_COPY (Table 13.2). -/
def State.axisCopyBytes (s : State) : Bytes :=
  [0, 1, 2, 3].flatMap fun a =>
    let g := s.gen (a + 4)
    sBytes 8 g.x ++ sBytes 8 g.v ++ sBytes 8 g.tgt ++ u32 (s.actStatus a)

/-- The end-of-cycle state copy of the active (R100, R241, R250, R378). -/
def State.sendCopies (s : State) : State :=
  let s := (s.emit (.shallot 0x02 s.loopCopyBytes)).copyValues
  let s := if s.prof.axisNew then ({ s with prof := { s.prof with axisNew := false } }).emit (.shallot 0x03 s.axisCopyBytes) else s
  s.sendSafety

/-- RELEASE_INSTANT (R172, R173, R201): boundary + 0.6 T; bit c of `late` says that lane c has not completed. -/
def execReleaseInstant (late : Nat) (s : State) : Result :=
  .next <|
    if !s.loop.open_ ∨ s.sys.power ≠ .p0 then s
    else
      let t := s.parN 0x300 0
      let s := s.advanceTo (s.loop.base + t * 6 / 10)
      let s := { s with loop := { s.loop with open_ := false } }
      let s := [0, 1, 2, 3].foldl (fun s c =>
        let s := s.updLane c fun l => { l with deadline := false }
        let runs := (s.ch c).state != 0 && (s.ch c).state != 4
        if runs && late.testBit c then s.missRelease c else s.releaseLane c) s
      let s := s.keepRecords.fbPeriod s.loop.period.toNat s.periodRecord
      let s := { s with recd := { s.recd with fb := { s.recd.fb with copy := s.loopCopyBytes } } }
      if s.isActive then s.sendCopies else s

/-! ### The application instant (R214, R220) -/

/-- The last duties of a frozen input are used up: outputs off, fault 0x3102 with the detection's stamp (R226). -/
def State.freezeEnd (s : State) (c : Nat) : State :=
  match (s.ch c).freeze with
  | none => s
  | some (0, t, line) => (s.faultChannel c).raise 0x3102 c 2 (u8 line ++ [0, 0, 0] ++ leBytes 4 t.toNat)
  | some (n + 1, t, line) => s.updCh c fun x => { x with freeze := some (n, t, line) }

/-- A STARTING channel becomes RUNNING at its first application instant, or its start fails (R232). -/
def State.startApply (s : State) (c : Nat) : State :=
  if (s.ch c).state ≠ 1 ∨ (s.lane c).shadow.isNone ∨ !s.isActive then s
  else if s.gateSafe c && s.gateTurnip c then
    ((s.updCh c fun x => { x with state := 2 }).inc 0x3B7 c).startStatus c 0
  else s.faultChannel c

/-- The duty takes effect; the outputs of a channel that may drive are enabled here and nowhere else (R220, R389). -/
def State.applyDuty (s : State) (c : Nat) : State :=
  let st := (s.ch c).state
  if (st ≠ 2 ∧ st ≠ 3) ∨ (s.sys.lane.get c).fenced then s
  else
    let s := s.updLane c fun l => { l with applied := l.shadow, appliedDir := l.shadowDir }
    match (s.lane c).shadow with
    | none => s
    | some d =>
      let drives := s.isActive && s.gateSafe c && s.gateTurnip c && !(s.ch c).hwDisable
      (s.updCh c fun x => { x with driven := drives, onBefore := x.onNow, onNow := s.onOf d }).placeEdges c (s.onOf d)

/-- One channel at the application instant. -/
def State.applyCh (s : State) (c : Nat) : State :=
  let s := s.freezeEnd c
  let s := if (s.ch c).stopNow then s.stopChannel c else s
  (s.startApply c).applyDuty c

/-- A planned handover at a_h (R392): drive ends, the module becomes STANDBY. -/
def State.handAt (s : State) : State :=
  match s.twin.hand with
  | none => s
  | some r =>
    if s.isActive && r.h == s.loop.period then
      let drill := r.why == HandWhy.drill
      let s := match r.op with
        | some op => if r.why == HandWhy.command then s.complete op 0 else s
        | none => s
      let s := s.setLifecycle .standby
      let s := s.raise 0x7002 0 0
      let s := if drill then s.inc 0x727 0 else s
      match r.op with
      | some op => if r.why == HandWhy.command then s
        else
          let s := if r.why == HandWhy.isolate then s.setLifecycle .isolated else s
          s.complete op 0
      | none => s
    else s

/-- Strings whose outputs open once their gates have closed (R350 mode 1). -/
def State.openWaiting (s : State) : State :=
  let rs := s.safe.openSoon
  rs.foldl (fun s r => s.openString r .clamp 0x0105) { s with safe := { s.safe with openSoon := [] } }

/-- APPLICATION_INSTANT (R214): boundary + 0.5 µs. -/
def execApplicationInstant (s : State) : Result :=
  .next <|
    if s.sys.power ≠ .p0 then s
    else
      let s := s.advanceTo (s.loop.base + 500)
      let s := { s with loop := { s.loop with passed := true } }
      ([0, 1, 2, 3].foldl State.applyCh s).openWaiting.handAt

end Sys2Proof.Machine
end

