-- ==== Sys2Proof/Machine/Recorder.lean ====
section
/-! DEFINITION. Chapter 18: the recorder's partitions and record writes (R479 to R483), reading and clearing (R484 to R486), the
flight buffer, its freezing, export and release (R487 to R492), replay (R493, R494). -/

namespace Sys2Proof.Machine
open Sys2Proof

/-! ### Records in their partitions (R479, R481, R483) -/

/-- Slots of a partition (Table 18.3). -/
def partCap (p : Nat) : Nat := [61440, 4096, 256, 256, 4096].getD p 0

def State.part (s : State) (p : Nat) : RecPart := s.recd.part.at p {}

def State.setPart (s : State) (p : Nat) (x : RecPart) : State := { s with recd := { s.recd with part := s.recd.part.set p x } }

/-- The 64 bytes of a record (Table 18.1). -/
def Rec.bytes (r : Rec) (safety : Bool) (mark : Nat) : Bytes :=
  let b := u32 r.seq ++ time80Bytes r.time ++ u8 r.quality ++ u8 r.source ++ u16 r.code ++ u8 r.sev ++ u8 r.inst
    ++ u8 (r.flags / 2 * 2 + if safety then 1 else 0) ++ [0] ++ u32 r.parent ++ [0, 0] ++ padTo 32 r.payload
  b ++ leBytes 3 (crc32c b) ++ u8 mark

/-- A slot's bytes; a slot never written reads zeros. -/
def RecPart.slot (x : RecPart) (i : Nat) : Bytes := (x.slots : SMap Bytes).at i (List.replicate 64 0)

def slotMark (b : Bytes) : Nat := fieldAt b 63 1
def slotSeq (b : Bytes) : Nat := fieldAt b 0 4

/-- The write slot takes 64 bytes and the next slot follows. -/
def RecPart.put (x : RecPart) (cap : Nat) (b : Bytes) : RecPart :=
  let had := slotMark (x.slot x.write) == 0xA5
  let ok := slotMark b == 0xA5
  { x with slots := (x.slots : SMap Bytes).set x.write b, write := if x.write + 1 < cap then x.write + 1 else 0,
           used := min (cap + 1) (x.used + 1), held := x.held - (if had then 1 else 0) + (if ok then 1 else 0),
           newest := if ok then slotSeq b else x.newest }

/-- Valid records in writing order, oldest first, with their slots. -/
def RecPart.valid (x : RecPart) : List (Nat × Bytes) :=
  ((x.slots.filter fun q => x.write ≤ q.1) ++ x.slots.filter fun q => q.1 < x.write).filter fun q => slotMark q.2 == 0xA5

/-- A record of a partition by its sequence. -/
def RecPart.bySeq (x : RecPart) (n : Nat) : Option Bytes := (x.valid.find? fun q => slotSeq q.2 == n).map (·.2)

/-- A copy in the safety partition, or in its overflow ring while that is full (R483). -/
def State.copySafe (s : State) (b : Bytes) : State :=
  let p := s.part 1
  if p.used < 4096 then
    let q := p.put 4096 b
    let s := s.setPart 1 q
    let w := s.parN 0x904 0 * 4096
    if q.used * 100 ≥ w ∧ p.used * 100 < w then s.raise 0xC003 0 0 (u32 q.used) else s
  else
    let p := s.part 2
    let s := s.setPart 2 (p.put 256 b)
    if p.used = 0 then s.raise 0xC002 0 1 else if p.used = 256 then s.raise 0xC004 0 1 else s

/-- A copy keeps every byte of its original but SAFETY and the check over its own bytes. -/
def safeCopy (b : Bytes) : Bytes :=
  let c := patch (b.take 60) 20 (u8 (fieldAt b 20 1 / 2 * 2 + 1))
  c ++ leBytes 3 (crc32c c) ++ [0xA5]

/-- The parent of a safety record is copied before it, unless it already was (R483). -/
def State.copyParent (s : State) (parent : Nat) : State :=
  if parent = 0 ∨ ((s.part 1).bySeq parent).isSome ∨ ((s.part 2).bySeq parent).isSome then s
  else match (s.part 0).bySeq parent with
    | some b => s.copySafe (safeCopy b)
    | none => s

/-- Records the audit partition takes (Table 18.3, 19 R520). -/
def audited (code : Nat) : Bool :=
  code == 0xC020 || code == 0x6003 || code == 0xB006 || (0xD004 ≤ code && code ≤ 0xD008) || code == 0xD012

/-- A write that reads back wrong (R481): the slot is retired, fault 0xC001 at most once per hour. -/
def State.retire (s : State) (r : Rec) : State :=
  let s := (s.setPart 0 ((s.part 0).put 61440 (r.bytes false 0x5A))).inc 0x922 0
  let due : Bool := match s.recd.failAt with
    | some t => decide (t + 3600000000000 ≤ s.now)
    | none => true
  if due then ({ s with recd := { s.recd with failAt := some s.now } }).raise 0xC001 0 1 else s

/-- One record into its partitions. -/
def State.writeRec (s : State) (r : Rec) (good : Bool) : State :=
  let safety := r.code / 256 == 0x60
  let s := if good then s else s.retire r
  let s := (s.setPart 0 ((s.part 0).put 61440 (r.bytes safety 0xA5))).inc 0x920 0
  let s := if safety then (s.copyParent r.parent).copySafe (r.bytes true 0xA5) else s
  if audited r.code then (s.setPart 3 ((s.part 3).put 256 (r.bytes false 0xA5))).inc 0x923 0 else s

/-- RECORD_WRITE (R481): the oldest waiting record; after the power-fail warning only severity 1 and above. -/
def execRecordWrite (good : Bool) (s : State) : Result :=
  .next <| match s.recd.queue with
    | [] => s
    | r :: t =>
      if s.sys.diesLost.getLsbD 4 then s else
      let s := { s with recd := { s.recd with queue := t } }
      if s.sys.vinWarn && r.sev == 0 then s else s.writeRec r good

/-! ### Reading and clearing (R484 to R486, R495) -/

/-- REC_INFO (Table 18.8). -/
def execRecInfo (h : Hdr) (part : Byte) (s : State) : Result :=
  .next <| s.wcpReq 0x0900 h [part] fun s =>
    if 5 ≤ part.toNat then s.fail 0x0900 h 0x0104
    else
      let x := s.part part.toNat
      let old := x.valid.head?.getD (0, [])
      s.reply 0x0900 h 0 (u32 (partCap part.toNat) ++ u32 x.write ++ u32 x.newest ++ u32 (slotSeq old.2) ++ u32 old.1 ++ u32 x.gen ++ u32 x.held)

/-- REC_READ (R484): the slots as they stand. -/
def execRecRead (h : Hdr) (part count : Byte) (slot : BitVec 32) (s : State) : Result :=
  .next <| s.wcpReq 0x0901 h ([part, count, 0, 0] ++ leBytes 4 slot.toNat) fun s =>
    let cap := partCap part.toNat
    if 5 ≤ part.toNat ∨ count = 0 ∨ 20 < count.toNat ∨ cap ≤ slot.toNat then s.fail 0x0901 h 0x0104
    else s.reply 0x0901 h 0 ([count] ++ (List.range count.toNat).flatMap fun i => (s.part part.toNat).slot ((slot.toNat + i) % cap))

/-- Everything waiting is written before the module restarts of its own accord (R507). -/
def State.drain (s : State) : State :=
  if s.sys.diesLost.getLsbD 4 then s else
  (s.recd.queue.filter fun r => !(s.sys.vinWarn && r.sev == 0)).foldl (fun s r => s.writeRec r true)
    { s with recd := { s.recd with queue := [] } }

/-- The audit record just raised is written ahead of the records that wait: these follow the clear (R485, R486). -/
def State.writeAudit (s : State) : State :=
  match s.recd.queue.getLast? with
  | some r => if r.code = 0xC020 ∧ !s.sys.vinWarn then ({ s with recd := { s.recd with queue := s.recd.queue.dropLast } }).writeRec r true else s
  | none => s

/-- The audit record of a clear, then the partitions emptied (R486). -/
def State.clearParts (s : State) (ps : List Nat) (users : Bytes) : State :=
  let all := ps.flatMap fun p => (s.part p).valid.map fun q => slotSeq q.2
  let lo := all.foldl min (all.headD 0)
  let hi := all.foldl max 0
  let s := (s.raise 0xC020 0 0 (u8 (ps.headD 0) ++ [0, 0, 0] ++ u32 lo ++ u32 hi ++ [0, 0, 0, 0] ++ padTo 16 users)).writeAudit
  ps.foldl (fun s p =>
    let x := s.part p
    s.setPart p { x with slots := x.slots.map fun q => (q.1, q.2.take 63 ++ [0]), write := 0, used := 0, held := 0, newest := 0, gen := (x.gen + 1) % 2 ^ 32 }) s

/-- The certificate hash of a request's session. -/
def State.userOf (s : State) (h : Hdr) : Bytes := match s.sess h.session.toNat with
  | some x => x.user
  | none => []

/-- REC_CLEAR of partition 0 (R485). -/
def execRecClearGeneral (h : Hdr) (seq : BitVec 32) (s : State) : Result :=
  .next <| s.wcpReq 0x0902 h ([0, 0, 0, 0] ++ leBytes 4 seq.toNat) fun s =>
    if seq.toNat ≠ (s.part 0).newest then s.fail 0x0902 h 0x0104
    else if s.sys.vinWarn then s.fail 0x0902 h 0x0105
    else (s.clearParts [0] (s.userOf h)).reply 0x0902 h 0

/-- The arming of a clear ends without its confirmation (R485). -/
def State.dropClear (s : State) : State :=
  match s.recd.arm with
  | none => s
  | some a => ({ s with recd := { s.recd with arm := none } }).complete a.op 0x0104

/-- The newest sequence of partitions 1 and 2. -/
def State.newestSafe (s : State) : Nat := if (s.part 2).used = 0 then (s.part 1).newest else (s.part 2).newest

/-- REC_CLEAR of partitions 1 and 2 (R485): armed for 60 s. -/
def execRecClearSafety (h : Hdr) (seq : BitVec 32) (s : State) : Result :=
  .next <| s.wcpReq 0x0902 h ([1, 0, 0, 0] ++ leBytes 4 seq.toNat) fun s =>
    if s.anyLatch then s.fail 0x0902 h 0x0109
    else if seq.toNat ≠ s.newestSafe then s.fail 0x0902 h 0x0104
    else
      let u := s.userOf h
      let s := s.dropClear
      ({ s with recd := { s.recd with arm := some ⟨opRef 0x0902 h, seq.toNat, s.now, u⟩ } }).reply 0x0902 h 1

/-- REC_CLEAR_CONFIRM (R485). -/
def execRecClearConfirm (h : Hdr) (seq : BitVec 32) (s : State) : Result :=
  .next <| s.wcpReq 0x0903 h (leBytes 4 seq.toNat) fun s =>
    match s.recd.arm with
    | none => s.fail 0x0903 h 0x0105
    | some a =>
      if seq.toNat ≠ a.seq then s.fail 0x0903 h 0x0104
      else if s.anyLatch then s.fail 0x0903 h 0x0109
      else if s.sys.vinWarn then s.fail 0x0903 h 0x0105
      else
        let s := { s with recd := { s.recd with arm := none } }
        let s := s.clearParts [1, 2] (padTo 8 a.user ++ padTo 8 (s.userOf h))
        (s.reply 0x0903 h 0).complete a.op 0

/-- CLEAR_LAPSED (R485): 60 s without the confirmation. -/
def execClearLapsed (s : State) : Result :=
  .next <| match s.recd.arm with
    | none => s
    | some a => (((s.advanceTo (a.since + 60000000000)).raise 0xC021 0 0)).dropClear

/-! ### The flight buffer (R488 to R492) -/

def State.updFb (s : State) (f : FbSt → FbSt) : State := { s with recd := { s.recd with fb := f s.recd.fb } }

/-- FB_TRIGGER (R489). -/
def execFbTrigger (h : Hdr) (s : State) : Result :=
  .next <| s.wcpReq 0x0911 h [] fun s =>
    let s := if s.recd.fb.desc.isSome then (s.inc 0x925 0).raise 0xC011 0 0 else s.fbTrigger 0 0
    s.reply 0x0911 h 0

/-- Chunk number i on the file (Table 18.5). -/
def Chunk.bytes (c : Chunk) (i : Nat) : Bytes :=
  u8 c.type ++ [0] ++ u16 c.payload.length ++ u32 i ++ leBytes 4 (ts32 c.time).toNat ++ u32 (crc32c c.payload) ++ c.payload

/-- Chunks in file form, numbered from i. -/
def chunksBytes : Nat → List Chunk → Bytes
  | _, [] => []
  | i, c :: t => c.bytes i ++ chunksBytes (i + 1) t

/-- The chunks of a span, oldest first. -/
def FbSt.span (f : FbSt) (start : Nat) : List Chunk := (f.chunks.filter fun c => decide (start ≤ c.time)).reverse

/-- FB_FROZEN (R489, R490): 10 s after the trigger; the descriptor goes to MRAM, while a power-fail warning stands not before it ends (02 R40). -/
def execFbFrozen (s : State) : Result :=
  .next <| match s.recd.fb.trig with
    | none => s
    | some t =>
      if s.recd.fb.desc.isSome ∨ s.sys.vinWarn then s
      else
        let s := s.advanceTo (t.time + 10000000000)
        let s := s.updFb FbSt.closePeriods
        let oldest := (s.recd.fb.chunks.getLast?.map (·.time)).getD t.time
        let start := max (t.time - 50000000000) oldest
        let d : FbDesc := ⟨t, start, t.time + 10000000000, sha256 (chunksBytes 0 (s.recd.fb.span start))⟩
        (s.updFb fun f => { f with desc := some d, trig := none, ckptDue := none }).raise 0xC010 0 0 (u32 t.seq)

/-- A slow-input set as published (07 R194), for the checkpoint: each extreme with its node and its cell or sensor. -/
def slowBytes (x : Option SlowSet) : Bytes :=
  match x with
  | none => List.replicate 22 0
  | some v =>
    let w := v.vals
    let at_ := fun (a : Option Int) (n c : Option Nat) => sBytes 2 (a.getD 0) ++ u8 (n.getD 0) ++ u8 (c.getD 0)
    leBytes 2 v.sweep.toNat ++ leBytes 4 v.stamp.toNat ++ at_ w.1 (v.hi.map (·.2.1)) (v.hi.map (·.2.2))
      ++ at_ w.2.1 (v.lo.map (·.2.1)) (v.lo.map (·.2.2)) ++ at_ w.2.2 (v.hot.map (·.2.1)) (v.hot.map (·.2.2))
      ++ u16 v.cells ++ u8 v.temps ++ u8 (1 + 2 * ofBits [v.incomplete, w.1.isSome, w.2.1.isSome, w.2.2.isSome])

/-- Every applied pair-coherent parameter in PARAM_SET entry form. -/
def State.coherentBytes (s : State) : Bytes :=
  (dictionary.filter fun r => r.cls ≠ 0 ∧ pairCoherent r.id r.cls).flatMap fun r =>
    (List.range r.inst).flatMap fun i => u16 r.id ++ u8 i ++ [0] ++ u16 (s.par r.id i).length ++ s.par r.id i

/-- What a checkpoint holds (R488), in the order of the rule; its layout is the model's (assumption log 223). -/
def State.checkpoint (s : State) : Bytes :=
  time80Bytes s.now ++ leBytes 4 s.loop.period.toNat ++ padTo 496 s.recd.fb.copy ++ s.axisCopyBytes
    ++ [0, 1, 2, 3].flatMap (fun c => slowBytes (s.lane c).slow ++ slowBytes (s.lane c).slowFull ++ sBytes 2 (s.lane c).hDis
      ++ sBytes 2 (s.lane c).hChg ++ (match (s.lane c).hStamp with
        | some t => 1 :: leBytes 4 t.toNat
        | none => [0, 0, 0, 0, 0]))
    ++ u32 s.est.cycle ++ [0, 1, 2, 3].flatMap (fun r => [0, 1, 2, 3].flatMap fun p => u32 (s.estPart r p).length ++ s.estPart r p)
    ++ s.coherentBytes

/-- FB_CHECKPOINT (R488): at the boundary, in parts that fit a chunk. -/
def execFbCheckpoint (s : State) : Result :=
  .next <|
    if s.recd.fb.ckptDue.isNone ∨ s.sys.power ≠ .p0 ∨ !s.fbOn then s
    else
      let b := s.checkpoint
      let n := (b.length + 65511) / 65512
      let k := s.recd.fb.ckpt
      let s := (List.range n).foldl (fun s i => s.fbPush 6 s.now (u32 k ++ u16 i ++ u16 n ++ slice b (65512 * i) 65512)) s
      s.updFb fun f => { f with ckpt := (k + 1) % 2 ^ 32, ckptDue := none }

/-- The buffer is released and recording restarts empty (R491). -/
def State.fbRelease (s : State) : State :=
  (s.updFb fun f => { f with desc := none, trig := none, chunks := [], periods := none, ckptDue := none }).raise 0xC012 0 0

/-- FB_RELEASE (R491): 0x0105 without a frozen buffer (assumption log 63). -/
def execFbRelease (h : Hdr) (s : State) : Result :=
  .next <| s.wcpReq 0x0913 h [] fun s =>
    if s.recd.fb.desc.isNone then s.fail 0x0913 h 0x0105 else (s.fbRelease).reply 0x0913 h 0

/-- FB_AUTO_RELEASE (R491). -/
def execFbAutoRelease (s : State) : Result :=
  .next <| match s.recd.fb.desc with
    | none => s
    | some d => if s.parN 0x903 0 = 0 then s else (s.advanceTo (d.stop + s.parN 0x903 0 * 3600000000000)).fbRelease

/-- REC.FB_STATE. -/
def State.fbState (s : State) : Nat :=
  if s.recd.fb.desc.isSome then 2 else if !s.fbOn then 3 else if s.recd.fb.trig.isSome then 1 else 0

/-- Bytes 0 to 191 of the export header (Table 18.6). -/
def State.exportHead (s : State) (d : FbDesc) (n : Nat) (chunks : Bytes) : Bytes :=
  let t := d.trig
  padTo 192 ([0x57, 0x46, 0x42, 0x01] ++ u16 256 ++ [0, 0] ++ padTo 16 Config.serial ++ u8 s.sys.slot ++ u8 t.life ++ [0, 0]
    ++ u32 (s.upd.running 1) ++ u32 (s.upd.running 2) ++ u32 (s.upd.running 3) ++ u32 t.seq ++ u16 t.code ++ [0] ++ u8 t.quality
    ++ time80Bytes t.time ++ time80Bytes d.start ++ time80Bytes d.stop ++ u32 t.periodNs ++ u32 t.generation ++ u32 n
    ++ u64 chunks.length ++ sha256 chunks)

/-- The export file of a frozen buffer (R492). -/
def State.exportFile (s : State) (d : FbDesc) : Bytes :=
  let cs := s.recd.fb.span d.start
  let b := chunksBytes 0 cs
  let hd := s.exportHead d cs.length b
  hd ++ padTo 64 (Config.moduleSign 0 (sha256 hd)) ++ b

/-- FB_STATUS (Table 18.8). -/
def execFbStatus (h : Hdr) (s : State) : Result :=
  .next <| s.wcpReq 0x0910 h [] fun s =>
    let seq := match s.recd.fb.desc with
      | some d => d.trig.seq
      | none => match s.recd.fb.trig with
        | some t => t.seq
        | none => 0
    let span := match s.recd.fb.desc with
      | some d => time80Bytes d.start ++ time80Bytes d.stop ++ u32 (s.exportFile d).length
      | none => List.replicate 24 0
    s.reply 0x0910 h 0 (u8 s.fbState ++ [0, 0, 0] ++ u32 seq ++ span)

/-- FB_EXPORT (R492). -/
def execFbExport (h : Hdr) (offset : BitVec 32) (length : BitVec 16) (s : State) : Result :=
  .next <| s.wcpReq 0x0912 h (leBytes 4 offset.toNat ++ leBytes 2 length.toNat) fun s =>
    match s.recd.fb.desc with
    | none => s.fail 0x0912 h 0x0105
    | some d => if 4000 < length.toNat then s.fail 0x0912 h 0x0104
      else s.reply 0x0912 h 0 (leBytes 4 offset.toNat ++ slice (s.exportFile d) offset.toNat length.toNat)

/-! ### Replay (R493, R494) -/

def State.setReplay (s : State) (r : Option ReplaySt) : State := { s with recd := { s.recd with replay := r } }

/-- REPLAY_OPEN (R493): from ISOLATED at P0. -/
def execReplayOpen (h : Hdr) (source : Byte) (length : BitVec 32) (s : State) : Result :=
  .next <| s.wcpReq 0x0920 h ([source, 0, 0, 0] ++ leBytes 4 length.toNat) fun s =>
    if s.sys.lifecycle ≠ .isolated ∨ s.sys.power ≠ .p0 then s.fail 0x0920 h 0x0105
    else if 2 ≤ source.toNat then s.fail 0x0920 h 0x0104
    else
      let fresh : ReplaySt := { source := source.toNat, length := length.toNat, pieces := [], file := none, state := 0, op := none, periods := 0,
                                  cycles := 0, div := none }
      match s.recd.fb.desc with
      | some d =>
        if source = 0 then s.fail 0x0920 h 0x0105
        else
          let f := s.exportFile d
          let s := (s.setPart 4 {}).setLifecycle .replay
          (s.setReplay (some { fresh with file := some f, length := f.length })).reply 0x0920 h 0
      | none =>
        if source = 1 then s.fail 0x0920 h 0x0105
        else
          let s := (s.setPart 4 {}).setLifecycle .replay
          let s := s.updFb fun f => { f with chunks := [], periods := none, trig := none, ckptDue := none }
          (s.setReplay (some fresh)).reply 0x0920 h 0

/-- The chunks of a file: type, ts32 and payload, none where one is cut short or its CRC is wrong. -/
def parseChunks : Nat → Bytes → Option (List (Nat × Nat × Bytes))
  | _, [] => some []
  | 0, _ => none
  | n + 1, b =>
    let len := fieldAt b 2 2
    let p := slice b 16 len
    if b.length < 16 + len ∨ fieldAt b 12 4 ≠ crc32c p then none
    else (parseChunks n (b.drop (16 + len))).map fun t => (fieldAt b 0 1, fieldAt b 8 4, p) :: t

/-- The checks on an uploaded file (R493): hash, chunk CRCs, then the three versions. -/
def State.fileStatus (s : State) (f : Bytes) : Nat :=
  let b := f.drop 256
  if slice f 0 4 ≠ [0x57, 0x46, 0x42, 0x01] ∨ f.length < 256 ∨ slice f 98 32 ≠ sha256 b ∨ (parseChunks (b.length + 1) b).isNone then 0x0102
  else if slice f 28 12 ≠ u32 (s.upd.running 1) ++ u32 (s.upd.running 2) ++ u32 (s.upd.running 3) then 0x010B
  else 0

/-- REPLAY_LOAD (R493): the last byte brings the checks, their outcome in event 0x1001. -/
def execReplayLoad (h : Hdr) (offset : BitVec 32) (bytes : Bytes) (s : State) : Result :=
  .next <| s.wcpReq 0x0921 h (leBytes 4 offset.toNat ++ bytes) fun s =>
    match s.recd.replay with
    | none => s.fail 0x0921 h 0x0105
    | some r =>
      if r.source ≠ 0 ∨ r.file.isSome then s.fail 0x0921 h 0x0105
      else if r.length < offset.toNat + bytes.length ∨ bytes = [] then s.fail 0x0921 h 0x0104
      else
        let ps := insertFrag (offset.toNat, bytes) (r.pieces.filter fun p => p.1 != offset.toNat)
        match joinFrags r.length 0 ps with
        | none => (s.setReplay (some { r with pieces := ps })).reply 0x0921 h 0
        | some f =>
          let st := s.fileStatus f
          let s := s.setReplay (some { r with pieces := [], file := if st = 0 then some f else none })
          (s.reply 0x0921 h 1).complete (opRef 0x0921 h) st

/-- The checkpoints of a file whose parts are all there. -/
def wholeCheckpoints (cs : List (Nat × Nat × Bytes)) : List Nat :=
  let ps := (cs.filter fun c => c.1 == 6).map (·.2.2)
  (ps.filter fun c => fieldAt c 4 2 == 0 && (List.range (fieldAt c 6 2)).all fun i =>
    ps.any fun d => fieldAt d 0 4 == fieldAt c 0 4 && fieldAt d 4 2 == i).map fun c => fieldAt c 0 4

/-- REPLAY_START (R494). -/
def execReplayStart (h : Hdr) (cp : BitVec 32) (end_ : Time80) (mode : Byte) (s : State) : Result :=
  .next <| s.wcpReq 0x0922 h (leBytes 4 cp.toNat ++ time80Bytes (t80 end_) ++ [mode]) fun s =>
    match s.recd.replay with
    | none => s.fail 0x0922 h 0x0105
    | some r => match r.file with
      | none => s.fail 0x0922 h 0x0105
      | some f =>
        let cps := wholeCheckpoints ((parseChunks f.length (f.drop 256)).getD [])
        if r.state = 1 then s.fail 0x0922 h 0x0105
        else if 1000000000 ≤ end_.ns.toNat ∨ 2 ≤ mode.toNat ∨ cps = [] ∨ !(cp == 0 || cps.contains cp.toNat) then s.fail 0x0922 h 0x0104
        else (s.setReplay (some { r with state := 1, op := some (opRef 0x0922 h), periods := 0, cycles := 0, div := none,
                                         cp := cp.toNat, stop := t80 end_, mode := mode.toNat })).reply 0x0922 h 1

/-- A record of a replay goes to partition 4 until it is full (Table 18.3). -/
def State.replayRec (s : State) (b : Bytes) : State :=
  let x := s.part 4
  if 4096 ≤ x.used then s else s.setPart 4 (x.put 4096 b)

/-- REPLAY_STATUS (Table 18.8). -/
def execReplayStatus (h : Hdr) (s : State) : Result :=
  .next <| s.wcpReq 0x0923 h [] fun s =>
    match s.recd.replay with
    | none => s.fail 0x0923 h 0x0105
    | some r => s.reply 0x0923 h 0 (u8 r.state ++ [0, 0, 0] ++ u32 r.periods ++ u32 r.cycles ++ (match r.div with
        | some d => u32 d.1 ++ u8 d.2.1 ++ u8 d.2.2 ++ [0, 0]
        | none => List.replicate 8 0))

/-- REPLAY_CLOSE (R493): back to ISOLATED; a run in progress ends with 0x0105 (assumption log 64). -/
def execReplayClose (h : Hdr) (s : State) : Result :=
  .next <| s.wcpReq 0x0924 h [] fun s =>
    match s.recd.replay with
    | none => s.fail 0x0924 h 0x0105
    | some r =>
      let s := match r.op with
        | some op => s.complete op 0x0105
        | none => s
      (((s.setReplay none).setLifecycle .isolated)).reply 0x0924 h 0

end Sys2Proof.Machine
end

