-- ==== Sys2Proof/Machine/CellCalc.lean ====
section
/-! DEFINITION. Chapter 6: what a node's frame means: temperatures (R142, R276), live calibration (R143 to R147), estimation values and
protection bounds (R145, R146, R154), predictions and pair checks (R149, R150), and the safety cores' evaluation of a frame (12
R343). -/

namespace Sys2Proof.Machine
open Sys2Proof

/-! ### The frame -/

/-- A voltage code of 100 µV. -/
def volt (w : BitVec 16) : ℚ := (w.toNat : ℚ) / 10000

/-- NO_SAMPLE (Table 5.5). -/
def noSample (p : SweepPayload) : Bool := p.dflags.getLsbD 1

/-- The 54 bytes of Table 5.5. -/
def sweepBytes (p : SweepPayload) : Bytes :=
  let w := fun (v : BitVec 16) => leBytes 2 v.toNat
  w p.sweep ++ ((List.range 16).flatMap fun i => w (p.v.getD i 0)) ++ ((List.range 4).flatMap fun i => w (p.t.getD i 0))
    ++ [p.pairIdx, p.calId] ++ w p.pairV ++ w p.calV ++ w p.balMask ++ w p.status ++ [p.epoch, p.dflags]

/-- The frame's 58 bytes from TYPE to the payload's end (R113, R115). -/
def frameBytes (node : Nat) (p : SweepPayload) : Bytes := [0x21] ++ u8 node ++ [54, 0] ++ sweepBytes p

/-- A temperature code in 0.01 °C. -/
def tempCode (p : SweepPayload) (k : Nat) : Int := toSigned 16 (p.t.getD k 0).toNat

/-- A failed sensor: open, shorted, or outside -40 °C to +125 °C (R142). -/
def tempBad (p : SweepPayload) (k : Nat) : Bool := decide (tempCode p k < -4000 ∨ 12500 < tempCode p k)

/-- The readings of the working sensors with their numbers. -/
def workingTemps (p : SweepPayload) : List (Nat × Int) :=
  ((List.range 4).filter fun k => !tempBad p k).map fun k => (k, tempCode p k)

/-- The four temperatures in °C with failed sensors replaced (R276). -/
def NodeSt.temps (x : NodeSt) (p : SweepPayload) : List ℚ :=
  let ws := workingTemps p
  (List.range 4).map fun k =>
    if !tempBad p k then (tempCode p k : ℚ) / 100
    else if ws = [] then x.tempC.getD k 25
    else ((ws.map (·.2)).sum : ℚ) / (100 * (ws.length : ℚ))

/-! ### Live calibration (R143 to R147) -/

/-- The CAL_ID of a sweep (Table 6.3). -/
def calIdOf (sweep : Nat) : Nat :=
  match sweep % 20 with
  | 0 => 0x01
  | 1 => 0x02
  | 18 => 0x03
  | 19 => 0x20 + sweep / 20 % 5
  | n => 0x10 + (n - 2)

/-- A calibrated value (R145). -/
def calV (o g m v : ℚ) : ℚ := (v - o) * g * (1 + m)

/-- A quantity of Table 6.5 measured in a cycle: consecutive cycles beyond its limit, and whether this is the third. -/
def NodeSt.limit (x : NodeSt) (key : Nat) (beyond : Bool) : NodeSt × Bool :=
  let n := if beyond then x.limitRuns.at key 0 + 1 else 0
  ({ x with limitRuns := x.limitRuns.set key n }, n == 3)

/-- A quantity that has raised its fault and still exceeds its limit: its applied value is held (R147). -/
def NodeSt.heldAt (x : NodeSt) (key : Nat) : Bool := 3 ≤ x.limitRuns.at key 0

/-- A fault of Table 6.5 when it is due. -/
def dueFault (due : Bool) (code sev : Nat) (data : Bytes) : List (Nat × Nat × Bytes) := if due then [(code, sev, data)] else []

/-- The multiplexer condition of a cycle (R147). Each channel's path-A value is that of its own calibration-slot sweep (DESIGN CHOICE, assumption
log 188). -/
def muxBad (l : SMap (ℚ × ℚ)) : Bool :=
  l.any fun a => l.any fun b => decide (a.1 < b.1) && decide (|a.2.1 - b.2.1| ≤ 1 / 10000) && decide (1 / 100 < |a.2.2 - b.2.2|)

/-- A cycle whose 20 slots have all been read (R143, R146, R147, R155). -/
def NodeSt.cycleEnd (x : NodeSt) (avg : Nat) : NodeSt × List (Nat × Nat × Bytes) :=
  if x.slots.length < 20 then (x, [])
  else
    let n := if muxBad x.slotVals then x.muxRun + 1 else 0
    let fresh := (x.fresh.map fun f => (f.1, f.2 + 1)).filter fun f => f.2 < avg
    let x := { x with cycles := x.cycles + 1, slots := [], slotVals := [], muxRun := n, fresh := fresh }
    (if n = 2 then { x with full := true } else x, dueFault (n == 2) 0x2104 2 [1])

/-- The calibration slot of a held frame (R143, R145, R147). `avg` is CELL.CAL_AVG_CYCLES, `tol` CELL.REF_TOL_PPM. -/
def NodeSt.calSlot (x : NodeSt) (avg tol : Nat) (p : SweepPayload) : NodeSt × List (Nat × Nat × Bytes) :=
  let slot := p.sweep.toNat % 20
  let c := volt p.calV
  let toward := fun (t m : ℚ) => t + (m - t) / avg
  let x := { x with slots := if slot ∈ x.slots then x.slots else slot :: x.slots }
  match slot with
  | 0 =>
    let o := toward x.oT c
    let (x, a) := ({ x with oT := o }).limit 0 (decide (3 / 1000 < |o|))
    let (x, b) := x.limit 3 (decide (1 / 50 < |c|))
    ({ x with full := x.full || b }, dueFault a 0x2101 1 [] ++ dueFault b 0x2105 2 [0])
  | 1 =>
    let (x, b) := x.limit 4 (decide (1 / 20 < |c - 5 / 2|))
    let x := { x with full := x.full || b }
    if c - x.oT = 0 then (x, dueFault b 0x2105 2 [1])
    else
      let g := toward x.gT (5 / 2 / (c - x.oT))
      let (x, a) := ({ x with gT := g }).limit 1 (decide (1 / 500 < |g - 1|))
      (x, dueFault a 0x2102 1 [0xFF] ++ dueFault b 0x2105 2 [1])
  | 18 =>
    let r := c / (5 / 4)
    let (x, a) := ({ x with refRatio := r }).limit 2 (decide ((tol : ℚ) / 1000000 < |r - 1|))
    ({ x with refDis := x.heldAt 2 }, dueFault a 0x2103 1 [0])
  | 19 =>
    let e : ℚ := ((p.sweep.toNat / 20 % 5 + 1 : Nat) : ℚ) / 5
    let (x, a) := x.limit 5 (decide (1 / 50 < |c - e|))
    ({ x with full := x.full || a }, dueFault a 0x2104 2 [0])
  | n =>
    let i := n - 2
    let v := volt (p.v.getD i 0)
    let x := { x with slotVals := x.slotVals.set i (v, c) }
    let d := (v - x.oT) * x.gT
    if d = 0 then (x, [])
    else
      let m := toward (x.mT.getD i 0) (c / d - 1)
      let (x, a) := ({ x with mT := x.mT.set i m }).limit (16 + i) (decide (1 / 1000 < |m|))
      (x, dueFault a 0x2102 1 (u8 i))

/-- One step of an applied value toward its target (R145), held at ± the limit about `mid` after its fault (R147). -/
def slewTo (a t step mid lim : ℚ) (held : Bool) : ℚ :=
  let t := if held then max (mid - lim) (min (mid + lim) t) else t
  if |t - a| ≤ step then t else if a < t then a + step else a - step

/-- The applied corrections move for one sweep. `stepO` in V, `stepR` relative. -/
def NodeSt.slew (x : NodeSt) (stepO stepR : ℚ) : NodeSt :=
  { x with oA := slewTo x.oA x.oT stepO 0 (3 / 1000) (x.heldAt 0), gA := slewTo x.gA x.gT stepR 1 (1 / 500) (x.heldAt 1),
           mA := (List.range 16).map fun i => slewTo (x.mA.getD i 0) (x.mT.getD i 0) stepR 0 (1 / 1000) (x.heldAt (16 + i)) }

/-- Corrections at their neutral values, unsettled (R146). -/
def NodeSt.neutral (x : NodeSt) : NodeSt :=
  { x with oT := 0, oA := 0, gT := 1, gA := 1, mT := List.replicate 16 0, mA := List.replicate 16 0, slots := [], slotVals := [],
           cycles := 0, limitRuns := [], muxRun := 0, refRatio := 1, refDis := false }

/-- A node taken into service again: the faults found in its measurement start anew, its wire faults stand (R146, R155). -/
def NodeSt.renew (x : NodeSt) : NodeSt :=
  ({ x with full := false, boundPairs := [], pairsOff := false, pairRun := [], held3 := [], pairSum := [] }).remask

/-- Calibration of a node at finalisation: the slot of its frame if one is held, then the slew. -/
def State.calNode (s : State) (r node : Nat) (p : Option SweepPayload) : State :=
  let nk := nodeKey r node
  let avg := max 1 (s.parN 0x290 r)
  let hz : ℚ := max 1 (s.parN 0x200 r)
  let slew : ℚ := (s.parN 0x291 r : ℚ) / 1000000 / hz
  let old := (s.node nk).cycles
  let (x, fs) := match p with
    | some p => if p.calId.toNat = calIdOf p.sweep.toNat then
        let (x, a) := (s.node nk).calSlot avg (s.parN 0x292 r) p
        let (y, b) := x.cycleEnd avg
        (y, a ++ b)
      else (s.node nk, [])
    | none => (s.node nk, [])
  let s := s.setNode nk ((x.slew slew (slew / 4)).remask)
  let s := if node = 1 ∧ x.cycles ≠ old then s.inc 0x29B r else s
  fs.foldl (fun s f => s.raise f.1 nk f.2.1 f.2.2) s

/-! ### Bounds (R146, R154) -/

/-- The margin e of a node: the largest that applies (R146). -/
def State.margin (s : State) (nk : Nat) : ℚ :=
  let x := s.node nk
  maxQ [if x.refDis then |x.refRatio - 1| else 0, if x.status.getLsbD 12 then 1 / 200 else 0, if s.settled nk then 0 else 1 / 1000]

/-- The margin of a cell: 0.001 at least while its channel is unsettled after a wire fault (R155). -/
def State.marginOf (s : State) (nk i : Nat) : ℚ :=
  if ((s.node nk).fresh.find i).isSome then max (1 / 1000) (s.margin nk) else s.margin nk

/-- A cell's predicted terminal voltage and its standard deviation at a sweep (R286); none where the cell has no filter. -/
def State.cellPred (s : State) (r node j : Nat) (ip : ℚ) (t : Nat) (temp : ℚ) : Option (ℚ × ℚ) :=
  match s.est.cell.find (cellKey r node j) with
  | none => none
  | some c =>
    let e := s.strE r
    let u := e.u.getD t
    let dt : ℚ := ((t - u : Nat) : ℚ) / 1000000000
    let qs := s.chargeAs r u t
    let qb := bleedAs (e.sweeps.filter fun w => u < w.instant ∧ w.instant ≤ t) node j
    let v := s.vPred (s.propagate c qs qb dt e.b temp) temp ip e.b
    some (v, Config.predictSd (s.filterIn c (t - u) (qs - e.b * dt + qb) e.b e.sb2 temp none))

/-- The predicted sum and split of a pair, with the standard deviation of both (R149). -/
structure PairPred where
  sum : ℚ
  split : ℚ
  sd : ℚ
  confident : Bool
  deriving DecidableEq, Repr

/-- The prediction of pair j of a node (R149). -/
def State.pairPred (s : State) (r node j : Nat) (ip : ℚ) (t : Nat) (temps : List ℚ) : PairPred :=
  match s.cellPred r node j ip t (temps.getD (j / 4) 25), s.cellPred r node (j + 1) ip t (temps.getD ((j + 1) / 4) 25) with
  | some a, some b =>
    let lim : ℚ := (s.parN 0x294 r : ℚ) / 4000
    ⟨a.1 + b.1, a.1 - b.1, sqrtQ (a.2 * a.2 + b.2 * b.2), decide (a.2 ≤ lim ∧ b.2 ≤ lim)⟩
  | _, _ => ⟨0, 0, 0, false⟩

/-- What the module derives from a node's frame. -/
structure NodeVals where
  est : List ℚ
  hi : List ℚ
  lo : List ℚ
  /-- bounded pairs with S_B carried forward -/
  pairs : List (Nat × ℚ)
  temps : List ℚ
  deriving DecidableEq, Repr

/-- S_B of a pair, carried forward from its latest visit by the change of S_A; in the visit's own sweep it is that visit's (R154). -/
def NodeSt.carried (x : NodeSt) (j : Nat) (app : List ℚ) : ℚ :=
  let sa := app.getD j 0 + app.getD (j + 1) 0
  match x.pairSum.find j with
  | some p => p.1 + (sa - p.2)
  | none => sa

/-- A node with the sums of the pair that a frame visits, S_A of the estimation values (R149, R154). -/
def NodeSt.visited (x : NodeSt) (p : SweepPayload) (est : List ℚ) : NodeSt :=
  let j := p.pairIdx.toNat
  if 14 < j then x else { x with pairSum := x.pairSum.set j ((p.pairV.toNat : ℚ) / 5000, est.getD j 0 + est.getD (j + 1) 0) }

/-- Estimation values and bounds of a frame sampled at t with the paired current ip (R145, R146, R154). -/
def State.nodeVals (s : State) (r node : Nat) (p : SweepPayload) (ip : ℚ) (t : Nat) : NodeVals :=
  let nk := nodeKey r node
  let x := s.node nk
  let temps := x.temps p
  let app := (List.range 16).map fun i => calV x.oA x.gA (x.mA.getD i 0) (volt (p.v.getD i 0))
  let tgt := (List.range 16).map fun i => calV x.oT x.gT (x.mT.getD i 0) (volt (p.v.getD i 0))
  let hi := (List.range 16).map fun i => max (app.getD i 0) (tgt.getD i 0) * (1 + s.marginOf nk i)
  let lo := (List.range 16).map fun i => min (app.getD i 0) (tgt.getD i 0) * (1 - s.marginOf nk i)
  let pairs := x.bounded.map fun j => (j, (x.visited p app).carried j app)
  let (hi, lo) := pairs.foldl (fun (b : List ℚ × List ℚ) q =>
    let f := s.pairPred r node q.1 ip t temps
    let w := 3 / 1000 + if f.confident then |f.split| + 3 * f.sd else (s.parN 0x295 r : ℚ) / 1000
    let h := (q.2 + w) / 2
    let l := (q.2 - w) / 2
    ((b.1.set q.1 h).set (q.1 + 1) h, (b.2.set q.1 l).set (q.1 + 1) l)) (hi, lo)
  ⟨app, hi, lo, pairs, temps⟩

/-! ### The safety cores' evaluation (12 R343) -/

/-- The sample instant of a sweep of the ring, counted from the sweep in progress (R120). -/
def State.sampleAt (s : State) (r : Nat) (sweep : BitVec 16) : Nat :=
  (s.ring r).depart + s.parN 0x202 r - ((s.ring r).sweep - sweep).toNat * s.sweepNs r

/-- The first number of a list that satisfies a condition. -/
def firstOf (l : List Nat) (f : Nat → Bool) : Option Nat := l.find? f

/-- The conditions of Table 12.1 that a frame meets: code, cell or sensor. -/
def State.frameTrips (s : State) (r node : Nat) (p : SweepPayload) (t : Nat) : List (Nat × Option Nat) :=
  let nk := nodeKey r node
  let x := s.node nk
  let ip := s.pairedCurrent r t
  let v := s.nodeVals r node p ip t
  let cells := (List.range 16).filter x.judged
  let sens := (workingTemps p).map (·.1)
  let comp := fun (j : Nat) => s.compensation (cellKey r node j) ip
  [(0x6012, firstOf cells fun j => decide ((s.parN 0x600 0 : ℚ) < v.hi.getD j 0 * 1000 ∨ v.lo.getD j 0 * 1000 < (s.parN 0x601 0 : ℚ))),
   (0x6013, firstOf sens fun k => decide (s.parF 0x605 0 < v.temps.getD k 0)),
   (0x6014, firstOf sens fun k => match s.cellRate (nk * 4 + k) with
      | some q => decide (s.parF 0x606 0 < q)
      | none => false),
   (0x6015, firstOf cells fun j => decide ((v.lo.getD j 0 + comp j) * 1000 < (s.parN 0x603 0 : ℚ))),
   (0x6016, firstOf cells fun j => decide ((s.parN 0x604 0 : ℚ) < (v.hi.getD j 0 + comp j) * 1000))]

/-- A frame is evaluated as it arrives (R343): each condition met demands SF1 of the ring's string; its fault is raised when it comes to
be met. -/
def State.evalFrame (s : State) (r node : Nat) (p : SweepPayload) : State :=
  let nk := nodeKey r node
  let old := (s.node nk).trips
  let fs := s.frameTrips r node p (s.sampleAt r p.sweep)
  let s := s.updNode nk fun x => { x with trips := BitVec.ofNat 8 (ofBits (fs.map fun f => f.2.isSome)) }
  (fs.zipIdx).foldl (fun s q => match q.1.2 with
    | none => s
    | some j => if old.getLsbD q.2 then s.trip r q.1.1 else s.tripFault q.1.1 nk [r] (u8 j)) s

/-! ### Pair checks (R149, R150, R290) -/

/-- The cell of a pair whose value departs further from its prediction; without one, from the mean of the node's measured cells. -/
def State.departing (s : State) (r node j : Nat) : Nat :=
  let x := s.node (nodeKey r node)
  let t := s.sampleAt r (match x.last with
    | some p => p.sweep
    | none => (s.ring r).sweep)
  let ip := s.pairedCurrent r t
  let ms := (List.range 16).filter fun i => !x.unmeasured.getLsbD i
  let mean : ℚ := if ms = [] then 0 else (ms.map fun i => x.vEst.getD i 0).sum / (ms.length : ℚ)
  let ref := fun (i : Nat) => match s.cellPred r node i ip t (x.tempC.getD (i / 4) 25) with
    | some q => q.1
    | none => mean
  let d := fun (i : Nat) => |x.vEst.getD i 0 - ref i|
  if d j < d (j + 1) then j + 1 else j

/-- Fault 0x2120 on a cell, and what the estimator does on it (R290). -/
def State.cellAnomaly (s : State) (r node j : Nat) : State :=
  let i := s.departing r node j
  let k := cellKey r node i
  let sd := [s.parF 0x502 r / 2000, s.parF 0x503 r / 5]
  let s := match s.est.cell.find k with
    | none => s
    | some c =>
      let fac : List ℚ := c.fac.take 10 ++ [0, 0, 0, 0, sd.getD 0 0] ++ [0, 0, 0, 0, 0, sd.getD 1 0]
      s.setCellE k { c with mismatch := false, sd := c.sd.take 4 ++ sd, fac := fac }
  s.raise 0x2120 (nodeKey r node) 1 (u8 i)

/-- An open-wire test of a tap is in progress or waits. -/
def NodeSt.owPending (x : NodeSt) (tap : Nat) : Bool :=
  (match x.ow with
    | some t => t.tap == tap
    | none => false) || x.owWait.any fun t => t.tap == tap

/-- A tap asked for by the pair checks joins the tests that wait, unless it is known open, barred or already waits (R150, R152). -/
def State.askWire (s : State) (nk tap row : Nat) : State :=
  let x := s.node nk
  if x.owPending tap ∨ x.wireFault.getLsbD tap ∨ s.now < x.owBar.at tap 0 then s
  else
    let s := s.setNode nk { x with owWait := x.owWait ++ [(⟨tap, 0, none, row⟩ : OwTest)] }
    if row = 2 then s.raise 0x2110 nk 0 (u8 tap) else s

/-- The pairs that share a tap with pair j. -/
def besides (j : Nat) : List Nat := (if 1 ≤ j then [j - 1] else []) ++ if j + 1 ≤ 14 then [j + 1] else []

/-- Pair j is visited (R150): the held actions of its neighbours await it no longer. In a new rotation of 15 sweeps an action that was left waiting waits for
both neighbours anew. -/
def NodeSt.rotate (x : NodeSt) (sweep j : Nat) : NodeSt :=
  let k := sweep / 15
  let x : NodeSt := if k = x.rot then x
    else { x with rot := k, rotSeen := [],
                  held3 := x.held3.map fun (h : Nat × List Nat) => (h.1, if h.2.any fun i => decide (i < 100) then besides h.1 else h.2) }
  { x with rotSeen := j :: x.rotSeen, held3 := x.held3.map fun (h : Nat × List Nat) => (h.1, h.2.filter fun i => i != j) }

/-- A held row 3 action is judged once both neighbours have been visited (R150): dropped, waiting for the test of a shared tap, or
reported. One dropped without a test has to persist again. -/
def State.judge3 (s : State) (r node j : Nat) : State :=
  let nk := nodeKey r node
  let x := s.node nk
  let row := fun (i : Nat) => (x.pairRun.at i (0, 0)).1
  match x.held3.find j with
  | some [] =>
    let taps := (if 1 ≤ j ∧ (row (j - 1) = 2 ∨ x.owPending j) then [j] else [])
      ++ if j + 1 ≤ 14 ∧ (row (j + 1) = 2 ∨ x.owPending (j + 2)) then [j + 2] else []
    if taps = [] then (s.setNode nk { x with held3 := x.held3.del j }).cellAnomaly r node j
    else s.setNode nk { x with held3 := x.held3.set j (taps.map fun t => 100 + t) }
  | some ts =>
    if ts.all fun t => decide (100 ≤ t ∧ row (t - 101) ≠ 2) && !x.owPending (t - 100) then
      s.setNode nk { x with held3 := x.held3.del j, pairRun := x.pairRun.set j (3, 0) }
    else s
  | none => s

/-- The row of Table 6.6: `a`, `b`, `c` the three agreements, `sa` whether S_A agrees with the prediction. -/
def pairRow (a b c sa : Bool) : Nat :=
  if a then (if !b then 3 else if c then 1 else 2) else if b then 4 else if sa then 5 else 6

/-- The row of a visit (R149). -/
def State.visitRow (s : State) (r : Nat) (sA sB d : ℚ) (f : PairPred) : Nat :=
  let mv := fun (id : Nat) => (s.parN id r : ℚ) / 1000
  let near := fun (v : ℚ) => !f.confident || decide (|v - f.sum| ≤ max (mv 0x294) (4 * f.sd))
  pairRow (decide (|sA - sB| ≤ mv 0x293)) (near sB)
    (if f.confident then decide (|d - f.split| ≤ max (2 * mv 0x294) (4 * f.sd)) else decide (|d| ≤ mv 0x295)) (near sA)

/-- The action of a row that has persisted (Table 6.6). -/
def State.rowAction (s : State) (r node j row : Nat) : State :=
  let nk := nodeKey r node
  match row with
  | 2 => s.askWire nk (j + 1) 2
  | 3 =>
    let x := s.node nk
    let need := (besides j).filter fun i => !x.rotSeen.contains i
    let s := if (x.held3.find j).isSome then s else s.setNode nk { x with held3 := x.held3.set j need }
    let s := if j = 0 then s.askWire nk 0 3 else if j = 14 then s.askWire nk 16 3 else s
    s.judge3 r node j
  | 4 => (s.updNode nk fun x => ({ x with boundPairs := j :: x.boundPairs }).remask).raise 0x2122 nk 1 (u8 j)
  | 5 => (s.updNode nk fun x => { x with pairsOff := true }).raise 0x2121 nk 1 (u8 j)
  | 6 => (s.updNode nk fun x => ({ x with full := true }).remask).raise 0x2123 nk 2 (u8 j)
  | _ => s

/-- The row of a pair's visit, unless its checks are off or a cell of it is unmeasured: its run, counted in CELL.PAIR_CHECKS, and whether its action is
due (R150, Table 6.6). -/
def State.pairJudge (s : State) (r node : Nat) (p : SweepPayload) (v : NodeVals) (ip : ℚ) (t : Nat) : Option (Nat × Bool) × State :=
  let nk := nodeKey r node
  let j := p.pairIdx.toNat
  let x := s.node nk
  if x.pairsOff ∨ x.unmeasured.getLsbD j ∨ x.unmeasured.getLsbD (j + 1) then (none, s)
  else
    let row := s.visitRow r (v.est.getD j 0 + v.est.getD (j + 1) 0) ((p.pairV.toNat : ℚ) / 5000) (v.est.getD j 0 - v.est.getD (j + 1) 0)
      (s.pairPred r node j ip t v.temps)
    let old := x.pairRun.at j (0, 0)
    let n := if old.1 = row then old.2 + 1 else 1
    let due := s.parN 0x296 r
    (some (row, decide (n = due ∨ (row = 2 ∧ due ≤ n))), (s.setNode nk { x with pairRun := x.pairRun.set j (row, n) }).inc 0x29C r)

/-- A pair visit: the rotation notes it, the row is judged, the held neighbours are told (R149, R150). -/
def State.pairVisit (s : State) (r node : Nat) (p : SweepPayload) (v : NodeVals) (ip : ℚ) (t : Nat) : State :=
  let nk := nodeKey r node
  let j := p.pairIdx.toNat
  if 14 < j then s
  else
    let s := s.updNode nk fun x => x.rotate p.sweep.toNat j
    let (row, s) := s.pairJudge r node p v ip t
    let s := ((s.node nk).held3.map (·.1)).foldl (fun s i => if i = j then s else s.judge3 r node i) s
    match row with
    | some (row, true) => s.rowAction r node j row
    | _ => s

end Sys2Proof.Machine
end

