-- ==== Sys2Proof/Machine/Cells.lean ====
section
/-! DEFINITION. Chapter 6, the commands: cell readings, balancing (R161, R164, R166), open-wire tests (R151 to R155), comparators (R157
to R160). -/

namespace Sys2Proof.Machine
open Sys2Proof

/-! ### Open-wire tests (R151) -/

/-- A ring on which a test may begin: swept by the active at 5 ms or more, no injection run (R151, Table 11.8). -/
def State.wireReady (s : State) (r : Nat) : Bool :=
  s.isActive && s.framesOn && (s.ring r).sweeping && decide (5000000 ≤ s.sweepNs r) && (s.imp r).run == 0

/-- The first test that waits on a node starts (R151). -/
def State.owStart (s : State) (nk : Nat) : State :=
  let x := s.node nk
  match x.ow, x.owWait with
  | none, t :: rest =>
    if s.wireReady (nk / 28) then
      ((s.setNode nk { x with ow := some t, owWait := rest }).inc 0x29D (nk / 28)).sendCmd (nk / 28) (nk % 28 + 1) 0x1A [0, BitVec.ofNat 8 t.tap]
        none 0
    else s
  | _, _ => s

/-- Every node of a ring starts the test that waits on it. -/
def State.owStartAll (s : State) (r : Nat) : State := (s.ringNodes r).foldl (fun s n => s.owStart (nodeKey r n)) s

/-- OPEN_WIRE_RUN (R167). -/
def execOpenWireRun (h : Hdr) (ring node tap : Byte) (s : State) : Result :=
  .next <| s.wcpReq 0x0212 h [ring, node, tap] fun s =>
    let r := ring.toNat
    let nk := nodeKey r node.toNat
    if !s.nodeOk r node.toNat ∨ 16 < tap.toNat then s.fail 0x0212 h 0x0104
    else if !(s.ring r).sweeping then s.fail 0x0212 h 0x0105
    else
      let s := s.updNode nk fun x => { x with owWait := x.owWait ++ [(⟨tap.toNat, 0, some (opRef 0x0212 h), 0⟩ : OwTest)] }
      (s.reply 0x0212 h 1).owStart nk

/-- A test's request completes with its result (Table 4.19). -/
def State.owDone (s : State) (t : OwTest) (result : Nat) : State :=
  match t.op with
  | none => s
  | some op => s.complete op 0 (u8 t.tap ++ u8 result)

/-- Pairs whose held row 3 action awaits a tap's test (R150). -/
def NodeSt.waiting3 (x : NodeSt) (tap : Nat) : List Nat := (x.held3.filter fun h => h.2.contains (100 + tap)).map (·.1)

/-- COMPARATOR_SET OP 4 with the node's pair mask (R153, R157). -/
def State.sendPairMask (s : State) (nk : Nat) : State :=
  s.sendCmd (nk / 28) (nk % 28 + 1) 0x1B ([4] ++ List.replicate 7 0 ++ leBytes 2 (s.node nk).pairMask.toNat ++ [0, 0]) none 4

/-- A tap found open (R153). -/
def State.wireOpen (s : State) (r node tap : Nat) : State :=
  let nk := nodeKey r node
  let s := s.updNode nk fun x =>
    let gone := x.waiting3 tap
    { x with wireFault := x.wireFault ||| BitVec.ofNat 17 (2 ^ tap), owPass := x.owPass.del tap,
             held3 := x.held3.filter fun h => !gone.contains h.1,
             pairMask := if 1 ≤ tap ∧ tap ≤ 15 then x.pairMask ||| BitVec.ofNat 15 (2 ^ (tap - 1)) else x.pairMask }
  let s := (s.updNode nk NodeSt.remask).raise 0x2111 nk 1 (u8 tap)
  if 1 ≤ tap ∧ tap ≤ 15 then s.sendPairMask nk else s.raise 0x2112 nk 2 (u8 tap)

/-- A tap whose test passed (R150, R152, R155). -/
def State.wirePass (s : State) (r node : Nat) (t : OwTest) : State :=
  let nk := nodeKey r node
  let back := (s.node nk).waiting3 t.tap
  let s := s.updNode nk fun x =>
    { x with owPass := x.owPass.set t.tap s.now, held3 := x.held3.filter fun h => !back.contains h.1,
             owBar := if t.row = 2 then x.owBar.set t.tap (s.now + 3600000000000) else x.owBar }
  let s := back.foldl (fun s j => s.cellAnomaly r node j) s
  if t.row = 2 ∧ 1 ≤ t.tap ∧ t.tap ≤ 15 then s.cellAnomaly r node (t.tap - 1) else s

/-- A finished test is judged by the changes of the cells below and above its tap, in mV (R152, R153). -/
def State.owJudge (s : State) (r node : Nat) (t : OwTest) (below above : Int) : State :=
  let nk := nodeKey r node
  let lim : Int := s.parN 0x297 r
  let lo := t.tap ≠ 0
  let hi := t.tap ≠ 16
  let s := s.updNode nk fun x => { x with ow := none }
  let isOpen : Bool := decide ((lo → below < -lim) ∧ (hi → lim < above))
  let pass : Bool := decide ((lo → |below| ≤ 60) ∧ (hi → |above| ≤ 60))
  let s :=
    if isOpen then (s.wireOpen r node t.tap).owDone t 1
    else if pass then (s.wirePass r node t).owDone t 0
    else if t.repeats < 2 then s.updNode nk fun x => { x with owWait := { t with repeats := t.repeats + 1 } :: x.owWait }
    else (s.raise 0x2113 nk 1 (u8 t.tap)).owDone t 2
  s.owStart nk

/-- OPEN_WIRE_RESULT (R151 to R153): the result is read with OP 1. A node that still runs the test is asked again; one that has not run it starts it again
(Table 6.7). -/
def execOpenWireResult (ring node result : Nat) (below above : Int) (s : State) : Result :=
  .next <|
    let nk := nodeKey ring node
    match (s.node nk).ow with
    | none => s
    | some t =>
      if !s.nodeOk ring node ∨ !s.canSend ring ((s.ring ring).port node) then s
      else
        let s := s.command ring node 0x1A [1, BitVec.ofNat 8 t.tap]
        if result = 4 then s
        else if result = 3 then (s.updNode nk fun x => { x with ow := none, owWait := t :: x.owWait }).owStart nk
        else s.owJudge ring node t below above

/-- WIRE_FAULT_CLEAR (R155). -/
def execWireFaultClear (h : Hdr) (ring node tap : Byte) (s : State) : Result :=
  .next <| s.wcpReq 0x0213 h [ring, node, tap] fun s =>
    let r := ring.toNat
    let nk := nodeKey r node.toNat
    let t := tap.toNat
    if !s.nodeOk r node.toNat ∨ 16 < t then s.fail 0x0213 h 0x0104
    else
      let x := s.node nk
      if !x.wireFault.getLsbD t ∨ (x.owPass.find t).isNone then s.fail 0x0213 h 0x0105
      else
        let cells := (if 1 ≤ t then [t - 1] else []) ++ if t ≤ 15 then [t] else []
        let y := { x with wireFault := x.wireFault &&& ~~~(BitVec.ofNat 17 (2 ^ t)),
                          pairMask := if 1 ≤ t ∧ t ≤ 15 then x.pairMask &&& ~~~(BitVec.ofNat 15 (2 ^ (t - 1))) else x.pairMask,
                          noRoom := x.noRoom.filter fun j => j + 1 != t,
                          fresh := cells.foldl (fun (m : SMap Nat) c => m.set c 0) x.fresh,
                          mT := cells.foldl (fun (m : List ℚ) c => m.set c 0) x.mT, mA := cells.foldl (fun (m : List ℚ) c => m.set c 0) x.mA }
        let s := s.setNode nk y.remask
        (if 1 ≤ t ∧ t ≤ 15 then s.sendPairMask nk else s).reply 0x0213 h 0

/-! ### Comparators (R156 to R160) -/

/-- The thresholds of the safety block (R156). -/
def State.thresholds (s : State) : Nat × Nat × Nat := (s.parN 0x600 0, s.parN 0x601 0, s.parN 0x602 0)

/-- COMPARATOR_SET OP 0 to one node (R158). -/
def State.writeThreshold (s : State) (r node : Nat) : State :=
  s.sendCmd r node 0x1B ([0, 0] ++ u16 (s.parN 0x600 0) ++ u16 (s.parN 0x601 0) ++ u16 (s.parN 0x602 0) ++ [0, 0, 0, 0]) none 0

/-- COMPARATOR_SET OP 1: what is in force at a node. -/
def State.readThreshold (s : State) (r node : Nat) : State := s.sendCmd r node 0x1B (1 :: List.replicate 11 0) none 1

/-- A read-back against the safety block (R158): a match puts an enumerated node into SERVICE, once its calibration is AUTO (R144); a mismatch is rewritten once, a second in a
row is fault 0x2133. -/
def State.judgeThresholds (s : State) (r node : Nat) (v : Nat × Nat × Nat) : State :=
  let nk := nodeKey r node
  let x := s.node nk
  if v = s.thresholds then
    let s := (s.setNode nk { x with cmpInForce := some v, cmpBad := 0 }).clearFaulty 0x2133 nk
    if x.state = 1 then s.sendCmd r node 0x19 [0, 0] none 0 else s
  else
    let s := s.setNode nk { x with cmpInForce := some v, cmpBad := x.cmpBad + 1 }
    if x.cmpBad = 1 then (s.markFaulty 0x2133 nk).lockFault 0x2133 nk [r] (u16 v.1 ++ u16 v.2.1 ++ u16 v.2.2)
    else if x.cmpBad = 0 then (s.writeThreshold r node) else s

/-- The node's calibration is AUTO: it is sent NODE_STATE SERVICE (R144, R158). -/
def State.calReply (s : State) (r node : Nat) (status : Byte) : State :=
  if status ≠ 0 ∨ (s.node (nodeKey r node)).state ≠ 1 then s
  else (s.updNode (nodeKey r node) fun x => { x with state := 2 }).sendCmd r node 0x11 [2] none 0

/-- CMP_READBACK (R158): each second the next node of the ring in rotation. -/
def execCmpReadback (ring ov uv hyst : Nat) (s : State) : Result :=
  .next <|
    let node := (s.ring ring).cmpNode % (s.ring ring).n + 1
    if 4 ≤ ring ∨ !s.isActive ∨ !(s.ring ring).sweeping ∨ (s.ring ring).n = 0 ∨ !s.canSend ring ((s.ring ring).port node) then s
    else
      let s := s.advanceTo ((s.now / 1000000000 + 1) * 1000000000)
      let s := s.command ring node 0x1B (1 :: List.replicate 11 0)
      (s.updRing ring fun x => { x with cmpNode := node % x.n }).judgeThresholds ring node (ov, uv, hyst)

/-- A cell whose comparator may be tested (R160). -/
def NodeSt.cmpTestable (x : NodeSt) (cell : Nat) : Bool :=
  x.ow.isNone && !x.ovTrips.getLsbD cell && !x.uvTrips.getLsbD cell
    && !(1 ≤ cell && x.pairMask.getLsbD (cell - 1)) && !x.pairMask.getLsbD cell

/-- The outcome of one comparator test (R160). -/
def State.cmpOutcome (s : State) (r node cell : Nat) (uv fired : Bool) : State :=
  let nk := nodeKey r node
  let s := s.inc 0x29E r
  let key := nk * 32 + 2 * cell + uv.toNat
  if fired then s.clearFaulty 0x2132 key
  else (s.markFaulty 0x2132 key).lockFault 0x2132 nk [r] (u8 cell ++ u8 (if uv then 1 else 0))

/-- The test at a position of the ring's rotation: node, cell, and whether its UV comparator; 32 to a node. -/
def rotTest (pos : Nat) : Nat × Nat × Bool := (pos / 32 + 1, pos % 32 / 2, pos % 2 == 1)

/-- The first position from one on, once round the ring, whose comparator may be tested. -/
def State.rotNext (s : State) (r pos : Nat) : Option Nat :=
  let len := (s.ring r).n * 32
  ((List.range len).map fun i => (pos + i) % len).find? fun q => (s.node (nodeKey r (rotTest q).1)).cmpTestable (rotTest q).2.1

/-- The time between two tests of the rotation, so that CELL.CMP_TEST_H brings every comparator once (DEDUCED, assumption log 195). -/
def State.rotNs (s : State) (r : Nat) : Nat := s.parN 0x299 r * 3600000000000 / (32 * max 1 (s.ring r).n)

/-- CMP_TEST_DUE (R160): the next test of the ring's rotation, and whether its comparator fired. -/
def execCmpTestDue (ring : Nat) (fired : Bool) (s : State) : Result :=
  .next <|
    if 4 ≤ ring ∨ !s.isActive ∨ !(s.ring ring).sweeping ∨ !s.framesOn then s
    else match s.rotNext ring (s.ring ring).cmpRot with
      | none => s
      | some q =>
        let s := s.advanceTo ((s.ring ring).cmpAt + s.rotNs ring)
        let (node, cell, uv) := rotTest q
        let s := s.updRing ring fun x => { x with cmpRot := q + 1, cmpAt := s.now }
        let s := s.sendCmd ring node 0x1B ([3, BitVec.ofNat 8 (cell + if uv then 128 else 0)] ++ List.replicate 10 0) none 5
        s.cmpOutcome ring node cell uv fired

/-- The next test of a CMP_TEST_RUN, or its completion (R160, Table 4.19). -/
def State.cmpNext (s : State) (r : Nat) : State :=
  match (s.ring r).cmpTest with
  | none => s
  | some (node, [], op, ov, uv) =>
    let s := s.updRing r fun x => { x with cmpTest := none }
    let _ := node
    match op with
    | some o => s.complete o 0 (u16 ov ++ u16 uv)
    | none => s
  | some (node, (cell, uv) :: _, _, _, _) =>
    s.sendCmd r node 0x1B ([3, BitVec.ofNat 8 (cell + if uv then 128 else 0)] ++ List.replicate 10 0) none 3

/-- A result of a CMP_TEST_RUN (R160). -/
def State.cmpResult (s : State) (r : Nat) (fired : Bool) : State :=
  match (s.ring r).cmpTest with
  | some (node, (cell, isUv) :: rest, op, ov, uv) =>
    let bit := if fired then 0 else 2 ^ cell
    let s := s.updRing r fun x => { x with cmpTest := some (node, rest, op, if isUv then ov else ov + bit, if isUv then uv + bit else uv) }
    (s.cmpOutcome r node cell isUv fired).cmpNext r
  | _ => s

/-- CMP_TEST_RUN (R167): the comparators of a cell, or of all, that may be tested. -/
def execCmpTestRun (h : Hdr) (ring node cell : Byte) (s : State) : Result :=
  .next <| s.wcpReq 0x0214 h [ring, node, cell] fun s =>
    let r := ring.toNat
    if !s.nodeOk r node.toNat ∨ (16 ≤ cell.toNat ∧ cell.toNat ≠ 255) then s.fail 0x0214 h 0x0104
    else if !(s.ring r).sweeping ∨ (s.ring r).cmpTest.isSome then s.fail 0x0214 h 0x0105
    else
      let x := s.node (nodeKey r node.toNat)
      let cells := (if cell.toNat = 255 then List.range 16 else [cell.toNat]).filter x.cmpTestable
      let tests := cells.flatMap fun c => [(c, false), (c, true)]
      let s := s.updRing r fun x => { x with cmpTest := some (node.toNat, tests, some (opRef 0x0214 h), 0, 0) }
      (s.reply 0x0214 h 1).cmpNext r

/-! ### Balancing (R161 to R166) -/

/-- BALANCE to a node (Table 6.11). -/
def State.sendBalance (s : State) (r node mode mask target duration check : Nat) (h : Option Hdr) : State :=
  s.sendCmd r node 0x18 (u8 mode ++ [0] ++ u16 mask ++ u16 target ++ u16 duration ++ u16 check) h mode

/-- BALANCE_MANUAL (R167); the node's reply answers it. -/
def execBalanceManual (h : Hdr) (ring node : Byte) (payload : Bytes) (s : State) : Result :=
  .next <| s.wcpReq 0x0211 h ([ring, node] ++ payload) fun s =>
    let r := ring.toNat
    let mode := fieldAt payload 0 1
    let dur := fieldAt payload 6 2
    if !s.nodeOk r node.toNat ∨ payload.length ≠ 10 ∨ 3 < mode ∨ (mode = 2 ∧ (dur = 0 ∨ 600 < dur)) then s.fail 0x0211 h 0x0104
    else if s.parN 0x280 r ≠ 0 ∨ !(s.ring r).sweeping then s.fail 0x0211 h 0x0105
    else s.hostCmd r node.toNat 0x18 payload h mode fun s => s.fail 0x0211 h 0x0105

/-- Cells a policy may balance: measured, on a node whose history is trusted (R164). -/
def State.balCells (s : State) (r : Nat) : List Nat :=
  (s.ringNodes r).flatMap fun n =>
    let nk := nodeKey r n
    if (s.auth nk).untrusted ∨ (s.node nk).last.isNone then [] else
      ((List.range 16).filter fun j => !(s.node nk).unmeasured.getLsbD j).map fun j => cellKey r n j

/-- Groups a node forms for k cells (R162). -/
def State.balGroups (s : State) (nk k : Nat) : Nat :=
  let m := s.parN 0x284 (nk / 28)
  let l := if (s.node nk).derated then max 1 (m / 2) else max 1 m
  (k + l - 1) / l

/-- Seconds a cell is to bleed (R164, policy 1). -/
def State.balSeconds (s : State) (k : Nat) (zmin : ℚ) (groups : Nat) : Nat :=
  let nk := k / 16
  let c := s.cellE k
  let t : ℚ := s.sweepNs (nk / 28)
  let duty : ℚ := if t = 0 then 0 else (t - 520000) / t
  let i := (s.node nk).vEst.getD (k % 16) 0 / 39 * duty / (groups : ℚ)
  if i ≤ 0 then 600 else max 1 (min 600 ((c.z - zmin) * c.thQ * 3600 / i).floor.toNat)

/-- Policy 1: TIMED to each node with a cell above the deadband; the node's shortest duration serves its cells. -/
def State.balBySoc (s : State) (r : Nat) : State :=
  let ks := (s.balCells r).filter fun k => (s.est.cell.find k).isSome
  let zmin := minQ ((s.measuredCells r).map fun k => (s.cellE k).z)
  let dead : ℚ := (s.parN 0x281 r : ℚ) / 10000
  let sel := ks.filter fun k => decide (zmin + dead < (s.cellE k).z)
  (s.ringNodes r).foldl (fun s n =>
    let mine := sel.filter fun k => k / 16 == nodeKey r n
    if mine = [] then s else
      let g := s.balGroups (nodeKey r n) mine.length
      let d := (mine.map fun k => s.balSeconds k zmin g).foldl min 600
      s.sendBalance r n 2 (ofBitList (mine.map (· % 16))) 0 d 0 none) s

/-- The lowest measured cell voltage of a string, in 100 µV. -/
def State.lowestCell (s : State) (r : Nat) : Nat :=
  let ks := (s.ringNodes r).flatMap fun n =>
    if (s.node (nodeKey r n)).last.isNone then [] else
      ((List.range 16).filter fun j => !(s.node (nodeKey r n)).unmeasured.getLsbD j).map fun j => cellKey r n j
  clampN 65535 (minQ (ks.map fun k => (s.node (k / 16)).vEst.getD (k % 16) 0) * 10000)

/-- Policy 2: TO_TARGET to every node (R164), without time-out and again at every policy tick (DESIGN CHOICE, assumption log 189). -/
def State.balByVolt (s : State) (r : Nat) : State :=
  let ks := s.balCells r
  let target := s.lowestCell r + 10 * s.parN 0x282 r
  (s.ringNodes r).foldl (fun s n =>
    let mine := ks.filter fun k => k / 16 == nodeKey r n
    if mine = [] then s else s.sendBalance r n 1 (ofBitList (mine.map (· % 16))) target 0 0 none) s

/-- BALANCE_POLICY_TICK (R164). -/
def execBalancePolicyTick (ring : Nat) (s : State) : Result :=
  .next <|
    if 4 ≤ ring ∨ !s.isActive ∨ !(s.ring ring).sweeping ∨ !s.framesOn then s
    else if s.parN 0x280 ring = 1 then (s.advanceTo ((s.now / 60000000000 + 1) * 60000000000)).balBySoc ring
    else if s.parN 0x280 ring = 2 then
      (match (s.ring ring).restSince with
        | none => s
        | some t => (s.advanceTo (t + 600000000000)).balByVolt ring)
    else s

/-- SLEEP_TARGET to every node before P4 (R166). -/
def State.sendSleepTargets (s : State) (r : Nat) : State :=
  let p := s.parN 0x288 r
  let target := if p = 0 then s.lowestCell r + 10 * s.parN 0x282 r else 10 * p
  let ks := s.balCells r
  (s.ringNodes r).foldl (fun s n =>
    let mask := ofBitList ((ks.filter fun k => k / 16 == nodeKey r n).map (· % 16))
    let s := s.updNode (nodeKey r n) fun x => { x with sleep := some (s.now, target, mask) }
    s.sendBalance r n 3 mask target (s.parN 0x289 r) (s.parN 0x28A r) none) s

/-- A node met again after SLEEP (R166): its balancing ended by time-out when its hours have passed with a masked cell still above the
target. -/
def State.sleepOutcome (s : State) (r node : Nat) (p : SweepPayload) : State :=
  let nk := nodeKey r node
  match (s.node nk).sleep with
  | none => s
  | some (t, target, mask) =>
    let s := s.updNode nk fun x => { x with sleep := none }
    if t + s.parN 0x289 r * 3600000000000 ≤ s.now ∧ (bitsSet 16 mask).any fun j => decide (target < (p.v.getD j 0).toNat) then
      s.raise 0x2141 nk 1
    else s

/-! ### Readings -/

/-- CELL_VALUES (R167, Table 6.13). -/
def execCellValues (h : Hdr) (ring node : Byte) (s : State) : Result :=
  .next <| s.wcpReq 0x0210 h [ring, node] fun s =>
    if !s.nodeOk ring.toNat node.toNat then s.fail 0x0210 h 0x0104
    else
      let x := s.node (nodeKey ring.toNat node.toNat)
      match x.last with
      | none => s.fail 0x0210 h 0x0105
      | some p =>
        let vs := fun (l : List ℚ) => (List.range 16).flatMap fun i => u16 (clampN 65535 (l.getD i 0 * 10000))
        s.reply 0x0210 h 0 (leBytes 2 p.sweep.toNat ++ leBytes 4 x.stamp.toNat ++ leBytes 2 p.status.toNat ++ leBytes 2 x.unmeasured.toNat
          ++ leBytes 4 x.wireFault.toNat ++ vs x.vEst ++ vs x.vHi ++ vs x.vLo ++ (List.range 4).flatMap fun i => leBytes 2 (p.t.getD i 0).toNat)

end Sys2Proof.Machine
end

