-- ==== Sys2Proof/Machine/Rings.lean ====
section
/-! DEFINITION. Chapter 5: enumeration and its opcodes (R116 to R118, R136), sweeps (R120 to R126), breaks (R130 to R134), the heartbeat
watch (R127), node replies (R114). -/

namespace Sys2Proof.Machine
open Sys2Proof

/-! ### Enumeration -/

/-- A string's safety outputs all read open on the line that both sockets drive (R117). -/
def State.outsOpen (s : State) (r : Nat) : Bool := (s.outsOf r).all fun n => !s.soOn n && !s.twinSoOn n

/-- No contactor of the string is closed (R116, R136). -/
def State.contactsOpen (s : State) (r : Nat) : Bool := !s.closed r && s.outsOpen r

/-- A ring at rest: STOPPED and not enumerated, no break, nothing pending; the enumerated set is cleared first (R136). -/
def RingSt.halt (x : RingSt) (mode : Nat) : RingSt :=
  { mode := mode, n := x.n, loopPs := x.loopPs, sweep := x.sweep, depart := x.depart, txSince := x.txSince, tag := x.tag, cmpNode := x.cmpNode,
    cmpRot := x.cmpRot, cmpAt := x.cmpAt }

/-- The tests of a node that goes out of service end: their requests complete with 0x0105. -/
def State.dropWire (s : State) (nk : Nat) : State :=
  let x := s.node nk
  let ops := (x.ow.toList ++ x.owWait).filterMap (·.op)
  if x.ow.isNone ∧ x.owWait = [] then s
  else ops.foldl (fun s op => s.complete op 0x0105) (s.setNode nk { x with ow := none, owWait := [] })

/-- The comparator test of a ring that stops ends with 0x0105. -/
def State.dropCmp (s : State) (r : Nat) : State :=
  match (s.ring r).cmpTest with
  | some (_, _, some op, _, _) => (s.updRing r fun x => { x with cmpTest := none }).complete op 0x0105
  | _ => s

/-- The nodes of a ring lose their addresses (R116 step 1) and their measurement faults start anew. -/
def State.clearNodes (s : State) (r : Nat) : State :=
  (List.range 28).foldl (fun s i =>
    let k := r * 28 + i
    if (s.rings.node.find k).isNone then s
    else (s.dropWire k).updNode k fun x =>
      { x.renew with state := 0, cmpInForce := none, cmpBad := 0, cycles := 0, slots := [], slotVals := [] }) s

/-- Enumeration begins (R116): NODE_STATE RESET from both ports, then ENUM with COUNTER 0 from PTX. -/
def State.beginEnum (s : State) (r : Nat) : State :=
  let s := (s.updRing r fun x => { x.halt 1 with enumStage := 1, txSince := s.now }).clearNodes r
  (s.sendBoth r 0x11 [0]).sendFrame r false 0x03 0xFF 0 [0, 0]

/-- The 256 DELAY_PROBE pairs, each from PTX and QTX at one instant (R118). -/
def State.sendProbes (s : State) (r : Nat) : State :=
  match s.ringLine r false, s.ringLine r true with
  | some p, some q =>
    let pair := fun (i : Nat) => [Out.ring r false p (ringFrame 0x04 0xFF 0 (u8 i ++ [0])), Out.ring r true q (ringFrame 0x04 0xFF 0 (u8 i ++ [1]))]
    if s.framesOn then { s with out := s.out ++ (List.range 256).flatMap pair } else s
  | _, _ => s

/-- The RING.MODE of each ring named, 0xFF for the others (Table 4.19). -/
def State.modeBytes (s : State) (named : List Nat) : Bytes :=
  (List.range 4).map fun r => if r ∈ named then BitVec.ofNat 8 (s.ring r).mode else 0xFF

/-- A ring request completes when no ring of it waits, or at once with 0x0105 when an enumeration is abandoned (R136). -/
def State.ringOpDone (s : State) (q : RingOp) : State :=
  if q.waiting = [] then s.complete q.op (if q.failed then 0x0105 else 0) (s.modeBytes q.named)
  else { s with rings := { s.rings with ops := s.rings.ops ++ [q] } }

/-- Ring r's enumeration has ended for the requests that wait for it. -/
def State.enumEnded (s : State) (r : Nat) (failed abandoned : Bool) : State :=
  let qs := s.rings.ops.map fun (q : RingOp) =>
    if r ∈ q.waiting then
      { q with waiting := if abandoned then [] else q.waiting.filter fun x => x != r, failed := q.failed || failed } else q
  qs.foldl State.ringOpDone { s with rings := { s.rings with ops := [] } }

/-- RING_START (R136). -/
def execRingStart (h : Hdr) (mask : Byte) (s : State) : Result :=
  .next <| s.wcpReq 0x0200 h [mask] fun s =>
    let rs := bitsSet 4 mask.toNat
    let go := rs.filter fun r => s.parN 0x201 r ≠ 0 ∧ !(s.ring r).sweeping
    if go = [] then s.reply 0x0200 h 0
    else if !(go.all fun r => (s.ring r).mode == 0 && s.contactsOpen r) then s.fail 0x0200 h 0x0105
    else
      let s := s.reply 0x0200 h 1
      let s := { s with rings := { s.rings with ops := s.rings.ops ++ [(⟨opRef 0x0200 h, rs, go, false⟩ : RingOp)] } }
      go.foldl State.beginEnum s

def State.dropWires (s : State) (r : Nat) : State := (s.ringNodes r).foldl (fun s n => s.dropWire (nodeKey r n)) s

/-- A ring stops (R136). -/
def State.stopRing (s : State) (r : Nat) : State :=
  let busy := (s.ring r).enumStage ≠ 0
  let s := (s.dropCmp r).updRing r fun x => x.halt 0
  let s := if busy then s.enumEnded r true true else s
  ((s.abandonRun r 0x5052).dropSync r).dropWires r

/-- RING_STOP (R136). -/
def execRingStop (h : Hdr) (mask : Byte) (s : State) : Result :=
  .next <| s.wcpReq 0x0201 h [mask] fun s =>
    let rs := bitsSet 4 mask.toNat
    if !(rs.all s.contactsOpen) then s.fail 0x0201 h 0x0105
    else (rs.foldl State.stopRing s).reply 0x0201 h 0

/-- RING_ENUMERATE (R136): only while the ring is halted (Table 4.14), and with a node to find (DESIGN CHOICE, assumption log 187). -/
def execRingEnumerate (h : Hdr) (ring : Byte) (s : State) : Result :=
  .next <| s.wcpReq 0x0202 h [ring] fun s =>
    let r := ring.toNat
    if 4 ≤ r then s.fail 0x0202 h 0x0104
    else if (s.ring r).mode ≠ 0 ∨ !s.contactsOpen r ∨ s.parN 0x201 r = 0 then s.fail 0x0202 h 0x0105
    else
      let s := s.reply 0x0202 h 1
      let s := { s with rings := { s.rings with ops := s.rings.ops ++ [(⟨opRef 0x0202 h, [r], [r], false⟩ : RingOp)] } }
      s.beginEnum r

/-- The node table of a ring for the standby (03 R70): kind 1, ring, mode, nodes, break, enumerated set, loop delay. -/
def State.nodeTable (s : State) (r : Nat) : Bytes :=
  let x := s.ring r
  u8 1 ++ u8 r ++ u8 x.mode ++ u8 x.n ++ u16 (breakWord x.brk) ++ leBytes 4 x.turnipSet.toNat ++ u32 x.loopPs

/-- The active sends its node tables (R70, R107). -/
def State.sendTable (s : State) (r : Nat) : State := if s.isActive then s.emit (.shallot 0x50 (s.nodeTable r)) else s

/-- What follows an enumeration that reached NORMAL or BROKEN: every node challenged, its version read, its thresholds written (11 R325,
19 R516, 06 R158). -/
def State.serviceNodes (s : State) (r : Nat) : State :=
  (s.ringNodes r).foldl (fun s n =>
    let s := s.updNode (nodeKey r n) fun x => { x with state := 1 }
    ((s.writeThreshold r n).sendCmd r n 0x1E [3, 0] none 3).challenge (nodeKey r n)) s

/-- A ring fails (R117, R118). -/
def State.failRing (s : State) (r code : Nat) (data : Bytes) : State :=
  ((s.updRing r fun x => { x with mode := 4, enumStage := 0, sweeping := false, turnipSet := 0 }).sendTable r).raise code r 2 data

/-- ENUM_RESULT (R116, R117, Table 5.9): nodes found from P, and from Q after the 1 ms time-out. -/
def execEnumResult (ring fromP : Nat) (fromQ : Option Nat) (unaddressed : Bool) (s : State) : Result :=
  .next <|
    if 4 ≤ ring ∨ (s.ring ring).enumStage ≠ 1 then s
    else
      let n := s.parN 0x201 ring
      let s := if fromQ.isSome then (s.advanceTo ((s.ring ring).txSince + 1000000)).sendFrame ring true 0x03 0xFF 0 (u8 (n + 1) ++ [1]) else s
      let whole : Bool := fromQ.isNone && fromP == n && !unaddressed
      let broken : Bool := match fromQ with
        | some q => decide (fromP < n ∧ fromP + q = n) && !unaddressed
        | none => false
      if whole || broken then
        let brk := if broken then some (fromP, fromP + 1) else none
        let set := if s.outsOpen ring then BitVec.ofNat 32 (2 ^ n - 1) else 0
        let s := s.updRing ring fun x => { x with mode := if broken then 3 else 2, brk := brk, n := n, enumerated := true, enumStage := 2,
                                                  turnipSet := set, hbSeen := 0, hbLost := 0, found := some (fromP, fromQ.getD 0),
                                                  hbAt := (List.range n).map fun i => (i + 1, s.now) }
        let s := if broken then (s.inc 0x216 ring).raise 0x2010 ring 1 (u8 fromP ++ u8 (fromP + 1)) else s
        ((s.serviceNodes ring).sendProbes ring).sendTable ring
      else
        let s := s.failRing ring 0x2001 (u8 fromP ++ u8 (fromQ.getD 0) ++ u8 (if unaddressed then 1 else 0))
        s.enumEnded ring true false

/-- DELAY_MEASURED (R118): loop delays P to Q and Q to P, or the round trips of the two halves, in ps; the ring's part of the request
that began it ends. -/
def execDelayMeasured (ring lps lps2 : Nat) (s : State) : Result :=
  .next <|
    let x := s.ring ring
    if 4 ≤ ring ∨ x.enumStage ≠ 2 then s
    else if x.brk.isNone ∧ 200000 < (if lps < lps2 then lps2 - lps else lps - lps2) then
      (s.failRing ring 0x2002 (u32 lps ++ u32 lps2)).enumEnded ring true false
    else
      let set := fun (ps mode : Nat) => u32 ps ++ u16 (s.parN 0x202 ring) ++ leBytes 2 (x.sweep + 1).toNat ++ u8 mode
      let mean := (lps + lps2) / 2
      let s := s.setRing ring { x with enumStage := 0, sweeping := true, loopPs := if x.brk.isSome then lps else mean }
      let s := if x.brk.isSome then (s.sendFrame ring false 0x05 0xFF 0 (set lps 1)).sendFrame ring true 0x05 0xFF 0 (set lps2 1)
        else s.broadcast ring 0x05 (set mean 0)
      (s.sendTable ring).enumEnded ring false false

/-- NODE_COUNTERS (R136); the node's reply answers it. A ring that does not run answers 0x0105 (DESIGN CHOICE, assumption log 187). -/
def execNodeCounters (h : Hdr) (ring node source : Byte) (s : State) : Result :=
  .next <| s.wcpReq 0x0203 h [ring, node, source] fun s =>
    if !s.nodeOk ring.toNat node.toNat ∨ 4 < source.toNat then s.fail 0x0203 h 0x0104
    else if (s.ring ring.toNat).mode < 2 then s.fail 0x0203 h 0x0105
    else s.hostCmd ring.toNat node.toNat 0x13 [source] h source.toNat fun s => s.fail 0x0203 h 0x0105

/-- NODE_PORTS (R136); the node's reply answers it. A ring that does not run answers 0x0105 (DESIGN CHOICE, assumption log 187). -/
def execNodePorts (h : Hdr) (ring node : Byte) (s : State) : Result :=
  .next <| s.wcpReq 0x0204 h [ring, node] fun s =>
    if !s.nodeOk ring.toNat node.toNat then s.fail 0x0204 h 0x0104
    else if (s.ring ring.toNat).mode < 2 then s.fail 0x0204 h 0x0105
    else s.hostCmd ring.toNat node.toNat 0x12 [] h 0 fun s => s.fail 0x0204 h 0x0105

/-! ### A node's report in a frame (Table 5.6, R142, R146, R159, R325) -/

/-- A node's EPOCH against the stored one (R538, Table 5.14). -/
def State.epochSeen (s : State) (r node : Nat) (e : Byte) : State :=
  let nk := nodeKey r node
  match (s.node nk).epoch with
  | none => s.updNode nk fun x => { x with epoch := some e }
  | some old =>
    if old = e then s
    else
      let s := (s.updNode nk fun x => ({ x.renew.neutral with epoch := some e })).raise 0x2040 nk 0 [old, e]
      let s := if (s.imp r).run = 0 then s else s.updImp r fun i => { i with rejected := node :: i.rejected }
      let s := s.dropTemps nk
      if s.isActive then s.challenge nk else s

/-- NODE_STATUS of a frame (Table 5.6): trips are read out as long as one stands (R159), CAL_FAULT and BAL_DERATED raised when they come. -/
def State.statusSeen (s : State) (r node : Nat) (w : BitVec 16) : State :=
  let nk := nodeKey r node
  let x := s.node nk
  let rise := fun (b : Nat) => w.getLsbD b && !x.status.getLsbD b
  let s := s.setNode nk { x with status := w, derated := w.getLsbD 14 }
  let s := if rise 12 then s.raise 0x2103 nk 1 [1] else s
  let s := if rise 14 then s.raise 0x2140 nk 0 else s
  let asked := (s.ring r).reqs.any fun q => q.node == node && q.type == 0x1B
  if (w.getLsbD 0 || w.getLsbD 1) && s.isActive && !asked then s.readThreshold r node else s

/-- An idle set arrives (R109, R127): each node whose bit a correctly checked set carries restarts its timer; a wrong check byte is counted. -/
def State.idleSeen (s : State) (r : Nat) (idle : Bytes) : State :=
  let x := s.ring r
  if idle.length = 5 ∧ idle.getD 4 0 = setCheck (idle.take 4) then
    let m := BitVec.ofNat 32 (fieldAt idle 0 4)
    s.setRing r { x with hbSeen := x.hbSeen ||| m, hbLost := x.hbLost &&& ~~~m,
                         hbAt := (bitsSet 28 m.toNat).foldl (fun (t : SMap Nat) i => t.set (i + 1) s.now) x.hbAt }
  else (s.setRing r { x with osetAt := s.now :: (x.osetAt.filter fun t => decide (s.now < t + 1000000000)) }).inc 0x217 r

/-- A frame received correctly (R113). -/
def Rx.ok (x : Rx) : Bool := x.whole && x.viol == 0

/-- A master's port receives: its ring is powered (R129), its transceiver in service and the mixed-signal die there (01 R11, Table 1.6). -/
def State.hears (s : State) (r : Nat) (q : Bool) : Bool :=
  s.sys.power != .p4 && s.sys.power != .p5 && !s.sys.diesLost.getLsbD 2 && !s.sys.trxErr.getLsbD (2 * r + q.toNat)

/-- A frame comes in (R109, R113, R127): the idle set before it, its code violations, and whether it stands or is discarded. -/
def State.arrived (s : State) (r : Nat) (rx : Rx) : State :=
  let s := (s.idleSeen r rx.idle).incBy 0x212 r rx.viol
  s.inc (if Rx.ok rx then 0x210 else 0x211) r

/-- What a received frame does: only a correct one acts; one from an unaddressed node in NORMAL or BROKEN is a fault (R113, R137). -/
def State.onFrame (s : State) (r : Nat) (addr : Byte) (rx : Rx) (f : State → State) : State :=
  if 4 ≤ r ∨ !s.hears r rx.q then s
  else
    let s := s.arrived r rx
    let m := (s.ring r).mode
    if !Rx.ok rx then s else if addr = 0xFE then (if m = 2 ∨ m = 3 then s.raise 0x2041 r 1 else s) else f s

/-- Failed and working sensors of a frame (R142, 17 R474). -/
def State.tempsSeen (s : State) (r node : Nat) (p : SweepPayload) : State :=
  let nk := nodeKey r node
  let x := s.node nk
  let bad := BitVec.ofNat 4 (ofBits ((List.range 4).map (tempBad p)))
  let s := s.setNode nk { x with failedT := bad, tempC := x.temps p }
  let s := (List.range 4).foldl (fun s k => if bad.getLsbD k && !x.failedT.getLsbD k then s.raise 0x2106 nk 1 (u8 k ++ leBytes 2 (p.t.getD k 0).toNat) else s) s
  let s := if bad = 0xF ∧ x.failedT ≠ 0xF then s.raise 0x2107 nk 2 else s
  if noSample p then s
  else (workingTemps p).foldl (fun s q => s.pushTemp (nk * 4 + q.1) (s.sampleAt r p.sweep) q.2) s

/-- A frame joins the sweep store (R121 to R124): held for the sweep in progress, or kept as late. -/
def State.storeFrame (s : State) (r node : Nat) (p : SweepPayload) : State :=
  if noSample p then s
  else s.updRing r fun x =>
    if x.collecting && p.sweep == x.sweep then { x with held := if (x.held.find node).isSome then x.held else x.held.set node p }
    else { x with late := ((p.sweep, node, p) :: x.late).take 84 }

/-- A correct SWEEP_DATA frame of an addressed node. -/
def State.frameIn (s : State) (r node : Nat) (p : SweepPayload) : State :=
  let s := ((s.statusSeen r node p.status).epochSeen r node p.epoch).sleepOutcome r node p
  ((s.tempsSeen r node p).storeFrame r node p).evalFrame r node p

/-- SWEEP_DATA (R113, R121, R343). -/
def execSweepData (ring : Nat) (addr : Byte) (rx : Rx) (p : SweepPayload) (s : State) : Result :=
  .next <| s.onFrame ring addr rx fun s =>
    if !(s.ring ring).sweeping ∨ !s.nodeOk ring addr.toNat then s else s.frameIn ring addr.toNat p

/-- The train of a node's half beside a break: its first and last position still due in the sweep in progress, and the node at the last (R121, R123,
R132). -/
def RingSt.train (x : RingSt) (node : Nat) : Option (Nat × Nat × Nat) :=
  match x.cut with
  | none => none
  | some (k, m) =>
    if node ≤ k then some (1, k, k)
    else if x.brkSweep = some x.sweep then some (m, x.n, x.n)
    else some (1, x.n + 1 - m, m)

/-- When a re-request to a node may leave (R123): at once, or at the end of its half's train that is in progress. -/
def State.askAt (s : State) (r node : Nat) : Nat :=
  let x := s.ring r
  let slot := fun (i : Nat) => s.sampleAt r x.sweep + 20000 + i * 28800
  match x.train node with
  | some (first, last, k) => if (x.held.find k).isSome ∨ s.now < slot (first - 1) then s.now else max s.now (slot last)
  | none => s.now

/-- An attempt of a re-request that brought no frame (R123): the second is the last. -/
def State.noFrame (s : State) (r node attempt : Nat) : State :=
  if attempt = 2 then s.updRing r fun x => { x with givenUp := node :: x.givenUp } else s

/-- READ_RETAINED (R123): at most 2 attempts for a frame, each allowed 200 µs, outside the half's train. -/
def execReadRetained (ring node : Nat) (answer : ReadBack) (s : State) : Result :=
  .next <|
    let x := s.ring ring
    if !s.nodeOk ring node ∨ !s.isActive ∨ !x.collecting ∨ (x.held.find node).isSome ∨ node ∈ x.givenUp ∨ 2 ≤ x.attempts.at node 0
      ∨ !s.canSend ring (x.port node) then s
    else
      let s := s.advanceTo (s.askAt ring node)
      let k := x.attempts.at node 0 + 1
      let s := (s.setRing ring { x with attempts := x.attempts.set node k }).inc 0x215 ring
      let s := s.command ring node 0x10 (leBytes 2 x.sweep.toNat)
      match answer with
      | .frame rx p =>
        let s := s.arrived ring rx
        if Rx.ok rx then s.frameIn ring node p else s.noFrame ring node k
      | .notHeld => s.updRing ring fun x => { x with givenUp := node :: x.givenUp }
      | .expired => (s.advanceTo (s.now + 200000)).noFrame ring node k

/-! ### Finalisation (R124 to R126, R137) -/

/-- RX_MASK: bit n - 1 for each node held (Table 5.4). -/
def RingSt.rxMask (x : RingSt) : Nat := ofBitList (x.held.map fun p => p.1 - 1)

/-- Every enumerated node's frame is held (R124). -/
def RingSt.whole (x : RingSt) : Bool := (List.range x.n).all fun i => (x.held.find (i + 1)).isSome

/-- The nodes' derived values of a held frame are stored, the bounds after the pair visit has judged the cells (R145, R146, R154, R276). -/
def State.deriveNode (s : State) (r node t : Nat) (ip : ℚ) (p : SweepPayload) : State :=
  let nk := nodeKey r node
  let v := s.nodeVals r node p ip t
  let s := s.updNode nk fun x => { x.visited p v.est with last := some p, stamp := ts32 t, tempC := v.temps, vEst := v.est }
  let s := s.pairVisit r node p v ip t
  let v := s.nodeVals r node p ip t
  s.updNode nk fun x => { x with vHi := v.hi, vLo := v.lo }

/-- A bounded pair without headroom (R154). -/
def State.pairRoom (s : State) (r nk j : Nat) : State :=
  let x := s.node nk
  let m := s.parN 0x298 r
  let ok : Bool := decide (x.vHi.getD j 0 * 1000 ≤ ((s.parN 0x600 0 : ℚ) - m) ∧ ((s.parN 0x601 0 : ℚ) + m) ≤ x.vLo.getD j 0 * 1000)
  if ok then s.setNode nk { x with noRoom := x.noRoom.filter fun i => i != j }
  else if x.noRoom.contains j then s
  else (s.setNode nk { x with noRoom := j :: x.noRoom }).raise 0x2112 nk 2 (u8 (j + 1))

/-- One node's entries of the slow-input set: highest, lowest and hottest with their places, and the counts (R125, R142, R154). -/
structure SlowPart where
  hi : Option (ℚ × Nat × Nat)
  lo : Option (ℚ × Nat × Nat)
  hot : Option (Int × Nat × Nat)
  cells : Nat
  temps : Nat
  deriving DecidableEq, Repr

def pickBy {α : Type} (better : α → α → Bool) (l : List α) : Option α :=
  l.foldl (fun b v => match b with
    | none => some v
    | some w => if better v w then some v else some w) none

/-- A node's temperatures for the hottest-cell input: a failed sensor counts as the highest working one plus CELL.TEMP_SUBST_K. -/
def hotTemps (p : SweepPayload) (subst : Nat) : List (Int × Nat) :=
  let ws := workingTemps p
  match pickBy (fun (a b : Nat × Int) => decide (b.2 < a.2)) ws with
  | none => []
  | some top => (List.range 4).map fun k => if tempBad p k then (top.2 + 100 * (subst : Int), k) else (tempCode p k, k)

def State.slowPart (s : State) (r node : Nat) (p : SweepPayload) : SlowPart :=
  let x := s.node (nodeKey r node)
  let cells := (List.range 16).filter x.judged
  let hot := pickBy (fun (a b : Int × Nat) => decide (b.1 < a.1)) (hotTemps p (s.parN 0x29A r))
  { hi := pickBy (fun a b => decide (b.1 < a.1)) (cells.map fun j => (x.vHi.getD j 0, node, j)),
    lo := pickBy (fun a b => decide (a.1 < b.1)) (cells.map fun j => (x.vLo.getD j 0, node, j)),
    hot := hot.map fun q => (q.1, node, q.2),
    cells := ((List.range 16).filter fun j => !x.unmeasured.getLsbD j).length + if x.full then 0 else x.bounded.length,
    temps := (workingTemps p).length }

/-- The slow-input set of a finalised sweep, published to the lane's bank (R125). -/
def State.publish (s : State) (r t : Nat) (whole : Bool) : State :=
  let x := s.ring r
  let ps := x.held.map fun q => s.slowPart r q.1 q.2
  let set : SlowSet := { sweep := x.sweep, stamp := ts32 t, hi := pickBy (fun a b => decide (b.1 < a.1)) (ps.filterMap (·.hi)),
                         lo := pickBy (fun a b => decide (a.1 < b.1)) (ps.filterMap (·.lo)),
                         hot := pickBy (fun a b => decide (b.1 < a.1)) (ps.filterMap (·.hot)), cells := (ps.map (·.cells)).sum,
                         temps := (ps.map (·.temps)).sum, incomplete := !whole }
  s.updLane r fun l => { l with slow := some set, slowFull := if whole then some set else l.slowFull }

/-- What the filters take of a held frame (R270, Table 10.4). -/
def State.nodeMeas (s : State) (r node : Nat) (p : SweepPayload) : NodeMeas :=
  let x := s.node (nodeKey r node)
  { node := node, usable := true, full := x.full, v := x.vEst, unmeas := x.unmeasured,
    pairs := if x.full then [] else x.bounded.map fun j => (j, x.carried j x.vEst), margin := s.margin (nodeKey r node), temps := x.tempC, bal := p.balMask }

/-- Warnings and the precursor on the newest temperatures of a node (11 R324, 17 R474, R475). -/
def State.tempWatch (s : State) (r node : Nat) (p : SweepPayload) : State :=
  let nk := nodeKey r node
  (workingTemps p).foldl (fun s q =>
    let rate := s.cellRate (nk * 4 + q.1)
    let s := s.cellWarnings (nk * 4 + q.1) ((q.2 : ℚ) / 100) rate
    match rate with
    | some v => s.precursorSensor nk q.1 v
    | none => s) s

/-- SWEEP chunk of the flight buffer (Table 18.5). -/
def State.sweepChunk (s : State) (r t : Nat) (whole : Bool) : State :=
  let x := s.ring r
  s.fbPush 3 s.now (u8 r ++ u8 (if whole then 1 else 0) ++ leBytes 2 x.sweep.toNat ++ leBytes 4 (ts32 t).toNat ++ u32 x.rxMask
    ++ x.held.flatMap fun q => u8 q.1 ++ [0] ++ sweepBytes q.2)

/-- SWEEP_FINAL to the standby (R379, Table 13.2). -/
def State.sendFinal (s : State) (r t : Nat) (whole : Bool) : State :=
  let x := s.ring r
  if !s.isActive then s else (·.place (.ring r)) <| s.emit (.shallot 0x10 (u8 r ++ u8 (if whole then 1 else 0) ++ leBytes 2 x.sweep.toNat ++ leBytes 4 (ts32 t).toNat
    ++ u32 x.rxMask ++ (List.range 28).flatMap fun i => match x.held.find (i + 1) with
      | some p => u16 (crc16 (frameBytes (i + 1) p))
      | none => [0, 0]))

/-- SWEEP_ACK from both ports (R122). -/
def State.sendAck (s : State) (r : Nat) : State :=
  let x := s.ring r
  let b := leBytes 2 x.sweep.toNat ++ u32 x.rxMask
  if !s.isActive then s else s.sendBoth r 0x02 b

/-- The counters and faults of a finalisation (R124, R126). -/
def State.countSweep (s : State) (r : Nat) (whole : Bool) : State :=
  let x := s.ring r
  let k := if whole then 0 else x.partialRun + 1
  let s := s.setRing r { x with collecting := false, partialRun := k }
  if whole then s.inc 0x213 r
  else
    let s := (s.inc 0x214 r).raise 0x2020 r 0 (leBytes 2 x.sweep.toNat ++ u32 x.rxMask)
    if k = 3 then s.raise 0x2021 r 1 else s

/-- The string's current at rest (R164). -/
def State.restWatch (s : State) (r : Nat) (ip : ℚ) : State :=
  s.updRing r fun x => { x with restSince := if |ip| * 10 ≤ (s.parN 0x283 r : ℚ) then some (x.restSince.getD s.now) else none }

/-- On a standby the sweep waits for the active's SWEEP_FINAL, unless that has come already (R379). -/
def State.openExchange (s : State) (r : Nat) : State :=
  if !s.isStandby then s
  else
    let n := (s.ring r).sweep
    let old : Bool := match (s.twin.exchange : SMap SweepExch).find r with
      | some x => x.sweep == n
      | none => false
    if old then s else { s with twin := { s.twin with exchange := (s.twin.exchange : SMap SweepExch).set r ⟨n, none, 0⟩ } }

/-- A sweep sampled under full injection joins the window in progress (11 R312, R314). -/
def State.windowSweep (s : State) (r t : Nat) (ip : ℚ) : State :=
  let i := s.imp r
  let full : Bool := match i.fullSince with
    | some a => decide (a ≤ t)
    | none => false
  if i.run = 2 ∧ full then
    let nodes := (s.ring r).held.map fun q => (q.1, (s.node (nodeKey r q.1)).vEst, (s.node (nodeKey r q.1)).tempC)
    s.setImp r { i with win := ⟨t, ip, nodes⟩ :: i.win }
  else s

/-- A sweep is finalised (R124). -/
def State.finalise (s : State) (r : Nat) : State :=
  let x := s.ring r
  if !x.collecting then s
  else
    let t := s.sampleAt r x.sweep
    let whole := x.whole
    let ip := s.pairedCurrent r t
    let s := s.countSweep r whole
    let s := s.sendAck r
    let s := (s.ringNodes r).foldl (fun s n => s.calNode r n (x.held.find n)) s
    let s := x.held.foldl (fun s q => s.deriveNode r q.1 t ip q.2) s
    let s := x.held.foldl (fun s q => (s.node (nodeKey r q.1)).bounded.foldl (fun s j => s.pairRoom r (nodeKey r q.1) j) s) s
    let s := (s.publish r t whole).windowSweep r t ip
    let s := s.pushSweep r ⟨t, ip, s.sweepNs r, x.held.map (fun q => s.nodeMeas r q.1 q.2), !s.isStandby⟩
    let s := (s.compSweep r ip (x.held.map (·.1))).compWarn r
    let s := x.held.foldl (fun s q => s.tempWatch r q.1 q.2) s
    let s := (((s.sweepChunk r t whole).sendFinal r t whole).openExchange r).restWatch r ip
    (s.owStartAll r).tryArm

/-- Return to NORMAL at a SYNC (R133). -/
def State.toNormal (s : State) (r : Nat) : State :=
  let x := s.ring r
  if !x.toNormal ∨ x.mode ≠ 3 then s
  else (s.setRing r { x with toNormal := false, mode := 2, brk := none, lost := [], stable := [], unwrapOk := [], asked := [], lostP := false,
                             lostQ := false }).raise 0x2011 r 0

/-- The sweep rate of injection: 1 kHz from a run's SYNC, the parameter's again after it (R120, 11 R310). -/
def State.rateAtSync (s : State) (r : Nat) : State :=
  let i := s.imp r
  if i.run = 1 ∧ !(s.ring r).fast then s.updRing r fun x => { x with fast := true }
  else if i.run = 3 then ((s.updRing r fun x => { x with fast := false }).setImp r { i with run := 0 }).syncNext r
  else s

/-- Whether a ring's boundary may take a new RING.SWEEP_HZ: not during injection (11 R310). -/
def State.ringBoundary (s : State) (r : Nat) : State :=
  if !(s.ring r).fast then s.boundary (.ring r)
  else
    match s.wcp.commit with
    | some c =>
      let keep := c.entries.filter fun v => v.id == 0x200 && v.inst == r
      let s := ({ s with wcp := { s.wcp with commit := some { c with entries := c.entries.filter fun v => !(v.id == 0x200 && v.inst == r) } } }).boundary (.ring r)
      { s with wcp := { s.wcp with commit := s.wcp.commit.map fun d => { d with entries := keep ++ d.entries } } }
    | none => s.boundary (.ring r)

/-- The SYNC of a sweep, which carries SNAP when a snapshot's instant falls within 10 µs of the sample instant; that is then the set's
instant (R135). -/
def State.sendSync (s : State) (r : Nat) : State :=
  let t := s.now + s.parN 0x202 r
  match s.wcp.snaps.find? fun (x : Snap) => !x.latched && decide (x.instant ≤ t + 10000 ∧ t ≤ x.instant + 10000) with
  | none => s.syncOut r 1 0 s.now
  | some sn =>
    let s := { s with wcp := { s.wcp with snaps := s.wcp.snaps.map fun (x : Snap) =>
      if x.num = sn.num then { x with instant := t, rode := r :: x.rode } else x } }
    s.syncOut r (3 + 4 * sn.slot) 0 s.now

/-- The state a ring's SYNC leaves: the sweep before is finalised, the block's values apply, the next sweep is in progress (R120, R124). -/
def State.startSweep (s : State) (r : Nat) : State :=
  let s := (s.finalise r).ringBoundary r
  let s := (s.toNormal r).rateAtSync r
  let s := s.updRing r fun x => { x with sweep := x.sweep + 1, depart := s.now, collecting := true, held := [], attempts := [], givenUp := [] }
  if s.isActive then s.sendSync r else s

/-- Neither module can transmit: this one is STANDBY and ROLE_IN is low (R46, R389). -/
def State.mute (s : State) : Bool := s.isStandby && !s.sys.roleIn && !s.sys.roleOut

/-- A ring sweeps: P0 to P2 (Table 3.1); a check visit has its one sweep (R60). -/
def State.sweepsOn (s : State) (r : Nat) : Bool :=
  (s.ring r).sweeping && s.sweepNs r != 0 && (s.sys.power == .p0 || s.sys.power == .p1 || (s.sys.power == .p2 && !s.sys.checkVisit))

/-- SWEEP_SYNC (R120): the next point of the sweep grid; one that falls due while neither module can transmit waits for the takeover (R389). -/
def execSweepSync (ring : Nat) (s : State) : Result :=
  .next <|
    let per := s.sweepNs ring
    if 4 ≤ ring ∨ !s.sweepsOn ring then s
    else
      let s := s.advanceTo ((s.now / per + 1) * per)
      if s.mute then s.updRing ring fun x => { x with syncDue := true } else s.startSweep ring

/-- The grid points of an interval in which neither module could transmit (R389). -/
def State.missSyncs (s : State) (from_ : Nat) : State :=
  [0, 1, 2, 3].foldl (fun s r =>
    if s.sweepsOn r && decide (from_ < s.now / s.sweepNs r * s.sweepNs r) then s.updRing r fun x => { x with syncDue := true } else s) s

/-- SYNCs that fell due while neither module could transmit leave at once on the new active, each sweep with its own stamp (R389). -/
def State.sendMissed (s : State) : State :=
  if !s.isActive then s
  else [0, 1, 2, 3].foldl (fun s r =>
    if (s.ring r).syncDue then (if s.sweepsOn r then s.startSweep r else s).updRing r fun x => { x with syncDue := false } else s) s

/-! ### Breaks (R130 to R134) -/

/-- A break is recorded (R131), or a second one splits the ring (R134). -/
def State.recordBreak (s : State) (r : Nat) (pair : Nat × Nat) : State :=
  let x := s.ring r
  let x := { x with asked := x.asked.filter fun a => (min a.1 a.2, max a.1 a.2) != pair }
  let s := s.setRing r x
  if x.mode = 2 then
    ((s.setRing r { x with mode := 3, brk := some pair, brkSweep := if x.collecting then some x.sweep else none }).inc 0x216 r).raise 0x2010 r 1
      (u8 pair.1 ++ u8 pair.2)
  else if x.mode = 3 ∧ x.brk ≠ some pair then
    let first := x.brk.getD (0, 0)
    let s := (s.setRing r { x with mode := 4, brk2 := some pair, toNormal := false, unwrapOk := [] }).inc 0x216 r
    (s.raise 0x2012 r 2 (u8 first.1 ++ u8 first.2 ++ u8 pair.1 ++ u8 pair.2)).abandonRun r 0x5052
  else s

/-- The steps of a return to NORMAL end at a lock loss (R133): the PORT_STATUS read for them is not awaited any longer. -/
def RingSt.dropUnwrap (x : RingSt) : RingSt :=
  { x with toNormal := false, unwrapOk := [], reqs := x.reqs.filter fun q => !(q.type == 0x12 && q.hdr.isNone && q.arg == 1) }

/-- A master port goes out of lock (R130, R131): a break at the ring's end, and evidence for a loss that the neighbour of its node has reported. -/
def State.masterPortLost (s : State) (r : Nat) (q : Bool) : State :=
  let x := s.ring r
  let x := if q then { x with lostQ := true } else { x with lostP := true }
  let s := s.setRing r x.dropUnwrap
  let s := s.recordBreak r (if q then (x.n, x.n + 1) else (0, 1))
  if x.lost.contains (if q then (x.n - 1, 1) else (2, 0)) then s.recordBreak r (if q then (x.n - 1, x.n) else (1, 2)) else s

/-- The pair a node's port looks into. -/
def portPair (node port : Nat) : Nat × Nat := if port = 0 then (node - 1, node) else (node, node + 1)

/-- A lock loss reported by a node (R131): evidence from the neighbour's facing port or from the master's own port records the break; else
the neighbour is asked. -/
def State.lockLost (s : State) (r node port : Nat) : State :=
  let x := s.ring r
  let other := if port = 0 then node - 1 else node + 1
  let x := { x with lost := if x.lost.contains (node, port) then x.lost else (node, port) :: x.lost,
                    stable := x.stable.filter fun p => p != (node, port) }
  let s := s.setRing r x.dropUnwrap
  let facing := x.lost.contains (other, 1 - port)
  let atP := x.lostP && (other == 0 || (other == 1 && port == 0))
  let atQ := x.lostQ && (other == x.n + 1 || (other == x.n && port == 1))
  if facing || atP || atQ then s.recordBreak r (portPair node port)
  else if other = 0 ∨ other = x.n + 1 ∨ !s.isActive ∨ x.asked.contains (other, node) then s
  else (s.updRing r fun x => { x with asked := (other, node) :: x.asked }).sendCmd r other 0x12 [] none 0

/-- The nodes of a break's pair with the port that looks into it. -/
def pairEnds (n : Nat) (pair : Nat × Nat) : List (Nat × Nat) :=
  (if 1 ≤ pair.1 then [(pair.1, 1)] else []) ++ if pair.2 ≤ n then [(pair.2, 0)] else []

/-- No master port beside a break is out of service (01 R11). -/
def State.portsThere (s : State) (r : Nat) (pair : Nat × Nat) : Bool :=
  !(pair.1 == 0 && s.sys.trxErr.getLsbD (2 * r)) && !(pair.2 == (s.ring r).n + 1 && s.sys.trxErr.getLsbD (2 * r + 1))

/-- A port in lock again for 10 ms (R133): when every node of the pair reports so, both are read. -/
def State.lockStable (s : State) (r node port : Nat) : State :=
  let x := s.ring r
  let x := { x with lost := x.lost.filter fun p => p != (node, port), stable := if x.stable.contains (node, port) then x.stable else (node, port) :: x.stable }
  let s := s.setRing r x
  match x.brk with
  | none => s
  | some pair =>
    let ends := pairEnds x.n pair
    if x.mode = 3 ∧ s.portsThere r pair ∧ (node, port) ∈ ends ∧ ends.all x.stable.contains ∧ s.isActive then
      ends.foldl (fun s e => s.sendCmd r e.1 0x12 [] none 1) (s.updRing r fun x => { x with unwrapOk := [] })
    else s

/-- LINK_EVENT (R113, R130, R131, R133). -/
def execLinkEvent (ring : Nat) (addr : Byte) (rx : Rx) (port event : Nat) (status : BitVec 16) (s : State) : Result :=
  .next <| s.onFrame ring addr rx fun s =>
    let node := addr.toNat
    if !s.nodeOk ring node ∨ 2 ≤ port ∨ (s.ring ring).mode < 2 then s
    else
      let s := s.statusSeen ring node status
      if event = 0 then s.lockLost ring node port else if event = 1 then s.lockStable ring node port else s

/-- PORT_STATUS_TIMEOUT (R131): the neighbour asked has not replied within 200 µs. -/
def execPortStatusTimeout (ring node : Nat) (s : State) : Result :=
  .next <|
    let due := (s.ring ring).asked.filter fun a => a.1 == node
    if 4 ≤ ring ∨ due = [] then s
    else
      let s := s.advanceTo (s.now + 200000)
      let s := s.updRing ring fun x => { x with reqs := x.reqs.filter fun q => !(q.type == 0x12 && q.hdr.isNone && q.node == node) }
      due.foldl (fun s a => s.recordBreak ring (min a.1 a.2, max a.1 a.2)) s

/-- MASTER_PORT_LOCK_LOSS (R130): judged 200 µs after the transmitters were enabled; a break at the ring's end. -/
def execMasterPortLockLoss (ring : Nat) (q : Bool) (s : State) : Result :=
  .next <|
    let x := s.ring ring
    if 4 ≤ ring ∨ !s.isActive ∨ s.now < x.txSince + 200000 ∨ (x.mode ≠ 2 ∧ x.mode ≠ 3 ∧ x.mode ≠ 4) then s
    else s.masterPortLost ring q

/-! ### Heartbeat and ordered sets -/

/-- Switch P of a string's outputs opens by the field die's hold register (03 R59). -/
def State.dropHold (s : State) (r : Nat) : State :=
  if !s.sys.holdOn then s
  else { s with sys := { s.sys with holdReg := s.sys.holdReg &&& ~~~(BitVec.ofNat 8 (ofBitList (s.outsOf r))) } }

/-- HEARTBEAT_LOSS (R127, R129, R342; 03 R65), 512 µs after the node's bit was last seen: SF1 on the ring's string, then a wake below P0. -/
def execHeartbeatLoss (ring node : Nat) (s : State) : Result :=
  .next <|
    if 4 ≤ ring ∨ node = 0 ∨ !(s.ring ring).turnipSet.getLsbD (node - 1) ∨ (s.ring ring).hbLost.getLsbD (node - 1)
      ∨ s.sys.power = .p4 ∨ s.sys.power = .p5 then s
    else
      let b := BitVec.ofNat 32 (2 ^ (node - 1))
      let s := s.advanceTo ((s.ring ring).hbAt.at node s.now + 512000)
      let s := s.updRing ring fun x => { x with hbSeen := x.hbSeen &&& ~~~b, hbLost := x.hbLost ||| b }
      let nk := nodeKey ring node
      let s := (if s.sys.power = .p3 then s.turnipTrip ring 0x2030 nk else s.tripFault 0x2030 nk [ring]).dropHold ring
      let s := s.updStr ring fun x => { x with doubt := some (s.now, some nk) }
      if s.sys.power = .p0 then s else s.wake

/-- OSET_ERROR_RATE (R109, R137): errors counted on a ring within 1 s, beside those of the idle sets before its frames. -/
def execOsetErrorRate (ring errors : Nat) (s : State) : Result :=
  .next <|
    if 4 ≤ ring then s
    else
      let s := s.incBy 0x217 ring errors
      let old := (s.ring ring).osetAt.filter fun t => decide (s.now < t + 1000000000)
      if 64 < old.length + errors then (s.updRing ring fun x => { x with osetAt := [] }).raise 0x2031 ring 1 (u32 (old.length + errors)) else s

/-! ### Replies (R114) -/

/-- A PORT_STATUS reply during the unwrap (R133): once every node of the pair has both ports in lock, each gets NODE_STATE with the state it reported. -/
def State.unwrapReply (s : State) (r node : Nat) (w : BitVec 16) : State :=
  let x := s.ring r
  match x.brk with
  | none => s
  | some pair =>
    let ends := (pairEnds x.n pair).map (·.1)
    if x.mode ≠ 3 ∨ !ends.contains node then s
    else if !(w.getLsbD 3 && w.getLsbD 4) then s.setRing r { x with unwrapOk := [] }
    else
      let ok := (node, w.toNat / 256 % 8) :: x.unwrapOk.filter fun p => p.1 != node
      let s := s.setRing r { x with unwrapOk := ok }
      if ends.all fun n => ok.any fun p => p.1 == n then
        ok.foldl (fun s p => s.sendCmd r p.1 0x11 (u8 p.2) none 0) (s.updRing r fun x => { x with toNormal := true })
      else s

/-- PORT_STATUS (R131, R133, R136). -/
def State.portReply (s : State) (r : Nat) (q : NodeReq) (status : Byte) (data : Bytes) : State :=
  let w := BitVec.ofNat 16 (fieldAt data 0 2)
  let s := if status = 0 then s.statusSeen r q.node w else s
  match q.hdr with
  | some h => if status = 0 then s.reply 0x0204 h 0 (padTo 12 data) else s.fail 0x0204 h 0x0105
  | none =>
    let s := s.updRing r fun x => { x with asked := x.asked.filter fun a => a.1 != q.node }
    if q.arg = 1 ∧ status = 0 then s.unwrapReply r q.node w else s

/-- Every enumerated node's counters are in a snapshot: the ring's completeness bit (Table 4.15). -/
def State.snapRingBit (s : State) (r : Nat) (sn : Snap) : Snap :=
  if (s.ringNodes r).all fun n => (sn.nodes.find (nodeKey r n)).isSome then { sn with mask := sn.mask ||| BitVec.ofNat 32 (2 ^ (2 + r)) } else sn

/-- COUNTER_READ (R115, R135, Table 5.14): the seven counters answer the host, or join the snapshot of their slot. -/
def State.counterReply (s : State) (r : Nat) (q : NodeReq) (status : Byte) (data : Bytes) : State :=
  let nk := nodeKey r q.node
  let cs := (List.range 7).map fun i => fieldAt data (4 * i) 4
  let ov := cs.getD 6 0
  let old := (s.node nk).overruns
  let s := if status = 0 ∧ q.arg = 0 ∧ old < ov then
      (s.updNode nk fun x => { x with overruns := ov }).raise 0x2022 nk 0 (u32 ov) else s
  match q.hdr with
  | some h => if status = 0 then s.reply 0x0203 h 0 (padTo 28 data) else s.fail 0x0203 h 0x0105
  | none =>
    if status ≠ 0 ∨ q.arg = 0 then s
    else { s with wcp := { s.wcp with snaps := s.wcp.snaps.map fun (p : Snap) =>
        if p.slot + 1 = q.arg then s.snapRingBit r { p with nodes := p.nodes.set nk cs } else p } }

/-- The trips a node newly shows are recorded, each naming its cell (R159). -/
def State.tripsSeen (s : State) (nk : Nat) (ov uv : BitVec 16) : State :=
  let x := s.node nk
  let s := s.setNode nk { x with ovTrips := ov, uvTrips := uv }
  let one := fun (code : Nat) (new old : BitVec 16) (s : State) =>
    (List.range 16).foldl (fun s i => if new.getLsbD i && !old.getLsbD i then s.raiseWith code nk 2 (u8 i) (some (0x2030, nk)) none else s) s
  one 0x2131 uv x.uvTrips (one 0x2130 ov x.ovTrips s)

/-- A comparator test repeated before a reset arms (12 R358). -/
def State.cmpAgain (s : State) (nk i : Nat) (fired : Bool) : State := if fired then (s.clearFaulty 0x2132 (nk * 32 + i)).tryArm else s

/-- COMPARATOR_SET (R157 to R160, Table 6.10). -/
def State.cmpReply (s : State) (r : Nat) (q : NodeReq) (status : Byte) (data : Bytes) : State :=
  let nk := nodeKey r q.node
  if data.length < 16 ∨ fieldAt data 14 2 ≠ crc16 (data.take 6) then s
  else
    let s := s.tripsSeen nk (BitVec.ofNat 16 (fieldAt data 8 2)) (BitVec.ofNat 16 (fieldAt data 10 2))
    match q.arg with
    | 0 => if status = 0 then s.readThreshold r q.node else s
    | 1 => s.judgeThresholds r q.node (fieldAt data 0 2, fieldAt data 2 2, fieldAt data 4 2)
    | 3 => s.cmpResult r (fieldAt data 12 1 == 1)
    | n => if 32 ≤ n then s.cmpAgain nk (n - 32) (fieldAt data 12 1 == 1) else s

/-- BALANCE (R161, R167). -/
def State.balReply (s : State) (r : Nat) (q : NodeReq) (status : Byte) (data : Bytes) : State :=
  let s := if status = 0 then s.updNode (nodeKey r q.node) fun x => { x with balMask := BitVec.ofNat 16 (fieldAt data 0 2) } else s
  match q.hdr with
  | some h => if status = 0 then s.reply 0x0211 h 0 (padTo 2 data) else s.fail 0x0211 h 0x0105
  | none => s

/-- LOADER OP 3 (19 R515, R516): the node's version. -/
def State.versionReply (s : State) (r node : Nat) (status : Byte) (data : Bytes) : State :=
  let nk := nodeKey r node
  if status ≠ 0 then s
  else
    let v := fieldAt data 0 4
    let s := { s with upd := { s.upd with nodeVer := s.upd.nodeVer.set nk v } }
    if v = s.upd.running 4 then s else s.raise 0xD041 nk 2 (u32 v)

/-! ### Nodes loaded with firmware (19 R514 to R516) -/

/-- Parts restored from their reserves (19 R510). -/
def UpdSt.putBack (u : UpdSt) (ps : List Nat) : UpdSt := ps.foldl (fun u p => { u with run := u.run.set (p - 1) (u.res.get (p - 1)) }) u

/-- The loader commands for one node (R515): ENTER with the version expected, every WRITE, FINISH. -/
def State.loaderData (s : State) (nk : Nat) : List Bytes :=
  let p := s.upd.run.get 3
  let writes := (List.range ((p.payload.length + 111) / 112)).map fun i =>
    let d := slice p.payload (112 * i) (min 112 (p.payload.length - 112 * i))
    ([1, 0] ++ u32 (112 * i) ++ u8 d.length ++ [0] ++ d : Bytes)
  [([0, 0] ++ u32 ((s.upd.nodeVer : SMap Nat).at nk 0) : Bytes)] ++ writes ++ [([2, 0] ++ u32 p.payload.length ++ padTo 32 p.entry.digest : Bytes)]

/-- A loader command goes to its node, which has to answer it before the next. -/
def State.loadFrom (s : State) (r : Nat) (l : LoadSt) : State :=
  let d := (s.loaderData (nodeKey r l.node)).getD l.at_ []
  ({ s with upd := { s.upd with loads := (s.upd.loads : SMap LoadSt).set r l } }).sendCmd r l.node 0x1E d none (fieldAt d 0 1)

/-- A ring's loading goes on with the next node in address order, or is over. -/
def State.loadNext (s : State) (r node : Nat) : State :=
  if node < s.parN 0x201 r then s.loadFrom r ⟨node + 1, 0, 0⟩ else { s with upd := { s.upd with loads := s.upd.loads.filter fun p => p.1 != r } }

/-- The rings hold their sweeps as by RING_STOP and their nodes are loaded, one at a time on each ring (R514). -/
def State.loadRings (s : State) (rs : List Nat) : State :=
  let s := rs.foldl State.stopRing s
  let s := { s with upd := { s.upd with state := 8, nodeRings := rs, loads := [] } }
  rs.foldl (fun s r => s.loadNext r 0) s

/-- A node fails the step (R516): fault 0xD040, and every node of the step's rings goes back to the reserve version; one that fails then too is
passed over. -/
def State.nodeFailed (s : State) (r node : Nat) : State :=
  let s := s.raise 0xD040 (nodeKey r node) 1
  if s.upd.nodeBad then (if ((s.upd.loads.find? fun p => p.1 == r).map fun p => p.2.node) = some node then s.loadNext r node else s)
  else ({ s with upd := { s.upd.putBack [4] with nodeBad := true } }).loadRings s.upd.nodeRings

/-- The answer to a loader command (R515): OK brings the next one, busy the same again, a digest that differs one more loading; a node that
refuses, or fails FINISH twice, fails the step (assumption log 207). -/
def State.loaderReply (s : State) (r : Nat) (q : NodeReq) (status : Byte) : State :=
  match s.upd.loads.find? fun p => p.1 == r with
  | none => s
  | some (_, l) =>
    let last : Bool := l.at_ + 1 == (s.loaderData (nodeKey r l.node)).length
    if l.node ≠ q.node then s
    else if status = 0 then
      (if last then ({ s with upd := { s.upd with nodeVer := s.upd.nodeVer.set (nodeKey r l.node) (s.upd.running 4) } }).loadNext r l.node
       else s.loadFrom r { l with at_ := l.at_ + 1 })
    else if status = 3 ∧ l.at_ ≠ 0 then s.loadFrom r l
    else if status = 2 ∧ last ∧ l.fails = 0 then s.loadFrom r { l with at_ := 1, fails := 1 }
    else s.nodeFailed r l.node

/-- A reply answers a request (R114): the node, the tag, and the port opposite to the one the command left from; beside a break, through the wrap, either. -/
def NodeReq.meets (q : NodeReq) (node : Nat) (rx : Rx) (cut : Bool) : Bool := q.node == node && q.tag == rx.tag.toNat && (q.q != rx.q || cut)

/-- What the reply to a request does, by the request's type. -/
def State.nodeAnswer (s : State) (r : Nat) (q : NodeReq) (status : Byte) (data : Bytes) : State :=
  let node := q.node
  match q.type with
  | 0x12 => s.portReply r q status data
  | 0x13 => s.counterReply r q status data
  | 0x18 => s.balReply r q status data
  | 0x19 => s.calReply r node status
  | 0x1A => if status = 0 then s else s.updNode (nodeKey r node) fun y => { y with ow := none, owWait := y.ow.toList ++ y.owWait }
  | 0x1B => s.cmpReply r q status data
  | 0x1D => s.syncReply r node (status == 0) (BitVec.ofNat 32 (fieldAt data 0 4))
  | 0x1E => if q.arg = 3 then s.versionReply r node status data else s.loaderReply r q status
  | _ => s

/-- NODE_REPLY (R113, R114): the reply to the command of its tag to the node. -/
def execNodeReply (ring : Nat) (addr : Byte) (rx : Rx) (status : Byte) (data : Bytes) (s : State) : Result :=
  .next <| s.onFrame ring addr rx fun s =>
    let x := s.ring ring
    let hit := fun (q : NodeReq) => q.meets addr.toNat rx x.cut.isSome
    match x.reqs.find? hit with
    | none => s
    | some q => (s.setRing ring { x with reqs := x.reqs.eraseIdx (x.reqs.findIdx hit) }).nodeAnswer ring q status data

end Sys2Proof.Machine
end

