-- ==== Sys2Proof/Machine/Units.lean ====
section
/-! DEFINITION. Chapter 1: unit and cluster errors (R11 to R16), crossings (R19), dies (R20, Table 1.6), the oscillator check (R17) and
the role lines' conflict (R29). -/

namespace Sys2Proof.Machine
open Sys2Proof

/-! ### Units and clusters -/

/-- A fenced cluster awaits its self-test (R12, R13). -/
def Cluster.fence (c : Cluster) : Cluster := { c with fenced := true, retest := true, testOk := false }

/-- An estimator cluster is fenced (R12, R14, R15): the updates of the cells dealt to it are skipped, impedance work may end, and the loss of all
four raises 0x1021. -/
def State.fenceEst (s : State) (k : Nat) : State :=
  if (s.sys.est.get k).fenced then s
  else
    let s := s.dropUnit k none
    let s := (s.setCluster k (s.cluster k).fence).impClusters
    if [0, 1, 2, 3].all fun j => (s.sys.est.get j).fenced then s.raise 0x1021 0 3 else s

/-- A loop lane is fenced (R16): severity 3 with an eligible standby twin, else the string of its channel opens at severity 2. -/
def State.fenceLane (s : State) (c : Nat) : State :=
  if (s.sys.lane.get c).fenced then s
  else
    let sev := if s.twinEligible then 3 else 2
    ((s.setCluster (4 + c) (s.cluster (4 + c)).fence).faultChannel c).raise 0x1030 c sev

/-- CORRECTED_ERROR (R11): CORR_COUNT of the unit's cluster, saturating. -/
def execCorrectedError (cluster : Nat) (s : State) : Result :=
  .next <|
    if 8 ≤ cluster then s
    else s.setCluster cluster { s.cluster cluster with corr := min 0xFFFF ((s.cluster cluster).corr + 1) }

/-- The error of a unit: its status bit, and its leaving service; a fenced cluster needs its self-test again (R11, R13). -/
def Cluster.lose (c : Cluster) (unit : Nat) : Cluster :=
  { c with unitErr := c.unitErr ||| BitVec.ofNat 8 (2 ^ unit), unitsOut := c.unitsOut ||| BitVec.ofNat 8 (2 ^ unit),
           retest := c.retest || c.fenced, testOk := c.testOk && !c.fenced }

/-- A unit of a cluster has an uncorrectable error (R11, R12): an error of the shared SRAM, or a second estimator unit out of service, fences
the cluster. -/
def State.unitError (s : State) (cluster unit : Nat) (sram : Bool) : State :=
  let s := if cluster < 4 then s.dropUnit cluster (some unit) else s
  let s := s.setCluster cluster ((s.cluster cluster).lose unit)
  if cluster < 4 then
    (if sram ∨ 2 ≤ (bitsSet 8 (s.cluster cluster).unitsOut.toNat).length then s.fenceEst cluster else s)
  else if sram ∧ !(s.cluster cluster).fenced then (s.setCluster cluster (s.cluster cluster).fence).faultChannel (cluster - 4)
  else s

/-- A ring transceiver leaves service (Table 1.2): its port is out of lock from then on. -/
def State.trxError (s : State) (r port : Nat) : State :=
  (({ s with sys := { s.sys with trxErr := s.sys.trxErr ||| BitVec.ofNat 8 (2 ^ (2 * r + port)) } } : State)).masterPortLost r (port == 1)

/-- A field channel leaves service (Table 1.2): an input keeps its state, an output switches off. -/
def State.fieldError (s : State) (n : Nat) : State :=
  let s := { s with sys := { s.sys with fieldErr := s.sys.fieldErr ||| BitVec.ofNat 24 (2 ^ n) } }
  if n < 16 then s else s.updDo (n - 16) fun o => { o with cmd := false }

/-- A chunk of the flight buffer is lost to an uncorrectable LPDDR4 error: a GAP stands in its place (18 Table 18.5). -/
def State.fbGap (s : State) (i : Nat) : State :=
  let cs := s.recd.fb.chunks
  match cs[i]? with
  | none => s
  | some c =>
    let stop := if i = 0 then s.now else (cs[i - 1]?.map (·.time)).getD s.now
    { s with recd := { s.recd with fb := { s.recd.fb with chunks := cs.set i ⟨7, c.time, time80Bytes c.time ++ time80Bytes stop⟩ } } }

/-- UNCORRECTABLE_ERROR (R11, R12): groups 0 to 7 are the clusters, 8 to 11 the rings' transceivers (unit 0 P, 1 Q), 12 the field channels
(units 0 to 15 inputs, 16 to 23 outputs), 13 the flight buffer in LPDDR4 (unit: the chunk, newest first). Every unit reports a fault to the fault manager; its code is not stated (assumption log 53). -/
def execUncorrectableError (group unit : Nat) (sram : Bool) (s : State) : Result :=
  .next <|
    if group = 13 then (s.fbGap unit).raise Config.unitFault group 1 (u8 unit)
    else if 14 ≤ group ∨ (if group < 4 then 8 else if group < 12 then 2 else 24) ≤ unit then s
    else
      let s := if group < 8 then s.unitError group unit sram else if group < 12 then s.trxError (group - 8) unit else s.fieldError unit
      s.raise Config.unitFault group 1 (u8 unit)

/-- LANE_LOCKSTEP (R16). -/
def execLaneLockstep (ch : Nat) (s : State) : Result := .next <| if 4 ≤ ch then s else s.fenceLane ch

/-! ### The arbitration's beginning (13 R386, R387) -/

def State.sendArb (s : State) (op cause mask : Nat) (rest : Bytes) : State := s.emit (.shallot 0x04 (u8 op ++ u8 cause ++ u8 mask ++ [0] ++ rest))

/-- The known-answer test of the lanes begins (R387). -/
def State.startArb (s : State) (mismatch : Bool) : State :=
  let s := s.inc 0x725 0
  { s with twin := { s.twin with arb := some ⟨mismatch, s.now, none, none⟩, kat := some s.now } }

/-! ### Crossings, dies, oscillator -/

/-- The domain of a region is off in a power state (Tables 1.4 and 1.7); a gated domain answers nothing but is not off. -/
def regionOff (g : Region) (p : PState) : Bool :=
  let deep := p == .p4 || p == .p5
  match g with
  | .app => deep || p == .p3
  | .net => deep || p == .p3
  | .can => deep || p == .p3
  | .loop => deep || p == .p3 || p == .p2
  | .est => deep || p == .p3 || p == .p2
  | .pwm => deep || p == .p3 || p == .p2
  | .act => deep || p == .p3 || p == .p2
  | .ring => deep
  | .field => deep
  | .turnip => false
  | .ao => false

/-- A die of a region is lost (Tables 1.4 and 1.6). -/
def State.regionLost (s : State) (g : Region) : Bool :=
  let lost := fun (i : Nat) => s.sys.diesLost.getLsbD i
  match g with
  | .turnip => lost 1
  | .ao => lost 1
  | .field => lost 3
  | .act => lost 3
  | .ring => lost 0 || lost 2
  | .pwm => lost 0 || lost 2
  | _ => lost 0

/-- What an access that is not served gets (Table 1.5): a read returns zero with an error response, a write is dropped, a FIFO stream is flushed
by its producer, which counts the entries unless the domain is off by command. -/
def State.xingDrop (s : State) (how : XingUse) (counted : Bool) : State :=
  match how with
  | .read => { s with sys := { s.sys with xingAnswer := some (true, 0) } }
  | .write => { s with sys := { s.sys with xingAnswer := some (true, 0) } }
  | .fifo n => if counted then { s with sys := { s.sys with xingDropped := s.sys.xingDropped + n } } else s

/-- CROSSING_TIMEOUT (R19, Table 1.5): the near side's access of a far side that does not serve it, by the far side's state. The loss of a die
has its report 0x1012 in DIE_RESET. -/
def execCrossingTimeout (far : Region) (how : XingUse) (s : State) : Result :=
  .next <|
    if regionOff far s.sys.power then s.xingDrop how false
    else if s.regionLost far then s.xingDrop how true
    else ((s.xingDrop how true).inc 0x14 0).raise 0x1011 0 1

def dieCode : Die → Nat
  | .controlSoc => 0 | .turnip => 1 | .mixedSignal => 2 | .field => 3 | .nonVolatile => 4 | .memory => 5

/-- The fault 0x1012 of a lost die (R20), with the severity of Table 1.6. -/
def State.dieFault (s : State) (die : Die) : State := s.raise 0x1012 (dieCode die) (if die = .nonVolatile then 1 else 3)

/-- A die is lost (R20): its mark, and DIE among the reset causes. -/
def State.loseDie (s : State) (die : Die) : State :=
  { s with sys := { s.sys with diesLost := s.sys.diesLost ||| BitVec.ofNat 6 (2 ^ dieCode die), resetCause := s.sys.resetCause ||| 32 } }

/-- The field die is lost (Table 1.6): every field output is de-energised. -/
def State.loseField (s : State) : State :=
  [0, 1, 2, 3].foldl State.deenergise (s.fieldOff).openAll

/-- The memory die is lost (Table 1.6): flight buffer and staging go, a frozen buffer's loss is event 0xC013 (18 R491); the application cores lose
their working memory: sessions, requests, snapshots, replies and the fault queue. -/
def State.loseMemory (s : State) : State :=
  let s := if s.recd.fb.desc.isSome then s.raise 0xC013 0 1 else s
  let s := { s with recd := { s.recd with fb := { ckpt := s.recd.fb.ckpt }, replay := none } }
  let s := if s.updOpen then s.dropStage else s
  let s := s.endSessions
  { s with wcp := { s.wcp with queue := [], hostOut := [], hostRest := [], reasm := [], snaps := [], commit := none, commitWait := [], mirror := [],
                               guests := [], forwarded := [] },
           fm := { lastSeq := s.fm.lastSeq, peak := s.fm.peak } }

/-- DIE_RESET (R20, Table 1.6): only the named die starts again; the control SoC's regions start through BOOT with DIE among the causes. -/
def execDieReset (die : Die) (s : State) : Result :=
  .next <|
    match die with
    | .controlSoc => (s.endDrive.resetSoc 5).dieFault die
    | .turnip => (((s.loseDie die).openAll).endDrive).dieFault die
    | .mixedSignal => (s.loseDie die).dieFault die
    | .field => ((s.loseDie die).loseField).dieFault die
    | .nonVolatile => (s.loseDie die).dieFault die
    | .memory => ((s.loseDie die).loseMemory).dieFault die

/-- OSCILLATOR_FAULT (R17): drive removed, the role line dropped, fault 0x1041. -/
def execOscillatorFault (s : State) : Result :=
  .next <| ({ s with sys := { s.sys with oscFault := true } }).endDrive.raise 0x1041 0 3

/-- ROLE_CONFLICT (R29): both lines asserted; drive is removed and barred until a line has fallen and the arbitration is over, which starts here
as by a mismatch (R386, assumption log 56). -/
def execRoleConflict (s : State) : Result :=
  .next <|
    let s := (({ s with sys := { s.sys with roleIn := true, conflict := true } }).endDrive).raise 0x1040 0 3
    (s.startArb true).sendArb 0 1 0 []

end Sys2Proof.Machine
end

