-- ==== Sys2Proof/Machine/Twin.lean ====
section
/-! DEFINITION. Chapter 13: frames received over Shallot (Table 13.2), comparison (R382, R383), arbitration (R386 to R388), planned
handover and swap drill (R392 to R394), isolation (R395), what a new standby takes (R70, R396), and the twin opcodes (R398). -/

namespace Sys2Proof.Machine
open Sys2Proof

/-! ### The link -/

/-- Pair-coherent values as a new standby takes them: every such parameter and instance outside the safety block (R396). -/
def State.coherentEntries (s : State) : List SetEntry :=
  (dictionary.filter fun r => pairCoherent r.id r.cls && r.cls != 0 && !inBlock r.id).flatMap fun r =>
    ((List.range r.inst).filter (hasInstance r)).map fun i => ⟨BitVec.ofNat 16 r.id, BitVec.ofNat 8 i, s.par r.id i⟩

/-- The applied dictionary in DICT_COPY frames (Table 13.2), from the active, and in NEGOTIATE from a module that has one (R101): byte offset, then at most 508 bytes of entries. -/
def State.sendDict (s : State) : State :=
  if !s.isActive ∧ (s.sys.lifecycle ≠ .negotiate ∨ s.noDict) then s
  else
    let b := setBytes s.coherentEntries
    { s with out := s.out ++ (List.range ((b.length + 507) / 508)).map fun i => (.shallot 0x31 (u32 (508 * i) ++ slice b (508 * i) 508) : Out) }

/-- The identity of a node as STATE_XFER carries it (assumption log 67): kind 2. -/
def State.identityBytes (s : State) (nk : Nat) : Bytes :=
  let a := s.auth nk
  u8 2 ++ u8 nk ++ padTo 16 a.serial ++ u8 (a.result + 4 * ofBits [a.untrusted, a.loaded, a.invalid, a.syncPending]) ++ [a.epoch]
    ++ leBytes 4 a.nvgen.toNat ++ leBytes 4 a.committed.toNat ++ padTo 8 a.certId

/-- One cell's loaded history: kind 3. -/
def State.historyBytes (s : State) (k : Nat) : Bytes :=
  let c := s.cellE k
  u8 3 ++ u8 (k / 16) ++ u8 (k % 16) ++ padTo 256 c.bins ++ u32 c.efc.floor.toNat

/-- What the active sends a module that has become STANDBY (R70, R396): dictionary, node tables, identities, history. -/
def State.sendState (s : State) : State :=
  let s := s.sendDict
  let s := [0, 1, 2, 3].foldl State.sendTable s
  let s := [0, 1, 2, 3].foldl (fun s r => (s.ringNodes r).foldl (fun s n => s.emit (.shallot 0x50 (s.identityBytes (nodeKey r n)))) s) s
  let s := [0, 1, 2, 3].foldl (fun s r => (s.ringCells r).foldl (fun s k => s.emit (.shallot 0x50 (s.historyBytes k))) s) s
  let s := s.emit (.shallot 0x50 (u8 4 ++ u8 (ofBits [s.safe.confirmed]) ++ s.blockValues))
  s.emit (.shallot 0x50 [0x80])

/-- The twin has become READY as STANDBY (R396): event 0x7050, once. -/
def State.joinTwin (s : State) : State :=
  if s.twin.life ≠ some .standby then { s with twin := { s.twin with joined := false } }
  else if s.isActive && s.twinReady && !s.twin.joined then ({ s with twin := { s.twin with joined := true } }).raise 0x7050 0 0
  else s

/-- A STANDBY stays below P0 only while its twin is ACTIVE at P1 or below (R25): else it climbs to P0. -/
def State.followTwin (s : State) : State :=
  if s.isStandby && s.sys.power != .p0 && !(s.twin.life == some .active && s.twin.power != .p0) then
    (if s.sys.target == some .p0 then s else s.wake)
  else s

/-- SHALLOT_KEEPALIVE (R377, Table 13.2). ROLE_IN follows the twin's ACTIVE while the module's own line is low, since a line rises only against a
low one (R38, assumption log 68); both lines high are ROLE_CONFLICT's. -/
def execShallotKeepalive (f : Link) (lifecycle : Lifecycle) (power : PState) (state _ts : BitVec 32) (timeState : Nat) (s : State) : Result :=
  .next <| s.onLink false f fun s =>
    let was := s.twin.life
    let s := { s with twin := { s.twin with life := some lifecycle, power := power, rstate := state, timeState := timeState },
                      sys := { s.sys with roleIn := s.sys.roleIn || (lifecycle == Lifecycle.active && !s.sys.roleOut) } }
    let s := if s.isActive ∧ lifecycle = .standby ∧ was ≠ some .standby then s.sendState else s
    let s := if lifecycle = .negotiate ∧ was ≠ some .negotiate then s.sendDict else s
    s.followTwin.joinTwin

/-- SHALLOT_LOCK_LOSS (R376): the link is down; after training SEQ is taken up as it comes. -/
def execShallotLockLoss (s : State) : Result :=
  .next { s with twin := { s.twin with linkUp := false, rxUrgent := none, rxBulk := none } }

/-- SHALLOT_SEND_WATCH (R375): Turnip ends the module's drive. -/
def execShallotSendWatch (s : State) : Result := .next <| if s.isActive then s.endDrive else s

/-! ### Arbitration (R386 to R388) -/

/-- An arbitration is over; a role conflict, one of whose lines has fallen, is resolved with it (R29). -/
def State.endArb (s : State) : State :=
  { s with twin := { s.twin with arb := none }, sys := { s.sys with conflict := s.sys.conflict && s.sys.roleIn && s.sys.roleOut } }

/-- The standby's own test failed (Table 13.6): 0x7021, not active-eligible until its lanes pass a self-test (R388, R526). -/
def State.standbyFails (s : State) : State :=
  let bad := (List.range 4).filter fun c => !s.twin.ownLanes.testBit c
  ({ s with sys := { s.sys with notActive := { s.sys.notActive with lanes := true, blocks := s.sys.notActive.blocks ++ bad.map fun c => 0x20 + c } } }).raise
    0x7021 0 1 (u8 s.twin.ownLanes)

/-- Both tests passed (Table 13.6): divergence, the standby becomes SUSPECT, the run is cleared. -/
def State.divergence (s : State) : State :=
  let s := s.becomeSuspect
  ({ s with twin := { s.twin with run := 0, suspectAt := s.now } }).raise 0x7020 0 1

/-- The outcome of an arbitration by mismatch, once both masks are known (Table 13.6). -/
def State.decideMismatch (s : State) (own twin : Nat) : State :=
  let s := s.endArb
  if s.isActive then
    if own = 15 then s
    else if twin = 15 then s.raise 0x7024 0 3 (u8 own)
    else (List.range 4).foldl (fun s c => if own.testBit c then s else
      ((s.setCluster (4 + c) (s.cluster (4 + c)).fence).faultChannel c).raise 0x1030 c 2) s
  else if !s.isStandby then s
  else if own ≠ 15 then (if s.sys.roleIn then s.standbyFails else s.standbyFails.notReady)
  else if !s.sys.roleIn then (if s.takeoverReady then s.takeover false false 1 else s.notReady)
  else if twin = 15 then s.divergence
  else s

/-- The outcome of an arbitration by silence, when the own test has ended (Table 13.6). -/
def State.decideSilence (s : State) (own : Nat) : State :=
  if s.isActive then
    if own = 15 then s.endArb.raise 0x7031 0 1 else s.endArb.raise 0x7024 0 3 (u8 own)
  else if !s.isStandby then s.endArb
  else
    let s := if own = 15 then s.endArb else s.endArb.standbyFails
    if s.sys.roleIn then s else if s.takeoverReady then s.takeover false false 2 else s.notReady

/-- Table 13.6 with what is known so far. -/
def State.outcomeNow (s : State) : State :=
  match s.twin.arb with
  | none => s
  | some a => match a.own with
    | none => s
    | some own => if !a.mismatch then s.decideSilence own
      else match a.twin with
        | none => if s.isStandby && !s.sys.roleIn then s.decideMismatch own 0 else s
        | some twin => s.decideMismatch own twin

/-- Table 13.6, and after a takeover the SYNCs that fell due meanwhile (R389). -/
def State.outcome (s : State) : State := s.outcomeNow.sendMissed

/-- The module takes part in arbitrations: ACTIVE, STANDBY, or in the role conflict that one resolves (R29, R386). -/
def State.arbitrates (s : State) : Bool := s.isActive || s.isStandby || s.sys.conflict

/-- ARB_START (R386): the twin has found a mismatch; the own test begins. -/
def execArbStart (f : Link) (_cause : Byte) (s : State) : Result :=
  .next <| s.onLink false f fun s =>
    if !s.arbitrates || (match s.twin.arb with
      | some a => a.mismatch
      | none => false) then s
    else s.startArb true

/-- ARB_RESULT (R388). -/
def execArbResult (f : Link) (mask : Byte) (s : State) : Result :=
  .next <| s.onLink false f fun s =>
    let m := mask.toNat % 16
    let s := { s with twin := { s.twin with twinLanes := m, arb := s.twin.arb.map fun (a : Arb) => { a with twin := some m } } }
    s.outcome

/-- The known-answer hold of the active as a time event (18 Table 18.5 kind 3): its first period and their count. -/
def State.katEvent (s : State) (t : Nat) : State :=
  let p := s.parN 0x300 0
  let n := if p = 0 then 0 else (t + 40000) / p - t / p
  if s.isActive then s.fbEvent 3 (u32 (s.loop.period.toNat + 2 ^ 32 - (n - 1)) ++ u16 n) else s

/-- KAT_COMPLETE (R387): the test of 40 µs ends; the mask of the lanes that passed is sent and Table 13.6 applied. -/
def execKatComplete (lanes : Four LaneTest) (s : State) : Result :=
  .next <| match s.twin.kat with
    | none => s
    | some t =>
      let s := (s.advanceTo (t + 40000)).katEvent t
      let m := laneMask lanes
      let s := { s with twin := { s.twin with kat := none, ownLanes := m, arb := s.twin.arb.map fun (a : Arb) => { a with own := some m } } }
      let s := s.sendArb 1 (match s.twin.arb with
        | some a => if a.mismatch then 1 else 2
        | none => 0) m []
      s.outcome

/-- SHALLOT_SILENCE (R386): 50 µs without a valid frame. A twin last reported ISOLATED or in UPDATE is no party to it (R395, 19 R506). -/
def execShallotSilence (s : State) : Result :=
  .next <|
    let pair : Bool := s.twin.life == some .active || s.twin.life == some .standby || s.sys.conflict
    if s.twin.silence.isSome || !pair || !s.arbitrates then s
    else
      let t := s.twin.heardAt
      let s := s.advanceTo (t + 50000)
      ({ s with twin := { s.twin with silence := some t, linkUp := false } }).startArb false

/-- SILENCE_ROLE_HELD (R388, Table 13.6). -/
def execSilenceRoleHeld (s : State) : Result :=
  .next <| match s.twin.silence with
    | none => s
    | some t =>
      if !s.isStandby || !s.sys.roleIn || s.twin.ownLanes != 15 || s.twin.kat.isSome then s
      else
        let s := (s.advanceTo (t + 250000)).endArb
        let s := if s.twin.ahead then s else { s with twin := { s.twin with ahead := true, aheadSince := s.now } }
        s.raise 0x7030 0 1

/-- AHEAD_TIMEOUT (R374): TWIN.AHEAD_MAX_MS of running ahead. -/
def execAheadTimeout (s : State) : Result :=
  .next <|
    if !s.twin.ahead then s
    else
      let s := s.advanceTo (s.twin.aheadSince + s.parN 0x704 0 * 1000000)
      { s with twin := { s.twin with aheadLong := true } }

/-! ### The loop copy and the comparison (R378, R382, R383) -/

/-- The duty this module released for its present period, or has ready for it. -/
def State.ownDuty (s : State) (c : Nat) : Option Int :=
  let l := s.lane c
  if s.loop.open_ then (if l.hasDuty then some l.duty else none) else l.shadow

/-- A channel's period is compared (R382). -/
def State.comparable (s : State) (m : LoopCopy) (c : Nat) : Bool :=
  let r := m.ch.get c
  let l := s.lane c
  (s.ch c).state == 2 && r.chState == 2 && s.twin.kat.isNone && !s.upd.mixed 2 && s.twin.katIdle.head? != some c && !m.flags.getLsbD 1
    && (match l.slow with
      | some v => v.sweep == r.sweepNo
      | none => r.sweepNo == 0)
    && l.slowPartial == r.partialSet && (l.hStamp.getD 0) == r.estStamp && (s.ownDuty c).isSome

/-- The duties differ by more than 2 LSB or the winners differ (R383). -/
def State.mismatches (s : State) (m : LoopCopy) (c : Nat) : Bool :=
  let r := m.ch.get c
  decide (2 < |(s.ownDuty c).getD 0 - r.duty|) || (s.lane c).winner != r.winner

/-- The comparison of a period (R382, R383); at a run of 3 arbitration starts. -/
def State.compareLoop (s : State) (m : LoopCopy) : State :=
  let chs := [0, 1, 2, 3]
  let cmp := chs.filter (s.comparable m)
  let un := chs.filter fun c => (m.ch.get c).chState == 2 && !s.comparable m c
  let bad := cmp.filter (s.mismatches m)
  let run := if bad ≠ [] then min 3 (s.twin.run + 1) else if cmp ≠ [] then 0 else s.twin.run
  let rise : Bool := run == 3 && s.twin.run != 3
  let s := { s with twin := { s.twin with run := run, agreed := s.twin.agreed || (bad == [] && un == []), suspectAt := if bad ≠ [] then s.now else s.twin.suspectAt,
                                          katIdle := s.twin.katIdle.tail,
                                          uncomp := s.twin.uncomp.mapIdx fun c n => if un.contains c then n + 1 else 0 } }
  let s := if cmp ≠ [] then s.inc 0x720 0 else s
  let s := if bad ≠ [] then s.inc 0x721 0 else s
  let s := if un ≠ [] then s.inc 0x722 0 else s
  if rise && s.twin.arb.isNone then (s.startArb true).sendArb 0 1 0 [] else s

/-- A commit carried by the copy (R100): the mirrored set of its digest applies at the boundaries, else 0x1071 and no active-eligibility
until the dictionary has come. -/
def State.takeCommit (s : State) (digest : Bytes) : State :=
  let ids := (s.wcp.mirror.map (·.1)).dedup
  let setOf := fun (i : Nat) => (s.wcp.mirror.filter fun p => p.1 == i).map (·.2)
  match ids.find? fun i => setDigest (setOf i) == digest with
  | some i => ({ s with wcp := { s.wcp with twinCommit := s.wcp.twinCommit ++ setOf i, mirror := s.wcp.mirror.filter fun p => p.1 != i } }).settleTwin
  | none => ({ s with sys := { s.sys with notActive := { s.sys.notActive with dictionary := true } } }).raise 0x1071 0 1

/-- The stamp of the active's boundary stands d ns beside the own one: the time base (R378) and, once set, the counter (R412) steer by it. -/
def State.steerBy (s : State) (d : Int) : State :=
  let s := { s with loop := { s.loop with steer := d } }
  if s.net.twinSet then s.steerTwin d else s

/-- LOOP_COPY (R378, R384): comparison, the commit it carries, and the boundary stamp the standby's time base steers by. -/
def execLoopCopy (f : Link) (c : LoopCopy) (s : State) : Result :=
  .next <| s.onLink false f fun s =>
    if !s.isStandby then s
    else
      let s := if c.period = s.loop.period then s.compareLoop c else s
      let s := if c.flags.getLsbD 0 then s.takeCommit c.digest else s
      let s := if c.period = s.loop.period then s.steerBy (c.stamp - s.loop.stamp).toInt else s
      let s := { s with twin := { s.twin with copy := some (c, s.now), copyNew := c.period == s.loop.period },
                        wcp := { s.wcp with generation := c.generation } }
      s.copyValues

/-- UNCOMPARED_RUN (R383): TWIN.UNCOMPARED_MAX periods of a running channel in a row without a comparison. -/
def execUncomparedRun (ch : Nat) (s : State) : Result :=
  .next <|
    if 4 ≤ ch ∨ s.upd.mixed 2 ∨ s.twin.uncomp.get ch < s.parN 0x705 0 then s
    else ({ s with twin := { s.twin with uncomp := s.twin.uncomp.set ch 0 } }).raise 0x7023 ch 1

/-- One axis from AXIS_COPY (R250): position generator 4 + a and the state its ACT.STATUS shows (Table 9.11). -/
def State.takeAxis (s : State) (a : Nat) (r : AxisRec) : State :=
  let st := r.status
  let s := s.updGen (a + 4) fun g => { g with x := r.x, v := r.v, tgt := r.t, fresh := g.fresh || r.t != g.tgt, atRest := r.v == 0 && (g.atRest || r.x == r.t) }
  s.updAxis a fun x => { x with energised := st.getLsbD 0, holding := st.getLsbD 1, posValid := st.getLsbD 2, unheld := st.getLsbD 3,
                                stalled := st.getLsbD 5, oc := st.getLsbD 6, openA := st.getLsbD 7, openB := st.getLsbD 8, fire := st.getLsbD 12,
                                angle := st.toNat / 65536 % 256 }

/-- AXIS_COPY (R250). -/
def execAxisCopy (f : Link) (recs : Four AxisRec) (s : State) : Result :=
  .next <| s.onLink false f fun s =>
    if !s.isStandby then s else [0, 1, 2, 3].foldl (fun s a => s.takeAxis a (recs.get a)) s

/-! ### The sweep exchange (R379) and the estimator copy (R380, R381) -/

def State.exch (s : State) (r : Nat) : Option SweepExch := (s.twin.exchange : SMap SweepExch).find r

def State.setExch (s : State) (r : Nat) (x : SweepExch) : State := { s with twin := { s.twin with exchange := (s.twin.exchange : SMap SweepExch).set r x } }

/-- The sweep's contents are complete: the estimator's record of it becomes the active's contents at finalisation, with its stamp. -/
def State.adoptSweep (s : State) (r mask : Nat) (stamp : BitVec 32) : State :=
  let x := s.ring r
  let own := s.sampleAt r x.sweep
  let t := own + (stamp - ts32 own).toInt.toNat - (ts32 own - stamp).toInt.toNat
  let held := x.held.filter fun q => mask.testBit (q.1 - 1)
  let w : SweepRec := ⟨t, s.pairedCurrent r t, s.sweepNs r, held.map (fun q => s.nodeMeas r q.1 q.2), true⟩
  s.updStrE r fun e => { e with sweeps := e.sweeps.map fun v => if v.instant = own then w else v }

/-- An exchange whose frames are all there closes. -/
def State.closeExch (s : State) (r : Nat) : State :=
  match s.exch r with
  | none => s
  | some x => match x.final with
    | some (mask, stamp) => if x.need = 0 then (s.finalise r).adoptSweep r mask stamp else s
    | none => s

/-- The frames of a sweep the standby lacks or holds otherwise than the active. -/
def State.sweepNeed (s : State) (m : SweepFinalMsg) : Nat :=
  ofBitList ((List.range 28).filter fun i => m.rxMask.getLsbD i && (match (s.ring m.ring).held.find (i + 1) with
    | some p => crc16 (frameBytes (i + 1) p) != (m.crcs.getD i 0).toNat
    | none => true))

/-- SWEEP_FINAL (R379). -/
def execSweepFinal (f : Link) (m : SweepFinalMsg) (s : State) : Result :=
  .next <| s.onLink true f fun s =>
    if !s.isStandby ∨ 4 ≤ m.ring ∨ m.sweep ≠ (s.ring m.ring).sweep then s
    else
      let need := s.sweepNeed m
      let own := ts32 (s.sampleAt m.ring m.sweep)
      let s := if m.stamp = own then s else s.raise 0x7022 m.ring 1 (u8 m.ring)
      let s := s.setExch m.ring ⟨m.sweep, some (m.rxMask.toNat, m.stamp), need⟩
      let s := if need = 0 then s else s.emit (.shallot 0x11 (u8 m.ring ++ [0] ++ leBytes 2 m.sweep.toNat ++ u32 need))
      s.closeExch m.ring

/-- The frame of a node in a sweep the active still holds. -/
def RingSt.frameOf (x : RingSt) (sweep : BitVec 16) (node : Nat) : Option SweepPayload :=
  if sweep = x.sweep then x.held.find node
  else (x.late.find? fun q => q.1 == sweep && q.2.1 == node).map (·.2.2)

/-- SWEEP_NEED (R379): the active sends the frames in SWEEP_FRAME. -/
def execSweepNeed (f : Link) (ring : Nat) (sweep : BitVec 16) (need : BitVec 32) (s : State) : Result :=
  .next <| s.onLink true f fun s =>
    if !s.isActive ∨ 4 ≤ ring then s
    else
      { s with out := s.out ++ (bitsSet 28 need.toNat).filterMap fun i => ((s.ring ring).frameOf sweep (i + 1)).map fun p =>
          (.shallot 0x12 (u8 ring ++ u8 (i + 1) ++ frameBytes (i + 1) p ++ u16 (crc16 (frameBytes (i + 1) p))) : Out) }

/-- SWEEP_FRAME (R379). -/
def execSweepFrame (f : Link) (ring : Nat) (sweep : BitVec 16) (node : Nat) (p : SweepPayload) (s : State) : Result :=
  .next <| s.onLink true f fun s =>
    match s.exch ring with
    | none => s
    | some x =>
      if !s.isStandby ∨ 4 ≤ ring ∨ sweep ≠ x.sweep ∨ sweep ≠ (s.ring ring).sweep ∨ !x.need.testBit (node - 1) ∨ node = 0 then s
      else
        let s := s.updRing ring fun y => { y with held := y.held.set node p }
        let t := s.sampleAt ring sweep
        let s := if (s.ring ring).collecting then s else s.deriveNode ring node t (s.pairedCurrent ring t) p
        (s.setExch ring { x with need := x.need - 2 ^ (node - 1) }).closeExch ring

/-- Bytes placed at an offset. -/
def putAt (b : Bytes) (o : Nat) (d : Bytes) : Bytes := padTo o b ++ d ++ b.drop (o + d.length)

/-- EST_COPY (R380, Table 13.5): `block` is the header of 8 bytes. Part 3 follows a completed run and is taken when whole. -/
def execEstCopy (f : Link) (block : Nat) (data : Bytes) (s : State) : Result :=
  .next <| s.onLink true f fun s =>
    let cyc := block % 2 ^ 32
    let r := block / 2 ^ 32 % 256
    let part := block / 2 ^ 40 % 256
    let off := block / 2 ^ 48 % 65536 * 8
    if !s.isStandby ∨ 4 ≤ r ∨ 4 ≤ part then s
    else
      let s := if s.twin.estCopyCycle = some cyc then s
        else { s with twin := { s.twin with estCopyCycle := some cyc, estCopy := s.twin.estCopy.filter fun p => p.1 % 4 == 3 } }
      let b := putAt ((s.twin.estCopy : SMap Bytes).at (4 * r + part) []) off data
      let s := { s with twin := { s.twin with estCopy := (s.twin.estCopy : SMap Bytes).set (4 * r + part) b } }
      if part = 3 ∧ s.partSize r 3 ≤ off + data.length then
        let s := s.takePart r 3 b
        { s with twin := { s.twin with estCopy := (s.twin.estCopy : SMap Bytes).del (4 * r + 3) } }
      else s

/-- EST_DIGEST (R381). -/
def execEstDigest (f : Link) (m : EstDigestMsg) (s : State) : Result :=
  .next <| s.onLink true f fun s =>
    if s.isStandby then ({ s with twin := { s.twin with digest := some m } }).compareEst else s

/-! ### What a standby takes from the active (R70, R92, R396) -/

/-- One mirrored entry (R92): class S into the session's mirrored set, any other for its block's boundary. -/
def State.mirrorEntry (s : State) (session : Nat) (e : SetEntry) : State :=
  let v : Shadow := ⟨e.id.toNat, e.inst.toNat, e.value⟩
  match PRow.find v.id with
  | none => s
  | some r =>
    if r.cls = 2 then
      { s with wcp := { s.wcp with mirror := (s.wcp.mirror.filter fun p => !(p.1 == session && p.2.id == v.id && p.2.inst == v.inst)) ++ [(session, v)] } }
    else s.acceptValue v

/-- PARAM_MIRROR (R92): an empty one empties the session's mirrored set. -/
def execParamMirror (f : Link) (session : Nat) (entries : List SetEntry) (s : State) : Result :=
  .next <| s.onLink true f fun s =>
    if !s.isStandby then s
    else if entries = [] then { s with wcp := { s.wcp with mirror := s.wcp.mirror.filter fun p => p.1 != session } }
    else entries.foldl (fun s e => s.mirrorEntry session e) s

/-- DICT_COPY (R100, R396): the last segment of a right copy applies and stores the whole, once the power-fail warning is over (02 R40); the
generation is the active's. -/
def execDictCopy (f : Link) (index : Nat) (last : Bool) (values : List SetEntry) (digestOk : Bool) (s : State) : Result :=
  .next <| s.onLink true f fun s =>
    if !s.isStandby ∧ !(s.sys.lifecycle = .negotiate ∧ s.noDict) then s
    else
      let vs := values.map fun (e : SetEntry) => (⟨e.id.toNat, e.inst.toNat, e.value⟩ : Shadow)
      let all := (if index = 0 then [] else s.twin.dict) ++ vs
      let s := { s with twin := { s.twin with dict := if last then [] else all } }
      if !last ∨ !digestOk then s
      else
        let take := all.filter fun (v : Shadow) => pairCoherent v.id (((PRow.find v.id).map (·.cls)).getD 0) && !inBlock v.id
          && !(0x505 ≤ v.id && v.id ≤ 0x508 && v.value == s.par v.id v.inst)
        let s := take.foldl State.applyCommitted s
        let s := { s with sys := { s.sys with notActive := { s.sys.notActive with dictionary := false } }, twin := { s.twin with dictIn := true } }
        let s := match s.twin.copy with
          | some (c, _) => { s with wcp := { s.wcp with generation := c.generation } }
          | none => s
        if !s.isStandby then s
        else if s.sys.vinWarn then { s with twin := { s.twin with storeDue := true } }
        else s.storeParams

/-- A node table (assumption log 67): ring, mode, nodes, break, enumerated set, loop delay. -/
def State.takeTable (s : State) (b : Bytes) : State :=
  let r := fieldAt b 0 1
  let w := fieldAt b 3 2
  if 4 ≤ r then s
  else
    let m := fieldAt b 1 1
    let n := fieldAt b 2 1
    let set := if s.outsOpen r then BitVec.ofNat 32 (fieldAt b 5 4) else (s.ring r).turnipSet
    let s := s.updRing r fun x => { x with mode := m, n := n, brk := if w = 0xFFFF then none else some (w % 256, w / 256), turnipSet := set,
                                           loopPs := fieldAt b 9 4, enumerated := m == 2 || m == 3,
                                           sweeping := m == 2 || m == 3 }
    if m = 2 ∨ m = 3 then (List.range n).foldl (fun s i => s.updNode (r * 28 + i) fun x => { x with state := max x.state 1 }) s else s

/-- A node's identity. -/
def State.takeIdentity (s : State) (b : Bytes) : State :=
  let f := fieldAt b 17 1
  if 112 ≤ fieldAt b 0 1 then s
  else s.updAuth (fieldAt b 0 1) fun a => { a with serial := slice b 1 16, result := f % 4, untrusted := f.testBit 2, loaded := f.testBit 3,
                                                   invalid := f.testBit 4, syncPending := f.testBit 5, epoch := BitVec.ofNat 8 (fieldAt b 18 1),
                                                   nvgen := BitVec.ofNat 32 (fieldAt b 19 4), committed := BitVec.ofNat 32 (fieldAt b 23 4),
                                                   certId := slice b 27 8 }

/-- A cell's loaded history. -/
def State.takeHistory (s : State) (b : Bytes) : State :=
  if 112 ≤ fieldAt b 0 1 ∨ 16 ≤ fieldAt b 1 1 then s
  else s.updCellE (fieldAt b 0 1 * 16 + fieldAt b 1 1) fun c => { c with bins := slice b 2 256, efc := (fieldAt b 258 4 : ℚ) }

/-- Values laid out in the order of the safety block. -/
def splitBlock (b : Bytes) : List (Nat × Nat × Bytes) :=
  let rows := (dictionary.filter fun r => 0x600 ≤ r.id && r.id < 0x680).flatMap fun r => (List.range r.inst).map fun i => (r.id, i, (r.base [] 0 i).length)
  (rows.foldl (fun (a : List (Nat × Nat × Bytes) × Nat) r => (a.1 ++ [(r.1, r.2.1, slice b a.2 r.2.2)], a.2 + r.2.2)) ([], 0)).1

/-- The active's safety block (12 R363): a block that differs is copied, CONFIRMED with the active's. -/
def State.takeBlock (s : State) (b : Bytes) : State :=
  let vals := b.drop 1
  if vals.length ≠ s.blockValues.length ∨ vals = s.blockValues then s
  else
    let s := (splitBlock vals).foldl (fun s v => s.setPar v.1 v.2.1 v.2.2) s
    { s with safe := { s.safe with confirmed := fieldAt b 0 1 == 1, mismatch := false } }

/-- STATE_XFER (R70). -/
def execStateXfer (f : Link) (kind : Nat) (data : Bytes) (last : Bool) (s : State) : Result :=
  .next <| s.onLink true f fun s =>
    if !s.isStandby then s
    else
      let s := match kind with
        | 1 => s.takeTable data
        | 2 => s.takeIdentity data
        | 3 => s.takeHistory data
        | 4 => s.takeBlock data
        | _ => s
      if last then { s with twin := { s.twin with xfer := true } } else s

/-- STANDBY_REPORT (R526, Table 18.2 TWIN): the active records the fault; after 0x1071 it sends the dictionary (R100). -/
def execStandbyReport (f : Link) (code inst sev : Nat) (data : Bytes) (s : State) : Result :=
  .next <| s.onLink true f fun s =>
    if !s.isActive then s
    else
      let s := s.record { mkFault s code inst sev (padTo 12 data) none none with twin := true }
      if code = 0x1071 then s.sendDict else s

/-- WCP_FWD (R91): a request joins the execution queue as the twin's, with the role of the receiving module's session; a reply goes to the host that
asked. -/
def execWcpFwd (f : Link) (reply : Bool) (h : Hdr) (role : Role) (opcode : Nat) (payload : Bytes) (s : State) : Result :=
  .next <| s.onLink true f fun s =>
    if !reply then
      let s := { s with wcp := { s.wcp with guests := s.wcp.guests ++ [(h, opcode, role)] } }
      match malformed opcode payload with
      | none => s.enqueue ⟨h, opcode, payload⟩
      | some off => s.failAll opcode h payload 0x0102 off 0
    else match s.wcp.forwarded.find? fun p => p.1.session == h.session && p.1.seq == h.seq && p.2 == opcode with
      | none => s
      | some (h0, op) =>
        let p := { s.replyPacket op h0 (fieldAt payload 0 2) (payload.drop 2) true with target := 3 - s.sys.slot }
        let s := { s with wcp := { s.wcp with forwarded := s.wcp.forwarded.erase (h0, op) } }
        (s.updSess h0.session.toNat fun x => x.remember p.seq p).post p

/-! ### Planned handover (R392 to R394) -/

/-- R392's cases of refusal. -/
def State.handRefused (s : State) : Bool :=
  !s.twinReady || s.twin.rstate.getLsbD 1 || s.twin.hand.isSome || ([0, 1, 2, 3].any fun r => (s.str r).closing != 0) || s.safe.ct.isSome
    || (match s.safe.reset with
      | some a => a.armed.isSome
      | none => false) || [0, 1, 2, 3].any fun c => (s.ch c).state == 1 || (s.ch c).state == 3

/-- The active announces h, at least 3 periods ahead; outside P0, where no periods run, it hands over at once. -/
def State.beginHand (s : State) (why : HandWhy) (op : Option OpRef) : State :=
  let lead := if s.sys.power = .p0 then 3 + Config.handLead else 0
  let h := s.loop.period + BitVec.ofNat 32 lead
  let s := (s.sendArb 2 (if why == HandWhy.drill then 3 else 0) 0 (leBytes 4 h.toNat))
  let s := { s with twin := { s.twin with hand := some ⟨h, why, op⟩ } }
  if s.sys.power = .p0 then s else s.handAt

/-- ARB_HANDOVER (R392): the standby prepares to take over. -/
def execArbHandover (f : Link) (period : BitVec 32) (drill : Bool) (s : State) : Result :=
  .next <| s.onLink false f fun s =>
    if s.isStandby then { s with twin := { s.twin with handTwin := some period, handDrill := drill } } else s

/-- TWIN_HANDOVER (R392). -/
def execTwinHandover (h : Hdr) (s : State) : Result :=
  .next <| s.wcpReq 0x0701 h [] fun s =>
    if !s.isActive ∨ s.handRefused then s.fail 0x0701 h 0x0105
    else (s.reply 0x0701 h 1).beginHand .command (some (opRef 0x0701 h))

/-- The first time of day TWIN.SWAP_TIME_S at or after an instant (R393). -/
def State.swapInstant (s : State) : Nat :=
  let day := 86400000000000
  let t0 := max s.now (s.twin.lastSwap + s.parN 0x701 0 * day)
  let at_ := s.parN 0x702 0 * 1000000000
  if t0 % day ≤ at_ then t0 / day * day + at_ else (t0 / day + 1) * day + at_

/-- SWAP_DRILL_DUE (R393): the drill runs, or is refused and tried again after 10 min. -/
def execSwapDrillDue (s : State) : Result :=
  .next <|
    if !s.isActive ∨ s.parN 0x700 0 ≠ 1 then s
    else
      let s := s.advanceTo (if s.twin.swapDue then max s.now s.twin.swapTry else s.swapInstant)
      if s.handRefused then
        let first := !s.twin.swapDue
        let s := { s with twin := { s.twin with swapDue := true, swapTry := s.now + 600000000000 } }
        if first then s.raise 0x7041 0 0 else s
      else ({ s with twin := { s.twin with swapDue := false } }).beginHand .drill none

/-- SWAP_WATCH_END (R394). -/
def execSwapWatchEnd (s : State) : Result :=
  .next <| match s.twin.watch with
    | none => s
    | some t =>
      let s := s.advanceTo (t + s.parN 0x703 0 * 1000000000)
      ({ s with twin := { s.twin with watch := none, lastSwap := s.now } }).raise 0x7040 0 0

/-- A fault that hands the strings back has come since the watch began (R394): 0x3106, 0x3108 or, not yet handled, one of severity 3. -/
def State.handsBack (s : State) (code : Nat) : Bool :=
  let drive := code == 0x3106 || code == 0x3108
  let hit := fun (f : FRec) => f.code == code && (drive || f.sev == 3)
  (s.fm.raised ++ s.fm.queue ++ s.fm.cur.toList).any hit || (drive && s.fm.known.any fun k => k.1 == code && s.twin.watchSeq < k.2.2)

/-- SWAP_HANDED_BACK (R394): the drive ends, and the old active takes over. -/
def execSwapHandedBack (code : Nat) (s : State) : Result :=
  .next <| if s.twin.watch.isNone || !s.isActive || !s.handsBack code then s else (s.setLifecycle .standby).handedBack code

/-! ### The twin opcodes (R388, R395, R397, R398) -/

/-- TWIN_STATUS (Table 13.11). -/
def execTwinStatus (h : Hdr) (s : State) : Result :=
  .next <| s.wcpReq 0x0700 h [] fun s =>
    let us := match s.twin.copy with
      | some (_, t) => min 0xFFFFFFFF ((s.now - t) / 1000)
      | none => 0xFFFFFFFF
    s.reply 0x0700 h 0 (u32 s.twinState ++ leBytes 4 s.twin.rstate.toNat ++ u32 us ++ time80Bytes s.twin.lastSwap)

/-- The module itself is to be isolated (R395): reply and effect by its lifecycle. -/
def State.isolateSelf (s : State) (h : Hdr) : State :=
  let now := ((s.reply 0x0702 h 1).setLifecycle .isolated).complete (opRef 0x0702 h) 0
  match s.sys.lifecycle with
  | .isolated => s.reply 0x0702 h 0
  | .negotiate => now
  | .standby => now
  | .active =>
    if !s.handRefused then (s.reply 0x0702 h 1).beginHand .isolate (some (opRef 0x0702 h))
    else if !s.twinReady && ([0, 1, 2, 3].all fun r => s.contactsOpen r && (s.str r).closing == 0 && (s.ch r).state == 0) then now
    else s.fail 0x0702 h 0x0105
  | _ => s.fail 0x0702 h 0x0105

/-- TWIN_ISOLATE (R395): the active passes the request to its twin where the named slot is the twin's. -/
def execTwinIsolate (h : Hdr) (slot : Byte) (s : State) : Result :=
  .next <| s.wcpReq 0x0702 h [slot] fun s =>
    if slot.toNat = 0 ∨ 2 < slot.toNat then s.fail 0x0702 h 0x0104
    else if slot.toNat = s.sys.slot then s.isolateSelf h
    else s.forwardReq 0x0702 h [slot]

/-- TWIN_JOIN (R395). -/
def execTwinJoin (h : Hdr) (s : State) : Result :=
  .next <| s.wcpReq 0x0703 h [] fun s =>
    if s.sys.lifecycle ≠ .isolated then s.fail 0x0703 h 0x0105
    else ((s.reply 0x0703 h 1).setLifecycle .negotiate).complete (opRef 0x0703 h) 0

/-- SUSPECT ends. -/
def State.clearSuspect (s : State) : State := { s with twin := { s.twin with suspect := false, estDiff := ⟨0, 0, 0, 0⟩ } }

/-- SUSPECT_CLEAR (R388): TWIN.SUSPECT_CLEAR_H hours without a further mismatch or difference. -/
def execSuspectClear (s : State) : Result :=
  .next <| if !s.twin.suspect then s else (s.advanceTo (s.twin.suspectAt + s.parN 0x706 0 * 3600000000000)).clearSuspect

/-- The loop and estimator blocks of R388 (17 R465). -/
def suspectBlocks : List Nat := [0x20, 0x21, 0x22, 0x23, 0x10, 0x11, 0x12, 0x13]

/-- TWIN_CLEAR_SUSPECT (R388): only after loop and estimator blocks have passed a self-test. -/
def execTwinClearSuspect (h : Hdr) (s : State) : Result :=
  .next <| s.wcpReq 0x0704 h [] fun s =>
    if s.twin.suspect && suspectBlocks.all (fun c => s.twin.tested.contains c) then s.clearSuspect.reply 0x0704 h 0 else s.fail 0x0704 h 0x0105

/-- TWIN_PROMOTE (Table 13.10): a STANDBY, active-eligible, ROLE_IN deasserted. -/
def execTwinPromote (h : Hdr) (s : State) : Result :=
  .next <| s.wcpReq 0x0705 h [] fun s =>
    if s.isStandby && s.activeEligible && !s.sys.roleIn then (s.reply 0x0705 h 0).activeOpen else s.fail 0x0705 h 0x0105

end Sys2Proof.Machine
end

