-- ==== Sys2Proof/Machine/Bist.lean ====
section
/-! DEFINITION. Chapter 17: the start-up self-test (R462, R463), in-service tests (R464 to R468), thermal shutdown and hold (R471 to
R473). -/

namespace Sys2Proof.Machine
open Sys2Proof

/-! ### Start-up self-test (R462, R463) -/

/-- The blocks of a start-up slot with their durations in µs (Tables 17.1, 17.3). -/
def slotBlocks : Nat → List (Nat × Nat)
  | 1 => [(0x01, 600000), (0x03, 600000), (0x04, 200000), (0x05, 50000)]
  | 2 => [(0x10, 500000), (0x11, 500000), (0x30, 100000), (0x31, 100000), (0x32, 100000), (0x33, 100000), (0x34, 100000), (0x35, 100000),
      (0x36, 100000), (0x37, 100000)]
  | 3 => [(0x12, 500000), (0x13, 500000), (0x50, 400000)]
  | 4 => [(0x20, 400000), (0x21, 400000), (0x22, 400000), (0x23, 400000), (0x02, 300000), (0x40, 100000), (0x41, 100000), (0x42, 100000),
      (0x43, 100000)]
  | 5 => [(0x38, 100000), (0x60, 200000), (0x20, 40), (0x21, 40), (0x22, 40), (0x23, 40)]
  | _ => []

/-- End of a slot in ms after the start of SELFTEST (Table 17.3). -/
def slotEndMs : Nat → Nat
  | 0 => 0 | 1 => 600 | 2 => 1100 | 3 => 1600 | 4 => 2100 | _ => 2500

/-- Every block of Table 17.1. -/
def allBlocks : List Nat := [1, 2, 3, 4, 5, 0x10, 0x11, 0x12, 0x13, 0x20, 0x21, 0x22, 0x23, 0x30, 0x31, 0x32, 0x33, 0x34, 0x35, 0x36, 0x37,
  0x38, 0x40, 0x41, 0x42, 0x43, 0x50, 0x60]

/-- Duration of a block's test in µs outside the start-up slots (Table 17.1): a STANDBY's lanes run the known-answer test only. -/
def State.testUs (s : State) (code : Nat) : Nat :=
  if s.isStandby && 0x20 ≤ code && code ≤ 0x23 then 40
  else (([1, 2, 3, 4, 5].flatMap slotBlocks).find? fun b => b.1 == code).elim 0 (·.2)

/-- Tests begin; each counts in BIST.RUNS. Impedance work ends where too few clusters stay in service (Table 11.8). -/
def State.beginTests (s : State) (l : List (Nat × Nat)) : State :=
  let b := s.bist
  let fresh := l.filter fun x => !b.running.any fun y => y.1 == x.1
  (({ s with bist := { b with running := b.running ++ fresh.map fun (x : Nat × Nat) => (x.1, s.now + x.2 * 1000) } }).incBy 0xA20 0 fresh.length).impClusters

/-- SELFTEST begins with its first slot (R462, Table 3.7). -/
def State.startSelftest (s : State) : State :=
  let s := s.setLifecycle .selftest
  let s := { s with sys := { s.sys with startPhase := 2, selfTest := .notRun }, bist := { s.bist with started := s.now, slot := 0 } }
  s.beginTests (slotBlocks 1)

/-- The worse of two start-up results. -/
def worseTest : SelfTest → SelfTest → SelfTest
  | .ineligible, _ => .ineligible
  | _, .ineligible => .ineligible
  | .standbyOnly, _ => .standbyOnly
  | _, .standbyOnly => .standbyOnly
  | a, _ => a

/-- The consequence of a failed or aborted start-up block (Table 17.4); an output's is that of R224 until a later run passes. -/
def State.startupFail (s : State) (code : Nat) : State :=
  if code = 4 then s
  else if 0x10 ≤ code ∧ code ≤ 0x13 then s.fenceEst (code - 0x10)
  else if 0x40 ≤ code ∧ code ≤ 0x43 then s.loopbackResult (code - 0x40) false
  else
    let r : SelfTest := if 0x20 ≤ code ∧ code ≤ 0x37 then .standbyOnly else .ineligible
    { s with sys := { s.sys with selfTest := worseTest s.sys.selfTest r } }

/-- A start-up block ends (R461, R463). -/
def State.startupEnd (s : State) (code outcome count : Nat) : State :=
  let s := s.bistEnd code outcome count true false
  if outcome = 2 then (if 0x40 ≤ code ∧ code ≤ 0x43 then s.loopbackResult (code - 0x40) true else s) else s.startupFail code

/-- The blocks of a slot still under test end with their results, or aborted where none is given (R462). -/
def State.endSlot (s : State) (slot : Nat) (results : List (Nat × Bool × Nat × Nat)) : State :=
  (slotBlocks slot).foldl (fun s b =>
    if !(s.bist.running.any fun x => x.1 == b.1) then s
    else match results.find? fun r => r.1 == b.1 with
      | some (_, ok, n, e) => s.startupEnd b.1 (testOutcome ok n e) n
      | none => s.startupEnd b.1 4 0) s

/-- SELFTEST_SLOT_END (R462): `results` lists the blocks complete in the slot: code, signature or data as expected, count done, count
expected. In the last slot an entry of code 0 gives the comparison of the safety block's CRCs (12 R363, assumption log 69). -/
def execSelftestSlotEnd (slot : Nat) (results : List (Nat × Bool × Nat × Nat)) (s : State) : Result :=
  .next <|
    if s.sys.lifecycle ≠ .selftest ∨ slot ≠ s.bist.slot + 1 ∨ 5 < slot then s
    else
      let s := s.advanceTo (s.bist.started + slotEndMs slot * 1000000)
      let s := s.endSlot slot results
      let s := { s with bist := { s.bist with slot := slot } }
      let differ : Bool := slot == 5 && results.any fun r => r.1 == 0 && !r.2.1
      let s := if differ then ({ s with safe := { s.safe with mismatch := true, confirmed := false } }).raise 0x6001 0 3 else s
      s.beginTests (slotBlocks (slot + 1))

/-- A demand on a safety input, or FIRE, stands. -/
def State.demandStands (s : State) : Bool :=
  s.safe.fireCore || s.safe.fireTurnip || s.safe.si.toList.any fun i => i.core || i.turnip

/-- Start-up blocks pre-empted and not yet re-tested (R467). -/
def State.preempted (s : State) : List Nat :=
  allBlocks.filter fun c => let r := s.bistRes c; r.state == 4 && r.startup && r.preempted

/-- SELFTEST ends: eligibility is fixed and the module enters NEGOTIATE (R463, R71). -/
def State.endSelftest (s : State) : State :=
  let st : SelfTest := if s.sys.selfTest = .notRun then .passed else s.sys.selfTest
  let s := { s with sys := { s.sys with selfTest := st, startPhase := 3 } }
  let s := if st = .ineligible then s.raise 0xB110 0 1 else s
  s.setLifecycle .negotiate

/-- SELFTEST_COMPLETE (R463, R467): pre-empted blocks run again once no demand stands; after 10 s Table 17.4 applies to them. -/
def execSelftestComplete (s : State) : Result :=
  .next <|
    if s.sys.lifecycle ≠ .selftest ∨ s.bist.slot ≠ 5 then s
    else
      let pend := s.preempted
      let limit := s.bist.started + 12500000000
      if limit ≤ s.now then
        let s := (s.bist.running.map (·.1)).foldl (fun s c => s.bistEnd c 4 0 true true) s
        (s.preempted.foldl State.startupFail s).endSelftest
      else if pend = [] ∧ s.bist.running = [] then s.endSelftest
      else if s.demandStands then s
      else s.beginTests (pend.map fun c => (c, s.testUs c))

/-! ### In-service tests (R464 to R468) -/

/-- The tests Table 17.5 permits by BIST_RUN. -/
def State.mayTest (s : State) (code : Nat) : Bool :=
  let est := 0x10 ≤ code && code ≤ 0x13
  match s.sys.lifecycle with
  | .active => code == 4 || est
  | .standby => code == 4 || est || (0x20 ≤ code && code ≤ 0x23) || (0x40 ≤ code && code ≤ 0x43)
  | .isolated => true
  | _ => false

/-- Lanes under a known-answer test on a STANDBY lose the comparison of a period each (R465). -/
def State.idleLanes (s : State) (codes : List Nat) : State :=
  let ls := (codes.filter fun c => 0x20 ≤ c && c ≤ 0x23).map (· - 0x20)
  if s.isStandby then { s with twin := { s.twin with katIdle := s.twin.katIdle ++ ls } } else s

/-- BIST_RUN (R468, Table 17.8): the named blocks run their tests at once. -/
def execBistRun (h : Hdr) (codes : Bytes) (s : State) : Result :=
  .next <|
    let cs := (codes.map (·.toNat)).dedup
    s.wcpRun 0x0A00 h (u8 codes.length ++ codes) false cs fun s =>
      if cs = [] ∨ cs.any (fun c => !allBlocks.contains c) then s.fail 0x0A00 h 0x0104
      else if cs.any (fun c => !s.mayTest c) then s.fail 0x0A00 h 0x0105
      else
        let s := (s.beginTests (cs.map fun c => (c, s.testUs c))).idleLanes cs
        let s := { s with bist := { s.bist with runs := s.bist.runs ++ [(⟨opRef 0x0A00 h, cs, cs⟩ : BistRun)] } }
        s.reply 0x0A00 h 1

/-- BIST_STATUS (R476). -/
def execBistStatus (h : Hdr) (codes : Bytes) (s : State) : Result :=
  .next <| s.wcpReq 0x0A01 h (u8 codes.length ++ codes) fun s =>
    if codes.any fun c => !allBlocks.contains c.toNat then s.fail 0x0A01 h 0x0104
    else s.reply 0x0A01 h 0 (codes.flatMap fun c => u32 (s.bistWord c.toNat))

/-- A fenced cluster's self-test (R13): a pass clears RETEST_PENDING, any other outcome asks for it again. -/
def Cluster.tested (c : Cluster) (outcome : Nat) : Cluster :=
  if c.fenced then { c with testOk := outcome == 2, retest := outcome != 2 } else c

/-- What the outcome of an estimator cluster's test does (R13, R388, R466): it returns, or is fenced. -/
def State.estTested (s : State) (k outcome : Nat) : State :=
  let s := s.setCluster k ((s.cluster k).tested outcome)
  if outcome = 3 then s.fenceEst k else s

/-- What the outcome of a lane's test does (R13, R388, R394). -/
def State.laneTested (s : State) (c outcome : Nat) : State :=
  let s := s.setCluster (4 + c) ((s.cluster (4 + c)).tested outcome)
  let s := if outcome = 2 then s.backPass (0x20 + c) else s
  let n := s.sys.notActive
  let all := [0x20, 0x21, 0x22, 0x23].all fun b => (s.bistRes b).state == 2
  if outcome = 3 then { s with sys := { s.sys with notActive := { n with lanes := true } } }
  else { s with sys := { s.sys with notActive := { n with lanes := n.lanes && !all } } }

/-- Safety functions whose fault a passed block test clears: the safety cores' by block 0x02, the cross-demand's by the cores and Turnip
(20 R526, 12 R358). -/
def State.coresTested (s : State) (code : Nat) : State :=
  let s := if code = 2 then (s.clearFaulty 0x6041 0).clearFaulty 0x6042 0 else s
  let both : Bool := [2, 5].all fun c => (s.bistRes c).state == 2 && !s.bist.running.any fun b => b.1 == c
  let s := if (code = 2 ∨ code = 5) ∧ both then s.clearFaulty 0x6043 0 else s
  if code = 2 ∨ code = 5 then s.tryArm else s

/-- What a test outside start-up releases or takes from service (R466, R468). -/
def State.tested (s : State) (code outcome : Nat) : State :=
  let s := if outcome = 2 then (s.passBlock code).coresTested code else s
  let s := if outcome = 2 ∧ !s.twin.tested.contains code then { s with twin := { s.twin with tested := code :: s.twin.tested } } else s
  if 0x10 ≤ code ∧ code ≤ 0x13 then s.estTested (code - 0x10) outcome
  else if 0x20 ≤ code ∧ code ≤ 0x23 then s.laneTested (code - 0x20) outcome
  else if 0x40 ≤ code ∧ code ≤ 0x43 ∧ outcome ≠ 4 then s.loopbackResult (code - 0x40) (outcome == 2)
  else s

/-- BIST_COMPLETE (R461): a test ends by signature or data and by count. -/
def execBistComplete (code : Nat) (sigOk : Bool) (count expected : Nat) (s : State) : Result :=
  .next <|
    match s.bist.running.find? fun b => b.1 == code with
    | none => s
    | some b =>
      let o := testOutcome sigOk count expected
      let s := if o = 4 then s else s.advanceTo b.2
      if s.sys.lifecycle = .selftest then s.startupEnd code o count
      else (s.bistEnd code o count false false).tested code o

/-- SCRUB_DUE (R464): kind 0 ECC SRAM, 1 LPDDR4, 2 MRAM and NOR, in P0 and P1. Errors a scrub finds are those of R11 and R20. -/
def execScrubDue (kind : Nat) (s : State) : Result :=
  .next <|
    if 3 ≤ kind ∨ !(s.sys.power = .p0 ∨ s.sys.power = .p1) then s
    else
      let gap := s.parN (0xA00 + kind) 0 * (if kind = 0 then 1000000000 else 3600000000000)
      let s := s.advanceTo (s.bist.scrubs.getD kind 0 + gap)
      { s with bist := { s.bist with scrubs := s.bist.scrubs.set kind s.now } }

/-- CLUSTER_ROTATION_DUE (R466): BIST.CLUSTER_ROT_H after the last; it starts at the next cycle start at which its conditions hold. -/
def execClusterRotationDue (s : State) : Result :=
  .next <|
    if s.bist.rotDue then s
    else
      let s := s.advanceTo (s.bist.rotAt + s.parN 0xA03 0 * 3600000000000)
      { s with bist := { s.bist with rotDue := true } }

/-- STANDBY_KAT_DUE (R465, Table 17.5): every BIST.STANDBY_KAT_S the lanes' known-answer tests, one lane a period. -/
def execStandbyKatDue (lanes : Four LaneTest) (s : State) : Result :=
  .next <|
    if !(s.isStandby ∨ s.sys.lifecycle = .isolated) ∨ s.twin.kat.isSome ∨ s.bist.running.any (fun b => 0x20 ≤ b.1 && b.1 ≤ 0x23) then s
    else
      let s := s.advanceTo (s.bist.katAt + s.parN 0xA04 0 * 1000000000)
      let s := { s with bist := { s.bist with katAt := s.now } }
      let s := (s.idleLanes [0x20, 0x21, 0x22, 0x23]).incBy 0xA20 0 4
      (List.range 4).foldl (fun s c =>
        let o := laneOutcome (lanes.get c)
        (s.bistEnd (0x20 + c) o (lanes.get c).count false false).tested (0x20 + c) o) s

/-! ### Thermal shutdown, hold and restart (R471 to R473) -/

/-- The record of the thermal shutdown at t has been written (R471). -/
def State.shutdownRecorded (s : State) (t : Nat) : Bool :=
  ((s.recd.part : SMap RecPart).at 0 {}).slots.any fun p => fieldAt p.2 16 2 == 0xB002 && slice p.2 4 10 == time80Bytes t

/-- THERMAL_SHUTDOWN (R471): drive ends, the fault, the flag; the hold begins 2 ms later. -/
def execThermalShutdown (s : State) : Result :=
  .next <|
    if s.bist.hold ∨ s.bist.holdAt.isSome then s
    else
      let s := (s.endDrive.raise 0xB002 0 3).inc 0xAA1 0
      { s with bist := { s.bist with flag := true, holdAt := some (s.now + 2000000) } }

/-- The thermal hold begins: every die but Turnip is held in reset (R471). -/
def State.enterHold (s : State) : State :=
  let cause := s.sys.resetCause
  let at_ := s.bist.holdAt.getD s.now
  let ok := s.shutdownRecorded (at_ - 2000000)
  let s := (s.advanceTo at_).resetModule 8
  { s with sys := { s.sys with resetCause := cause }, bist := { s.bist with hold := true, recOk := ok, polls := 0, pollAt := at_ } }

/-- The module restarts from the hold with THERMAL set; a missing record is marked (R471, R472). -/
def State.leaveHold (s : State) : State :=
  let ok := s.bist.recOk
  let s := ({ s with bist := { s.bist with hold := false, polls := 0 } }).resetModule 8
  if ok then s else s.raise 0xB007 0 1

/-- THERMAL_HOLD_POLL (R472): every 10 s; two polls in a row with every sensor but 5 below 95 °C restart the module. -/
def execThermalHoldPoll (readings : List (Option Int)) (s : State) : Result :=
  .next <|
    let s := if s.bist.holdAt.isSome then s.enterHold else s
    if !s.bist.hold then s
    else
      let s := s.advanceTo (s.bist.pollAt + 10000000000)
      let cool := [0, 1, 2, 3, 4, 6].all fun i => match readings.getD i none with
        | some v => decide (v < 9500)
        | none => false
      let n := if cool then s.bist.polls + 1 else 0
      let s := { s with bist := { s.bist with polls := n, pollAt := s.now } }
      if 2 ≤ n then s.leaveHold else s

/-- THERM_CLEAR (R473). -/
def execThermClear (h : Hdr) (s : State) : Result :=
  .next <| s.wcpReq 0x0A11 h [] fun s =>
    if s.bist.sensors.any fun r => match r with
      | some v => decide (9500 ≤ v)
      | none => false then s.fail 0x0A11 h 0x0105
    else (({ s with bist := { s.bist with flag := false } }).raise 0xB006 0 0).reply 0x0A11 h 0

end Sys2Proof.Machine
end

