-- ==== Sys2Proof/Machine/Update.lean ====
section
/-! DEFINITION. Chapter 19, firmware update: bundles and their checks (R500 to R502), compatibility (R503, R504), update sessions (R505),
activation, trial and rollback (R507 to R510), parts from the twin (R511), interruption (R512), the node step (R514 to R516) and the
manifest transaction (R518, R519). -/

namespace Sys2Proof.Machine
open Sys2Proof

/-! ### Bundles (R500, R501) -/

/-- A part entry of 128 bytes (Table 19.3). -/
def parseEntry (b : Bytes) : PartEntry :=
  { type := fieldAt b 0 1, scope := BitVec.ofNat 8 (fieldAt b 1 1), version := BitVec.ofNat 32 (fieldAt b 4 4), offset := fieldAt b 8 4,
    length := fieldAt b 12 4, digest := slice b 16 32,
    compat := ((List.range 8).map fun i => (fieldAt b (48 + 8 * i) 1, fieldAt b (50 + 8 * i) 2, fieldAt b (52 + 8 * i) 2, fieldAt b (54 + 8 * i) 2)).filter
      fun c => c.1 != 0 }

/-- The entry as bytes. -/
def entryBytes (e : PartEntry) : Bytes :=
  u8 e.type ++ [e.scope] ++ [0, 0] ++ leBytes 4 e.version.toNat ++ u32 e.offset ++ u32 e.length ++ padTo 32 e.digest
    ++ padTo 64 (e.compat.flatMap fun c => u8 c.1 ++ [0] ++ u16 c.2.1 ++ u16 c.2.2.1 ++ u16 c.2.2.2) ++ List.replicate 16 0

/-- The signatures from a position on (R501): kind, chain, signature, and where the block ends. -/
def parseSigs : Nat → Bytes → Nat → Option (List (Nat × Bytes × Bytes) × Nat)
  | 0, _, pos => some ([], pos)
  | n + 1, b, pos =>
    let len := fieldAt b (pos + 2) 2
    let next := pos + 4 + len + 64
    if 2048 < len ∨ b.length < next then none
    else (parseSigs n b next).map fun r => ((fieldAt b pos 1, slice b (pos + 4) len, slice b (pos + 4 + len) 64) :: r.1, r.2)

/-- PART_COUNT of a bundle. -/
def partCount (b : Bytes) : Nat := fieldAt b 6 1
def bundleFlag (b : Bytes) (i : Nat) : Bool := (fieldAt b 7 1).testBit i
def bundleFloor (b : Bytes) : BitVec 32 := BitVec.ofNat 32 (fieldAt b 8 4)
def bundleId (b : Bytes) : BitVec 64 := BitVec.ofNat 64 (fieldAt b 16 8)
/-- Header and part entries (R500). -/
def manifestLen (b : Bytes) : Nat := 64 + 128 * partCount b
def bundleParts (b : Bytes) : List PartEntry := (List.range (partCount b)).map fun i => parseEntry (slice b (64 + 128 * i) 128)
def bundleSigs (b : Bytes) : Option (List (Nat × Bytes × Bytes) × Nat) := parseSigs (if bundleFlag b 1 then 2 else 1) b (manifestLen b)

/-- The largest payload of a part (Table 19.1). -/
def partMax : Nat → Nat
  | 1 => 20971520 | 2 => 262144 | 3 => 1048576 | 4 => 524288 | _ => 0

/-- Two payloads share a byte. -/
def overlaps (a b : PartEntry) : Bool := decide (a.offset < b.offset + b.length ∧ b.offset < a.offset + a.length)

/-- Check 1 of R502. -/
def wellLaid (b : Bytes) (length : Nat) : Bool :=
  let ps := bundleParts b
  slice b 0 4 == [0x52, 0x4E, 0x43, 0x01] && fieldAt b 4 2 == 64 && decide (1 ≤ partCount b ∧ partCount b ≤ 16) && fieldAt b 12 4 == length
    && b.length == length
    && (match bundleSigs b with
      | none => false
      | some (_, e) => ps.all fun p => decide (1 ≤ p.type ∧ p.type ≤ 4 ∧ p.length ≤ partMax p.type ∧ e ≤ p.offset ∧ p.offset + p.length ≤ length))
    && ps.zipIdx.all fun p => ps.zipIdx.all fun q => p.2 == q.2 || !overlaps p.1 q.1

/-- Check 2: the vendor's signature, and the owner's where UPD.OWNER_SIG asks for it. -/
def signed (b : Bytes) (owner : Bool) : Bool :=
  let h := sha256 (b.take (manifestLen b))
  match bundleSigs b with
  | none => false
  | some (l, _) =>
    (l.any fun q => q.1 == 1 && Config.vendorOk q.2.1 h q.2.2) && (!owner || l.any fun q => q.1 == 2 && Config.ownerOk q.2.1 h q.2.2)

/-- A part's payload. -/
def payloadOf (b : Bytes) (e : PartEntry) : Bytes := slice b e.offset e.length

/-- The signature block of a bundle, kept with each copy (R499). -/
def sigBlock (b : Bytes) : Bytes :=
  match bundleSigs b with
  | some (_, e) => slice b (manifestLen b) (e - manifestLen b)
  | none => []

/-- The parts of a bundle for a module of a slot, by SCOPE (Table 19.3). -/
def forSlot (ps : List PartEntry) (slot : Nat) : List PartEntry :=
  ps.filter fun p => decide (1 ≤ p.type ∧ p.type ≤ 3 ∧ (p.scope.toNat = 0 ∨ p.scope.toNat = slot))

/-- The staged bundle: its pieces laid over one another in the order they came, none where a byte has not come. -/
def Staging.bundle (g : Staging) : Option Bytes :=
  let reach := (g.pieces.foldr insertFrag []).foldl (fun n p => if p.1 ≤ n then max n (p.1 + p.2.length) else n) 0
  if reach < g.length then none else some (g.pieces.foldl (fun b p => patch b p.1 p.2) (List.replicate g.length 0))

/-! ### Compatibility (R503) -/

/-- For every interface both list, each part's OWN lies in the other's range. -/
def compatible (a b : PartEntry) : Bool :=
  a.compat.all fun x => b.compat.all fun y => x.1 != y.1 || decide (y.2.2.1 ≤ x.2.1 ∧ x.2.1 ≤ y.2.2.2 ∧ x.2.2.1 ≤ y.2.1 ∧ y.2.1 ≤ x.2.2.2)

/-- Parts of one type meet parts of another. -/
def meet (l : List PartEntry) (t : Nat) (m : List PartEntry) (u : Nat) : Bool :=
  l.all fun a => a.type != t || m.all fun b => b.type != u || compatible a b

/-- A configuration of module parts, twin parts and node firmware is admissible (R503). -/
def admissible (own twin nodes : List PartEntry) : Bool :=
  meet own 1 own 2 && meet own 1 own 3 && meet own 1 nodes 4 && meet own 1 twin 1 && meet own 2 twin 2

/-- Parts replaced by newer entries of their type. -/
def replaceParts (l new_ : List PartEntry) : List PartEntry := (l.filter fun e => !new_.any fun n => n.type == e.type) ++ new_

/-- The node firmware on the rings (R503): the versions the nodes reported, as far as this module holds their entries. -/
def State.nodeParts (s : State) : List PartEntry :=
  [s.upd.run.get 3, s.upd.res.get 3].filterMap fun p =>
    if p.valid && s.upd.nodeVer.any fun v => v.2 == p.entry.version.toNat then some { p.entry with type := 4 } else none

def State.ownModule (s : State) : List PartEntry := s.upd.own.filter fun e => e.type != 4

/-- Check 5 of R502: the configurations the update passes through. -/
def State.pathOk (s : State) (b : Bytes) (forwarded : Bool) : Bool :=
  let ps := bundleParts b
  let own := s.ownModule
  let twin := s.upd.twinParts.filter fun e => e.type != 4
  let own' := replaceParts own (forSlot ps s.sys.slot)
  let twin' := replaceParts twin (forSlot ps (3 - s.sys.slot))
  let nodes := s.nodeParts
  let nodes' := if ps.any fun p => p.type == 4 then ps.filter fun p => p.type == 4 else nodes
  if bundleFlag b 0 && s.parN 0xB00 0 == 0 then
    (if forwarded then admissible own twin' nodes else admissible own' twin nodes) && admissible own' twin' nodes && admissible own' twin' nodes'
  else admissible own' twin nodes && admissible own' twin nodes'

/-! ### Verification (R502) -/

/-- A string of the pair is closed: the active closes for both, the standby shadows (R502 check 6). -/
def State.anyClosed (s : State) : Bool := [0, 1, 2, 3].any fun r => s.closed r

/-- A bundle's outcome: status and DETAIL, 0 for a pass. -/
def State.verdict (s : State) (g : Staging) : Nat × Nat :=
  match g.bundle with
  | none => (0x0102, 0)
  | some b =>
    let ps := bundleParts b
    let bad := (List.range ps.length).find? fun i => match ps[i]? with
      | some p => sha256 (payloadOf b p) != p.digest
      | none => false
    let low := (bundleFloor b).toNat < s.upd.floor.toNat ∨ ps.any fun p => decide (p.version.toNat < s.upd.floor.toNat)
    let layout := bundleFlag b 2 && !(bundleFlag b 0 && s.parN 0xB00 0 == 0 && !s.anyClosed)
    let here := ps.all (fun p => p.type == 4) || s.sys.lifecycle == .update || s.sys.bootHold || (g.forwarded && bundleFlag b 0)
    if !wellLaid b g.length then (0x0102, 0)
    else if !signed b (s.parN 0xB03 0 == 1) then (0x0106, 0)
    else match bad with
      | some i => (0x0102, 64 + 128 * i)
      | none =>
        if low ∨ !s.pathOk b g.forwarded then (0x010B, 0)
        else if layout ∨ !here then (0x0105, 0)
        else (0, 0)

/-! ### Session commands (R505, R521) -/

/-- UPD.PARTS (Table 19.9). -/
def State.updParts (s : State) : Bytes :=
  [0, 1, 2, 3].flatMap fun i => let v := fun (p : PartSt) => u32 (if p.valid then p.entry.version.toNat else 0)
                                v (s.upd.run.get i) ++ v (s.upd.res.get i)

/-- UPD_STATUS. -/
def execUpdStatus (h : Hdr) (s : State) : Result :=
  .next <| s.wcpReq 0x0B00 h [] fun s =>
    s.reply 0x0B00 h 0 (u8 s.upd.state ++ [0, 0, 0] ++ leBytes 8 s.upd.bundleId.toNat ++ s.updParts)

/-- A STANDBY or ISOLATED module enters UPDATE (R505). -/
def State.enterUpdate (s : State) : State :=
  let l := s.sys.lifecycle
  if l = .standby ∨ l = .isolated then
    let s := s.setLifecycle .update
    { s with upd := { s.upd with from_ := some l } }
  else s

/-- A manifest transaction is open here: its reserve copies stay (R518). -/
def State.pairOpen (s : State) : Bool := match s.upd.tx with
  | some t => t.pair
  | none => false

/-- UPD_BEGIN (R505, R511): while IDLE or HALTED, and no manifest transaction is open (DEDUCED from R518, assumption log 206); a bundle is at most
64 MiB. -/
def execUpdBegin (h : Hdr) (length : BitVec 32) (s : State) : Result :=
  .next <| s.wcpReq 0x0B01 h (leBytes 4 length.toNat) fun s =>
    let l := s.sys.lifecycle
    let place := l == .standby || l == .isolated || l == .active || s.sys.bootHold
    if length = 0 ∨ 67108864 < length.toNat then s.fail 0x0B01 h 0x0104
    else if !(s.upd.state = 0 ∨ s.upd.state = 9) ∨ !place ∨ s.pairOpen ∨ s.sys.vinWarn then s.fail 0x0B01 h 0x0105
    else
      let s := s.enterUpdate
      let s := { s with upd := { s.upd with state := 1, session := h.session.toNat, op := none, stage := some ⟨length.toNat, [], false⟩ } }
      s.reply 0x0B01 h 0

/-- UPD_DATA: bytes of the bundle into staging while RECEIVING. -/
def execUpdData (h : Hdr) (offset : BitVec 32) (bytes : Bytes) (s : State) : Result :=
  .next <| s.wcpReq 0x0B02 h (leBytes 4 offset.toNat ++ bytes) fun s =>
    match s.upd.stage with
    | none => s.fail 0x0B02 h 0x0105
    | some g =>
      if s.upd.state ≠ 1 then s.fail 0x0B02 h 0x0105
      else if g.length < offset.toNat + bytes.length then s.fail 0x0B02 h 0x0104
      else ({ s with upd := { s.upd with stage := some { g with pieces := g.pieces ++ [(offset.toNat, bytes)] } } }).reply 0x0B02 h 0

/-- Bytes in Shallot IMAGE frames (Table 13.2, assumption log 70): kind (0 part, 1 bundle), part, offset, at most 504 bytes. -/
def State.sendImage (s : State) (kind part : Nat) (b : Bytes) : State :=
  { s with out := s.out ++ (List.range ((b.length + 503) / 504)).map fun i => (.shallot 0x51 (u8 kind ++ u8 part ++ u16 0 ++ u32 (504 * i) ++ slice b (504 * i) 504) : Out) }

/-- UPD_VERIFY (R502): in manifest mode a PAIR bundle is forwarded to the twin (R518). -/
def execUpdVerify (h : Hdr) (s : State) : Result :=
  .next <| s.wcpReq 0x0B03 h [] fun s =>
    match s.upd.stage with
    | none => s.fail 0x0B03 h 0x0105
    | some g =>
      if s.upd.state ≠ 1 then s.fail 0x0B03 h 0x0105
      else
        let s := { s with upd := { s.upd with state := 2, op := some (opRef 0x0B03 h) } }
        let s := match g.bundle with
          | some b => if bundleFlag b 0 && s.parN 0xB00 0 == 0 then s.sendImage 1 0 b else s
          | none => s
        s.reply 0x0B03 h 1

/-- The request of an update operation completes. -/
def State.updDone (s : State) (status : Nat) (result : Bytes := []) : State :=
  match s.upd.op with
  | none => s
  | some op => ({ s with upd := { s.upd with op := none } }).complete op status result

/-- UPD_VERIFY_DONE (R502): STAGED with event 0xD002, or fault 0xD003; a bundle that failed may be sent again, a forwarded one is dropped
(assumption log 71). -/
def execUpdVerifyDone (s : State) : Result :=
  .next <| match s.upd.stage with
    | none => s
    | some g =>
      if s.upd.state ≠ 2 then s
      else
        let v := s.verdict g
        let data := u16 v.1 ++ u16 v.2
        if v.1 = 0 then
          let id := match g.bundle with
            | some b => bundleId b
            | none => 0
          let s := { s with upd := { s.upd with state := 3, bundleId := id } }
          (s.raise 0xD002 0 0 (leBytes 8 id.toNat)).updDone 0
        else
          let s := (s.inc 0xB22 0).raise 0xD003 0 1 data
          let s := { s with upd := { s.upd with state := if g.forwarded then 0 else 1, stage := if g.forwarded then none else s.upd.stage } }
          s.updDone v.1

/-- UPD_ABORT (R505): before activation; a module in UPDATE returns, a halted one stays halted. -/
def execUpdAbort (h : Hdr) (s : State) : Result :=
  .next <| s.wcpReq 0x0B06 h [] fun s =>
    if !s.updOpen then s.fail 0x0B06 h 0x0105
    else
      let s := (s.updDone 0x0105).dropStage.leaveUpdate
      let s := if s.sys.bootHold then { s with upd := { s.upd with state := 9 } } else s
      s.reply 0x0B06 h 0

/-! ### Activation and the node step (R507, R514) -/

/-- The staged bundle's bytes. -/
def State.staged (s : State) : Bytes := match s.upd.stage with
  | some g => g.bundle.getD []
  | none => []

/-- What an activation of parts writes into the transaction record (R505). -/
def State.newTx (s : State) (mask : Nat) : UpdTx :=
  let b := s.staged
  let ps := bundleParts b
  { mask := mask, floor := bundleFloor b, pair := bundleFlag b 0 && s.parN 0xB00 0 == 0, safeLayout := bundleFlag b 2, done := [],
    new_ := (ps.filter fun p => p.type == 4 || p.scope.toNat == 0).map fun p => (p.type, p.version.toNat),
    old := (bitsSet 4 mask).map fun i => (i + 1, s.upd.running (i + 1)) }

/-- The module restarts into Sprout (R507): what waits to be recorded is written first. -/
def State.intoSprout (s : State) : State := s.drain.resetModule 7

/-- Module parts are activated (R507). -/
def State.activate (s : State) (mask : Nat) : State :=
  let s := (s.inc 0xB20 0).raise 0xD004 0 0 (leBytes 8 s.upd.bundleId.toNat ++ u8 mask)
  let s := { s with upd := { s.upd with state := 4, tx := some (s.newTx mask) } }
  s.intoSprout

/-- A ring may take a node step (R514). -/
def State.nodeStepOk (s : State) (r : Nat) : Bool := s.contactsOpen r && (s.ch r).state == 0 && (s.imp r).run == 0

/-- One copy replaced by a staged or received part: the running copy into the reserve first (R507, 3.1 and 3.2). -/
def UpdSt.install (u : UpdSt) (p : Nat) (c : PartSt) : UpdSt := { u with res := u.res.set (p - 1) (u.run.get (p - 1)), run := u.run.set (p - 1) c }

/-- The copy a bundle delivers of a part. -/
def copyOf (b : Bytes) (e : PartEntry) : PartSt := { entry := e, sig := sigBlock b, payload := payloadOf b e, valid := true }

/-- The node step of the staged bundle (R514). -/
def State.nodeStep (s : State) (e : PartEntry) : State :=
  let b := s.staged
  let s := { s with upd := s.upd.install 4 (copyOf b e) }
  s.loadRings (bitsSet 4 e.scope.toNat)

/-- UPD_ACTIVATE (R507, R514, R517): module parts on a module in UPDATE, node parts on the active. -/
def execUpdActivate (h : Hdr) (mask : Byte) (s : State) : Result :=
  .next <| s.wcpReq 0x0B04 h [mask] fun s =>
    let m := mask.toNat
    let b := s.staged
    let mods := (forSlot (bundleParts b) s.sys.slot).filter fun p => m.testBit (p.type - 1)
    let node := (bundleParts b).find? fun p => p.type == 4
    let named := bitsSet 3 m
    if m = 0 ∨ 16 ≤ m ∨ (8 < m ∧ !(bundleFlag b 0)) then s.fail 0x0B04 h 0x0104
    else if s.upd.state ≠ 3 ∨ s.sys.vinWarn then s.fail 0x0B04 h 0x0105
    else if named.any (fun i => !mods.any fun p => p.type == i + 1) ∨ (m.testBit 3 ∧ node.isNone) then s.fail 0x0B04 h 0x0104
    else if m % 8 ≠ 0 then
      if !(s.sys.lifecycle = .update ∨ s.sys.bootHold) then s.fail 0x0B04 h 0x0105
      else if !admissible (replaceParts s.ownModule mods) (s.upd.twinParts.filter fun e => e.type != 4) s.nodeParts then s.fail 0x0B04 h 0x010B
      else
        let s := { s with upd := { s.upd with op := some (opRef 0x0B04 h) } }
        (s.reply 0x0B04 h 1).activate m
    else match node with
      | none => s.fail 0x0B04 h 0x0104
      | some e =>
        if !s.isActive ∨ !((bitsSet 4 e.scope.toNat).all s.nodeStepOk) then s.fail 0x0B04 h 0x0105
        else if !meet s.ownModule 1 [e] 4 then s.fail 0x0B04 h 0x010B
        else
          let s := (s.inc 0xB20 0).raise 0xD004 0 0 (leBytes 8 s.upd.bundleId.toNat ++ u8 m)
          let s := { s with upd := { s.upd with op := some (opRef 0x0B04 h), tx := some (s.newTx m) } }
          (s.nodeStep e).reply 0x0B04 h 1

/-! ### Sprout (R507, R508, R510, R512) -/

/-- The part entry of the staged bundle that an activation writes. -/
def State.stagedPart (s : State) (p : Nat) : Option PartEntry := (forSlot (bundleParts s.staged) s.sys.slot).find? fun e => e.type == p

/-- Sprout writes one part (R507 step 3). -/
def State.writePart (s : State) (p : Nat) : State :=
  match s.stagedPart p with
  | none => s
  | some e =>
    let s := { s with upd := s.upd.install p (copyOf s.staged e) }
    { s with upd := { s.upd with tx := s.upd.tx.map fun (t : UpdTx) => { t with done := t.done ++ [p] } } }

/-- The twin's running copies are asked for (R511): state TWIN_RESTORE. -/
def State.askTwin (s : State) (mask : Nat) (restore : Bool) : State :=
  (({ s with upd := { s.upd with state := 7, want := mask, restore := restore } }).emit (.shallot 0x06 (u8 8 ++ u8 mask)))

/-- The twin can give parts (R511). -/
def State.twinSource (s : State) : Bool := s.twin.life == some .standby || s.twin.life == some .active

/-- No image can run (R511): HALTED, SVC only. -/
def State.halt (s : State) : State :=
  ({ s with upd := { s.upd with state := 9, want := 0 }, sys := { s.sys with bootHold := true, startPhase := 8 } }).raise 0xD013 0 3

/-- Sprout looks at the running copies (R499, R511): an invalid one comes from its reserve, else from the twin; with no usable twin the
module halts. -/
def State.repair (s : State) : State :=
  let bad := [1, 2, 3].filter fun p => !(s.upd.run.get (p - 1)).valid
  let s := { s with upd := s.upd.putBack (bad.filter fun p => (s.upd.res.get (p - 1)).valid) }
  let left := bad.filter fun p => !(s.upd.run.get (p - 1)).valid
  if left = [] then s
  else if s.twinSource then s.askTwin ((left.map fun p => 2 ^ (p - 1)).sum) true
  else s.halt

/-- Power failed while Sprout wrote (Table 19.6): in the reserve copy of a part (also between parts), or in its running write. -/
def State.interrupted (s : State) (p : Nat) (running : Bool) : State :=
  let done := match s.upd.tx with
    | some t => t.done
    | none => []
  let u := s.upd
  let broken := fun (c : PartSt) => { c with valid := false }
  let u := if running then { (u.install p (u.run.get (p - 1))) with run := u.run.set (p - 1) (broken (u.run.get (p - 1))) }
    else { u with res := u.res.set (p - 1) (broken (u.res.get (p - 1))) }
  let u := u.putBack (if running then done ++ [p] else done)
  let s := { s with upd := { u with state := 0, tx := none, stage := none } }
  let s := s.raise 0xD010 0 1 (u8 p)
  (if running then s else s.raise 0xD011 0 1 (u8 p)).updDone 0x0105

/-- A rollback by Sprout is complete (R510): every part of the transaction from its reserve. -/
def State.rolledBack (s : State) : State :=
  let mask := match s.upd.tx with
    | some t => t.mask
    | none => 0
  let u := s.upd.putBack ((bitsSet 4 mask).map (· + 1))
  let s := { s with upd := { u with state := 0, tx := none, stage := none, deadline := none, fails := 0, undo := false } }
  ((s.inc 0xB21 0).raise 0xD006 0 1 (leBytes 8 s.upd.bundleId.toNat)).updDone 0

/-- The new parts are in place and boot on trial; SAFE_LAYOUT leaves the block unconfirmed (R507, R513). -/
def State.onTrial (s : State) : State :=
  let layout := match s.upd.tx with
    | some t => t.safeLayout
    | none => false
  let s := { s with upd := { s.upd with state := 5, fails := 0, deadline := none, trialSince := s.now } }
  let s := if layout then ({ s with safe := { s.safe with confirmed := false } }).raise 0x6002 0 0 (u32 s.blockCrc) else s
  s.updDone 0

/-- SPROUT_ACTIVATION (R507, R510, R512): Sprout, in BOOT, writes the transaction's parts in order, or restores them; `cut` is the part
and step (0 reserve copy, 1 running write) at which power fails. -/
def execSproutActivation (cut : Option (Nat × Nat)) (s : State) : Result :=
  .next <|
    if s.sys.lifecycle ≠ .boot then s
    else if s.upd.state = 6 then s.rolledBack
    else if s.upd.state ≠ 4 then s
    else
      let parts := match s.upd.tx with
        | some t => (bitsSet 3 t.mask).map (· + 1)
        | none => []
      match cut with
      | none => (parts.foldl State.writePart s).onTrial
      | some (p, step) =>
        if !parts.contains p then s
        else (((parts.filter fun q => decide (q < p)).foldl State.writePart s).restart 1).interrupted p (step == 1)

/-! ### Confirmation and rollback (R508 to R510) -/

/-- The transaction of a pair is complete here: floor and audit event (R518). -/
def State.txFinish (s : State) : State :=
  match s.upd.tx with
  | none => s
  | some t =>
    let f := if s.upd.floor.toNat < t.floor.toNat then t.floor else s.upd.floor
    ({ s with upd := { s.upd with tx := none, stage := none, floor := f } }).raise 0xD008 0 0 (leBytes 8 s.upd.bundleId.toNat)

/-- UPD_CONFIRM (R509): only when READY on trial. -/
def execUpdConfirm (h : Hdr) (s : State) : Result :=
  .next <| s.wcpReq 0x0B05 h [] fun s =>
    if s.upd.state ≠ 5 ∨ s.sys.startPhase ≠ 7 ∨ s.sys.vinWarn then s.fail 0x0B05 h 0x0105
    else
      let pair : Bool := match s.upd.tx with
        | some t => t.pair
        | none => false
      let floor := match s.upd.tx with
        | some t => if !t.pair ∧ s.upd.floor.toNat < t.floor.toNat then t.floor else s.upd.floor
        | none => s.upd.floor
      let s := { s with sys := { s.sys with imageConfirmed := true } }
      let s := { s with upd := { s.upd with state := 0, floor := floor, deadline := none, fails := 0, tx := if pair then s.upd.tx else none,
                                            stage := if pair then s.upd.stage else none } }
      (s.raise 0xD005 0 0 (leBytes 8 s.upd.bundleId.toNat)).reply 0x0B05 h 0

/-- The transaction fails here (R508, R519): the twin is told, and Sprout restores every part. -/
def State.startRollback (s : State) : State :=
  let pair : Bool := match s.upd.tx with
    | some t => t.pair
    | none => false
  let s := if pair then s.emit (.shallot 0x06 (u8 9)) else s
  ({ s with upd := { s.upd with state := 6 } }).intoSprout

/-- CONFIRM_EXPIRED (R508). -/
def execConfirmExpired (s : State) : Result :=
  .next <| match s.upd.deadline with
    | none => s
    | some t => if s.upd.state ≠ 5 then s else ((s.advanceTo t).startRollback).raise 0xD021 0 1

/-- A start finds the deadline past by the real-time clock (R508). -/
def State.deadlinePast (s : State) : Bool := s.upd.state == 5 && match s.upd.deadline with
  | some t => decide (t ≤ s.now)
  | none => false

/-- TRIAL_READY_TIMEOUT (R508): a trial boot that is not READY in time has failed and is reset. -/
def execTrialReadyTimeout (s : State) : Result :=
  .next <|
    if s.upd.state ≠ 5 ∨ s.sys.startPhase = 7 then s
    else (s.advanceTo (s.upd.trialSince + s.parN 0xB02 0 * 1000000000)).intoSprout

/-- UPD_ROLLBACK (R510): after a confirmation, never on the active. -/
def execUpdRollback (h : Hdr) (mask : Byte) (s : State) : Result :=
  .next <| s.wcpReq 0x0B07 h [mask] fun s =>
    let m := mask.toNat
    let ps := (bitsSet 4 m).map fun i => s.upd.res.get i
    let back := (bitsSet 3 m).map fun i => { (s.upd.res.get i).entry with type := i + 1 }
    if m = 0 ∨ 16 ≤ m then s.fail 0x0B07 h 0x0104
    else if s.upd.state ≠ 0 ∨ s.isActive ∨ s.sys.vinWarn ∨ ps.any (fun p => !p.valid) then s.fail 0x0B07 h 0x0105
    else if ps.any (fun p => decide (p.entry.version.toNat < s.upd.floor.toNat))
        ∨ !admissible (replaceParts s.ownModule back) (s.upd.twinParts.filter fun e => e.type != 4) s.nodeParts then s.fail 0x0B07 h 0x010B
    else
      let s := { s with upd := { s.upd with state := 6, op := some (opRef 0x0B07 h), tx := some ⟨m, 0, false, false, [], [], []⟩ } }
      (s.reply 0x0B07 h 1).intoSprout

/-! ### Parts from the twin (R511) -/

/-- UPD_FROM_TWIN: from a STANDBY or ACTIVE twin; not on the active, not while activating or on trial. -/
def execUpdFromTwin (h : Hdr) (mask : Byte) (s : State) : Result :=
  .next <| s.wcpReq 0x0B08 h [mask] fun s =>
    let m := mask.toNat
    if m = 0 ∨ 16 ≤ m then s.fail 0x0B08 h 0x0104
    else if !s.twinSource ∨ s.isActive ∨ s.pairOpen ∨ s.sys.vinWarn ∨ !(s.upd.state = 0 ∨ s.upd.state = 1 ∨ s.upd.state = 9) then s.fail 0x0B08 h 0x0105
    else
      let s := s.enterUpdate
      let s := { s with upd := { s.upd with op := some (opRef 0x0B08 h), stage := none, session := h.session.toNat } }
      (s.askTwin m false).reply 0x0B08 h 1

/-- Every part awaited has come (R511): audit event, then a trial boot, or the restored module starts as confirmed. -/
def State.gotParts (s : State) (mask : Nat) : State :=
  if s.upd.restore then
    let s := s.raise 0xD012 0 1 (u8 mask)
    ({ s with upd := { s.upd with state := 0, restore := false }, sys := { s.sys with bootHold := false } }).updDone 0
  else
    let s := { s with upd := { s.upd with state := 4, tx := some ⟨mask, s.upd.floor, false, false, (bitsSet 4 mask).map (· + 1), [], []⟩ } }
    s.intoSprout.onTrial.raise 0xD012 0 1 (u8 mask)

/-- Parts from the twin that an interrupted start did not get whole are asked for again (Table 19.6). -/
def State.repeatRestore (s : State) : State :=
  let got := match s.upd.tx with
    | some t => t.mask
    | none => 0
  ({ s with upd := { s.upd with tx := none } }).askTwin (s.upd.want ||| got) s.upd.restore

/-- A part from the twin (R511): its signatures and digest are checked before it replaces the running copy. -/
def State.takeImage (s : State) (m : ImageMsg) : State :=
  let i := m.entry.type - 1
  let got := match s.upd.tx with
    | some t => t.mask
    | none => 0
  if s.upd.state ≠ 7 ∨ m.entry.type = 0 ∨ !s.upd.want.testBit i ∨ !Config.descriptorOk (entryBytes m.entry) m.sigBlock
    ∨ sha256 m.payload ≠ m.entry.digest then s
  else
    let want := s.upd.want &&& (15 - 2 ^ i)
    let mask := got ||| 2 ^ i
    let c : PartSt := { entry := m.entry, sig := m.sigBlock, payload := m.payload, valid := true }
    let s := { s with upd := { s.upd with want := want, run := s.upd.run.set i c, tx := some ⟨mask, s.upd.floor, false, false, [], [], []⟩ } }
    if want = 0 then s.gotParts mask else s

/-- SHALLOT_IMAGE (R511, R518): a part for TWIN_RESTORE, or a forwarded PAIR bundle, staged and verified independently. -/
def execShallotImage (f : Link) (m : ImageMsg) (s : State) : Result :=
  .next <| s.onLink true f fun s =>
    if !m.bundle then s.takeImage m
    else if s.upd.state ≠ 0 then s
    else { s with upd := { s.upd with state := 2, stage := some ⟨m.payload.length, [(0, m.payload)], true⟩ } }

/-- The running copies asked for leave for the twin (R511): confirmed parts of a STANDBY or ACTIVE module. -/
def State.giveParts (s : State) (mask : Nat) : State :=
  if !(s.isActive || s.isStandby) || !s.sys.imageConfirmed then s
  else (bitsSet 4 mask).foldl (fun s i =>
    let p := s.upd.run.get i
    s.sendImage 0 (i + 1) (entryBytes { p.entry with type := i + 1 } ++ u16 p.sig.length ++ p.sig ++ p.payload)) s

/-! ### The manifest transaction (R518, R519) -/

/-- The twin runs the transaction's module parts, and with `nodes` also its node firmware. -/
def State.twinHas (s : State) (t : UpdTx) (nodes : Bool) : Bool :=
  t.new_.all fun v => (v.1 == 4 && !nodes) || s.upd.twinParts.any fun e => e.type == v.1 && e.version.toNat == v.2

/-- Node parts of an open transaction still to be done. -/
def UpdTx.nodesLeft (t : UpdTx) : Bool := t.new_.any (fun v => v.1 == 4) && !t.done.contains 4

/-- X after both confirmations: the node step, then the end (R518 step 6). -/
def State.stepX (s : State) (t : UpdTx) : State :=
  if !(s.twin.elig == 2 && s.twinHas t false) then s
  else if t.nodesLeft then
    match (bundleParts s.staged).find? fun p => p.type == 4 with
    | some e => if (bitsSet 4 e.scope.toNat).all s.nodeStepOk then s.nodeStep e else s
    | none => s
  else s.txFinish

/-- A planned handover of the transaction, tried again after 10 min (R518 step 3, R519). -/
def State.stepHand (s : State) : State :=
  if s.handRefused then (if s.now < s.upd.handTry then s else { s with upd := { s.upd with handTry := s.now + 600000000000 } })
  else if s.now < s.upd.handTry then s
  else s.beginHand .update none

/-- The next step of the fixed sequence, on news from the twin (R518, R519). -/
def State.pairStep (s : State) : State :=
  let fwd : Bool := match s.upd.stage with
    | some g => g.forwarded && s.upd.state == 3
    | none => false
  let parts := forSlot (bundleParts s.staged) s.sys.slot
  let mask := ((parts.map (·.type)).dedup.map fun p => 2 ^ (p - 1)).sum
  if s.upd.undo then (if s.isActive then s.stepHand else s.startRollback)
  else if fwd then
    (if s.isActive then (if s.twin.elig == 2 && s.twinHas (s.newTx mask) false then s.stepHand else s)
     else if s.isStandby && s.twin.life == some .active && s.twinHas (s.newTx mask) false then
      (if mask = 0 then ({ s with upd := { s.upd with tx := some (s.newTx 0), state := 0 } }) else s.enterUpdate.activate mask)
     else s)
  else match s.upd.tx with
    | none => s
    | some t =>
      if !t.pair ∨ s.upd.state ≠ 0 then s
      else if s.isActive then s.stepX t
      else if s.twin.life == some .active && s.twinHas t true then s.txFinish else s

/-- The twin has given the transaction up (R519): staging goes, parts done are restored, on the active after a handover. -/
def State.undoPair (s : State) : State :=
  let fwd : Bool := match s.upd.stage with
    | some g => g.forwarded
    | none => false
  let open_ : Bool := match s.upd.tx with
    | some t => t.pair
    | none => false
  if fwd && s.updOpen then s.dropStage
  else if !open_ then s
  else if s.isActive then
    let s := { s with upd := { s.upd with undo := true, state := 6 } }
    match s.upd.tx with
    | some t => if t.done.contains 4 then ({ s with upd := { s.upd.putBack [4] with nodeBad := true } }).loadRings s.upd.nodeRings else s.stepHand
    | none => s.stepHand
  else s.startRollback

/-- The arithmetic versions of the pair (R504): event 0xD030 when they begin to differ. -/
def State.judgeMixed (s : State) : State :=
  let m := s.upd.mixed 2 || s.upd.mixed 3
  if m && s.upd.mixedSince.isNone then ({ s with upd := { s.upd with mixedSince := some s.now, mixedLong := false } }).raise 0xD030 0 0
  else if m then s else { s with upd := { s.upd with mixedSince := none, mixedLong := false } }

/-- MIXED_PAIR_LONG (R504). -/
def execMixedPairLong (s : State) : Result :=
  .next <| match s.upd.mixedSince with
    | none => s
    | some t =>
      if s.upd.mixedLong then s
      else
        let s := s.advanceTo (t + s.parN 0xB04 0 * 3600000000000)
        ({ s with upd := { s.upd with mixedLong := true } }).raise 0xD031 0 1

/-- The node step is over for the transaction (R514, R517, R518). -/
def State.nodeStepEnd (s : State) (ok : Bool) : State :=
  let s := s.upd.nodeRings.foldl State.beginEnum s
  let pair : Bool := match s.upd.tx with
    | some t => t.pair
    | none => false
  let s := { s with upd := { s.upd with state := if s.upd.undo then 6 else 0 } }
  if ok then
    let s := { s with upd := { s.upd with tx := if pair then s.upd.tx.map fun (t : UpdTx) => { t with done := t.done ++ [4] } else none,
                                          stage := if pair then s.upd.stage else none } }
    (s.updDone 0).pairStep
  else
    let s := s.updDone 0x0105
    if s.upd.undo then s.pairStep
    else if pair then (s.emit (.shallot 0x06 (u8 9))).undoPair else { s with upd := { s.upd with tx := none, stage := none } }

/-- NODE_STEP_COMPLETE (R514, R516): the step is over once no node is left to load; else a node has stopped answering. -/
def execNodeStepComplete (good : Bool) (node : Nat) (s : State) : Result :=
  .next <|
    if s.upd.state ≠ 8 then s
    else if !good then s.nodeFailed (node / 28) (node % 28 + 1)
    else if s.upd.loads ≠ [] then s
    else
      let bad := s.upd.nodeBad
      ({ s with upd := { s.upd with nodeBad := false } }).nodeStepEnd !bad

/-! ### Control frames (R64, R65, R71, R104, R396, R412, R420) -/

/-- What a module tells its twin of itself at NEGOTIATE and in a transaction (03 R71, R396): CONTROL kind 6. -/
def State.eligLevel (s : State) : Nat := if s.activeEligible then 2 else if s.standbyEligible then 1 else 0

/-- The carrier serial of SYS.CARRIER_ID (02 Table 2.13). -/
def State.carrierSerial (s : State) : Bytes := slice (padTo 64 s.sys.carrierId) 8 16

/-- The carrier serials of the pair differ, as one of the two is in NEGOTIATE (02 R55): both raise 0x1054. A serial of zeros, from a record that
could not be read, is compared as it stands (DESIGN CHOICE, assumption log 180). -/
def State.judgeSerial (s : State) (serial : Bytes) : State :=
  let differ := s.carrierSerial != padTo 16 serial
  if differ && !s.twin.serialTold && (s.sys.lifecycle == .negotiate || s.twin.life == some .negotiate) then
    ({ s with twin := { s.twin with serialTold := true } }).raise 0x1054 0 1 (padTo 12 serial)
  else if differ then s else { s with twin := { s.twin with serialTold := false } }

def State.sendElig (s : State) : State :=
  s.emit (.shallot 0x06 (u8 6 ++ u8 s.eligLevel ++ u8 (s.parN 0x1C 0) ++ s.carrierSerial ++ s.upd.own.flatMap fun e => (entryBytes e).take 8 ++ slice (entryBytes e) 48 64))

/-- KEEPALIVE_DUE (R377): lifecycle, power state, TWIN.STATE, ts32; the servo state follows (14 R423). -/
def execKeepaliveDue (s : State) : Result :=
  .next <|
    let s := s.emit (.shallot 0x01 (u8 (lifeCode s.sys.lifecycle) ++ u8 (pstateCode s.sys.power) ++ u32 s.twinState ++ leBytes 4 (ts32 s.now).toNat
      ++ u8 s.net.servo))
    let s := s.place .link
    let news := s.sys.lifecycle == .negotiate || s.twin.life == some .negotiate || s.upd.tx.isSome || s.upd.stage.isSome
    (if news then s.sendElig else s).sendSafety

end Sys2Proof.Machine
end

