-- ==== Sys2Proof/Machine/Faults.lean ====
section
/-! DEFINITION. Chapter 20: the fault manager — acceptance, merging, pre-emption and overflow (R527 to R529, R531), handling by severity
(R524 to R526, Table 20.3) and the deadline (R530). -/

namespace Sys2Proof.Machine
open Sys2Proof

/-! ### The queue (R527, R531) -/

/-- A fault behind every waiting fault of its own or a higher severity. -/
def putLast (f : FRec) : List FRec → List FRec
  | [] => [f]
  | g :: t => if g.sev < f.sev then f :: g :: t else g :: putLast f t

/-- A suspended record ahead of the waiting faults of its own severity. -/
def putFirst (f : FRec) : List FRec → List FRec
  | [] => [f]
  | g :: t => if g.sev ≤ f.sev then f :: g :: t else g :: putFirst f t

/-- A fault is the one a child names. -/
def FRec.named (f : FRec) (p : Option (Nat × Nat)) : Bool := p == some (f.code, f.inst)

def FRec.same (f g : FRec) : Bool := f.code == g.code && f.inst == g.inst

/-- The next fault to accept: of those raised within 1 µs of the first, the highest severity, then the lowest code (Table 20.2). -/
def nextRaised : List FRec → Option FRec
  | [] => none
  | f :: t => some (t.foldl (fun b g =>
      if f.time + 1000 ≤ g.time then b
      else if b.sev < g.sev ∨ (b.sev = g.sev ∧ g.code < b.code) then g else b) f)

/-- The waiting parent a child names moves directly ahead of it where the child would be handled first (R531). -/
def State.placeFault (s : State) (f : FRec) : State :=
  let q := s.fm.queue
  let up := q.find? fun g => g.named f.parent && g.seq == 0 && decide (g.sev < f.sev)
  let rest := match up with
    | some g => q.filter fun x => !x.same g
    | none => q
  let lead := match up with
    | some g => g
    | none => f
  let follow := fun (l : List FRec) => match up with
    | some _ => f :: l
    | none => l
  match s.fm.cur with
  | none => { s with fm := { s.fm with cur := some lead, queue := follow rest } }
  | some c =>
    if c.sev < f.sev then
      (({ s with fm := { s.fm with cur := some lead, queue := follow (putFirst c rest) } }).inc 0x41 0)
    else
      let q := putLast f rest
      let q := match up with
        | some g => q.flatMap fun x => if x.same f then [g, x] else [x]
        | none => q
      { s with fm := { s.fm with queue := q } }

/-! ### The action of a severity (R524 to R526) -/

/-- The strings a severity 2 fault opens where its rule names none (Table 20.3, R537). -/
def defaultStrings (code inst : Nat) : List Nat :=
  let ring := [0x2022, 0x2030, 0x2040, 0x5002, 0x5012, 0x5013, 0x5014, 0x5060, 0x5061, 0x5070, 0x5071, 0x5072, 0x5080, 0x5081, 0x5082, 0x5083,
    0x5084, 0x5085].contains code
  let a := code / 256
  if code = 0x1030 then [inst]
  else if code = 0x5001 ∨ code = 0x4120 ∨ code = 0x7011 then []
  else if a = 0x20 ∨ a = 0x50 then [if ring then inst / 28 else inst]
  else if a = 0x21 ∨ code = 0xD041 then [inst / 28]
  else if a = 0x30 ∨ a = 0x31 ∨ code = 0x6017 ∨ code = 0x6018 then [inst]
  else []

/-- The strings a fault opens (R525); 0x6010 is itself the report of an opening. -/
def FRec.opens (f : FRec) : List Nat :=
  if f.code = 0x6010 then [] else match f.strings with
    | some m => bitsSet 4 m.toNat
    | none => (defaultStrings f.code f.inst).filter fun r => decide (r < 4)

/-- Severity 2: an SF1 demand for each string not yet TRIPPED; the first handling after a latching raises 0x6010 (R342, R525). -/
def State.openStrings (s : State) (f : FRec) (seq : Nat) : State :=
  f.opens.foldl (fun s r => (if (s.str r).tripped then s else s.trip r f.code).tellTrip r seq) s

/-- The module is not active-eligible until the faulted block has passed its self-test (R526). -/
def State.barBlocks (s : State) (code inst : Nat) : State :=
  let n := s.sys.notActive
  let bs := (faultBlocks code inst).filter fun b => !n.blocks.contains b
  { s with sys := { s.sys with notActive := { n with faulted := true, blocks := n.blocks ++ bs } } }

/-- The channels that run go FAULTED (Table 8.5). -/
def State.faultRunning (s : State) : State :=
  [0, 1, 2, 3].foldl (fun s c => if 1 ≤ (s.ch c).state ∧ (s.ch c).state ≤ 3 then s.faultChannel c else s) s

/-- Severity 3 by lifecycle (R526, Table 8.5): an ACTIVE module's channels are FAULTED, drive ends, and it passes to NEGOTIATE;
within the watch of a swap drill the strings go back (R394). -/
def State.tripModule (s : State) (f : FRec) : State :=
  let s := s.barBlocks f.code f.inst
  if !s.isActive then s
  else
    let watched := s.twin.watch.isSome
    let s := (s.faultRunning.endDrive).setLifecycle .negotiate
    if watched then s.handedBack f.code else s

/-- A STANDBY reports what it handles to the active (Table 13.2, assumption log 72). -/
def State.reportTwin (s : State) (f : FRec) : State :=
  if s.isStandby then s.emit (.shallot 0x60 (u16 f.code ++ u8 f.inst ++ u8 f.sev ++ padTo 12 f.data)) else s

/-- The action of a fault's severity. -/
def State.act (s : State) (f : FRec) (seq : Nat) : State :=
  let s := s.reportTwin f
  if f.sev = 2 then s.openStrings f seq else if f.sev = 3 then s.tripModule f else s

/-- Children of severity 0 whose parent's handling has begun are recorded (R531). -/
def State.recordChildren (s : State) (f : FRec) : State :=
  let mine := s.fm.deferred.filter fun g => f.named g.parent
  let rest := s.fm.deferred.filter fun g => !f.named g.parent
  mine.foldl State.record { s with fm := { s.fm with deferred := rest } }

/-- Handling of the record in progress begins (R524, R531): sequence, record, batch, action. -/
def State.begin_ (s : State) (f : FRec) : State :=
  let seq := s.nextSeq
  let s := (s.record f).recordChildren f
  let s := { s with fm := { s.fm with cur := some { f with seq := seq, begun := true } } }
  let s := ({ s with fm := { s.fm with acting := seq } }).act f seq
  { s with fm := { s.fm with acting := 0 } }

/-! ### Acceptance -/

/-- A fault that matches one in progress or waiting is merged (R528). -/
def State.merge (s : State) (f : FRec) : State :=
  let up := fun (g : FRec) => if g.same f then { g with repeats := min 0xFFFF (g.repeats + 1) } else g
  let fix := fun (r : Rec) => match s.fm.cur with
    | some c => if c.begun && c.same f && r.seq == c.seq then { r with payload := patch r.payload 12 (u16 (up c).repeats) } else r
    | none => r
  ({ s with fm := { s.fm with cur := s.fm.cur.map up, queue := s.fm.queue.map up }, recd := { s.recd with queue := s.recd.queue.map fix } }).inc 0x42 0

/-- The queue is full (R529): handled at once at severity 3, or only recorded where severity 3 is in progress. -/
def State.escalate (s : State) (f : FRec) : State :=
  let g := { f with sev := 3, escalated := some f.sev }
  let busy : Bool := match s.fm.cur with
    | some c => c.sev == 3
    | none => false
  let s := s.inc 0x43 0
  if busy then s.record g
  else
    let q := match s.fm.cur with
      | some c => putFirst c s.fm.queue
      | none => s.fm.queue
    let s := ({ s with fm := { s.fm with queue := q } }).begin_ g
    s.raiseWith 0x1080 0 3 [] (some (f.code, f.inst)) none

/-- FAULT_ACCEPTED (R527 to R529). -/
def execFaultAccepted (s : State) : Result :=
  .next <| match nextRaised s.fm.raised with
    | none => s
    | some f =>
      let s := { s with fm := { s.fm with raised := s.fm.raised.erase f } }
      let f := { f with time := s.now }
      if (s.fm.cur.toList ++ s.fm.queue).any f.same then s.merge f
      else if s.fm.cur.isSome ∧ 16 ≤ s.fm.queue.length then s.escalate f
      else
        let s := s.placeFault f
        { s with fm := { s.fm with peak := max s.fm.peak s.fm.queue.length } }

/-- FAULT_HANDLING (R524, R527): the record in progress, once begun, is done; the next in order begins or resumes. -/
def execFaultHandling (s : State) : Result :=
  .next <|
    let done : Bool := match s.fm.cur with
      | some f => f.begun
      | none => false
    let s := if done then ({ s with fm := { s.fm with cur := none } }).inc 0x40 0 else s
    let s := match s.fm.cur, s.fm.queue with
      | none, f :: t => { s with fm := { s.fm with cur := some f, queue := t } }
      | _, _ => s
    match s.fm.cur with
    | some f => if f.begun then s else s.begin_ f
    | none => s

/-- The handling deadline of Table 20.1 in ns. -/
def deadlineNs (sev : Nat) : Nat := if sev = 3 then 10000 else 100000

/-- The fault of severity 2 or 3 whose deadline comes first, one whose handling has not begun ahead of one that has (R530). -/
def State.late (s : State) : Option FRec :=
  let l := (s.fm.cur.toList ++ s.fm.queue).filter fun f => decide (2 ≤ f.sev)
  let waits := l.filter fun f => !f.begun
  (if waits = [] then l else waits).foldl (fun (b : Option FRec) f => match b with
    | none => some f
    | some g => if f.time + deadlineNs f.sev < g.time + deadlineNs g.sev then some f else some g) none

/-- HANDLER_DEADLINE (R530): SF1 for every string, drive ended, fault 0x1081 with the late record as parent. -/
def execHandlerDeadline (s : State) : Result :=
  .next <| match s.late with
    | none => s
    | some f =>
      let s := s.advanceTo (f.time + deadlineNs f.sev)
      let s := ([0, 1, 2, 3].foldl State.sf1 s).endDrive
      s.raiseWith 0x1081 0 3 [] (some (f.code, f.inst)) none

end Sys2Proof.Machine
end

