-- ==== Sys2Proof/Machine/Power.lean ====
section
/-! DEFINITION. Chapters 1 to 3: mating and supply (R40, R51, R52), carrier identity (R55), the power ladder (R56 to R66), reset (R67 to
R69), start-up and the role (R37, R70 to R73), and the fall of ROLE_IN (R389, R390, 19 Table 19.7). -/

namespace Sys2Proof.Machine
open Sys2Proof

/-! ### Mating, slot, carrier (R37, R51, R52, R55) -/

/-- The slot of the two pins: socket A ties SLOT_ID low, socket B SLOT_IDN; 0 where both read the same (R37). -/
def slotOf (id idn : Bool) : Nat := if id = idn then 0 else if id then 2 else 1

/-- The carrier record is sound (R55, Table 2.13). -/
def carrierOk (b : Bytes) : Bool :=
  b.length == 64 && slice b 0 4 == [0x57, 0x43, 0x49, 0x01] && fieldAt b 60 4 == crc32c (b.take 60)

/-- BOOT reads the slot, then the carrier record (R37, R55). A slot conflict halts the start before the record is read (DESIGN CHOICE, assumption log
179): no 0x1053 is raised and SYS.CARRIER_ID keeps its value. -/
def State.readSlot (s : State) : State :=
  let slot := slotOf s.sys.slotId s.sys.slotIdn
  let s := { s with sys := { s.sys with slot := slot } }
  if slot = 0 then ({ s with sys := { s.sys with startPhase := 8 } }).raise 0x1050 0 3
  else match s.sys.eeprom with
    | some b =>
      if !carrierOk b then ({ s with sys := { s.sys with carrierId := List.replicate 64 0 } }).raise 0x1053 0 1
      else
        let s := { s with sys := { s.sys with carrierId := b } }
        if fieldAt b 24 1 = slot then s else s.raise 0x1053 0 1
    | none => ({ s with sys := { s.sys with carrierId := List.replicate 64 0 } }).raise 0x1053 0 1

/-- MATING_QUALIFIED (R51): the detects closed for 100 ms release the resets; a detect that closes again in service only ends the barring
of drive. -/
def execMatingQualified (slotId slotIdn : Bool) (eeprom : Option Bytes) (s : State) : Result :=
  .next <|
    if s.sys.mated then { s with sys := { s.sys with mateOpen := false } }
    else
      let s := s.advanceTo (s.now + 100000000)
      let s := { s with sys := { s.sys with mated := true, mateOpen := false, slotId := slotId, slotIdn := slotIdn, eeprom := eeprom, bootAt := s.now } }
      s.readSlot

/-- MATE_DETECT_OPEN (R52). -/
def execMateDetectOpen (ns : Nat) (s : State) : Result :=
  .next <|
    if !s.sys.mated then s
    else if ns < 50000 then s.inc 0x16 0
    else (({ s with sys := { s.sys with mateOpen := true } }).endDrive).raise 0x1051 0 3

/-! ### Supply (R40, R67) -/

/-- POWER_FAIL_WARNING (R40). -/
def execPowerFailWarning (s : State) : Result :=
  .next <| if s.sys.vinWarn then s else ({ s with sys := { s.sys with vinWarn := true } }).raise 0x1052 0 1

/-- POWER_FAIL_WARNING_CLEAR (R40): MRAM writes go on; a dictionary taken from the active meanwhile is stored now (R396). -/
def execPowerFailWarningClear (s : State) : Result :=
  .next <|
    let s := { s with sys := { s.sys with vinWarn := false } }
    if s.twin.storeDue then ({ s with twin := { s.twin with storeDue := false } }).storeParams else s

/-- BROWNOUT (R40): every die but the AO logic resets; the mirror is kept. -/
def execBrownout (s : State) : Result :=
  .next <|
    if s.sys.vinLow then s
    else
      let m := s.sys.mirror
      let s := s.resetModule 1
      { s with sys := { s.sys with mirror := m, vinLow := true } }

/-- AO_POWER_LOSS (R40, R51, R67): VIN below 3.0 V; reset cause, clock and mirror are lost, and with the count of the mating detects the release of
the resets. -/
def execAoPowerLoss (s : State) : Result :=
  .next <|
    if !s.sys.vinLow then s
    else { s with sys := { s.sys with aoLost := true, resetCause := 0, rtc := 0, mirror := .boot, mated := false } }

/-- What LPDDR4 held is gone (18 R491, 19 Table 19.6): a frozen buffer with event 0xC013, staging, an activation in progress. -/
def State.dramLost (s : State) : State :=
  let s := if s.recd.fb.desc.isSome then ({ s with recd := { s.recd with fb := { ckpt := s.recd.fb.ckpt } } }).raise 0xC013 0 1 else s
  let next := match s.upd.tx with
    | some t => (((bitsSet 3 t.mask).map (· + 1)).filter fun p => !t.done.contains p).head?
    | none => none
  let s := match next with
    | some p => if s.upd.state = 4 then s.interrupted p false else s
    | none => s
  { s with upd := { s.upd with stage := none } }

/-- A frozen buffer that outlived the reset is held against its descriptor's SHA-256 (18 R491); on a mismatch it is discarded. -/
def State.checkFrozen (s : State) : State :=
  match s.recd.fb.desc with
  | some d => if sha256 (chunksBytes 0 (s.recd.fb.span d.start)) = d.sha then s
    else ({ s with recd := { s.recd with fb := { ckpt := s.recd.fb.ckpt } } }).raise 0xC013 0 1
  | none => s

/-- VIN_RESTART (R40, R472; 14 R411): the start through BOOT, with module time from the real-time clock, with POR where the AO logic had lost power; a thermal-shutdown flag holds it. -/
def execVinRestart (s : State) : Result :=
  .next <|
    if !s.sys.vinLow then s
    else
      let por := s.sys.aoLost
      let s := { s with now := s.sys.rtc, sys := { s.sys with vinLow := false, aoLost := false, vinWarn := false, mirror := .boot, bootAt := s.sys.rtc,
                                                              resetCause := if por then 1 else s.sys.resetCause } }
      let s := s.dramLost
      if s.bist.flag then { s with bist := { s.bist with hold := true, polls := 0, pollAt := s.now } } else s

/-! ### Reset (R68, R69) -/

/-- NRST_IN (R68): a pulse between 1 and 10 µs may or may not reset. -/
def execNrstIn (ns : Nat) (s : State) : Result :=
  .next <|
    if ns < 1000 ∨ s.sys.vinLow ∨ !s.sys.mated then s
    else if 10000 ≤ ns then s.resetModule 2
    else
      let (n, s) := s.draw
      if Config.freeBool n then s.resetModule 2 else s

/-- APP_WDOG_EXPIRY (R68, R530). -/
def execAppWdogExpiry (s : State) : Result :=
  .next <| if s.sys.vinLow ∨ !s.sys.mated ∨ s.bist.hold ∨ s.sys.lifecycle = .boot then s else s.resetModule 3

/-- RESET (R69): the reply leaves, then every die but the AO logic resets with CMD set. -/
def execReset (h : Hdr) (s : State) : Result :=
  .next <| s.wcpReq 0x0021 h [] fun s =>
    match s.sys.lifecycle with
    | .active => s.fail 0x0021 h 0x0105
    | .selftest => s.fail 0x0021 h 0x0107 0 ((s.bist.started + 2500000000 - s.now + 999999) / 1000000)
    | _ =>
      let s := s.reply 0x0021 h 0
      let out := s.wcp.hostOut
      let rest := s.wcp.hostRest
      let s := s.drain.resetModule 6
      { s with wcp := { s.wcp with hostOut := out, hostRest := rest } }

/-! ### The power ladder (R56 to R66) -/

/-- Exit time of a power state in ns (Table 3.1). -/
def exitNs : PState → Nat
  | .p0 => 0 | .p1 => 10000 | .p2 => 100000 | .p3 => 1000000 | .p4 => 10000000 | .p5 => 100000000

/-- One state deeper. -/
def deeper : PState → PState
  | .p0 => .p1 | .p1 => .p2 | .p2 => .p3 | .p3 => .p4 | .p4 => .p5 | .p5 => .p5

/-- A safety output is energised (R61). -/
def State.anySoOn (s : State) : Bool := (List.range 8).any s.soOn

/-- Every channel is STOPPED or FAULTED. -/
def State.stagesOff (s : State) : Bool := [0, 1, 2, 3].all fun c => (s.ch c).state == 0 || (s.ch c).state == 4

/-- Rings with nodes that are not enumerated yet start (R70, R116). -/
def State.startRings (s : State) : State :=
  [0, 1, 2, 3].foldl (fun s r => if s.parN 0x201 r ≠ 0 ∧ (s.ring r).mode = 0 then s.beginEnum r else s) s

/-- Entry to P2 (R21, R58): estimator and loop state to MRAM; PD_EST, PD_LOOP, PD_PWM and PD_ACT off. What the PWM region held of the channels'
inputs and outputs is lost. -/
def State.enterP2 (s : State) : State :=
  let s := (if s.isActive || s.isStandby then s.persistEst 0 else s).stopEst
  let s := [0, 1, 2, 3].foldl (fun s c => s.updCh c ChSt.pwmOff) s
  [0, 1, 2, 3].foldl State.deenergise s

/-- The switches P as latched, in the field die's hold register (R59). -/
def State.latchHold (s : State) : State :=
  let p := ofBitList ((List.range 8).filter fun n => (s.so n).p)
  { s with sys := { s.sys with holdReg := BitVec.ofNat 8 p, holdOn := true, checkVisit := false } }

/-- Counters whose region stays powered in P3 (Table 1.7): the mating glitches of Turnip's, RING.'s and FIO.'s. -/
def keptInP3 (k : Nat) : Bool := k / 256 == 0x16 || (0x200 ≤ k / 256 && k / 256 < 0x280) || (0x480 ≤ k / 256 && k / 256 < 0x4C0)

/-- In P3 (R21, R59): switch P of each output as latched goes to the hold register; PD_APP and PD_NET go off. Records are written first; the fault queue,
counters and unstored values are lost, the sessions are not (R90, assumption log 73). -/
def State.holdP3 (s : State) : State :=
  let s := s.latchHold
  let s := ((s.drain.netOff).canClear 0).canClear 1
  { s with wcp := { s.restartWcp with sessions := s.wcp.sessions, counters := s.wcp.counters.filter fun p => keptInP3 p.1 },
           fm := { lastSeq := s.fm.lastSeq }, recd := { s.recd with fb := { desc := s.recd.fb.desc, ckpt := s.recd.fb.ckpt } } }

/-- Entry to P3: the check visits count from here (R60). -/
def State.enterP3 (s : State) : State := ({ s with sys := { s.sys with lastVisit := s.now } }).holdP3

/-- A check visit without a trigger is over (R60): the module returns to P3. -/
def State.endVisit (s : State) : State := if s.sys.checkVisit then ({ s with sys := { s.sys with power := .p3 } }).holdP3 else s

/-- A check visit ends when every ring's one sweep is finalised. -/
def State.visitOver (s : State) : State := if [0, 1, 2, 3].all fun r => !(s.ring r).collecting then s.endVisit else s

/-- SWEEP_FINALISED (R124): every frame held, RING.FINAL_MS after the sample instant, or the SYNC of the next sweep. -/
def execSweepFinalised (ring : Nat) (s : State) : Result :=
  .next <|
    let x := s.ring ring
    if 4 ≤ ring ∨ !x.collecting then s
    else
      let s := if x.whole then s else s.advanceTo (s.sampleAt ring x.sweep + s.parN 0x203 ring * 1000000)
      (s.finalise ring).visitOver

/-- Entry to P4 (R21, R61, R166; 14 R411; 16 Table 16.2): the field die goes off; each node gets its balancing target and goes to SLEEP, then the
rings go off. -/
def State.enterP4 (s : State) : State :=
  let s := ({ s with sys := { s.sys with holdOn := false, holdReg := 0, rtc := if s.sys.aoLost then s.sys.rtc else s.now } }).fieldOff
  if !s.isActive then s
  else
    let s := [0, 1, 2, 3].foldl State.sendSleepTargets s
    let s := [0, 1, 2, 3].foldl (fun s r => if (s.ring r).n = 0 then s else s.broadcast r 0x11 [5]) s
    [0, 1, 2, 3].foldl State.stopRing s

/-- Entry to P5 (R24): no lifecycle state is held, nor its mirror; the role line is low and every session gone. -/
def State.enterP5 (s : State) : State :=
  let s := s.endSessions
  { s with sys := { s.sys with lifecycle := .boot, mirror := .boot, roleOut := false } }

/-- The module is in a deeper state (R56). -/
def State.enterPower (s : State) (p : PState) : State :=
  let s := ({ s with sys := { s.sys with preparing := false } } : State).abandonRuns 0x5052
  let s := if p = .p4 then s.enterP4 else s
  let s := { s with sys := { s.sys with power := p } }
  match p with
  | .p2 => s.enterP2
  | .p3 => s.enterP3
  | .p5 => s.enterP5
  | _ => s

/-- The rings' nodes are told to answer sweeps again (06 R165): NODE_STATE SERVICE on every ring that has nodes. -/
def State.wakeNodes (s : State) : State := [0, 1, 2, 3].foldl (fun s r => if (s.ring r).n = 0 then s else s.broadcast r 0x11 [2]) s

/-- What P0 and P1 bring back after a deeper state (R57 to R59): filters restored, safety cores with switch P, rings with their nodes in
SERVICE. -/
def State.resumeFrom (s : State) (old : PState) : State :=
  let s := { s with sys := { s.sys with holdOn := false, checkVisit := false } }
  let s := if old = .p3 then s.coresLatch else s
  let s := if !s.isActive then s else if old = .p4 then s.startRings else if old = .p3 then s.wakeNodes else s
  if s.isActive || s.isStandby then s.restoreEst else s

/-- A standby whose active failed below P1 has risen to P0 and takes the ACTIVE role there (R27). -/
def State.riseDone (s : State) : State :=
  if s.sys.riseActive ∧ s.sys.power = .p0 then
    let s := { s with sys := { s.sys with riseActive := false } }
    if s.isStandby && !s.sys.roleIn then s.activeOpen else s
  else s

/-- The module leaves a state toward P0 (R57, R64): the standby reports P0, the active awaits that report; FIRE starts SF4 (12 R345). -/
def State.leavePower (s : State) (t : PState) : State :=
  let old := s.sys.power
  if old = .p5 then s.resetModule 9
  else
    let deep := old != .p1
    let s := { s with sys := { s.sys with power := t, preparing := false, leftState := old } }
    let s := if deep && (t == .p0 || t == .p1) then s.resumeFrom old else s
    let s := if t = .p0 then { s with bist := { s.bist with p0Since := s.now } } else s
    let s := if t = .p0 ∧ s.isStandby then s.emit (.shallot 0x06 (u8 2)) else s
    let s := if t = .p0 ∧ s.isActive ∧ s.twin.life = some .standby then
        let seen := s.twin.power == PState.p0
        { (s.emit (.shallot 0x06 (u8 1))) with sys := { s.sys with awaitP0 := !seen, twinP0 := seen } }
      else s
    s.riseDone.startSf4

/-- A transition that has reached its target ends (R62); that it was the return of an aborted one stays recorded until the next (R26). -/
def State.endTransition (s : State) : State :=
  if s.sys.target = some s.sys.power then
    let s := { s with sys := { s.sys with target := none } }
    s.dropTarget 0
  else s

/-- A transition is given up where the module stands (R61, R63). -/
def State.giveUp (s : State) : State :=
  let s := { s with sys := { s.sys with target := none, aborted := true, preparing := false } }
  s.dropTarget 0x0105

/-- The next state down may be entered (R25, R63, R64): the power stages are prepared and the axes stand (9 R255); a standby's active has gone
before it, or is below P0 where the standby moves alone; before P4 the histories are written (11 R332). -/
def State.mayDescend (s : State) : Bool :=
  let next := deeper s.sys.power
  let lead := if s.sys.alone then s.twin.power != .p0 else decide (pstateCode next ≤ pstateCode s.twin.power)
  (s.sys.power != .p0 || s.stagesOff) && (next == .p1 || s.axesStand) && (next != .p4 || s.historiesKept) && (!s.isStandby || (s.twin.life == some .active && lead))

/-- POWER_STEP_DONE (R66): one state down, or out toward the target. -/
def execPowerStepDone (s : State) : Result :=
  .next <| match s.sys.target with
    | none => s
    | some t =>
      let p := s.sys.power
      if pstateCode t < pstateCode p then
        let s := s.advanceTo (s.now + exitNs p)
        (s.leavePower t).endTransition
      else if t = p then s.endTransition
      else if !s.mayDescend then s
      else if deeper p = .p4 ∧ s.anySoOn then s.giveUp
      else (s.enterPower (deeper p)).endTransition

/-- The channels of an active that leaves P0 ramp to zero and stop (R63). -/
def State.prepareStages (s : State) : State :=
  let s := [0, 1, 2, 3].foldl State.dropStart s
  let go := [0, 1, 2, 3].filter fun c => (s.ch c).state == 2
  let s := go.foldl State.rampStop s
  { s with sys := { s.sys with preparing := true, prepSince := s.now } }

/-- The target of a POWER_SET that this module may take (R23 to R25, R61, R62, R65, R491): 0 or the status of the refusal. As one of a pair that
moves together, a standby follows its active (R64). -/
def State.judgePower (s : State) (p : PState) (pair : Bool := false) : Nat :=
  let cur := s.sys.power
  let active : Bool := s.twin.life == some .active
  if p = .p5 ∧ cur ≠ .p4 then 0x0104
  else if p ≠ .p5 ∧ !legal s.sys.lifecycle p then (if s.sys.lifecycle = .safe then 0x0109 else 0x0105)
  else if pstateCode p ≥ 4 ∧ s.anySoOn then 0x0105
  else if pstateCode p ≥ 2 ∧ s.recd.fb.desc.isSome then 0x0105
  else if cur = .p4 ∧ pstateCode p < 4 then 0x0105
  else if s.isStandby ∧ cur = .p0 ∧ p ≠ .p0 ∧ !(active && (pair || s.twin.power != .p0)) then 0x0105
  else 0

/-- Every genuine node's history is written before P4 (11 R332). -/
def State.keepHistories (s : State) : State :=
  if s.isActive then [0, 1, 2, 3].foldl (fun s r => if s.canSend r false || s.canSend r true then s.syncStart r none else s) s else s

/-- A new target replaces the old one (R66); an ACTIVE module that leaves P0 prepares its power stages first (R63), and its axes stop for P2 or
below (9 R255); on the way to P4 the histories are written. -/
def State.aim (s : State) (p : PState) (op : Option OpRef) (alone : Bool) : State :=
  let s := s.dropTarget 0x0105
  let s := { s with sys := { s.sys with target := some p, targetOp := op, aborted := false, preparing := false, alone := alone } }
  let s := if 2 ≤ pstateCode p then s.stopAxes else s
  let s := if p = .p4 then s.keepHistories else s
  if p = s.sys.power then s.endTransition
  else if s.sys.power = .p0 ∧ s.isActive then s.prepareStages
  else s

/-- POWER_SET (R62): with TARGET 0 the twin moves too, down after the active, up together with it (R64, assumption log 74). In P4 the module still
takes it, since P5 is entered from there only (R24, assumption log 181). -/
def execPowerSet (h : Hdr) (target : Byte) (s : State) : Result :=
  .next <| s.wcpReq 0x0020 h [target] fun s =>
    match pstateOf target.toNat with
    | none => s.fail 0x0020 h 0x0104
    | some p =>
      let c := s.judgePower p (h.target == 0)
      if c ≠ 0 then s.fail 0x0020 h c
      else
        let s := s.reply 0x0020 h 1
        let s := if h.target = 0 then s.emit (.shallot 0x06 (u8 7 ++ [target])) else s
        s.aim p (some (opRef 0x0020 h)) (h.target != 0)

/-- POWER_TRANSITION_ABANDONED (R63): a channel's current stays above zero for 10 s. -/
def execPowerTransitionAbandoned (ch : Nat) (s : State) : Result :=
  .next <|
    if !s.sys.preparing ∨ s.sys.power ≠ .p0 ∨ 4 ≤ ch ∨ (s.ch ch).state = 0 then s
    else ((s.advanceTo (s.sys.prepSince + 10000000000)).giveUp).raise 0x1060 ch 1

/-- STANDBY_P0_TIMEOUT (R64). -/
def execStandbyP0Timeout (s : State) : Result :=
  .next <|
    if !s.sys.awaitP0 then s
    else
      let s := s.advanceTo (s.bist.p0Since + exitNs s.sys.leftState)
      ({ s with sys := { s.sys with awaitP0 := false } }).raise 0x7010 0 1

/-- WAKE_IN (R65): a rising edge held for 10 µs. -/
def execWakeIn (s : State) : Result := .next (s.advanceTo (s.now + 10000)).wake

/-- RTC_ALARM (R65, R66): at SYS.RTC_WAKE; 0 disables. -/
def execRtcAlarm (s : State) : Result :=
  .next <|
    let t := time80Ns (s.par 0x1A 0)
    if t = 0 ∨ t < s.now then s else (s.advanceTo t).wake

/-- CHECK_VISIT (R60, 06 R165): SYS.WATCH_CHECK_S after the last, Turnip raises the module to P2: the safety cores take switch P back, the nodes go
to SERVICE and every ring makes one sweep, whose triggers are P2's. -/
def execCheckVisit (s : State) : Result :=
  .next <|
    if s.sys.power ≠ .p3 then s
    else
      let s := s.advanceTo (s.sys.lastVisit + s.parN 0x19 0 * 1000000000)
      let s := { s with sys := { s.sys with power := .p2, checkVisit := true, holdOn := false, lastVisit := s.now } }
      [0, 1, 2, 3].foldl (fun s r => if (s.ring r).sweeping then s.startSweep r else s) s.coresLatch.wakeNodes

/-! ### Start-up (R70 to R73) -/

/-- The stored dictionary read at start-up (R101): `dict` says which of the two copies, newest first, has its CRC right. -/
def State.loadDict (s : State) (dict : BitVec 2) : State :=
  let s := { s with wcp := { s.wcp with stored := s.wcp.stored.mapIdx fun i (c : ParamCopy) => { c with valid := c.valid && dict.getLsbD i } } }
  { s with wcp := { s.wcp with params := s.bootParams, generation := s.bootGeneration, heldFs := [] } }

/-- IMAGE_VERIFIED (R70, R71, R101, 19 R499, R508, R511): SELFTEST with a valid image; else Sprout looks for copies. An image on trial is
not confirmed. -/
def execImageVerified (valid confirmed : Bool) (dict : BitVec 2) (s : State) : Result :=
  .next <|
    if s.sys.lifecycle ≠ .boot ∨ !s.sys.mated ∨ s.sys.vinLow ∨ s.bist.hold ∨ s.sys.startPhase = 8 ∨ s.sys.power = .p5
        ∨ !(s.upd.state = 0 ∨ s.upd.state = 5 ∨ s.upd.state = 7 ∨ s.upd.state = 8) then s
    else
      let s := if s.sys.slot = 0 then s.readSlot else s
      if s.sys.slot = 0 then s
      else if s.upd.state = 7 then s.repeatRestore
      else if s.deadlinePast then s.startRollback.raise 0xD021 0 1
      else if !valid then
        let u := s.upd
        let c := u.run.get 0
        ({ s with upd := { u with run := u.run.set 0 { c with valid := false } } }).repair
      else
        let s := { s with sys := { s.sys with imageValid := true, imageConfirmed := confirmed && s.upd.state != 5 } }
        (s.loadDict dict).checkFrozen.startSelftest

/-- The twin's parts and this module's are not admissible together (13 R396, 19 R503). -/
def State.misfit (s : State) : Bool := !admissible s.ownModule (s.upd.twinParts.filter fun e => e.type != 4) s.nodeParts

/-- The module takes the ACTIVE role at the end of NEGOTIATE (R70, R73). -/
def State.startActive (s : State) : State :=
  let s := s.goActive
  let s := if s.sys.startPhase < 7 then { s with sys := { s.sys with startPhase := 4 } } else s
  s.startRings

/-- It becomes STANDBY, unless the twin's image does not admit its own (R396). -/
def State.startStandby (s : State) : State :=
  if s.sys.roleIn && s.misfit then
    (if s.sys.judged then s else ({ s with sys := { s.sys with judged := true } }).raise 0x7013 0 1)
  else
    let s := s.setLifecycle .standby
    if s.sys.startPhase < 7 then { s with sys := { s.sys with startPhase := 4 } } else s

/-- A start without a twin and without a valid stored dictionary runs on defaults (R101). -/
def State.dictDefaults (s : State) : State := if s.noDict && s.twin.life.isNone then s.raise 0x1072 0 1 else s

/-- NEGOTIATE_ROLE (R71, Table 3.6). While a role conflict is not resolved by its arbitration no role is taken (R29); a module without a valid stored
copy takes its twin's dictionary first (R101). -/
def execNegotiateRole (s : State) : Result :=
  .next <|
    if s.sys.lifecycle ≠ .negotiate then s
    else
      if s.safe.lockout then s.setLifecycle .safe
      else if s.sys.conflict then s
      else if s.noDict ∧ s.twin.life.isSome ∧ !s.twin.dictIn then s
      else if s.sys.roleIn then
        (if s.standbyEligible then s.startStandby
         else if s.sys.judged then s else ({ s with sys := { s.sys with judged := true } }).raise 0x7012 0 1)
      else if s.activeEligible then
        match s.twin.life with
        | some .negotiate =>
          if s.twin.elig = 2 then
            let own := s.parN 0x1C 0
            let want := if own = s.twin.prefer then own else 1
            (if s.sys.slot = want then s.startActive else s.startStandby)
          else s.startActive
        | some .standby => s.startActive
        | some .safe => s.startActive
        | some .isolated => s.startActive
        | some .update => s.startActive
        | some .replay => s.startActive
        | _ => s
      else if s.standbyEligible then s.dictDefaults.startStandby
      else s

/-- NEGOTIATE_SILENCE (R71): 2 s after NEGOTIATE began, the twin silent. -/
def execNegotiateSilence (s : State) : Result :=
  .next <|
    if s.sys.lifecycle ≠ .negotiate ∨ s.sys.roleIn ∨ s.sys.conflict ∨ s.twin.life.isSome ∨ s.safe.lockout ∨ !s.activeEligible then s
    else
      let s := s.advanceTo (s.sys.negSince + 2000000000)
      (s.raise 0x7010 0 1).dictDefaults.startActive

/-- The challenges of every enumerated node are judged (R70). -/
def State.nodesJudged (s : State) : Bool :=
  [0, 1, 2, 3].all fun r => s.parN 0x201 r == 0 || ((s.ring r).enumStage == 0
    && ((List.range (s.ring r).n).all fun i => (s.auth (r * 28 + i)).challenge.isNone))

/-- A start-up may reach READY (R70): the active with its nodes judged; a standby of an active with its state, one complete cycle of estimator
state and its first compared control cycle in agreement. -/
def State.mayReady (s : State) : Bool :=
  match s.sys.lifecycle with
  | .active => s.nodesJudged
  | .standby => s.twin.life != some .active || (s.twin.xfer && s.twin.agreed && (s.twin.estIn || s.filterHz == 0))
  | _ => false

/-- START_READY (R70, R73; 19 R505, R508, R516): READY; a trial gets its deadline, a module from ISOLATED returns there, an interrupted
node step resumes. -/
def execStartReady (s : State) : Result :=
  .next <|
    if !(4 ≤ s.sys.startPhase ∧ s.sys.startPhase < 7) ∨ !s.mayReady then s
    else
      let s := { s with sys := { s.sys with startPhase := 7 } }
      let s := if s.upd.state = 5 ∧ s.upd.deadline.isNone then
          { s with upd := { s.upd with deadline := some (s.now + s.parN 0xB01 0 * 60000000000) } } else s
      let s := if s.upd.from_ = some .isolated ∧ s.isStandby then s.setLifecycle .isolated else s
      let s := { s with upd := { s.upd with from_ := none } }
      if s.upd.state = 8 ∧ s.isActive then
        (if (s.upd.run.get 3).valid then s else { s with upd := s.upd.putBack [4] }).loadRings s.upd.nodeRings
      else s

/-! ### ROLE_IN falls (R389, R390, Table 19.7) -/

/-- A STANDBY after ROLE_IN has been low for 0.5 µs: an arbitration whose own test still runs decides when it ends (Table 13.6). -/
def State.roleFell (s : State) : State :=
  let waits : Bool := match s.twin.arb with
    | some a => a.own.isNone
    | none => false
  if waits then s
  else if s.takeoverReady then
    (if s.twin.handTwin.isSome then s.takeover true s.twin.handDrill 0
     else s.takeover false false (if s.twin.silence.isSome then 2 else 0))
  else s.notReady

/-- ROLE_IN_LOW. -/
def execRoleInLow (s : State) : Result :=
  .next <|
    if !s.sys.roleIn then s
    else
      let t := s.now
      let s := s.advanceTo (t + 500)
      let s := { s with sys := { s.sys with roleIn := false } }
      match s.sys.lifecycle with
      | .standby => (s.missSyncs t).roleFell.sendMissed
      | .update =>
        if s.updOpen then
          let s := s.dropStage.setLifecycle .negotiate
          { s with upd := { s.upd with from_ := none } }
        else s
      | .active => s.assertRole
      | _ => s

/-! ### Control frames -/

/-- SHALLOT_CONTROL (R64, R65, R71, R104, R396, R412, R420). The ladder's step comes from the active, or from a standby that was asked to move the
pair (R62). -/
def execShallotControl (f : Link) (m : CtlMsg) (s : State) : Result :=
  .next <| s.onLink false f fun s =>
    match m with
    | .snapshot num t =>
      if !s.isStandby then s
      else { s with wcp := { s.wcp with snaps := ({ num := num.toNat, instant := t80 t, session := 0 } :: s.wcp.snaps).take 4 } }
    | .counters num vs =>
      { s with wcp := { s.wcp with snaps := s.wcp.snaps.map fun p => if p.num == num.toNat && p.latched then { p with twin := p.twin ++ vs, mask := p.mask ||| 2 } else p } }
    | .wake => if s.sys.power = .p1 ∨ s.sys.power = .p2 ∨ s.sys.target.isSome then s.wake else s
    | .p0Report => { s with sys := { s.sys with twinP0 := true, awaitP0 := false } }
    | .time t linkNs =>
      if !s.isStandby ∨ s.net.twinSet then s
      else { s with now := t80 t + linkNs, sys := { s.sys with rtc := t80 t + linkNs }, net := { s.net with twinSet := true },
                    twin := { s.twin with linkNs := linkNs } }
    | .step at_ ns => if !s.isStandby then s else { s with net := { s.net with step := some (t80 at_, ns) } }
    | .eligible level prefer serial parts =>
      let s := { s with twin := { s.twin with elig := level, prefer := prefer }, upd := { s.upd with twinParts := parts } }
      (s.judgeSerial serial).judgeMixed.pairStep
    | .ladder target => match pstateOf target with
      | none => s
      | some p => if s.isActive ∧ s.judgePower p true ≠ 0 ∨ !(s.isActive || s.isStandby) then s else s.aim p none false
    | .wantParts mask => s.giveParts mask
    | .undo => s.undoPair

end Sys2Proof.Machine
end

