-- ==== Sys2Proof/Machine/Reads.lean ====
section
/-! DEFINITION. What PARAM_GET shows of a parameter (R94, R96): applied values, counters, and the read-only words of every chapter. -/

namespace Sys2Proof.Machine
open Sys2Proof

/-- SYS.START_PHASE (Table 3.7): by what start-up has reached; Sprout's own checks end, and those of the image begin, 25 ms after the resets are
released (Table 3.5). -/
def State.startPhase (s : State) : Nat :=
  let p := s.sys.startPhase
  if p = 0 ∧ s.sys.mated ∧ s.sys.bootAt + 25000000 ≤ s.now then 1
  else if p ≠ 4 then p
  else if s.isStandby then (if s.twin.xfer then 6 else if s.twin.copy.isSome then 5 else 4)
  else if s.nodesJudged then 6
  else if [0, 1, 2, 3].all (fun r => s.parN 0x201 r == 0 || (s.ring r).enumStage == 0) then 5
  else 4

/-- Read-only values that are no counters, by parameter ID. -/
def State.shownRo (s : State) (id inst : Nat) : Option Nat :=
  match id with
  | 0x010 => some (lifeCode s.sys.lifecycle)
  | 0x011 => some (match s.sys.power with
    | .p0 => 0 | .p1 => 1 | .p2 => 2 | .p3 => 3 | .p4 => 4 | .p5 => 5)
  | 0x012 => some ((s.cluster inst).word (inst < 4))
  | 0x013 => some 0
  | 0x015 => some s.roleLines
  | 0x017 => some s.sys.resetCause.toNat
  | 0x018 => some s.startPhase
  | 0x037 => some s.wcp.generation.toNat
  | 0x044 => some s.fm.peak
  | 0x204 => some (s.ring inst).mode
  | 0x205 => some (breakWord (s.ring inst).brk)
  | 0x206 => some (s.ring inst).loopPs
  | 0x207 => some (s.ring inst).hbSeen.toNat
  | 0x2A0 => some (s.node inst).unmeasured.toNat
  | 0x2A1 => some (s.node inst).wireFault.toNat
  | 0x2A2 => some (toF32 (s.node inst).oA)
  | 0x2A3 => some (toF32 (s.node inst).gA)
  | 0x2A6 => some (toF32 (s.node inst).refRatio)
  | 0x2A5 => some (if s.settled inst then 1 else 0)
  | 0x360 => some (s.loopStatus inst)
  | 0x3A0 => some (s.ch inst).state
  | 0x3A1 => some (s.dsStatus inst)
  | 0x3A2 => some (s.ch inst).fclk
  | 0x410 => some (s.profStatus inst)
  | 0x450 => some (s.actStatus inst)
  | 0x490 => some s.fio.diState.toNat
  | 0x491 => some s.diOpen
  | 0x492 => some (s.doStatus inst)
  | 0x501 => some s.filterHz
  | 0x540 => some (s.stringStatus inst)
  | 0x5A8 => some (s.impStatus inst)
  | 0x5A9 => some (s.nodeAuth inst)
  | 0x5AC => some (min 0xFFFFFFFF (s.strE inst).efc.floor.toNat)
  | 0x680 => some s.blockCrc
  | 0x681 => some s.safeStatus
  | 0x682 => some (s.latchWord inst)
  | 0x710 => some s.twinState
  | 0x80D => some (s.eth inst).link
  | 0x880 => some s.ptpStatus
  | 0x881 => some (toF32 s.net.y)
  | 0x8D0 => some (s.canStatusWord inst)
  | 0x910 => some s.fbState
  | 0xA10 => some (s.bistWord inst)
  | 0xA90 => some s.thermStatus
  | 0xA91 => some (toF32 s.moduleMax.2)
  | 0xB10 => some s.upd.state
  | 0xB11 => some s.upd.floor.toNat
  | 0xB12 => some s.upd.fails
  | _ => none

/-- The value PARAM_GET returns. -/
def State.shown (s : State) (r : PRow) (inst : Nat) : Bytes :=
  match r.id with
  | 0x01D => padTo 64 s.sys.carrierId
  | 0x5AA => padTo 16 (s.auth inst).serial
  | 0x5AB => (List.range 16).flatMap fun i => u32 (min 0xFFFFFFFF (s.cellE (inst * 16 + i)).efc.floor.toNat)
  | 0x711 => time80Bytes s.twin.lastSwap
  | 0xA92 => s.thermSensors
  | 0xB13 => time80Bytes (s.upd.deadline.getD 0)
  | 0xB14 => s.updParts
  | 0x2A4 => (s.node inst).mA.flatMap fun m => u32 (toF32 m)
  | _ =>
    match s.shownRo r.id inst with
    | some v => leBytes (typeSize r.ty) v
    | none => if r.cls = 0 ∧ r.ty ≠ 8 then leBytes (typeSize r.ty) (s.count r.id inst)
      else if r.marks = 2 then leBytes (typeSize r.ty) 0 else s.par r.id inst

/-! ### Reading -/

/-- One PARAM_GET entry: TYPE, status and value (R96). -/
def State.getEntry (s : State) (h : Hdr) (e : GetEntry) : Nat × Nat × Bytes :=
  match PRow.find e.id.toNat with
  | none => (0, 0x0103, [])
  | some r =>
    if !hasInstance r e.inst.toNat then (r.ty, 0x0103, [])
    else
      let pend := (s.sess h.session.toNat).bind fun x => x.shadow.find? fun y => y.id = e.id.toNat ∧ y.inst = e.inst.toNat
      let v := s.shown r e.inst.toNat
      match pend with
      | none => (r.ty, 0, v)
      | some p => if e.options.getLsbD 0 then (r.ty + 64 + 128, 0, p.value) else (r.ty + 128, 0, v)

def getBytes (es : List GetEntry) : Bytes := u16 es.length ++ es.flatMap fun e => leBytes 2 e.id.toNat ++ [e.inst, e.options]

/-- PARAM_GET (R96): entry by entry; it fails as a whole only when every entry failed. -/
def execParamGet (h : Hdr) (entries : List GetEntry) (s : State) : Result :=
  .next <| s.wcpReq 0x0100 h (getBytes entries) fun s =>
    if entries.length = 0 ∨ entries.length > 64 then s.failAll 0x0100 h (getBytes entries) 0x0102 0 0
    else
      let rs := entries.map (s.getEntry h)
      let body := (entries.zip rs).flatMap fun p =>
        leBytes 2 p.1.id.toNat ++ [p.1.inst] ++ u8 p.2.1 ++ u16 p.2.2.1 ++ u16 p.2.2.2.length ++ p.2.2.2
      let st := if rs.all (fun r => r.2.1 != 0) then ((rs.head?).map (·.2.1)).getD 0 else 0
      let e := (entries.head?).getD ⟨0, 0, 0⟩
      s.entriesReply 0x0100 h st (0, e.id.toNat, e.inst.toNat) entries.length body

/-! ### Identity (Table 4.9) -/

/-- GET_IDENTITY (Table 4.9): the versions are those of the running parts (19 R498) and Sprout's own. -/
def execGetIdentity (h : Hdr) (s : State) : Result :=
  .next <| s.wcpReq 0x0003 h [] fun s =>
    s.reply 0x0003 h 0 (padTo 16 Config.serial ++ u8 s.sys.slot ++ u8 ((lifeCode s.sys.lifecycle)) ++ u8 s.startPhase
      ++ [0] ++ u32 (s.upd.running 1) ++ u32 (s.upd.running 2) ++ u32 (s.upd.running 3) ++ u32 Config.sproutVersion)

end Sys2Proof.Machine
end

