-- ==== Sys2Proof/Machine/Replay.lean ====
section
/-! DEFINITION. The run of a replay (18 R494, 07 R171): from a checkpoint's state the loop engine, the profile generators, the ring extractor
with live
calibration, the estimator and the processor channel's SF1 evaluations run again on the chunks of a file; periods and digests are compared. -/

namespace Sys2Proof.Machine
open Sys2Proof

/-! ### The fields of a file -/

/-- A signed field of `n` bytes. -/
def sField (b : Bytes) (o n : Nat) : Int := toSigned (8 * n) (fieldAt b o n)

def bField (b : Bytes) (o : Nat) : Byte := BitVec.ofNat 8 (fieldAt b o 1)

/-- A channel record of LOOP_COPY (Table 13.4). -/
def chanOfBytes (b : Bytes) : ChanCopy :=
  let st := fieldAt b 2 1
  let fl := fieldAt b 6 1
  { duty := sField b 0 2, winner := st % 16, dir := st.testBit 4, injGate := st.testBit 5, injFull := st.testBit 6, ilHeld := st.testBit 7,
    chState := fieldAt b 3 1, sweepNo := BitVec.ofNat 16 (fieldAt b 4 2), partialSet := fl.testBit 0, staleSet := fl.testBit 1,
    estStale := fl.testBit 2, estStamp := BitVec.ofNat 32 (fieldAt b 8 4), i1 := sField b 12 5, i2 := sField b 17 5, i3 := sField b 22 5,
    i5 := sField b 27 5, iIl := sField b 32 5, x1 := sField b 37 2, x2 := sField b 39 2, y1 := sField b 41 2, y2 := sField b 43 2,
    c7 := sField b 45 5, a6 := sField b 50 2, phase := (List.range 5).map fun i => BitVec.ofNat 32 (fieldAt b (52 + 4 * i) 4),
    fade := sField b 72 2, rearm := fieldAt b 74 2, staleMs := fieldAt b 76 2, pgX := sField b 80 8, pgV := sField b 88 8,
    pgT := sField b 96 8, profStatus := BitVec.ofNat 32 (fieldAt b 104 4) }

/-- A SWEEP_DATA payload (Table 5.5). -/
def payloadOfBytes (b : Bytes) : SweepPayload :=
  let w := fun (o : Nat) => BitVec.ofNat 16 (fieldAt b o 2)
  { sweep := w 0, v := (List.range 16).map fun i => w (2 + 2 * i), t := (List.range 4).map fun i => w (34 + 2 * i), pairIdx := bField b 42,
    calId := bField b 43, pairV := w 44, calV := w 46, balMask := w 48, status := w 50, epoch := bField b 52, dflags := bField b 53 }

/-- A slow-input set as a checkpoint holds it: its voltages stand in lane units of 200 µV (Table 7.2). -/
def slowOfBytes (b : Bytes) : Option SlowSet :=
  let fl := fieldAt b 21 1
  let at_ := fun (i o : Nat) => if fl.testBit i then some ((sField b o 2 : ℚ) / 5000, fieldAt b (o + 2) 1, fieldAt b (o + 3) 1) else none
  if !fl.testBit 0 then none
  else some { sweep := BitVec.ofNat 16 (fieldAt b 0 2), stamp := BitVec.ofNat 32 (fieldAt b 2 4), hi := at_ 2 6, lo := at_ 3 10,
              hot := if fl.testBit 4 then some (sField b 14 2, fieldAt b 16 1, fieldAt b 17 1) else none, cells := fieldAt b 18 2,
              temps := fieldAt b 20 1, incomplete := fl.testBit 1 }

/-- Entries of 6 bytes and their values, as PARAM_SET has them (Table 4.11). -/
def entriesOfBytes : Nat → Bytes → List SetEntry
  | 0, _ => []
  | n + 1, b => if b.length < 6 then []
    else ⟨BitVec.ofNat 16 (fieldAt b 0 2), bField b 2, slice b 6 (fieldAt b 4 2)⟩ :: entriesOfBytes n (b.drop (6 + fieldAt b 4 2))

/-! ### A checkpoint (R488) -/

/-- The checkpoint a run starts from: the number named, or the first whole one for 0 (R494), with its bytes. -/
def checkpointOf (cs : List (Nat × Nat × Bytes)) (n : Nat) : Nat × Bytes :=
  let ws := wholeCheckpoints cs
  let k := if ws.contains n then n else ws.headD 0
  let ps := (cs.filter fun c => c.1 == 6 && fieldAt c.2.2 0 4 == k).map (·.2.2)
  let m := (ps.head?.map fun p => fieldAt p 6 2).getD 0
  (k, (List.range m).flatMap fun i => ((ps.find? fun p => fieldAt p 4 2 == i).map fun p => p.drop 8).getD [])

/-- The 16 parts of the estimator state, each behind its length, and the bytes that follow them. -/
def State.loadParts : List (Nat × Nat) → Bytes → State → State × Bytes
  | [], b, s => (s, b)
  | (r, p) :: t, b, s =>
    let n := fieldAt b 0 4
    let s := if p = 1 then s.updRing r fun x => { x with n := n / 2048 } else s
    State.loadParts t (b.drop (4 + n)) (s.takePart r p (slice b 4 n))

/-- The module a run computes in: nothing of it reaches an output. Its permit stands, every string is closed, and the parameters, the installed
tables and
the clusters are this module's until the checkpoint's replace them. -/
def State.bench (s : State) (slot : Nat) : State :=
  let str : StringSt := { closed := true }
  { State.reset with
    wcp := { params := s.wcp.params, heldFs := s.wcp.heldFs, generation := s.wcp.generation }, upd := s.upd, free := s.free
    sys := { s.sys with lifecycle := .active, mirror := .active, power := .p0, target := none, roleOut := true, roleIn := false, driveEnded := false,
                        conflict := false, mateOpen := false, oscFault := false, vinLow := false, awaitP0 := false, diesLost := 0, slot := slot }
    safe := { State.reset.safe with str := ⟨str, str, str, str⟩ }
    fm := { lastSeq := (s.part 4).newest } }

/-- The estimator state, the calibration and the parameters of a checkpoint (R488). -/
def State.loadEst (s : State) (b : Bytes) : State :=
  let ps := s.loadParts ([0, 1, 2, 3].flatMap fun r => [(r, 0), (r, 1), (r, 2), (r, 3)]) (b.drop 838)
  (entriesOfBytes ps.2.length ps.2).foldl (fun s (e : SetEntry) => s.applyCommitted ⟨e.id.toNat, e.inst.toNat, e.value⟩) ps.1

/-- A lane as a checkpoint holds it: its channel record, its slow-input sets and its headroom. -/
def State.loadLane (s : State) (b : Bytes) (c : Nat) : State :=
  let x := chanOfBytes (slice b (62 + 112 * c) 112)
  let l := slice b (622 + 53 * c) 53
  let d := if x.winner = 15 then none else some x.duty
  (s.loadCh c x).updLane c fun y =>
    { y with slow := slowOfBytes (slice l 0 22), slowFull := slowOfBytes (slice l 22 22), hDis := sField l 44 2, hChg := sField l 46 2,
             hStamp := if fieldAt l 48 1 = 1 then some (BitVec.ofNat 32 (fieldAt l 49 4)) else none,
             shadow := d, applied := d, shadowDir := x.dir, appliedDir := x.dir }

/-- A checkpoint's state and parameters (R488, R494). -/
def State.loadCheckpoint (s : State) (b : Bytes) : State :=
  let t := time80Ns b
  let s := ({ s with now := t, sys := { s.sys with rtc := t } } : State).loadEst b
  let s := [0, 1, 2, 3].foldl (fun s r => s.updRing r fun x => { x with mode := 2, enumerated := true, sweeping := true }) s
  let s := [0, 1, 2, 3].foldl (fun s c => s.loadLane b c) s
  let s := [0, 1, 2, 3].foldl (fun s a =>
    let r := slice b (510 + 28 * a) 28
    s.takeAxis a ⟨sField r 0 8, sField r 8 8, sField r 16 8, BitVec.ofNat 32 (fieldAt r 24 4)⟩) s
  { s with loop := { s.loop with period := BitVec.ofNat 32 (fieldAt b 10 4) - 1, base := t - s.parN 0x300 0 },
           est := { s.est with cycle := fieldAt b 834 4, loaded := true } }

/-! ### The run -/

/-- What a command leaves. -/
def State.did (s : State) (f : State → Result) : State :=
  match f s with
  | .next t => t
  | _ => s

/-- A run in progress (R494). -/
structure ReplayRun where
  /-- the module computed in -/
  sim : State
  /-- known-answer holds of the file: first period, count -/
  holds : List (Nat × Nat)
  /-- instants of the skipped estimator cycles of the file -/
  skips : List Nat
  /-- the run's end -/
  stop : Nat
  /-- the first divergence ends the run -/
  first : Bool
  /-- the record of the period whose application or release is to come -/
  wait : Option Bytes := none
  /-- bytes 34 and 35 of the last record, and the bits of it that rose there -/
  flags : Option Nat := none
  rose : Nat := 0
  periods : Nat := 0
  cycles : Nat := 0
  /-- first divergence: period count, channel or ring, kind -/
  div : Option (Nat × Nat × Nat) := none
  /-- records raised, oldest first -/
  recs : List Bytes := []
  /-- nothing more is run -/
  ended : Bool := false

/-- The next instant of the estimator's grid (10 R269). -/
def State.nextCycle (s : State) : Nat :=
  let p := cyclePeriod (if s.est.gridHz = 0 then s.filterHz else s.est.gridHz)
  (s.now / p + 1) * p

/-- Position ticks and estimator cycles up to a time, in order; a cycle that the file shows skipped is skipped. -/
def State.runTo (skips : List Nat) : Nat → Nat → State → State
  | 0, _, s => s
  | n + 1, t, s =>
    let tick := (s.now / 100000 + 1) * 100000
    let cyc := s.nextCycle
    if t < min tick cyc then s
    else if cyc ≤ tick then
      let s := if skips.contains cyc && !s.est.busy then { s with est := { s.est with skip := true } } else s
      State.runTo skips n t ((s.did execEstimatorCycle).advanceTo cyc)
    else State.runTo skips n t (s.did execPositionTick)

def State.runUntil (skips : List Nat) (t : Nat) (s : State) : State :=
  (State.runTo skips ((t - s.now) / 100000 * 2 + 2) t s).advanceTo t

/-- Faults are accepted and handled, in order (20 R527). -/
def State.handleFaults (s : State) : State :=
  (List.range 16).foldl (fun s _ => (s.did execFaultAccepted).did execFaultHandling) s

/-- What a run leaves after an item: its records are taken, what it sends goes nowhere (R494). -/
def ReplayRun.settle (r : ReplayRun) : ReplayRun :=
  let s := r.sim.handleFaults
  { r with recs := r.recs ++ s.recd.queue.map fun x => x.bytes false 0xA5,
           sim := { s with out := [], recd := { s.recd with queue := [], fb := {} }, wcp := { s.wcp with hostOut := [], hostRest := [] } } }

/-- A difference: the first is kept, and ends a run that stops there. -/
def ReplayRun.differ (r : ReplayRun) (ch kind : Nat) : ReplayRun :=
  { r with div := some (r.div.getD (r.sim.loop.period.toNat, ch, kind)), ended := r.ended || r.first }

/-- Events of a period that time alone brings (07 R192, R195, Table 7.11; 08 R233; 04 R100). -/
def State.periodWatches (s : State) : State :=
  let s := if s.wcp.commit.isSome then s.did execCommitApplied else s
  [0, 1, 2, 3].foldl (fun s c =>
    let s := s.did (execStopComplete c)
    let s := if ((s.ch c).zeroAt.any fun t => decide (t + s.parN 0x38F c * 1000000 ≤ s.now)) then s.did (execStopTimeout c) else s
    let s := s.did (execLimitActive c)
    let s := if (s.lane c).satRun = 5000 then s.did (execDutySaturated c) else s
    let due : Bool := (s.lane c).staleSince.any fun t =>
      let u := t + s.parN 0x34A c * 1000000
      decide (u ≤ s.now ∧ s.now < u + s.parN 0x300 0)
    if due then s.did (execSlowStaleTrip c) else s) s

/-- The decisions of Turnip, the field die and the detectors enter as the flags of bytes 34 and 35, as they change (R494). -/
def State.enterFlags (s : State) (old new : Nat) : State :=
  [0, 1, 2, 3].foldl (fun s c =>
    let was := fun (i : Nat) => old.testBit (4 * c + i)
    let is := fun (i : Nat) => new.testBit (4 * c + i)
    let rose := fun (i : Nat) => is i && !was i
    let s := s.updCh c fun x => { x with gdf := is 3, hwDisable := is 0, gateTurnipShut := is 1, gateSafeShut := is 2 }
    if (rose 0 || rose 1 || rose 2) && (s.ch c).state != 0 && (s.ch c).state != 4 then s.faultChannel c else s) s

/-- The faults that the flags stand for, read with the values latched next (08 Table 8.2, R225, R229): a Turnip gate that closed on a current
beyond the
trigger's limits is 0x6011, a hardware disable with an input at full scale is 0x3101. -/
def State.flagFaults (s : State) (rose : Nat) : State :=
  [0, 1, 2, 3].foldl (fun s c =>
    let x := s.ch c
    let s := if rose.testBit (4 * c + 1) && s.ocBeyond c x.dsi then
        ((s.updCh c fun x => { x with oc := true }).inc 0x3B6 c).tripFault 0x6011 c [c]
      else s
    match [x.dsi, x.dsv, x.dsb].findIdx? fun v => v == 32767 || v == -32768 with
    | some line => if rose.testBit (4 * c) then s.did (execDsStuck c line) else s
    | none => s) s

/-- A period of the file at its boundary: the latched values come from the record (R211), the lanes compute (R172). -/
def ReplayRun.boundary (r : ReplayRun) (t : Nat) (b : Bytes) : ReplayRun :=
  let s := State.runUntil r.skips t r.sim
  let k := s.loop.period + 1
  let s : State := { s with loop := { s.loop with base := t, steer := 0, period := k, stamp := ts32 t, open_ := true, passed := false } }
  let s : State := (s.boundary .channels).boundary .reference
  let s : State := [0, 1, 2, 3].foldl (fun s c =>
    let run := decide (0 < s.onOf ((s.lane c).applied.getD 0)) && s.places c
    s.updCh c fun x => x.take run (ts32 t) (sField b (6 * c) 2) (sField b (6 * c + 2) 2) (sField b (6 * c + 4) 2)) s
  let s : State := [0, 1, 2, 3].foldl State.ocProcessor (s.flagFaults r.rose)
  let s : State := if s.parN 0x300 0 = 20000 then [0, 1, 2, 3].foldl (fun s c => s.pushSample c (s.ch c).dsi) s else s
  let held := r.holds.any fun h => decide ((k - BitVec.ofNat 32 h.1).toNat < h.2)
  let s := { s with twin := { s.twin with kat := if held then some t else none } }
  let s := if s.isActive then [0, 1, 2, 3].foldl (fun s c => s.impBoundary c) ([0, 1, 2, 3].foldl State.runLane s) else s
  { r with sim := s, wait := some b }

/-- Duty and winner codes of a released period against the recorded ones (R494). -/
def ReplayRun.compare (r : ReplayRun) (b : Bytes) : ReplayRun :=
  [0, 1, 2, 3].foldl (fun (r : ReplayRun) c =>
    if (r.sim.lane c).shadow.getD 0 ≠ sField b (24 + 2 * c) 2 then r.differ c 1
    else if (r.sim.lane c).winner ≠ fieldAt b 32 2 / 16 ^ c % 16 then r.differ c 2 else r) { r with periods := r.periods + 1 }

/-- The application and the release of the period in progress, once a time has reached them (R172, R214). The flags of its record enter with the
release. -/
def ReplayRun.catchUp (r : ReplayRun) (t : Nat) : ReplayRun :=
  match r.wait with
  | none => r
  | some b =>
    let at_ := r.sim.loop.base
    let rel := at_ + r.sim.parN 0x300 0 * 6 / 10
    let s := if !r.sim.loop.passed && decide (at_ + 500 ≤ t) then (State.runUntil r.skips (at_ + 500) r.sim).did execApplicationInstant else r.sim
    if t < rel then { r with sim := s }
    else
      let f := fieldAt b 34 2
      let s := (State.runUntil r.skips rel s).enterFlags (r.flags.getD f) f
      let s := (s.did (execReleaseInstant 0)).periodWatches
      (({ r with sim := s, wait := none, flags := some f, rose := f &&& (f ^^^ r.flags.getD f) } : ReplayRun).compare b).settle

/-- A finalised sweep of the file (05 R124): the frames held are evaluated (12 R343), then the sweep is finalised with its stamp. -/
def State.replaySweep (s : State) (t : Nat) (b : Bytes) : State :=
  let ring := fieldAt b 0 1
  let frames := (List.range ((b.length - 12) / 56)).map fun i => slice b (12 + 56 * i) 56
  let held := frames.foldl (fun (m : SMap SweepPayload) f => m.set (fieldAt f 0 1) (payloadOfBytes (f.drop 2))) []
  let s := s.updRing ring fun x => { x with sweep := BitVec.ofNat 16 (fieldAt b 2 2), depart := t - s.parN 0x202 ring,
                                            collecting := true, held := held }
  let s := held.foldl (fun s q => s.evalFrame ring q.1 q.2) s
  (s.finalise ring).updRing ring fun x => { x with collecting := false }

/-- The bodies of the commands that act on what a replay computes. -/
def State.replayBody (s : State) (op : Nat) (h : Hdr) (b : Bytes) : State :=
  let b0 := bField b 0
  let b1 := bField b 1
  if op = 0x0101 then s.did (execParamSet h (entriesOfBytes b.length (b.drop 2)))
  else if op = 0x0102 then s.did (execCommit h)
  else if op = 0x0103 then s.did (execDiscard h)
  else if op = 0x0300 then s.did (execChStart h b0)
  else if op = 0x0301 then s.did (if b1 = 0 then execChStopRamp h b0 else execChStopImmediate h b0)
  else if op = 0x0302 then s.did (execPsiFaultClear h b0)
  else if op = 0x0311 then s.did (if b1 = 0 then execStringOpenStopped h b0 else execStringOpenRunning h b0)
  else if op = 0x0400 then s.did (execProfTarget h b0 (BitVec.ofNat 64 (fieldAt b 4 8)))
  else if op = 0x0401 then s.did (execProfEstop h b0)
  else if op = 0x0403 then s.did (execAxisEnable h b0 b1)
  else if op = 0x0404 then s.did (execAxisHome h b0 b1)
  else if op = 0x0405 then s.did (execAxisSetPos h b0 (BitVec.ofNat 64 (fieldAt b 4 8)))
  else if op = 0x0406 then s.did (execAxisCalibrate h b0 (BitVec.ofNat 32 (fieldAt b 4 4)))
  else if op = 0x0502 then s.did (execEstReset h b0 b1 (BitVec.ofNat 16 (fieldAt b 2 2)))
  else if op = 0x0510 then s.did (execImpRun h b0)
  else if op = 0x0511 then s.did (execImpStop h b0)
  else if op = 0x0213 then s.did (execWireFaultClear h b0 b1 (bField b 2))
  else s

/-- The role a recorded command is run with: the file shows accepted requests only, and not the session's role. -/
def replayRole (op : Nat) (b : Bytes) : Role :=
  let rs := (entriesOfBytes b.length (b.drop 2)).map fun e => ((PRow.find e.id.toNat).map writeRole).getD 0
  if op = 0x0101 ∧ rs.contains 3 then .safety else .service

/-- An accepted command of the file: it runs as a forwarded request does, without the checks of a session (R91). The strings' contactors, which the
file does not show, are closed for CH_START and open for PSI_FAULT_CLEAR. -/
def State.replayCommand (s : State) (p : Bytes) : State :=
  let h := s.parseHdr .svc 0 p
  let op := fieldAt p 6 2
  let b := slice p 16 (fieldAt p 8 2)
  let s := { s with wcp := { s.wcp with guests := [(h, op, replayRole op b)], queue := [] } }
  let closed := fun (v : Bool) (s : State) => [0, 1, 2, 3].foldl (fun s r => s.updStr r fun x => { x with closed := v }) s
  closed true ((closed (op != 0x0302) s).replayBody op h b)

/-- A lifecycle code of Table 1.8. -/
def lifeOf (n : Nat) : Option Lifecycle :=
  [.boot, .selftest, .negotiate, .standby, .active, .safe, .update, .replay, .isolated].find? fun l => lifeCode l == n

/-- A change of lifecycle in the file: the lanes of an ACTIVE and of a STANDBY module compute alike, in any other state channels stop (Table 8.5). -/
def State.replayLife (s : State) (l : Lifecycle) : State :=
  if l = .active ∨ l = .standby then
    { s with sys := { s.sys with lifecycle := .active, mirror := .active, roleOut := true, driveEnded := false } }
  else s.setLifecycle l

/-- A time event of the file (Table 18.5). A digest ends the cycle in progress and is compared (13 R381). -/
def ReplayRun.event (r : ReplayRun) (b : Bytes) : ReplayRun :=
  let kind := fieldAt b 10 1
  let d := b.drop 11
  let s := r.sim
  if kind = 1 then
    let old := time80Ns d
    let by_ : Int := (time80Ns (d.drop 10) : Int) - old
    { r with sim := ({ s with net := { s.net with step := some (old, by_) } } : State).did execTimeStep }
  else if kind = 4 then
    match lifeOf (fieldAt d 0 1) with
    | some l => { r with sim := s.replayLife l }
    | none => r
  else if kind = 6 ∧ s.est.busy then
    let s := s.did (execEstCycleComplete false)
    let m := s.digestBytes
    let r := { r with sim := s, cycles := r.cycles + 1 }
    match (List.range 4).find? fun i => slice m (4 + 8 * i) 8 != slice d (4 + 8 * i) 8 with
    | some i => r.differ i 3
    | none => if slice m 0 4 = slice d 0 4 then r else r.differ 0 3
  else r

/-- The module time of a ts32 that lies within 2 s of a time. -/
def timeNear (now ts : Nat) : Nat := ((now : Int) + toSigned 32 ((ts + 2 ^ 32 - now % 2 ^ 32) % 2 ^ 32)).toNat

/-- The 24-byte sets of a GRID chunk join the stream at the points of the 20 µs grid that end with the chunk's boundary (08 R212). -/
def State.replayGrid (s : State) (t : Nat) (b : Bytes) : State :=
  let n := fieldAt b 0 2
  (List.range n).foldl (fun s i => [0, 1, 2, 3].foldl (fun s c => s.pushAt c (t - 20000 * (n - 1 - i)) (sField b (4 + 24 * i + 6 * c) 2)) s) s

/-- The periods of a PERIOD chunk, one after the other; one that does not follow the period before is no part of the run. -/
def ReplayRun.periodsOf (r : ReplayRun) (t : Nat) (b : Bytes) : ReplayRun :=
  let per := r.sim.parN 0x300 0
  (List.range (fieldAt b 4 2)).foldl (fun (r : ReplayRun) i =>
    let u := t + i * per
    let r := r.catchUp u
    if r.ended ∨ r.stop < u ∨ r.sim.loop.period + 1 ≠ BitVec.ofNat 32 (fieldAt b 0 4 + i) then r
    else r.boundary u (slice b (8 + 36 * i) 36)) r

/-- One chunk of the file, in its order. A GAP ends the run. -/
def ReplayRun.chunk (r : ReplayRun) (c : Nat × Nat × Bytes) : ReplayRun :=
  let b := c.2.2
  let t := if c.1 = 4 ∨ c.1 = 5 then time80Ns b else timeNear r.sim.now c.2.1
  if r.ended then r
  else if r.stop < t ∨ c.1 = 7 then { r with ended := true }
  else if c.1 = 1 then r.periodsOf t b
  else
    let r := r.catchUp t
    let s := State.runUntil r.skips t r.sim
    let r := { r with sim := s }
    (if c.1 = 2 then { r with sim := s.replayGrid t b }
      else if c.1 = 3 then { r with sim := s.replaySweep (timeNear t (fieldAt b 4 4)) b }
      else if c.1 = 4 then { r with sim := s.replayCommand (b.drop 10) }
      else if c.1 = 5 then r.event b else r).settle

/-! ### What the file holds before the checkpoint -/

/-- The chunks before a time that lie within 4 s of it, with their times, oldest first; they are given newest first. -/
def chunksBack (from_ : Nat) : Nat → List (Nat × Nat × Bytes) → List (Nat × Nat × Bytes)
  | _, [] => []
  | prev, c :: rest =>
    let t := min prev (timeNear prev c.2.1)
    if t + 4000000000 < from_ then [] else chunksBack from_ t rest ++ [(c.1, t, c.2.2)]

/-- The stream and the sweeps before the checkpoint join the history that the filters look back on. -/
def State.lookBack (s : State) (c : Nat × Nat × Bytes) : State :=
  let b := c.2.2
  let s := s.advanceTo c.2.1
  if c.1 = 1 ∧ s.parN 0x300 0 = 20000 then
    (List.range (fieldAt b 4 2)).foldl (fun s i => [0, 1, 2, 3].foldl (fun s k =>
      s.pushAt k (c.2.1 + 20000 * i) (sField b (8 + 36 * i + 6 * k) 2)) s) s
  else if c.1 = 2 then s.replayGrid c.2.1 b
  else if c.1 = 3 then s.replaySweep (timeNear c.2.1 (fieldAt b 4 4)) b
  else s

/-- A string's update instant at a cycle (R270), from the sweeps held. -/
def State.lastUpdate (s : State) (r tc : Nat) : Nat :=
  let lim := tc - s.parN 0x203 r * 1000000
  match (s.strE r).sweeps.find? fun w => decide (w.instant ≤ lim) with
  | some w => if lim - cyclePeriod s.filterHz < w.instant then w.instant else lim
  | none => lim

/-- A checkpoint loaded, with the history that the file holds before it: the node states, samples, sweeps and temperatures; a cycle that the
checkpoint finds
in progress is begun. `back` is oldest first, `done` says that the file holds that cycle's digest before the checkpoint. -/
def State.replayFrom (s : State) (b : Bytes) (back : List (Nat × Nat × Bytes)) (skips : List Nat) : State :=
  let t := time80Ns b
  let s := s.loadCheckpoint b
  let first := (back.head?.map (·.2.1)).getD t
  let q := [0, 1, 2, 3].foldl (fun s r => s.updStrE r fun e => { e with u := some 0 }) { s with now := first }
  let q := back.foldl State.lookBack q
  let p := cyclePeriod s.filterHz
  let tc := t / p * p
  let done := back.any fun c => c.1 == 5 && fieldAt c.2.2 10 1 == 6 && decide (tc ≤ c.2.1)
  let s := ({ s with rings := q.rings, bist := { s.bist with temps := q.bist.temps } } : State).loadEst b
  let s := [0, 1, 2, 3].foldl (fun s r =>
    let u := q.lastUpdate r (if done then tc else tc - p)
    s.updStrE r fun e => { e with u := some u, samples := (q.strE r).samples, sweeps := (q.strE r).sweeps.filter fun w => decide (u < w.instant) }) s
  let s := { s with est := { s.est with done := some (if done then tc else tc - p) } }
  if done ∨ p = 0 ∨ skips.contains tc then s
  else { ({ s with now := tc - 1 } : State).did execEstimatorCycle with now := t }

/-! ### REPLAY_END -/

/-- The run of a replay (R494): what it compared, the first divergence and the records it raised. -/
def State.replayRun (s : State) (x : ReplaySt) : ReplayRun :=
  let f := x.file.getD []
  let cs := (parseChunks f.length (f.drop 256)).getD []
  let (k, b) := checkpointOf cs x.cp
  let mine := fun (c : Nat × Nat × Bytes) => c.1 == 6 && fieldAt c.2.2 0 4 == k
  let events := fun (kind : Nat) => (cs.filter fun c => c.1 == 5 && fieldAt c.2.2 10 1 == kind).map (·.2.2)
  let skips := (events 2).map time80Ns
  let back := chunksBack (time80Ns b) (time80Ns b) (cs.takeWhile fun c => !mine c).reverse
  let r : ReplayRun := { sim := (s.bench (fieldAt f 24 1)).replayFrom b back skips, skips := skips,
                         holds := (events 3).map fun d => (fieldAt d 11 4, fieldAt d 15 2),
                         stop := if x.stop = 0 then time80Ns (slice f 68 10) else x.stop, first := x.mode == 1 }
  let r := (cs.dropWhile fun c => !mine c).foldl ReplayRun.chunk
    { r with sim := { r.sim with out := [], recd := { r.sim.recd with queue := [], fb := {} } } }
  if r.ended then r else r.catchUp (r.stop)

/-- REPLAY_END (R494): the run has ended. Its records go to partition 4, and event 0xC030 or 0xC031 says what it found. -/
def execReplayEnd (s : State) : Result :=
  .next <| match s.recd.replay with
    | none => s
    | some x =>
      if x.state ≠ 1 then s
      else
        let r := s.replayRun x
        let s := r.recs.foldl State.replayRec s
        let s := s.setReplay (some { x with state := if r.div.isNone then 2 else 3, periods := r.periods, cycles := r.cycles,
                                            div := r.div, op := none })
        let s := match r.div with
          | none => s.raise 0xC030 0 0
          | some d => s.raise 0xC031 0 0 (u32 d.1 ++ u8 d.2.1 ++ u8 d.2.2)
        match x.op with
        | some op => s.complete op 0
        | none => s

end Sys2Proof.Machine
end

