-- ==== Sys2Proof/Machine/Dispatch.lean ====
section
/-! DEFINITION. One arm per command, each one call of its meaning. -/

namespace Sys2Proof.Machine
open Sys2Proof

def exec (i : Instr) (s : State) : Host.Outcome State Fault Refusal :=
  match i with
  | .ping h => Sys2Proof.Machine.execPing h s
  | .sessionOpen h req => Sys2Proof.Machine.execSessionOpen h req s
  | .sessionClose h => Sys2Proof.Machine.execSessionClose h s
  | .getIdentity h => Sys2Proof.Machine.execGetIdentity h s
  | .eventSubscribe h mask minSev => Sys2Proof.Machine.execEventSubscribe h mask minSev s
  | .eventAck h batch => Sys2Proof.Machine.execEventAck h batch s
  | .faultStatus h => Sys2Proof.Machine.execFaultStatus h s
  | .powerSet h target => Sys2Proof.Machine.execPowerSet h target s
  | .reset h => Sys2Proof.Machine.execReset h s
  | .paramGet h entries => Sys2Proof.Machine.execParamGet h entries s
  | .paramSet h entries => Sys2Proof.Machine.execParamSet h entries s
  | .clusterStatusW1c h inst value => Sys2Proof.Machine.execClusterStatusW1c h inst value s
  | .clusterUnfence h inst value => Sys2Proof.Machine.execClusterUnfence h inst value s
  | .resetCauseW1c h value => Sys2Proof.Machine.execResetCauseW1c h value s
  | .commit h => Sys2Proof.Machine.execCommit h s
  | .commitApplied => Sys2Proof.Machine.execCommitApplied s
  | .discard h => Sys2Proof.Machine.execDiscard h s
  | .paramDescribe h id => Sys2Proof.Machine.execParamDescribe h id s
  | .paramList h subsystem start => Sys2Proof.Machine.execParamList h subsystem start s
  | .paramStore h => Sys2Proof.Machine.execParamStore h s
  | .snapshotAt h instant => Sys2Proof.Machine.execSnapshotAt h instant s
  | .snapshotInstant num => Sys2Proof.Machine.execSnapshotInstant num s
  | .snapshotRead h num source offset => Sys2Proof.Machine.execSnapshotRead h num source offset s
  | .snapshotRelease h num => Sys2Proof.Machine.execSnapshotRelease h num s
  | .hostLinkWrite cmd bytes cut => Sys2Proof.Machine.execHostLinkWrite cmd bytes cut s
  | .hostLinkRead cut => Sys2Proof.Machine.execHostLinkRead cut s
  | .udpDatagram f dst dport peer key offset more bytes => Sys2Proof.Machine.execUdpDatagram f dst dport peer key offset more bytes s
  | .reassemblyTimeout key => Sys2Proof.Machine.execReassemblyTimeout key s
  | .splitRequestTimeout session => Sys2Proof.Machine.execSplitRequestTimeout session s
  | .sessionIdleTimeout session => Sys2Proof.Machine.execSessionIdleTimeout session s
  | .eventBatch session => Sys2Proof.Machine.execEventBatch session s
  | .eventBatchRetry session => Sys2Proof.Machine.execEventBatchRetry session s
  | .matingQualified slotId slotIdn eeprom => Sys2Proof.Machine.execMatingQualified slotId slotIdn eeprom s
  | .mateDetectOpen ns => Sys2Proof.Machine.execMateDetectOpen ns s
  | .powerFailWarning => Sys2Proof.Machine.execPowerFailWarning s
  | .powerFailWarningClear => Sys2Proof.Machine.execPowerFailWarningClear s
  | .brownout => Sys2Proof.Machine.execBrownout s
  | .aoPowerLoss => Sys2Proof.Machine.execAoPowerLoss s
  | .vinRestart => Sys2Proof.Machine.execVinRestart s
  | .nrstIn ns => Sys2Proof.Machine.execNrstIn ns s
  | .appWdogExpiry => Sys2Proof.Machine.execAppWdogExpiry s
  | .dieReset die => Sys2Proof.Machine.execDieReset die s
  | .oscillatorFault => Sys2Proof.Machine.execOscillatorFault s
  | .crossingTimeout far how => Sys2Proof.Machine.execCrossingTimeout far how s
  | .correctedError cluster => Sys2Proof.Machine.execCorrectedError cluster s
  | .uncorrectableError cluster unit sram => Sys2Proof.Machine.execUncorrectableError cluster unit sram s
  | .laneLockstep ch => Sys2Proof.Machine.execLaneLockstep ch s
  | .roleConflict => Sys2Proof.Machine.execRoleConflict s
  | .roleInLow => Sys2Proof.Machine.execRoleInLow s
  | .wakeIn => Sys2Proof.Machine.execWakeIn s
  | .rtcAlarm => Sys2Proof.Machine.execRtcAlarm s
  | .powerStepDone => Sys2Proof.Machine.execPowerStepDone s
  | .powerTransitionAbandoned ch => Sys2Proof.Machine.execPowerTransitionAbandoned ch s
  | .standbyP0Timeout => Sys2Proof.Machine.execStandbyP0Timeout s
  | .checkVisit => Sys2Proof.Machine.execCheckVisit s
  | .imageVerified valid confirmed dict => Sys2Proof.Machine.execImageVerified valid confirmed dict s
  | .selftestSlotEnd slot results => Sys2Proof.Machine.execSelftestSlotEnd slot results s
  | .selftestComplete => Sys2Proof.Machine.execSelftestComplete s
  | .negotiateRole => Sys2Proof.Machine.execNegotiateRole s
  | .negotiateSilence => Sys2Proof.Machine.execNegotiateSilence s
  | .startReady => Sys2Proof.Machine.execStartReady s
  | .ringStart h mask => Sys2Proof.Machine.execRingStart h mask s
  | .ringStop h mask => Sys2Proof.Machine.execRingStop h mask s
  | .ringEnumerate h ring => Sys2Proof.Machine.execRingEnumerate h ring s
  | .nodeCounters h ring node source => Sys2Proof.Machine.execNodeCounters h ring node source s
  | .nodePorts h ring node => Sys2Proof.Machine.execNodePorts h ring node s
  | .enumResult ring fromP fromQ unaddressed => Sys2Proof.Machine.execEnumResult ring fromP fromQ unaddressed s
  | .delayMeasured ring lps lps2 => Sys2Proof.Machine.execDelayMeasured ring lps lps2 s
  | .sweepSync ring => Sys2Proof.Machine.execSweepSync ring s
  | .sweepData ring addr rx p => Sys2Proof.Machine.execSweepData ring addr rx p s
  | .readRetained ring node answer => Sys2Proof.Machine.execReadRetained ring node answer s
  | .sweepFinalised ring => Sys2Proof.Machine.execSweepFinalised ring s
  | .linkEvent ring addr rx port event status => Sys2Proof.Machine.execLinkEvent ring addr rx port event status s
  | .nodeReply ring addr rx status data => Sys2Proof.Machine.execNodeReply ring addr rx status data s
  | .portStatusTimeout ring node => Sys2Proof.Machine.execPortStatusTimeout ring node s
  | .masterPortLockLoss ring q => Sys2Proof.Machine.execMasterPortLockLoss ring q s
  | .heartbeatLoss ring node => Sys2Proof.Machine.execHeartbeatLoss ring node s
  | .osetErrorRate ring errors => Sys2Proof.Machine.execOsetErrorRate ring errors s
  | .cellValues h ring node => Sys2Proof.Machine.execCellValues h ring node s
  | .balanceManual h ring node payload => Sys2Proof.Machine.execBalanceManual h ring node payload s
  | .openWireRun h ring node tap => Sys2Proof.Machine.execOpenWireRun h ring node tap s
  | .openWireResult ring node result below above => Sys2Proof.Machine.execOpenWireResult ring node result below above s
  | .wireFaultClear h ring node tap => Sys2Proof.Machine.execWireFaultClear h ring node tap s
  | .cmpTestRun h ring node cell => Sys2Proof.Machine.execCmpTestRun h ring node cell s
  | .cmpTestDue ring fired => Sys2Proof.Machine.execCmpTestDue ring fired s
  | .cmpReadback ring ov uv hyst => Sys2Proof.Machine.execCmpReadback ring ov uv hyst s
  | .balancePolicyTick ring => Sys2Proof.Machine.execBalancePolicyTick ring s
  | .controlBoundary samples => Sys2Proof.Machine.execControlBoundary samples s
  | .releaseInstant late => Sys2Proof.Machine.execReleaseInstant late s
  | .applicationInstant => Sys2Proof.Machine.execApplicationInstant s
  | .slowStaleTrip ch => Sys2Proof.Machine.execSlowStaleTrip ch s
  | .dutySaturated ch => Sys2Proof.Machine.execDutySaturated ch s
  | .limitActive ch => Sys2Proof.Machine.execLimitActive ch s
  | .loopStatus h mask => Sys2Proof.Machine.execLoopStatus h mask s
  | .chStart h mask => Sys2Proof.Machine.execChStart h mask s
  | .chStopRamp h mask => Sys2Proof.Machine.execChStopRamp h mask s
  | .chStopImmediate h mask => Sys2Proof.Machine.execChStopImmediate h mask s
  | .stopComplete ch => Sys2Proof.Machine.execStopComplete ch s
  | .stopTimeout ch => Sys2Proof.Machine.execStopTimeout ch s
  | .psiFaultClear h mask => Sys2Proof.Machine.execPsiFaultClear h mask s
  | .loopbackRun h mask => Sys2Proof.Machine.execLoopbackRun h mask s
  | .loopbackDue edges => Sys2Proof.Machine.execLoopbackDue edges s
  | .psiStatus h mask => Sys2Proof.Machine.execPsiStatus h mask s
  | .dsClockLoss ch => Sys2Proof.Machine.execDsClockLoss ch s
  | .dsClockRange ch => Sys2Proof.Machine.execDsClockRange ch s
  | .dsStuck ch line => Sys2Proof.Machine.execDsStuck ch line s
  | .dsFrozen ch line => Sys2Proof.Machine.execDsFrozen ch line s
  | .turnipDsStuck ch => Sys2Proof.Machine.execTurnipDsStuck ch s
  | .gateDriverFault ch lowNs => Sys2Proof.Machine.execGateDriverFault ch lowNs s
  | .readbackActive ch rb => Sys2Proof.Machine.execReadbackActive ch rb s
  | .readbackShadow ch rb => Sys2Proof.Machine.execReadbackShadow ch rb s
  | .overcurrent ch bits => Sys2Proof.Machine.execOvercurrent ch bits s
  | .ocTimeExceeded ch hz => Sys2Proof.Machine.execOcTimeExceeded ch hz s
  | .profTarget h gen target => Sys2Proof.Machine.execProfTarget h gen target s
  | .profEstop h mask => Sys2Proof.Machine.execProfEstop h mask s
  | .profStatus h mask => Sys2Proof.Machine.execProfStatus h mask s
  | .positionTick => Sys2Proof.Machine.execPositionTick s
  | .axisEnable h mask enable => Sys2Proof.Machine.execAxisEnable h mask enable s
  | .axisHome h axis dir => Sys2Proof.Machine.execAxisHome h axis dir s
  | .axisSetPos h axis pos => Sys2Proof.Machine.execAxisSetPos h axis pos s
  | .axisCalibrate h axis speed => Sys2Proof.Machine.execAxisCalibrate h axis speed s
  | .axisStatus h mask => Sys2Proof.Machine.execAxisStatus h mask s
  | .holdDelayExpiry axis => Sys2Proof.Machine.execHoldDelayExpiry axis s
  | .loadAngleSample axis emf settled => Sys2Proof.Machine.execLoadAngleSample axis emf settled s
  | .bridgeOvercurrent axis => Sys2Proof.Machine.execBridgeOvercurrent axis s
  | .coilOpen axis phase => Sys2Proof.Machine.execCoilOpen axis phase s
  | .actSupplyLow mv => Sys2Proof.Machine.execActSupplyLow mv s
  | .bridgeHot level => Sys2Proof.Machine.execBridgeHot level s
  | .sf4Incomplete axis => Sys2Proof.Machine.execSf4Incomplete axis s
  | .estimatorCycle => Sys2Proof.Machine.execEstimatorCycle s
  | .estCycleComplete late => Sys2Proof.Machine.execEstCycleComplete late s
  | .estimatorPersist bad => Sys2Proof.Machine.execEstimatorPersist bad s
  | .estCells h ring node => Sys2Proof.Machine.execEstCells h ring node s
  | .estString h mask => Sys2Proof.Machine.execEstString h mask s
  | .estReset h ring node mask => Sys2Proof.Machine.execEstReset h ring node mask s
  | .impRun h mask => Sys2Proof.Machine.execImpRun h mask s
  | .impStop h mask => Sys2Proof.Machine.execImpStop h mask s
  | .impScheduleDue ring => Sys2Proof.Machine.execImpScheduleDue ring s
  | .impWindowEnd ring => Sys2Proof.Machine.execImpWindowEnd ring s
  | .impRunEnd ring => Sys2Proof.Machine.execImpRunEnd ring s
  | .precursorCleared ring => Sys2Proof.Machine.execPrecursorCleared ring s
  | .impTable h ring node cell => Sys2Proof.Machine.execImpTable h ring node cell s
  | .impHealth h ring node => Sys2Proof.Machine.execImpHealth h ring node s
  | .nodeIdentity h ring node => Sys2Proof.Machine.execNodeIdentity h ring node s
  | .nodeReauth h ring node => Sys2Proof.Machine.execNodeReauth h ring node s
  | .impNodeSync h mask => Sys2Proof.Machine.execImpNodeSync h mask s
  | .authChallengeDue node nonce => Sys2Proof.Machine.execAuthChallengeDue node nonce s
  | .authAnswer node answer => Sys2Proof.Machine.execAuthAnswer node answer s
  | .nodeSyncDue ring => Sys2Proof.Machine.execNodeSyncDue ring s
  | .safetyHeartbeatLoss => Sys2Proof.Machine.execSafetyHeartbeatLoss s
  | .safetyLockstep => Sys2Proof.Machine.execSafetyLockstep s
  | .crossDemand kind strings fromTurnip => Sys2Proof.Machine.execCrossDemand kind strings fromTurnip s
  | .crossDemandTimeout => Sys2Proof.Machine.execCrossDemandTimeout s
  | .channelDiscrepancy string => Sys2Proof.Machine.execChannelDiscrepancy string s
  | .siDemand pair turnip => Sys2Proof.Machine.execSiDemand pair turnip s
  | .siDiscrepancy pair => Sys2Proof.Machine.execSiDiscrepancy pair s
  | .siTestPulse input lowUs moved => Sys2Proof.Machine.execSiTestPulse input lowUs moved s
  | .offPulse out sw core turnip => Sys2Proof.Machine.execOffPulse out sw core turnip s
  | .onPulse out sw core turnip => Sys2Proof.Machine.execOnPulse out sw core turnip s
  | .soOverload out => Sys2Proof.Machine.execSoOverload out s
  | .soOpenLoad out => Sys2Proof.Machine.execSoOpenLoad out s
  | .stringClose h mask => Sys2Proof.Machine.execStringClose h mask s
  | .prechargeElapsed string => Sys2Proof.Machine.execPrechargeElapsed string s
  | .stringOpenStopped h mask => Sys2Proof.Machine.execStringOpenStopped h mask s
  | .stringOpenRunning h mask => Sys2Proof.Machine.execStringOpenRunning h mask s
  | .safetyStatus h => Sys2Proof.Machine.execSafetyStatus h s
  | .safetyReset h scope mask => Sys2Proof.Machine.execSafetyReset h scope mask s
  | .resetArmTimeout => Sys2Proof.Machine.execResetArmTimeout s
  | .resetInputEdge input lowMs skewMs => Sys2Proof.Machine.execResetInputEdge input lowMs skewMs s
  | .resetLapsed => Sys2Proof.Machine.execResetLapsed s
  | .confirmSafetyConfig h crc => Sys2Proof.Machine.execConfirmSafetyConfig h crc s
  | .commissioningTestStart h ch => Sys2Proof.Machine.execCommissioningTestStart h ch s
  | .commissioningTestStop h ch => Sys2Proof.Machine.execCommissioningTestStop h ch s
  | .ctTimeExpiry ch => Sys2Proof.Machine.execCtTimeExpiry ch s
  | .safeBlockApply => Sys2Proof.Machine.execSafeBlockApply s
  | .wsfPdu transport peer bytes => Sys2Proof.Machine.execWsfPdu transport peer bytes s
  | .wsfWatchdog conn => Sys2Proof.Machine.execWsfWatchdog conn s
  | .wsfProduce conn => Sys2Proof.Machine.execWsfProduce conn s
  | .shallotKeepalive f lifecycle power state ts timeState => Sys2Proof.Machine.execShallotKeepalive f lifecycle power state ts timeState s
  | .keepaliveDue => Sys2Proof.Machine.execKeepaliveDue s
  | .loopCopy f c => Sys2Proof.Machine.execLoopCopy f c s
  | .axisCopy f recs => Sys2Proof.Machine.execAxisCopy f recs s
  | .arbStart f cause => Sys2Proof.Machine.execArbStart f cause s
  | .arbResult f mask => Sys2Proof.Machine.execArbResult f mask s
  | .arbHandover f period drill => Sys2Proof.Machine.execArbHandover f period drill s
  | .katComplete lanes => Sys2Proof.Machine.execKatComplete lanes s
  | .safetyCopy f m => Sys2Proof.Machine.execSafetyCopy f m s
  | .shallotControl f m => Sys2Proof.Machine.execShallotControl f m s
  | .sweepFinal f m => Sys2Proof.Machine.execSweepFinal f m s
  | .sweepNeed f ring sweep need => Sys2Proof.Machine.execSweepNeed f ring sweep need s
  | .sweepFrame f ring sweep node p => Sys2Proof.Machine.execSweepFrame f ring sweep node p s
  | .estCopy f block data => Sys2Proof.Machine.execEstCopy f block data s
  | .estDigest f m => Sys2Proof.Machine.execEstDigest f m s
  | .paramMirror f session entries => Sys2Proof.Machine.execParamMirror f session entries s
  | .dictCopy f index last values digestOk => Sys2Proof.Machine.execDictCopy f index last values digestOk s
  | .wcpFwd f reply h role opcode payload => Sys2Proof.Machine.execWcpFwd f reply h role opcode payload s
  | .stateXfer f kind data last => Sys2Proof.Machine.execStateXfer f kind data last s
  | .standbyReport f code inst sev data => Sys2Proof.Machine.execStandbyReport f code inst sev data s
  | .shallotSendWatch => Sys2Proof.Machine.execShallotSendWatch s
  | .shallotSilence => Sys2Proof.Machine.execShallotSilence s
  | .shallotLockLoss => Sys2Proof.Machine.execShallotLockLoss s
  | .silenceRoleHeld => Sys2Proof.Machine.execSilenceRoleHeld s
  | .aheadTimeout => Sys2Proof.Machine.execAheadTimeout s
  | .uncomparedRun ch => Sys2Proof.Machine.execUncomparedRun ch s
  | .suspectClear => Sys2Proof.Machine.execSuspectClear s
  | .twinStatus h => Sys2Proof.Machine.execTwinStatus h s
  | .twinHandover h => Sys2Proof.Machine.execTwinHandover h s
  | .twinIsolate h slot => Sys2Proof.Machine.execTwinIsolate h slot s
  | .twinJoin h => Sys2Proof.Machine.execTwinJoin h s
  | .twinClearSuspect h => Sys2Proof.Machine.execTwinClearSuspect h s
  | .twinPromote h => Sys2Proof.Machine.execTwinPromote h s
  | .swapDrillDue => Sys2Proof.Machine.execSwapDrillDue s
  | .swapWatchEnd => Sys2Proof.Machine.execSwapWatchEnd s
  | .swapHandedBack code => Sys2Proof.Machine.execSwapHandedBack code s
  | .ethLinkChange port link => Sys2Proof.Machine.execEthLinkChange port link s
  | .arpRequest f ip mac => Sys2Proof.Machine.execArpRequest f ip mac s
  | .icmpEcho f dst src data => Sys2Proof.Machine.execIcmpEcho f dst src data s
  | .gratuitousArp => Sys2Proof.Machine.execGratuitousArp s
  | .prpSupervision => Sys2Proof.Machine.execPrpSupervision s
  | .prpFrame f src seq lan => Sys2Proof.Machine.execPrpFrame f src seq lan s
  | .ptpAnnounce f m a => Sys2Proof.Machine.execPtpAnnounce f m a s
  | .ptpAnnounceTimeout port => Sys2Proof.Machine.execPtpAnnounceTimeout port s
  | .ptpSync f m t1 t2 corr interval master => Sys2Proof.Machine.execPtpSync f m t1 t2 corr interval master s
  | .ptpDelayResp f m t2 t3 t4 corr => Sys2Proof.Machine.execPtpDelayResp f m t2 t3 t4 corr s
  | .ptpPdelayReq f m rx => Sys2Proof.Machine.execPtpPdelayReq f m rx s
  | .delayReqDue port => Sys2Proof.Machine.execDelayReqDue port s
  | .holdoverLong => Sys2Proof.Machine.execHoldoverLong s
  | .timeStep => Sys2Proof.Machine.execTimeStep s
  | .wholeSecond => Sys2Proof.Machine.execWholeSecond s
  | .timeJumpAccept h => Sys2Proof.Machine.execTimeJumpAccept h s
  | .timeJumpReject h => Sys2Proof.Machine.execTimeJumpReject h s
  | .netStatus h => Sys2Proof.Machine.execNetStatus h s
  | .ptpStatus h => Sys2Proof.Machine.execPtpStatus h s
  | .launchTime port frame launch => Sys2Proof.Machine.execLaunchTime port frame launch s
  | .canTx h ctl entries => Sys2Proof.Machine.execCanTx h ctl entries s
  | .canTxAbort h ctl handle => Sys2Proof.Machine.execCanTxAbort h ctl handle s
  | .canTxFlush h ctl => Sys2Proof.Machine.execCanTxFlush h ctl s
  | .canTxResults h ctl max => Sys2Proof.Machine.execCanTxResults h ctl max s
  | .canRxRead h ctl fifo max => Sys2Proof.Machine.execCanRxRead h ctl fifo max s
  | .canRecover h ctl => Sys2Proof.Machine.execCanRecover h ctl s
  | .canStatus h ctl => Sys2Proof.Machine.execCanStatus h ctl s
  | .canTxDone ctl outcome => Sys2Proof.Machine.execCanTxDone ctl outcome s
  | .canRxFrame ctl f sof flaw => Sys2Proof.Machine.execCanRxFrame ctl f sof flaw s
  | .canBusOff ctl => Sys2Proof.Machine.execCanBusOff ctl s
  | .canRecovered ctl => Sys2Proof.Machine.execCanRecovered ctl s
  | .fieldScan d => Sys2Proof.Machine.execFieldScan d s
  | .diOpenWire n isOpen => Sys2Proof.Machine.execDiOpenWire n isOpen s
  | .doDiagnostic n d => Sys2Proof.Machine.execDoDiagnostic n d s
  | .fieldWatchdog => Sys2Proof.Machine.execFieldWatchdog s
  | .barrierLinkLost => Sys2Proof.Machine.execBarrierLinkLost s
  | .fieldSupplyLow => Sys2Proof.Machine.execFieldSupplyLow s
  | .fioStatus h => Sys2Proof.Machine.execFioStatus h s
  | .fioEdges h max => Sys2Proof.Machine.execFioEdges h max s
  | .fioDoClear h mask => Sys2Proof.Machine.execFioDoClear h mask s
  | .thermalEvaluation rows => Sys2Proof.Machine.execThermalEvaluation rows s
  | .thermalShutdown => Sys2Proof.Machine.execThermalShutdown s
  | .thermalHoldPoll readings => Sys2Proof.Machine.execThermalHoldPoll readings s
  | .thermStatus h => Sys2Proof.Machine.execThermStatus h s
  | .thermClear h => Sys2Proof.Machine.execThermClear h s
  | .bistRun h codes => Sys2Proof.Machine.execBistRun h codes s
  | .bistStatus h codes => Sys2Proof.Machine.execBistStatus h codes s
  | .bistComplete code sigOk count expected => Sys2Proof.Machine.execBistComplete code sigOk count expected s
  | .scrubDue kind => Sys2Proof.Machine.execScrubDue kind s
  | .clusterRotationDue => Sys2Proof.Machine.execClusterRotationDue s
  | .standbyKatDue lanes => Sys2Proof.Machine.execStandbyKatDue lanes s
  | .faultAccepted => Sys2Proof.Machine.execFaultAccepted s
  | .faultHandling => Sys2Proof.Machine.execFaultHandling s
  | .handlerDeadline => Sys2Proof.Machine.execHandlerDeadline s
  | .recordWrite good => Sys2Proof.Machine.execRecordWrite good s
  | .recInfo h part => Sys2Proof.Machine.execRecInfo h part s
  | .recRead h part count slot => Sys2Proof.Machine.execRecRead h part count slot s
  | .recClearGeneral h seq => Sys2Proof.Machine.execRecClearGeneral h seq s
  | .recClearSafety h seq => Sys2Proof.Machine.execRecClearSafety h seq s
  | .recClearConfirm h seq => Sys2Proof.Machine.execRecClearConfirm h seq s
  | .clearLapsed => Sys2Proof.Machine.execClearLapsed s
  | .fbTrigger h => Sys2Proof.Machine.execFbTrigger h s
  | .fbFrozen => Sys2Proof.Machine.execFbFrozen s
  | .fbCheckpoint => Sys2Proof.Machine.execFbCheckpoint s
  | .fbAutoRelease => Sys2Proof.Machine.execFbAutoRelease s
  | .fbStatus h => Sys2Proof.Machine.execFbStatus h s
  | .fbExport h offset length => Sys2Proof.Machine.execFbExport h offset length s
  | .fbRelease h => Sys2Proof.Machine.execFbRelease h s
  | .replayOpen h source length => Sys2Proof.Machine.execReplayOpen h source length s
  | .replayLoad h offset bytes => Sys2Proof.Machine.execReplayLoad h offset bytes s
  | .replayStart h cp end_ mode => Sys2Proof.Machine.execReplayStart h cp end_ mode s
  | .replayEnd => Sys2Proof.Machine.execReplayEnd s
  | .replayStatus h => Sys2Proof.Machine.execReplayStatus h s
  | .replayClose h => Sys2Proof.Machine.execReplayClose h s
  | .updStatus h => Sys2Proof.Machine.execUpdStatus h s
  | .updBegin h length => Sys2Proof.Machine.execUpdBegin h length s
  | .updData h offset bytes => Sys2Proof.Machine.execUpdData h offset bytes s
  | .updVerify h => Sys2Proof.Machine.execUpdVerify h s
  | .updVerifyDone => Sys2Proof.Machine.execUpdVerifyDone s
  | .updActivate h mask => Sys2Proof.Machine.execUpdActivate h mask s
  | .sproutActivation cut => Sys2Proof.Machine.execSproutActivation cut s
  | .updConfirm h => Sys2Proof.Machine.execUpdConfirm h s
  | .updAbort h => Sys2Proof.Machine.execUpdAbort h s
  | .updRollback h mask => Sys2Proof.Machine.execUpdRollback h mask s
  | .updFromTwin h mask => Sys2Proof.Machine.execUpdFromTwin h mask s
  | .shallotImage f m => Sys2Proof.Machine.execShallotImage f m s
  | .trialReadyTimeout => Sys2Proof.Machine.execTrialReadyTimeout s
  | .confirmExpired => Sys2Proof.Machine.execConfirmExpired s
  | .nodeStepComplete good node => Sys2Proof.Machine.execNodeStepComplete good node s
  | .mixedPairLong => Sys2Proof.Machine.execMixedPairLong s
  | .safetySwitchFrameLoss sw => Sys2Proof.Machine.execSafetySwitchFrameLoss sw s
  | .freewheelToClamp out => Sys2Proof.Machine.execFreewheelToClamp out s

end Sys2Proof.Machine
end

