-- ==== Sys2Proof/Machine/Tick.lean ====
section
/-! DEFINITION. What a tick of the module's time does when no command waits (assumption log 3): one 8 ns cycle of the time counter
(14 R409), the thermal hold when its time has come (17 R471), and the end of a check visit after 20 ms (03 R60). -/

namespace Sys2Proof.Machine
open Sys2Proof

/-- One 8 ns cycle of module time (R409): the addend while the NET region runs, 8 ns plain otherwise; the real-time clock runs along
while the AO logic is powered (R67). -/
def State.cycle (s : State) : State :=
  let f := s.frac + (if s.netOn then s.net.addend else 34359738368)
  { s with now := s.now + f / 4294967296, frac := f % 4294967296,
           sys := { s.sys with rtc := if s.sys.aoLost then s.sys.rtc else s.sys.rtc + 8 } }

/-- The answers awaited from nodes are fetched (11 R326). -/
def State.pollNodes (s : State) : State := s.est.auth.foldl (fun s p => s.pollAuth p.1) s

/-- The block's own tick: a cycle, the polls of challenged nodes (11 R326), HOLDOVER when Syncs stay out (14 R417), the end of a check visit 20 ms after its start (R60), and the thermal hold 2 ms after a thermal shutdown (R471). -/
def State.tick (s : State) : State :=
  let s := s.cycle.pollNodes.lostSync
  let s := if s.sys.lastVisit + 20000000 ≤ s.now then s.endVisit else s
  match s.bist.holdAt with
  | some t => if t ≤ s.now then s.enterHold else s
  | none => s

/-- A command at the front of the queue, where a word spells one (assumption log 4: the table gives its rows no bits). -/
def State.withFront (s : State) (i : Option Instr) : State :=
  match i with
  | some c => { s with pending := c :: s.pending }
  | none => s

end Sys2Proof.Machine
end

