-- ==== Sys2Proof/Machine/Step.lean ====
section
/-! DEFINITION. One step of the block: the command at the front of its queue, or a tick of its time where none waits. -/

namespace Sys2Proof.Machine
open Sys2Proof

/-- The command at the front of the queue runs on the state with the queue's rest; on an empty queue 8 ns pass (assumption log 3). -/
def step (s : State) : Host.Outcome State Fault Refusal :=
  match s.pending with
  | [] => .next s.tick
  | c :: rest => exec c { s with pending := rest }

/-- The command a word spells, put at the front of the queue (assumption log 4). -/
def State.withFetchWord (s : State) (nbits w : Nat) : State := s.withFront (decodeTableWord nbits w)

end Sys2Proof.Machine
end

