-- ==== Sys2Proof/WellFormed.lean ====
section
/-! DEFINITION. The commands the hardware can meet: every number that names one of its parts names one it has (four strings, rings,
channels, lanes and axes; 28 nodes to a ring; 17 taps and 16 cells to a node; three Ethernet ports; two CAN controllers), and every
value fits its field. The fields of a WCP request are whatever the sender put there: the packet checks and the meanings judge them. -/

namespace Sys2Proof

/-- A node number of a ring (05 R108: 1 to 28). -/
def nodeNo (n : Nat) : Bool := 1 ≤ n && n ≤ 28

/-- A node by ring × 28 + node − 1 (04 R94). -/
def nodeIx (n : Nat) : Bool := n < 112

/-- A time80 value has fewer than 10^9 ns in its second (R6). -/
def Time80.wf (t : Time80) : Bool := t.ns.toNat < 1000000000

/-- What a SWEEP_DATA frame carries: 16 cells and 4 temperatures (05 Table 5.5). -/
def SweepPayload.wf (p : SweepPayload) : Bool := p.v.length == 16 && p.t.length == 4

/-- A challenge's answer fills its fields (11 Table 11.5), and each certificate has at most 1,024 bytes (R327). -/
def AuthData.wf (a : AuthData) : Bool :=
  a.serial.length == 16 && a.certId.length == 8 && a.cert.length ≤ 1024 && a.issuer.length ≤ 1024

/-- The idle set before a frame has five characters after its comma (05 R109, R127). -/
def Rx.wf (rx : Rx) : Bool := rx.idle.length == 5

/-- A read-back frame is whole. -/
def ReadBack.wf : ReadBack → Bool
  | .frame rx p => rx.wf && p.wf
  | .notHeld => true
  | .expired => true

/-- A control frame's times and codes (13 Table 13.2). -/
def CtlMsg.wf : CtlMsg → Bool
  | .snapshot _ t => t.wf
  | .wake => true
  | .p0Report => true
  | .time t _ => t.wf
  | .step t _ => t.wf
  | .counters _ _ => true
  | .eligible level prefer _ _ => level < 3 && (prefer == 1 || prefer == 2)
  | .ladder target => target < 6
  | .wantParts mask => mask < 16
  | .undo => true

/-- A CAN frame's data fill its DLC at most 64 bytes (15 Table 15.2). -/
def CanEntry.wf (f : CanEntry) : Bool := f.dlc.toNat < 16 && f.data.length ≤ 64

/-- The operands of a command name what the hardware has. -/
def Instr.wf : Instr → Bool
  | .snapshotAt _ _ => true
  | .replayStart _ _ _ _ => true
  | .hostLinkWrite _ _ _ => true
  | .udpDatagram f _ _ _ _ _ _ _ => f.port < 3
  | .matingQualified _ _ eeprom => match eeprom with
    | some b => b.length == 64
    | none => true
  | .correctedError cluster => cluster < 8
  | .uncorrectableError group unit _ => group = 13 || group < 13 && unit < (if group < 4 then 8 else if group < 12 then 2 else 24)
  | .laneLockstep ch => ch < 4
  | .powerTransitionAbandoned ch => ch < 4
  | .checkVisit => true
  | .selftestSlotEnd slot _ => 1 ≤ slot && slot ≤ 5
  | .enumResult ring _ _ _ => ring < 4
  | .delayMeasured ring _ _ => ring < 4
  | .sweepSync ring => ring < 4
  | .sweepData ring _ rx p => ring < 4 && rx.wf && p.wf
  | .readRetained ring node answer => ring < 4 && nodeNo node && answer.wf
  | .sweepFinalised ring => ring < 4
  | .linkEvent ring _ rx port event _ => ring < 4 && rx.wf && port < 2 && event < 256
  | .nodeReply ring _ rx _ _ => ring < 4 && rx.wf
  | .portStatusTimeout ring node => ring < 4 && nodeNo node
  | .masterPortLockLoss ring _ => ring < 4
  | .heartbeatLoss ring node => ring < 4 && nodeNo node
  | .osetErrorRate ring _ => ring < 4
  | .openWireResult ring node result _ _ => ring < 4 && nodeNo node && result < 5
  | .cmpTestDue ring _ => ring < 4
  | .cmpReadback ring _ _ _ => ring < 4
  | .balancePolicyTick ring => ring < 4
  | .slowStaleTrip ch => ch < 4
  | .dutySaturated ch => ch < 4
  | .limitActive ch => ch < 4
  | .stopComplete ch => ch < 4
  | .stopTimeout ch => ch < 4
  | .dsClockLoss ch => ch < 4
  | .dsClockRange ch => ch < 4
  | .dsStuck ch line => ch < 4 && line < 3
  | .dsFrozen ch line => ch < 4 && line < 3
  | .turnipDsStuck ch => ch < 4
  | .gateDriverFault ch _ => ch < 4
  | .readbackActive ch _ => ch < 4
  | .readbackShadow ch _ => ch < 4
  | .overcurrent ch _ => ch < 4
  | .ocTimeExceeded ch _ => ch < 4
  | .holdDelayExpiry axis => axis < 4
  | .loadAngleSample axis _ _ => axis < 4
  | .bridgeOvercurrent axis => axis < 4
  | .coilOpen axis phase => axis < 4 && phase < 2
  | .bridgeHot level => level < 3
  | .sf4Incomplete axis => axis < 4
  | .impScheduleDue ring => ring < 4
  | .impWindowEnd ring => ring < 4
  | .impRunEnd ring => ring < 4
  | .precursorCleared ring => ring < 4
  | .authChallengeDue node _ => nodeIx node
  | .authAnswer node answer => nodeIx node && (match answer with
    | some a => a.wf
    | none => true)
  | .nodeSyncDue ring => ring < 4
  | .crossDemand _ strings _ => strings < 16
  | .channelDiscrepancy string => string < 4
  | .siDemand pair _ => pair < 4
  | .siDiscrepancy pair => pair < 4
  | .siTestPulse input _ _ => input < 8
  | .offPulse out sw _ _ => out < 8 && sw < 2
  | .onPulse out sw _ _ => out < 8 && sw < 2
  | .soOverload out => out < 8
  | .soOpenLoad out => out < 8
  | .freewheelToClamp out => out < 8
  | .prechargeElapsed string => string < 4
  | .resetInputEdge input _ _ => input < 16
  | .ctTimeExpiry ch => ch < 4
  | .wsfWatchdog conn => conn < 4
  | .wsfProduce conn => conn < 4
  | .shallotKeepalive _ _ _ _ _ timeState => timeState < 8
  | .shallotControl _ m => m.wf
  | .sweepFinal _ m => m.ring < 4
  | .sweepNeed _ ring _ _ => ring < 4
  | .sweepFrame _ ring _ node p => ring < 4 && nodeNo node && p.wf
  | .standbyReport _ _ _ sev _ => sev < 4
  | .uncomparedRun ch => ch < 4
  | .ethLinkChange port link => port < 3 && link < 3
  | .arpRequest f _ mac => f.port < 3 && mac.length == 6
  | .icmpEcho f _ _ _ => f.port < 3
  | .prpFrame f _ _ lan => f.port < 2 && lan < 2
  | .ptpAnnounce f _ _ => f.port < 2
  | .ptpAnnounceTimeout port => port < 2
  | .ptpSync f _ _ _ _ _ _ => f.port < 2
  | .ptpDelayResp f _ _ _ _ _ => f.port < 2
  | .ptpPdelayReq f _ _ => f.port < 2
  | .delayReqDue port => port < 2
  | .launchTime port _ _ => port < 3
  | .canTx _ _ entries => entries.all CanEntry.wf
  | .canTxDone ctl _ => ctl < 2
  | .canRxFrame ctl f _ _ => ctl < 2 && f.wf
  | .canBusOff ctl => ctl < 2
  | .canRecovered ctl => ctl < 2
  | .fieldScan d => d.di.length == 16 && d.dout.length == 8
  | .diOpenWire n _ => n < 16
  | .doDiagnostic n _ => n < 8
  | .thermalEvaluation rows => rows.length ≤ 100 && rows.all fun r => r.length == 7
  | .thermalHoldPoll readings => readings.length == 7
  | .scrubDue kind => kind < 3
  | .nodeStepComplete _ node => nodeIx node
  | .sproutActivation cut => match cut with
    | some (part, step) => 1 ≤ part && part ≤ 4 && step < 2
    | none => true
  | .ping _ => true
  | .sessionOpen _ _ => true
  | .sessionClose _ => true
  | .getIdentity _ => true
  | .eventSubscribe _ _ _ => true
  | .eventAck _ _ => true
  | .faultStatus _ => true
  | .powerSet _ _ => true
  | .reset _ => true
  | .paramGet _ _ => true
  | .paramSet _ _ => true
  | .clusterStatusW1c _ _ _ => true
  | .clusterUnfence _ _ _ => true
  | .resetCauseW1c _ _ => true
  | .commit _ => true
  | .commitApplied => true
  | .discard _ => true
  | .paramDescribe _ _ => true
  | .paramList _ _ _ => true
  | .paramStore _ => true
  | .snapshotInstant _ => true
  | .snapshotRead _ _ _ _ => true
  | .snapshotRelease _ _ => true
  | .hostLinkRead _ => true
  | .reassemblyTimeout _ => true
  | .splitRequestTimeout _ => true
  | .sessionIdleTimeout _ => true
  | .eventBatch _ => true
  | .eventBatchRetry _ => true
  | .mateDetectOpen _ => true
  | .powerFailWarning => true
  | .powerFailWarningClear => true
  | .brownout => true
  | .aoPowerLoss => true
  | .vinRestart => true
  | .nrstIn _ => true
  | .appWdogExpiry => true
  | .dieReset _ => true
  | .oscillatorFault => true
  | .crossingTimeout _ _ => true
  | .roleConflict => true
  | .roleInLow => true
  | .wakeIn => true
  | .rtcAlarm => true
  | .powerStepDone => true
  | .standbyP0Timeout => true
  | .imageVerified _ _ _ => true
  | .selftestComplete => true
  | .negotiateRole => true
  | .negotiateSilence => true
  | .startReady => true
  | .ringStart _ _ => true
  | .ringStop _ _ => true
  | .ringEnumerate _ _ => true
  | .nodeCounters _ _ _ _ => true
  | .nodePorts _ _ _ => true
  | .cellValues _ _ _ => true
  | .balanceManual _ _ _ _ => true
  | .openWireRun _ _ _ _ => true
  | .wireFaultClear _ _ _ _ => true
  | .cmpTestRun _ _ _ _ => true
  | .controlBoundary _ => true
  | .releaseInstant _ => true
  | .applicationInstant => true
  | .loopStatus _ _ => true
  | .chStart _ _ => true
  | .chStopRamp _ _ => true
  | .chStopImmediate _ _ => true
  | .psiFaultClear _ _ => true
  | .loopbackRun _ _ => true
  | .loopbackDue edges => edges.length == 16
  | .psiStatus _ _ => true
  | .profTarget _ _ _ => true
  | .profEstop _ _ => true
  | .profStatus _ _ => true
  | .positionTick => true
  | .axisEnable _ _ _ => true
  | .axisHome _ _ _ => true
  | .axisSetPos _ _ _ => true
  | .axisCalibrate _ _ _ => true
  | .axisStatus _ _ => true
  | .actSupplyLow _ => true
  | .estimatorCycle => true
  | .estCycleComplete _ => true
  | .estimatorPersist _ => true
  | .estCells _ _ _ => true
  | .estString _ _ => true
  | .estReset _ _ _ _ => true
  | .impRun _ _ => true
  | .impStop _ _ => true
  | .impTable _ _ _ _ => true
  | .impHealth _ _ _ => true
  | .nodeIdentity _ _ _ => true
  | .nodeReauth _ _ _ => true
  | .impNodeSync _ _ => true
  | .safetyHeartbeatLoss => true
  | .safetyLockstep => true
  | .crossDemandTimeout => true
  | .stringClose _ _ => true
  | .stringOpenStopped _ _ => true
  | .stringOpenRunning _ _ => true
  | .safetyStatus _ => true
  | .safetyReset _ _ _ => true
  | .resetArmTimeout => true
  | .resetLapsed => true
  | .confirmSafetyConfig _ _ => true
  | .commissioningTestStart _ _ => true
  | .commissioningTestStop _ _ => true
  | .safeBlockApply => true
  | .wsfPdu _ _ _ => true
  | .keepaliveDue => true
  | .loopCopy _ _ => true
  | .axisCopy _ _ => true
  | .arbStart _ _ => true
  | .arbResult _ _ => true
  | .arbHandover _ _ _ => true
  | .katComplete _ => true
  | .safetyCopy _ _ => true
  | .estCopy _ _ _ => true
  | .estDigest _ _ => true
  | .paramMirror _ _ _ => true
  | .dictCopy _ _ _ _ _ => true
  | .wcpFwd _ _ _ _ _ _ => true
  | .stateXfer _ _ _ _ => true
  | .shallotSendWatch => true
  | .shallotSilence => true
  | .shallotLockLoss => true
  | .silenceRoleHeld => true
  | .aheadTimeout => true
  | .suspectClear => true
  | .twinStatus _ => true
  | .twinHandover _ => true
  | .twinIsolate _ _ => true
  | .twinJoin _ => true
  | .twinClearSuspect _ => true
  | .twinPromote _ => true
  | .swapDrillDue => true
  | .swapWatchEnd => true
  | .swapHandedBack _ => true
  | .gratuitousArp => true
  | .prpSupervision => true
  | .holdoverLong => true
  | .timeStep => true
  | .wholeSecond => true
  | .timeJumpAccept _ => true
  | .timeJumpReject _ => true
  | .netStatus _ => true
  | .ptpStatus _ => true
  | .canTxAbort _ _ _ => true
  | .canTxFlush _ _ => true
  | .canTxResults _ _ _ => true
  | .canRxRead _ _ _ _ => true
  | .canRecover _ _ => true
  | .canStatus _ _ => true
  | .fieldWatchdog => true
  | .barrierLinkLost => true
  | .fieldSupplyLow => true
  | .fioStatus _ => true
  | .fioEdges _ _ => true
  | .fioDoClear _ _ => true
  | .thermalShutdown => true
  | .thermStatus _ => true
  | .thermClear _ => true
  | .bistRun _ _ => true
  | .bistStatus _ _ => true
  | .bistComplete _ _ _ _ => true
  | .clusterRotationDue => true
  | .standbyKatDue _ => true
  | .faultAccepted => true
  | .faultHandling => true
  | .handlerDeadline => true
  | .recordWrite _ => true
  | .recInfo _ _ => true
  | .recRead _ _ _ _ => true
  | .recClearGeneral _ _ => true
  | .recClearSafety _ _ => true
  | .recClearConfirm _ _ => true
  | .clearLapsed => true
  | .fbTrigger _ => true
  | .fbFrozen => true
  | .fbCheckpoint => true
  | .fbAutoRelease => true
  | .fbStatus _ => true
  | .fbExport _ _ _ => true
  | .fbRelease _ => true
  | .replayOpen _ _ _ => true
  | .replayLoad _ _ _ => true
  | .replayEnd => true
  | .replayStatus _ => true
  | .replayClose _ => true
  | .updStatus _ => true
  | .updBegin _ _ => true
  | .updData _ _ _ => true
  | .updVerify _ => true
  | .updVerifyDone => true
  | .updActivate _ _ => true
  | .updConfirm _ => true
  | .updAbort _ => true
  | .updRollback _ _ => true
  | .updFromTwin _ _ => true
  | .shallotImage _ _ => true
  | .trialReadyTimeout => true
  | .confirmExpired => true
  | .mixedPairLong => true
  | .safetySwitchFrameLoss _ => true

end Sys2Proof
end

