-- ==== Sys2Proof/Safety.lean ====
section
/-! DEFINITION. The terms in which claims about the block are stated: a request that passes the packet checks, a fault that waits for
handling, the part of the state that protocol, recorder and fault manager leave alone, and what every step keeps. -/

namespace Sys2Proof

/-- The part of the state a command works on, besides what any command may touch: `protocol` for requests that read, or that touch the
protocol, the recorder or a file of it alone; `clock` for what only an elapsed time brings, and `timed…` for a command of a part whose time
must have passed first. -/
inductive Part where
  | protocol | clock | can | axes | field | twin | est | rings | stage | channel | safe | upd | bist | net | loop
  | timedAxes | timedField | timedEst | timedNet
  deriving DecidableEq, Repr

/-- Requests that read. -/
def Instr.reads : Instr → Bool
  | .ping .. | .getIdentity .. | .faultStatus .. | .paramGet .. | .paramDescribe .. | .paramList .. | .eventSubscribe .. => true
  | .eventAck .. | .snapshotRead .. | .snapshotRelease .. | .cellValues .. | .loopStatus .. | .psiStatus .. | .profStatus .. => true
  | .axisStatus .. | .estCells .. | .estString .. | .impTable .. | .impHealth .. | .nodeIdentity .. | .twinStatus .. => true
  | .netStatus .. | .ptpStatus .. | .canStatus .. | .fioStatus .. | .thermStatus .. | .bistStatus .. | .recInfo .. => true
  | .recRead .. | .fbStatus .. | .fbExport .. | .replayStatus .. | .updStatus .. | .discard .. => true
  | _ => false

/-- Commands of one part, beside those that read. -/
def Instr.homeOf : Instr → Option Part
  | .recordWrite .. | .recClearGeneral .. | .recClearSafety .. | .recClearConfirm .. | .fbTrigger .. | .fbCheckpoint .. => some .protocol
  | .fbRelease .. | .replayLoad .. | .replayStart .. | .replayEnd .. | .paramStore .. | .snapshotAt .. => some .protocol
  | .hostLinkWrite .. | .hostLinkRead .. | .udpDatagram .. | .dutySaturated .. => some .protocol
  | .reassemblyTimeout .. | .splitRequestTimeout .. | .eventBatch .. | .eventBatchRetry .. | .slowStaleTrip .. => some .clock
  | .sf4Incomplete .. | .clearLapsed .. | .fbFrozen .. | .fbAutoRelease .. => some .clock
  | .canTx .. | .canTxAbort .. | .canTxFlush .. | .canTxResults .. | .canRxRead .. | .canRecover .. | .canTxDone .. => some .can
  | .canBusOff .. | .canRecovered .. => some .can
  | .profTarget .. | .profEstop .. | .axisEnable .. | .axisHome .. | .axisSetPos .. | .axisCalibrate .. => some .axes
  | .holdDelayExpiry .. => some .timedAxes
  | .loadAngleSample .. | .bridgeOvercurrent .. | .coilOpen .. | .actSupplyLow .. | .bridgeHot .. => some .axes
  | .fioEdges .. | .fioDoClear .. | .barrierLinkLost .. => some .field
  | .diOpenWire .. | .doDiagnostic .. => some .timedField
  | .arbStart .. | .arbHandover .. | .sweepNeed .. | .wcpFwd .. | .standbyReport .. | .shallotLockLoss .. => some .twin
  | .uncomparedRun .. => some .twin
  | .impRun .. | .impWindowEnd .. | .estReset .. => some .est
  | .precursorCleared .. => some .timedEst
  | .balanceManual .. | .openWireRun .. | .wireFaultClear .. | .osetErrorRate .. => some .rings
  | .psiFaultClear .. | .dsFrozen .. | .readbackShadow .. => some .stage
  | .chStart .. | .chStopRamp .. | .chStopImmediate .. | .stopComplete .. | .dsClockLoss .. | .dsClockRange .. => some .channel
  | .dsStuck .. | .turnipDsStuck .. | .gateDriverFault .. | .readbackActive .. | .ocTimeExceeded .. => some .channel
  | .stringClose .. | .stringOpenStopped .. | .confirmSafetyConfig .. | .commissioningTestStart .. => some .safe
  | .safetySwitchFrameLoss .. | .freewheelToClamp .. => some .safe
  | .updData .. | .updVerify .. | .updVerifyDone .. => some .upd
  | .thermClear .. => some .bist
  | .ethLinkChange .. | .arpRequest .. | .icmpEcho .. | .prpFrame .. | .ptpAnnounce .. | .ptpPdelayReq .. => some .net
  | .ptpAnnounceTimeout .. | .delayReqDue .. => some .timedNet
  | .ptpSync .. | .ptpDelayResp .. | .timeJumpAccept .. | .timeJumpReject .. => some .net
  | .limitActive .. => some .loop
  | _ => none

end Sys2Proof

namespace Sys2Proof.Machine
open Sys2Proof

/-- A request of the module's own hosts that passes every check of 04 Table 4.4: the module answers at all (R21, R69), the request is none
the twin forwarded, its turn in the execution queue has come (R79), and the checks of packet, session, tag, sequence, opcode, role, target, lock-out and self-test are met. -/
def State.passes (s : State) (op : Nat) (h : Hdr) (energise : Bool) (blocks : List Nat) : Bool :=
  s.answers h op && s.turn op h && !s.isGuest op h && (s.dequeue op h).checkPacket h == .pass
    && (s.dequeue op h).checkOp op h energise blocks == .pass

/-- The state on which the request's meaning runs: off the execution queue, its sequence in the window (R80), and in the flight buffer
where it writes or commands. -/
def State.admitted (s : State) (op : Nat) (h : Hdr) (pl : Bytes) : State := ((s.dequeue op h).accept h).fbCommand op h pl

/-- A whole request without a session that reception puts into the execution queue (R75 to R83): the module answers it, the packet's checks pass,
the opcode is known, its payload is of the opcode's form, and it is neither a part of a split request nor one that waits already. -/
def State.takesPacket (s : State) (w : Waiting) : Bool :=
  s.answers w.hdr w.opcode && s.checkPacket w.hdr == .pass && (leastOf w.opcode).isSome && (s.sess w.hdr.session.toNat).isNone
    && !w.hdr.flags.getLsbD 2 && s.wcp.splits.isEmpty && (malformed w.opcode w.payload).isNone
    && !s.wcp.queue.any fun v => v.is w.opcode w.hdr

/-- A fault of a code, instance and severity waits for acceptance into handling (20 R524). -/
def State.waits (s : State) (code inst sev : Nat) : Bool := s.fm.raised.any fun f => f.code == code && f.inst == inst && f.sev == sev

/-- The module without what any command may touch on its way: the protocol of chapter 4, what was sent, the recorder, the fault manager,
and the marks of a time step still to be reported. -/
def State.kept (s : State) : State :=
  { s with wcp := {}, out := [], recd := {}, fm := {}, net := { s.net with stepBatch := false, stepRec := false } }

/-- What a command of a part leaves alone: everything kept, but the part itself. -/
def State.outside (s : State) (p : Part) : State :=
  let k := s.kept
  match p with
  | .protocol => k
  | .clock => { k with now := 0, sys := { k.sys with rtc := 0 } }
  | .can => { k with can := {} }
  | .axes => { k with prof := {} }
  | .field => { k with fio := {} }
  | .twin => { k with twin := {} }
  | .est => { k with est := {} }
  | .rings => { k with rings := {} }
  | .stage => { k with psi := {} }
  | .channel => { k with psi := {}, loop := {}, prof := {}, est := {}, rings := {} }
  | .safe => { k with safe := {}, sys := { k.sys with holdReg := 0 } }
  | .upd => { k with upd := {} }
  | .bist => { k with bist := {} }
  | .net => { k with net := {} }
  | .loop => { k with loop := {} }
  | .timedAxes => { k with now := 0, sys := { k.sys with rtc := 0 }, prof := {} }
  | .timedField => { k with now := 0, sys := { k.sys with rtc := 0 }, fio := {} }
  | .timedEst => { k with now := 0, sys := { k.sys with rtc := 0 }, est := {} }
  | .timedNet => { k with now := 0, free := 0, sys := { k.sys with rtc := 0 }, net := {} }

/-- ROLE_OUT is asserted only by a powered module whose lifecycle state and whose mirror of it are ACTIVE (01 R22, 02 R38). -/
def State.Inv (s : State) : Prop :=
  s.sys.roleOut = true → s.sys.lifecycle = .active ∧ s.sys.mirror = .active ∧ s.sys.vinLow = false

end Sys2Proof.Machine
end

