-- ==== Sys2Proof/Certificates/Slice0/Obligations.lean ====
section
/-! DEFINITION. What the provers are asked: how the block takes its commands, what every step keeps, what each command does where it
completes, and what it leaves alone. -/

open Sys2Proof Sys2Proof.Machine

/-- The block form: the command at the front of the queue runs on the state with the queue's rest. -/
def Obligations.StepRunsTheFrontCommand : Prop :=
  ∀ (s : State) (c : Instr) (rest : List Instr), s.pending = c :: rest → step s = exec c { s with pending := rest }

/-- On an empty queue one 8 ns cycle of module time passes (14 R409; what ticks the block is the model's choice, log entry 3): the counter
advances by the addend with its 32-bit fraction while the NET region runs; no node owes an answer, and the servo is not LOCKED (a LOCKED one
also watches for Syncs that stay out). -/
def Obligations.IdleStepIsOneCycle : Prop :=
  ∀ s : State, s.pending = [] → s.bist.holdAt = none → s.netOn = true → s.sys.aoLost = false →
    s.sys.checkVisit = false → s.est.auth = [] → s.net.servo ≠ 2 → ∃ t, step s = .next t
      ∧ t.now * 4294967296 + t.frac = s.now * 4294967296 + s.frac + s.net.addend ∧ t.frac < 4294967296
      ∧ t.sys.rtc = s.sys.rtc + 8 ∧ t.wcp = s.wcp ∧ t.rings = s.rings ∧ t.loop = s.loop ∧ t.psi = s.psi ∧ t.safe = s.safe
      ∧ t.out = s.out ∧ t.pending = []

/-- No command stops the block: every error of the manual is a reply, a counter, a record or an event. -/
def Obligations.EveryCommandAnswersANextState : Prop := ∀ (c : Instr) (s : State), ∃ t, exec c s = .next t

/-- What the manual states of the module after reset at first power: BOOT, P0, no slot read, ROLE_OUT low, POR the only reset cause, start
phase 0, no session, no fault, nothing sent. -/
def Obligations.ResetLeaves : Prop :=
  State.reset.sys.lifecycle = .boot ∧ State.reset.sys.power = .p0 ∧ State.reset.sys.roleOut = false ∧ State.reset.sys.resetCause = 1
    ∧ State.reset.sys.startPhase = 0 ∧ State.reset.wcp.sessions = [] ∧ State.reset.fm.raised = [] ∧ State.reset.fm.queue = []
    ∧ State.reset.out = [] ∧ State.reset.pending = [] ∧ (∀ c, c < 4 → (State.reset.ch c).state = 0 ∧ (State.reset.lane c).winner = 15)

/-- The role line's invariant holds at reset. -/
def Obligations.RoleLineHeldAtReset : Prop := State.reset.Inv

/-- 02 R38, 01 R22: in every step, from every state that meets it, ROLE_OUT stays asserted only on a powered module whose lifecycle state
and mirror are ACTIVE. -/
def Obligations.RoleLineHeldByEveryStep : Prop := ∀ s t : State, s.Inv → step s = .next t → t.Inv

/-- 04 Table 4.9, R87, R95, R96, R102, R103, R534: the housekeeping and dictionary reads that pass the checks reply with what they read. -/
def Obligations.HousekeepingRequestsComplete : Prop :=
  (∀ s h, s.passes 0x0000 h false [] → exec (.ping h) s = .next ((s.admitted 0x0000 h []).reply 0x0000 h 0
      (time80Bytes s.now ++ u8 (lifeCode s.sys.lifecycle) ++ u8 (pstateCode s.sys.power))))
  ∧ (∀ s h, s.passes 0x0003 h false [] → exec (.getIdentity h) s = .next ((s.admitted 0x0003 h []).reply 0x0003 h 0
      (padTo 16 Config.serial ++ u8 s.sys.slot ++ u8 (lifeCode s.sys.lifecycle) ++ u8 (s.admitted 0x0003 h []).startPhase ++ [0]
        ++ u32 (s.upd.running 1) ++ u32 (s.upd.running 2) ++ u32 (s.upd.running 3) ++ u32 Config.sproutVersion)))
  ∧ (∀ s h f, s.passes 0x0008 h false [] → s.fm.cur = some f → exec (.faultStatus h) s =
      .next ((s.admitted 0x0008 h []).reply 0x0008 h 0 (u32 f.seq ++ u16 f.code ++ u8 f.sev ++ u8 f.inst ++ u8 s.fm.queue.length ++ [0, 0, 0]
        ++ s.fm.queue.flatMap fun g => u16 g.code ++ u8 g.sev ++ u8 g.inst)))
  ∧ (∀ s h, s.passes 0x0008 h false [] → s.fm.cur = none → exec (.faultStatus h) s =
      .next ((s.admitted 0x0008 h []).reply 0x0008 h 0 (List.replicate 8 0 ++ u8 s.fm.queue.length ++ [0, 0, 0]
        ++ s.fm.queue.flatMap fun g => u16 g.code ++ u8 g.sev ++ u8 g.inst)))
  ∧ (∀ s h id r, s.passes 0x0104 h false [] → PRow.find id.toNat = some r → exec (.paramDescribe h id) s =
      .next ((s.admitted 0x0104 h (leBytes 2 id.toNat)).reply 0x0104 h 0 ((s.admitted 0x0104 h (leBytes 2 id.toNat)).describe r)))
  ∧ (∀ s h sub start, s.passes 0x0105 h false [] → ∃ ids, exec (.paramList h sub start) s =
        .next ((s.admitted 0x0105 h [sub, start]).reply 0x0105 h 0 (u16 ids.length ++ ids.flatMap u16))
      ∧ ids = (ascending ((dictionary.map PRow.id).filter fun i => i / 256 == sub.toNat)).drop start.toNat)
  ∧ (∀ s h es u rs, s.passes 0x0100 h false [] → 1 ≤ es.length → es.length ≤ 64 → u = s.admitted 0x0100 h (getBytes es) →
      rs = es.map (u.getEntry h) → (rs.any fun r => r.2.1 == 0) = true → exec (.paramGet h es) s = .next (u.reply 0x0100 h 0
        (u16 es.length ++ (es.zip rs).flatMap fun p => leBytes 2 p.1.id.toNat ++ [p.1.inst] ++ u8 p.2.1 ++ u16 p.2.2.1 ++ u16 p.2.2.2.length ++ p.2.2.2)))
  ∧ (∀ s h e es u rs, s.passes 0x0100 h false [] → es.length < 64 → u = s.admitted 0x0100 h (getBytes (e :: es)) →
      rs = (e :: es).map (u.getEntry h) → (rs.all fun r => r.2.1 == 0x0103) = true → exec (.paramGet h (e :: es)) s = .next (u.reply 0x0100 h 0x0103
        (u16 0 ++ u32 (e.id.toNat * 256 + e.inst.toNat) ++ u16 (es.length + 1) ++ ((e :: es).zip rs).flatMap fun p =>
          leBytes 2 p.1.id.toNat ++ [p.1.inst] ++ u8 p.2.1 ++ u16 p.2.2.1 ++ u16 p.2.2.2.length ++ p.2.2.2)))
  ∧ (∀ s h mask sev, s.passes 0x0005 h false [] → exec (.eventSubscribe h mask sev) s =
      .next (((s.admitted 0x0005 h (leBytes 4 mask.toNat ++ [sev])).updSess h.session.toNat fun x =>
        { x with mask := mask &&& 0x3FFE, minSev := sev.toNat, subscribed := decide (mask &&& 0x3FFE ≠ 0) }).reply 0x0005 h 0))
  ∧ (∀ s h b, s.passes 0x0006 h false [] → exec (.eventAck h b) s =
      .next (((s.admitted 0x0006 h (leBytes 4 b.toNat)).updSess h.session.toNat fun x => x.ack b.toNat).reply 0x0006 h 0))

/-- 04 R89, R90, R75, R81, R102, R103: sessions open and end, and their time-outs act. -/
def Obligations.SessionCommandsComplete : Prop :=
  (∀ s h q role, s.passes 0x0001 h false [] → roleOfCode q.role.toNat = some role → (role = .update → h.transport = .svc) →
      s.sessionRoom role = true → ∃ t, exec (.sessionOpen h q) s = .next t
        ∧ (∀ subject secret, openSubject q = some subject → Config.ecdhX s.free q.hostKey = some secret → ∃ x ∈ t.wcp.sessions, x.role = role
            ∧ x.transport = h.transport ∧ x.peer = h.peer ∧ x.user = (sha256 subject).take 8 ∧ t.wcp.sessions.length = s.wcp.sessions.length + 1)
        ∧ ((openSubject q = none ∨ Config.ecdhX s.free q.hostKey = none) → t.wcp.sessions.length = s.wcp.sessions.length))
  ∧ (∀ s h, s.passes 0x0002 h false [] → exec (.sessionClose h) s =
        .next (((s.admitted 0x0002 h []).reply 0x0002 h 0).endSession h.session.toNat))
  ∧ (∀ s id x, s.sess id = some x → ¬ (s.updOpen = true ∧ s.upd.session = id) → ∃ t, exec (.sessionIdleTimeout id) s = .next t
        ∧ t.sess id = none ∧ t.now = max s.now (x.lastReq + s.parN 0x30 0 * 1000000000))
  ∧ (∀ s id x, s.sess id = some x → x.collecting ≠ [] → ∃ t y, exec (.eventBatch id) s = .next t ∧ t.sess id = some y
        ∧ y.collecting = [] ∧ y.unacked.length = x.unacked.length + 1 ∧ t.now = max s.now (x.collectSince + 10000000))
  ∧ (∀ s id x, s.sess id = some x → x.unacked ≠ [] → ∃ t, exec (.eventBatchRetry id) s = .next t
        ∧ t.sess id = some { x.retry t.now (s.parN 0x32 0 * 1000000) with
            txSeq := x.txSeq + (x.unacked.filter fun b => b.due t.now (s.parN 0x32 0 * 1000000) && decide (b.resends < 5)).length }
        ∧ ∃ b ∈ x.unacked, t.now = max s.now (b.sent + s.parN 0x32 0 * 1000000))
  ∧ (∀ s id x op q got since, id ≠ 0 → s.sess id = some x → x.split = some (op, q, got, since) → ∃ t, exec (.splitRequestTimeout id) s = .next t
        ∧ t.sess id = some { x with split := none, splitDropped := some (op, q) } ∧ t.now = max s.now (since + 1000000000))
  ∧ (∀ s k r, s.wcp.reasm.find? (fun r => r.key == k) = some r → ∃ t, exec (.reassemblyTimeout k) s = .next t
        ∧ (∀ q ∈ t.wcp.reasm, q.key ≠ k) ∧ t.now = max s.now (r.since + 1000000000))

/-- 04 R74 to R76, R79: packets come in over the host link and UDP and leave over the host link. -/
def Obligations.TransportsComplete : Prop :=
  (∀ s bs w, w = (⟨s.parseHdr .host 0 bs, fieldAt bs 6 2, slice bs 16 (fieldAt bs 8 2)⟩ : Waiting) → bs.length ≤ 4132 →
      s.takesPacket w = true → exec (.hostLinkWrite 1 bs false) s = .next (s.enqueue w))
  ∧ (∀ s, s.wcp.hostRest = [] → s.wcp.hostOut = [] → exec (.hostLinkRead false) s = .next (s.emit (.host [0, 0])))
  ∧ (∀ s p ps b rest, s.wcp.hostRest = [] → s.wcp.hostOut = p :: ps → wirePackets p = b :: rest → ∃ t, exec (.hostLinkRead false) s = .next t
        ∧ t.out = s.out ++ [.host (u16 b.length ++ b)] ∧ t.wcp.hostOut = ps ∧ t.wcp.hostRest = rest)
  ∧ (∀ s b rest, s.wcp.hostRest = b :: rest → ∃ t, exec (.hostLinkRead false) s = .next t ∧ t.out = s.out ++ [.host (u16 b.length ++ b)]
        ∧ t.wcp.hostRest = rest ∧ t.wcp.hostOut = s.wcp.hostOut)
  ∧ (∀ s f d p k bs u w, s.portOn f.port = true → (f.passed = true ∨ (f.fcsOk = true ∧ s.tagsOk f.tags = true)) →
      u = (if f.passed then s else s.inc 0x840 f.port) → u.forUs f.port d = true →
      w = (⟨u.parseHdr (if f.port = 2 then .svc else .plant) p bs, fieldAt bs 6 2, slice bs 16 (fieldAt bs 8 2)⟩ : Waiting) → u.takesPacket w = true →
      exec (.udpDatagram f d 47310 p k 0 false bs) s = .next (u.enqueue w))
  ∧ (∀ s f d p k o bs, s.portOn f.port = true → f.passed = true → s.forUs f.port d = true → s.wcp.reasm = [] → o + bs.length ≤ 4132 → ∃ t,
      exec (.udpDatagram f d 47310 p k o true bs) s = .next t ∧ t.wcp.reasm = [⟨k, [(o, bs)], none, s.now⟩] ∧ t.wcp.queue = s.wcp.queue)
  ∧ (∀ s f d dp p k o m bs, s.portOn f.port = true → f.passed = false → f.fcsOk = false → exec (.udpDatagram f d dp p k o m bs) s =
      .next (s.inc 0x842 f.port))

/-- 04 R96 to R101, 01 R13, 03 R67: writes of parameters, of the write-one-to-clear words, storing, and the commit of a shadow set. -/
def Obligations.DictionaryWritesComplete : Prop :=
  (∀ s h es, s.passes 0x0101 h false [] → 1 ≤ es.length → es.length ≤ 64 →
      (∀ e ∈ es, (s.admitted 0x0101 h (setBytes es)).setStatus h es e = 0) →
      ∃ u : State, exec (.paramSet h es) s = .next (u.reply 0x0101 h 0 (u16 es.length ++ u.setReplies h es (es.map fun _ => 0)))
        ∧ u.wcp = (es.foldl (fun a e => a.writeEntry h e) (s.admitted 0x0101 h (setBytes es))).wcp
        ∧ u.sys = (es.foldl (fun a e => a.writeEntry h e) (s.admitted 0x0101 h (setBytes es))).sys)
  ∧ (∀ s h (inst : Byte) (v : BitVec 32), s.passes 0x0101 h false [] → inst.toNat < 8 →
      (s.admitted 0x0101 h (setBytes [⟨0x012, inst, leBytes 4 v.toNat⟩])).setStatus h [⟨0x012, inst, leBytes 4 v.toNat⟩]
        ⟨0x012, inst, leBytes 4 v.toNat⟩ = 0 →
      ∃ t, exec (.clusterStatusW1c h inst v) s = .next t
        ∧ (t.cluster inst.toNat).unitErr = (s.cluster inst.toNat).unitErr &&& ~~~(v.setWidth 8)
        ∧ (t.cluster inst.toNat).fenced = (s.cluster inst.toNat).fenced ∧ (t.cluster inst.toNat).corr = (s.cluster inst.toNat).corr)
  ∧ (∀ s h (inst : Byte), s.passes 0x0101 h false [] → inst.toNat < 8 →
      (s.admitted 0x0101 h (setBytes [⟨0x013, inst, [1]⟩])).setStatus h [⟨0x013, inst, [1]⟩] ⟨0x013, inst, [1]⟩ = 0 →
      ∃ t, exec (.clusterUnfence h inst 1) s = .next t ∧ (t.cluster inst.toNat).fenced = false ∧ (t.cluster inst.toNat).retest = false
        ∧ (t.cluster inst.toNat).unitErr = (s.cluster inst.toNat).unitErr)
  ∧ (∀ s h (v : BitVec 16), s.passes 0x0101 h false [] →
      (s.admitted 0x0101 h (setBytes [⟨0x017, 0, leBytes 2 v.toNat⟩])).setStatus h [⟨0x017, 0, leBytes 2 v.toNat⟩]
        ⟨0x017, 0, leBytes 2 v.toNat⟩ = 0 →
      ∃ t, exec (.resetCauseW1c h v) s = .next t ∧ t.sys.resetCause = s.sys.resetCause &&& ~~~(v &&& 0x3FF))
  ∧ (∀ s h, s.passes 0x0106 h false [] → s.sys.vinWarn = false → ∃ t c, exec (.paramStore h) s = .next t ∧ t.wcp.stored.head? = some c
        ∧ c.valid = true ∧ c.generation = s.wcp.generation.toNat ∧ t.wcp.stored.length ≤ 2)
  ∧ (∀ s h x, s.passes 0x0102 h false [] → s.wcp.commit = none → (s.admitted 0x0102 h []).sess h.session.toNat = some x → x.shadow ≠ [] →
      firstBad (s.admitted 0x0102 h []).par x.shadow = none → (x.shadow.all fun v => !inBlock v.id) = true →
      ∃ t c, exec (.commit h) s = .next t ∧ t.wcp.commit = some c ∧ c.whole = x.shadow ∧ c.hdr = h ∧ c.pending = false ∧ c.since = s.now
        ∧ t.wcp.generation = s.wcp.generation)
  ∧ (∀ s c, s.wcp.commit = some c → c.entries.all Shadow.immediate = true → ∃ u : State,
      exec .commitApplied s = .next (u.nextCommit s.wcp.commitWait) ∧ u.wcp.commit = none ∧ u.wcp.generation = s.wcp.generation + 1)
  ∧ (∀ s h x, s.passes 0x0103 h false [] → (s.admitted 0x0103 h []).sess h.session.toNat = some x → ∃ t y, exec (.discard h) s = .next t
        ∧ t.sess h.session.toNat = some y ∧ y.shadow = [])

/-- 04 R104, R105: counter snapshots are asked for, latched at their instant, read and released. -/
def Obligations.SnapshotsComplete : Prop :=
  (∀ s h (i : Time80), s.passes 0x0C00 h false [] → h.target = 0 → i.ns.toNat < 1000000000 → s.now + 20000000 ≤ t80 i →
      t80 i ≤ s.now + 60000000000 → s.wcp.snaps.length < 4 → ∃ t x, exec (.snapshotAt h i) s = .next t
        ∧ t.wcp.snaps = s.wcp.snaps ++ [x] ∧ x.num = (s.wcp.lastSnap + 1) % 65536 ∧ x.instant = t80 i ∧ x.latched = false
        ∧ t.wcp.lastSnap = x.num)
  ∧ (∀ s n x, s.wcp.snaps.find? (fun x => decide (x.num = n) && !x.latched) = some x → ∃ t, exec (.snapshotInstant n) s = .next t
        ∧ t.now = max s.now x.instant ∧ ∃ y ∈ t.wcp.snaps, y.num = n ∧ y.latched = true ∧ y.module = s.snapCounters ∧ y.instant = x.instant)
  ∧ (∀ s h n (o : BitVec 32) x, s.passes 0x0C01 h false [] →
      (s.admitted 0x0C01 h (leBytes 2 n.toNat ++ [0] ++ leBytes 4 o.toNat)).wcp.snaps.find? (fun x => decide (x.num = n.toNat) && x.latched) = some x →
      exec (.snapshotRead h n 0 o) s = .next ((s.admitted 0x0C01 h (leBytes 2 n.toNat ++ [0] ++ leBytes 4 o.toNat)).reply 0x0C01 h 0
        (time80Bytes x.instant ++ leBytes 4 x.mask.toNat ++ (x.module.flatMap fun p => counterBytes p.1 p.2).drop o.toNat)))
  ∧ (∀ s h (n : BitVec 16), s.passes 0x0C02 h false [] → (s.wcp.snaps.any fun x => x.num == n.toNat) = true → ∃ t,
      exec (.snapshotRelease h n) s = .next t ∧ t.wcp.snaps = s.wcp.snaps.filter fun x => x.num != n.toNat)

/-- 02 R37, R40, R51, R52, 03 R67 to R69: mating, supply and resets. -/
def Obligations.SupplyAndResetComplete : Prop :=
  (∀ s a b e, s.sys.mated = false → ∃ t, exec (.matingQualified a b e) s = .next t ∧ t.sys.mated = true ∧ t.sys.slot = slotOf a b
      ∧ t.now = s.now + 100000000 ∧ t.sys.lifecycle = s.sys.lifecycle ∧ t.sys.roleOut = s.sys.roleOut)
  ∧ (∀ s ns, s.sys.mated = true → 50000 ≤ ns → ∃ t, exec (.mateDetectOpen ns) s = .next t ∧ t.sys.roleOut = false
      ∧ t.sys.driveEnded = true ∧ t.waits 0x1051 0 3 = true)
  ∧ (∀ s ns, s.sys.mated = true → ns < 50000 → exec (.mateDetectOpen ns) s = .next (s.inc 0x16 0))
  ∧ (∀ s, s.sys.vinWarn = false → ∃ t, exec .powerFailWarning s = .next t ∧ t.sys.vinWarn = true ∧ t.waits 0x1052 0 1 = true)
  ∧ (∀ s, s.twin.storeDue = false → ∃ t, exec .powerFailWarningClear s = .next t ∧ t.sys.vinWarn = false ∧ t.wcp = s.wcp ∧ t.fm = s.fm)
  ∧ (∀ s, s.sys.vinLow = false → ∃ t, exec .brownout s = .next t ∧ t.sys.vinLow = true ∧ t.sys.mirror = s.sys.mirror
      ∧ t.sys.lifecycle = .boot ∧ t.sys.roleOut = false ∧ t.sys.resetCause.getLsbD 1 = true ∧ t.wcp.sessions = [])
  ∧ (∀ s, s.sys.vinLow = true → ∃ t, exec .aoPowerLoss s = .next t ∧ t.sys.aoLost = true ∧ t.sys.resetCause = 0 ∧ t.sys.rtc = 0
      ∧ t.sys.mirror = .boot)
  ∧ (∀ s, s.sys.vinLow = true → ∃ t, exec .vinRestart s = .next t ∧ t.sys.vinLow = false ∧ t.sys.vinWarn = false ∧ t.sys.aoLost = false
      ∧ t.sys.resetCause = (if s.sys.aoLost then 1 else s.sys.resetCause) ∧ t.upd.stage = none)
  ∧ (∀ s ns, 10000 ≤ ns → s.sys.vinLow = false → s.sys.mated = true → ∃ t, exec (.nrstIn ns) s = .next t ∧ t.sys.lifecycle = .boot
      ∧ t.sys.roleOut = false ∧ t.sys.resetCause.getLsbD 2 = true ∧ t.sys.slot = 0)
  ∧ (∀ s, s.sys.vinLow = false → s.sys.mated = true → s.bist.hold = false → s.sys.lifecycle ≠ .boot → ∃ t, exec .appWdogExpiry s = .next t
      ∧ t.sys.lifecycle = .boot ∧ t.sys.roleOut = false ∧ t.sys.resetCause.getLsbD 3 = true)
  ∧ (∀ s h, s.passes 0x0021 h false [] → s.sys.lifecycle ≠ .active → s.sys.lifecycle ≠ .selftest → ∃ t, exec (.reset h) s = .next t
      ∧ t.sys.lifecycle = .boot ∧ t.sys.resetCause.getLsbD 6 = true ∧ t.wcp.sessions = [] ∧ t.sys.roleOut = false)

/-- 01 R11 to R20, R29, Table 1.6: errors of units and clusters, lost dies, crossings, the oscillator and the role lines. -/
def Obligations.UnitErrorsComplete : Prop :=
  (∀ s k, k < 8 → ∃ t, exec (.correctedError k) s = .next t ∧ t.cluster k = { s.cluster k with corr := min 0xFFFF ((s.cluster k).corr + 1) }
      ∧ ∀ j, j < 8 → j ≠ k → t.cluster j = s.cluster j)
  ∧ (∀ s k u, 4 ≤ k → k < 8 → u < 2 → ∃ t, exec (.uncorrectableError k u false) s = .next t ∧ t.cluster k = (s.cluster k).lose u
      ∧ ∀ j, j < 8 → j ≠ k → t.cluster j = s.cluster j)
  ∧ (∀ s k u, k < 4 → u < 8 → (bitsSet 8 ((s.cluster k).lose u).unitsOut.toNat).length < 2 →
      ∃ t, exec (.uncorrectableError k u false) s = .next t ∧ t.cluster k = (s.cluster k).lose u)
  ∧ (∀ s c, c < 4 → (s.sys.lane.get c).fenced = false → ∃ t, exec (.laneLockstep c) s = .next t
      ∧ t.waits 0x1030 c (if s.twinEligible then 3 else 2) = true)
  ∧ (∀ s far how, regionOff far s.sys.power = false → s.regionLost far = false → ∃ t, exec (.crossingTimeout far how) s = .next t
      ∧ t.count 0x14 0 = min 0xFFFFFFFF (s.count 0x14 0 + 1) ∧ t.waits 0x1011 0 1 = true ∧ (how = .read → t.sys.xingAnswer = some (true, 0)))
  ∧ (∀ s far how, regionOff far s.sys.power = true → exec (.crossingTimeout far how) s = .next (s.xingDrop how false))
  ∧ (∀ s k u, k ∈ [8, 9, 10, 11] → u < 2 → ∃ t, exec (.uncorrectableError k u false) s = .next t
      ∧ t.sys.trxErr = s.sys.trxErr ||| BitVec.ofNat 8 (2 ^ (2 * (k - 8) + u)))
  ∧ (∀ s u, u < 24 → ∃ t, exec (.uncorrectableError 12 u false) s = .next t
      ∧ t.sys.fieldErr = s.sys.fieldErr ||| BitVec.ofNat 24 (2 ^ u) ∧ (16 ≤ u → (t.dout (u - 16)).cmd = false))
  ∧ (∀ s u, ∃ t, exec (.uncorrectableError 13 u false) s = .next t ∧ t.waits Config.unitFault 13 1 = true
      ∧ t.recd.fb.chunks.length = s.recd.fb.chunks.length)
  ∧ (∀ s d, ∃ t, exec (.dieReset d) s = .next t ∧ t.waits 0x1012 (dieCode d) (if d = .nonVolatile then 1 else 3) = true
      ∧ (d = .controlSoc → t.sys.lifecycle = .boot ∧ t.sys.resetCause.getLsbD 5 = true ∧ t.sys.roleOut = false)
      ∧ (d = .turnip → t.sys.roleOut = false)
      ∧ (d = .mixedSignal ∨ d = .nonVolatile → t.sys.diesLost.getLsbD (dieCode d) = true ∧ t.sys.resetCause.getLsbD 5 = true))
  ∧ (∀ s, ∃ t, exec .oscillatorFault s = .next t ∧ t.sys.roleOut = false ∧ t.sys.driveEnded = true ∧ t.waits 0x1041 0 3 = true)
  ∧ (∀ s, ∃ t, exec .roleConflict s = .next t ∧ t.sys.roleOut = false ∧ t.sys.driveEnded = true ∧ t.waits 0x1040 0 3 = true)

/-- 03 R62 to R66, R60: the power ladder. -/
def Obligations.PowerLadderComplete : Prop :=
  (∀ s h b p, s.passes 0x0020 h false [] → pstateOf b.toNat = some p → (s.admitted 0x0020 h [b]).judgePower p (h.target == 0) = 0 → p ≠ s.sys.power →
      ¬ (s.sys.power = .p0 ∧ s.sys.lifecycle = .active) → ∃ t, exec (.powerSet h b) s = .next t ∧ t.sys.target = some p
        ∧ t.sys.targetOp = some (opRef 0x0020 h) ∧ t.sys.aborted = false ∧ t.sys.power = s.sys.power)
  ∧ (∀ s h b p, s.passes 0x0020 h false [] → pstateOf b.toNat = some p → (s.admitted 0x0020 h [b]).judgePower p (h.target == 0) = 0 → p ≠ .p0 →
      s.sys.power = .p0 → s.sys.lifecycle = .active → ∃ t, exec (.powerSet h b) s = .next t ∧ t.sys.preparing = true)
  ∧ (∀ s t0, s.sys.target = some t0 → pstateCode s.sys.power < pstateCode t0 → s.mayDescend = true →
      (deeper s.sys.power = .p4 → s.anySoOn = false) → exec .powerStepDone s = .next ((s.enterPower (deeper s.sys.power)).endTransition))
  ∧ (∀ s t0, s.sys.target = some t0 → pstateCode t0 < pstateCode s.sys.power →
      exec .powerStepDone s = .next (((s.advanceTo (s.now + exitNs s.sys.power)).leavePower t0).endTransition))
  ∧ (∀ s c, s.sys.preparing = true → s.sys.power = .p0 → c < 4 → (s.ch c).state ≠ 0 → ∃ t, exec (.powerTransitionAbandoned c) s = .next t
      ∧ t.sys.target = none ∧ t.sys.aborted = true ∧ t.sys.preparing = false ∧ t.sys.power = .p0 ∧ t.waits 0x1060 c 1 = true)
  ∧ (∀ s, s.sys.awaitP0 = true → ∃ t, exec .standbyP0Timeout s = .next t ∧ t.sys.awaitP0 = false ∧ t.waits 0x7010 0 1 = true)
  ∧ (∀ s, s.sys.power ≠ .p0 → ∃ t, exec .wakeIn s = .next t ∧ t.sys.target = some .p0 ∧ t.now = s.now + 10000 ∧ t.sys.power = s.sys.power)
  ∧ (∀ s, time80Ns (s.par 0x1A 0) ≠ 0 → s.now ≤ time80Ns (s.par 0x1A 0) → s.sys.power ≠ .p0 → ∃ t, exec .rtcAlarm s = .next t
      ∧ t.sys.target = some .p0 ∧ t.now = time80Ns (s.par 0x1A 0))
  ∧ (∀ s, s.sys.power = .p3 → ∃ u : State, exec .checkVisit s =
      .next ([0, 1, 2, 3].foldl (fun v r => if (v.ring r).sweeping then v.startSweep r else v) u.wakeNodes)
      ∧ u.sys.power = .p2 ∧ u.sys.checkVisit = true ∧ u.sys.holdOn = false
      ∧ u.sys.lastVisit = max s.now (s.sys.lastVisit + s.parN 0x19 0 * 1000000000))

/-- 03 R70 to R73: start-up after BOOT, and the role. -/
def Obligations.StartUpCompletes : Prop :=
  (∀ s c, s.sys.lifecycle = .boot → s.sys.mated = true → s.sys.vinLow = false → s.bist.hold = false → s.sys.startPhase ≠ 8 →
      s.upd.state = 0 → s.sys.slot ≠ 0 → s.sys.power ≠ .p5 → ∀ d, exec (.imageVerified true c d) s =
        .next ((({ s with sys := { s.sys with imageValid := true, imageConfirmed := c } } : State).loadDict d).checkFrozen.startSelftest))
  ∧ (∀ s, s.sys.lifecycle = .negotiate → s.safe.lockout = false → s.sys.roleIn = true → s.sys.conflict = false → s.standbyEligible = true →
      (s.noDict = false ∨ s.twin.dictIn = true) →
      exec .negotiateRole s = .next s.startStandby)
  ∧ (∀ s, s.sys.lifecycle = .negotiate → s.safe.lockout = false → s.sys.roleIn = false → s.sys.conflict = false → s.activeEligible = true →
      (s.noDict = false ∨ s.twin.dictIn = true) → s.twin.life = some .standby → exec .negotiateRole s = .next s.startActive)
  ∧ (∀ s, s.sys.lifecycle = .negotiate → s.sys.roleIn = false → s.sys.conflict = false → s.safe.lockout = false → s.activeEligible = true →
      s.twin.life = some .negotiate → s.twin.elig = 2 → (s.noDict = false ∨ s.twin.dictIn = true) → s.parN 0x1C 0 = s.twin.prefer →
        exec .negotiateRole s =
        .next (if s.sys.slot = s.twin.prefer then s.startActive else s.startStandby))
  ∧ (∀ s, s.sys.lifecycle = .negotiate → s.sys.roleIn = false → s.sys.conflict = false → s.twin.life = none → s.safe.lockout = false →
      s.activeEligible = true →
      exec .negotiateSilence s =
        .next (((s.advanceTo (s.sys.negSince + 2000000000)).raise 0x7010 0 1).dictDefaults.startActive))
  ∧ (∀ s, 4 ≤ s.sys.startPhase → s.sys.startPhase < 7 → s.mayReady = true → s.upd.state = 0 → s.upd.from_ = none → ∃ t,
      exec .startReady s = .next t ∧ t.sys.startPhase = 7 ∧ t.sys.lifecycle = s.sys.lifecycle ∧ t.upd.state = 0)
  ∧ (∀ s, s.sys.roleIn = true → s.sys.lifecycle ≠ .standby → s.sys.lifecycle ≠ .update → ∃ t, exec .roleInLow s = .next t
      ∧ t.sys.roleIn = false ∧ t.now = s.now + 500 ∧ t.sys.lifecycle = s.sys.lifecycle
      ∧ (s.sys.lifecycle = .active → s.sys.mirror = .active → s.sys.mateOpen = false → s.sys.oscFault = false → s.sys.conflict = false →
          s.sys.driveEnded = false → s.sys.vinLow = false → t.sys.roleOut = true))

/-- 07 R172, R173, R192, R195, R202, Table 7.11: the control period and what the lanes report. -/
def Obligations.ControlPeriodCompletes : Prop :=
  (∀ s m v, s.sys.power = .p0 → s.isActive = true →
      v = ([0, 1, 2, 3].foldl (fun u c => (u.latch c ((s.heardBits m).get c)).ocProcessor c)
        ((s.toBoundary.boundary .channels).boundary .reference)).streamIn ((s.toBoundary.boundary .channels).boundary .reference) (s.heardBits m) →
      exec (.controlBoundary m) s = .next (if v.isActive || v.isStandby then
          [0, 1, 2, 3].foldl (fun u c => u.impBoundary c) ([0, 1, 2, 3].foldl State.runLane v) else v)
        ∧ s.toBoundary.now = max s.now s.nextBoundary ∧ s.toBoundary.loop.base = s.nextBoundary
        ∧ s.toBoundary.loop.period = s.loop.period + 1 ∧ s.toBoundary.loop.open_ = true ∧ s.toBoundary.loop.stamp = ts32 s.nextBoundary
        ∧ (s.pwmRuns = false → s.nextBoundary = (s.now / s.parN 0x300 0 + 1) * s.parN 0x300 0))
  ∧ (∀ s, s.sys.power = .p0 → s.loop.open_ = true → ∃ t, exec (.releaseInstant 0) s = .next t ∧ t.loop.open_ = false
      ∧ t.now = max s.now (s.loop.base + s.parN 0x300 0 * 6 / 10)
      ∧ ∀ c, c < 4 → (s.ch c).state = 2 → (s.ch c).freeze = none →
          (t.lane c).shadow = if (s.lane c).hasDuty then some (s.lane c).duty else none)
  ∧ (∀ s, s.sys.power = .p0 → ∃ u : State, exec .applicationInstant s = .next (([0, 1, 2, 3].foldl State.applyCh u).openWaiting.handAt)
      ∧ u.loop = { s.loop with passed := true } ∧ u.psi = s.psi ∧ u.sys.roleOut = s.sys.roleOut
      ∧ u.now = max s.now (s.loop.base + 500))
  ∧ (∀ s c t0, (s.lane c).staleSince = some t0 → ∃ t, exec (.slowStaleTrip c) s = .next t ∧ t.waits 0x3013 c 2 = true
      ∧ t.now = max s.now (t0 + s.parN 0x34A c * 1000000) ∧ t.loop = s.loop)
  ∧ (∀ s c, 5000 ≤ (s.lane c).satRun → exec (.dutySaturated c) s = .next (s.raise 0x3020 c 0 (u32 (s.lane c).satRun)))
  ∧ (∀ s c, c < 4 → 1 ≤ (s.lane c).winner → (s.lane c).winner ≤ 7 → 100000000 ≤ (s.lane c).winRun * s.parN 0x300 0 →
      (s.lane c).limitUp ≠ some (s.lane c).winner → ∃ t, exec (.limitActive c) s = .next t ∧ (t.lane c).limitUp = some (s.lane c).winner)
  ∧ (∀ s h m u, s.passes 0x0340 h false [] → u = s.admitted 0x0340 h [m] →
      exec (.loopStatus h m) s = .next (u.reply 0x0340 h 0 ((bitsSet 4 m.toNat).flatMap fun c => u.loop.records.get c)))

/-- 08 R231 to R236, R224: starts, stops, clearing a faulted channel, loopback and status. -/
def Obligations.RunStateCommandsComplete : Prop :=
  (∀ s h (m : Byte) c, s.passes 0x0300 h true [0x20 + c, 0x34 + c, 0x40 + c] → bitsSet 4 m.toNat = [c] →
      (s.admitted 0x0300 h [m]).startJudge h c = none → ∃ t, exec (.chStart h m) s = .next t ∧ (t.ch c).state = 1
        ∧ (t.lane c).shadow = none ∧ (t.lane c).applied = none ∧ t.psi.starts = s.psi.starts ++ [⟨h, [c], [(c, none)]⟩])
  ∧ (∀ s h (m : Byte) c, s.passes 0x0301 h false [] → bitsSet 4 m.toNat = [c] → (s.ch c).state = 2 → ∃ t,
      exec (.chStopRamp h m) s = .next t ∧ (t.ch c).state = 3 ∧ (t.gen c).tgt = 0
        ∧ t.psi.stops = s.psi.stops ++ [⟨opRef 0x0301 h, [c], [], [], false⟩])
  ∧ (∀ s h (m : Byte) c, s.passes 0x0301 h false [] → bitsSet 4 m.toNat = [c] → (s.ch c).state = 2 → ∃ t,
      exec (.chStopImmediate h m) s = .next t ∧ t.ch c = { s.ch c with stopNow := true })
  ∧ (∀ s c, (s.ch c).state = 3 → 10 ≤ (s.ch c).lowRun → exec (.stopComplete c) s = .next (s.stopChannel c))
  ∧ (∀ s c t0, (s.ch c).zeroAt = some t0 → (s.ch c).state = 3 → exec (.stopTimeout c) s =
      .next ((((s.advanceTo (t0 + s.parN 0x38F c * 1000000)).stopStatus c 1).endChannel c 0 0x0105 0).raise 0x3120 c 0))
  ∧ (∀ s h (m : Byte) c, s.passes 0x0302 h false [] → bitsSet 4 m.toNat = [c] → (s.ch c).state = 4 → (s.ch c).cause = false →
      s.closed c = false → ∃ t, exec (.psiFaultClear h m) s = .next t ∧ (t.ch c).state = 0 ∧ (t.ch c).hwDisable = false
        ∧ (t.ch c).oc = false)
  ∧ (∀ s h (m : Byte), s.passes 0x0303 h false ((bitsSet 4 m.toNat).map fun c => 0x40 + c) → s.isActive = false → s.psi.loopback = none →
      ∃ t, exec (.loopbackRun h m) s = .next t ∧ t.psi.loopback = some (opRef 0x0303 h, bitsSet 4 m.toNat)
        ∧ t.bist.running = s.bist.running ++ (bitsSet 4 m.toNat).map fun c => (0x40 + c, s.now + 100000000))
  ∧ (∀ s p op cs, s.psi.loopback = some (op, cs) → ∃ t, exec (.loopbackDue p) s = .next t ∧ t.psi.loopback = none)
  ∧ (∀ s p v, s.psi.loopback = none → s.isStandby = true → v = s.advanceTo (s.psi.loopAt + s.parN 0x390 0 * 1000000000) →
      exec (.loopbackDue p) s =
        .next ([0, 1, 2, 3].foldl (fun u c => u.noteLoopback c (fourPassed p c)) { v with psi := { v.psi with loopAt := v.now } }))
  ∧ (∀ s h m u, s.passes 0x0304 h false [] → u = s.admitted 0x0304 h [m] →
      exec (.psiStatus h m) s = .next (u.reply 0x0304 h 0 ((bitsSet 4 m.toNat).flatMap fun c => u.psiRecord c)))

/-- 08 R207, R221 to R227, 12 R344: every detector disables its channel and raises its fault. -/
def Obligations.DetectorsComplete : Prop :=
  (∀ s c, c < 4 → ∃ t, exec (.dsClockLoss c) s = .next t ∧ (t.ch c).state = 4 ∧ (t.ch c).hwDisable = true ∧ (t.ch c).clkLoss = true
      ∧ t.waits 0x3103 c 2 = true)
  ∧ (∀ s c, c < 4 → 3 ≤ (s.ch c).clkBad → ∃ t, exec (.dsClockRange c) s = .next t ∧ (t.ch c).state = 4 ∧ (t.ch c).clkRange = true
      ∧ t.waits 0x3104 c 2 = true)
  ∧ (∀ s c l, c < 4 → l < 3 → ∃ t, exec (.dsStuck c l) s = .next t ∧ (t.ch c).state = 4 ∧ (t.ch c).hwDisable = true
      ∧ (t.ch c).stuck = (s.ch c).stuck ||| BitVec.ofNat 3 (2 ^ l) ∧ (t.ch c).stuckAt = some s.now ∧ t.waits 0x3101 c 2 = true)
  ∧ (∀ s c l, c < 4 → l < 3 → s.parN 0x389 c ≤ (s.ch c).same.getD l 0 → (s.ch c).frozen.getLsbD l = false → (s.ch c).freeze = none →
      ∃ t, exec (.dsFrozen c l) s = .next t ∧ (t.ch c).frozen = (s.ch c).frozen ||| BitVec.ofNat 3 (2 ^ l)
        ∧ (t.ch c).freeze = some (if s.loop.passed then 1 else 2, s.loop.stamp, l) ∧ (t.ch c).state = (s.ch c).state)
  ∧ (∀ s c, c < 4 → ∃ t, exec (.turnipDsStuck c) s = .next t ∧ (t.ch c).state = 4 ∧ (t.ch c).turnipStuck = true
      ∧ (t.ch c).gateTurnipShut = true ∧ t.waits 0x3109 c 2 = true)
  ∧ (∀ s c n, c < 4 → s.parN 0x38D c ≤ n → ∃ t, exec (.gateDriverFault c n) s = .next t ∧ (t.ch c).state = 4 ∧ (t.ch c).hwDisable = true
      ∧ (t.ch c).gdf = true ∧ t.waits 0x3105 c 2 = true)
  ∧ (∀ s c n, n < s.parN 0x38D c → exec (.gateDriverFault c n) s = .next s)
  ∧ (∀ s c rb, c < 4 → s.isActive = true → (s.ch c).driven = true → threeBad rb (1000 * s.parN 0x391 c) = true → ∃ t,
      exec (.readbackActive c rb) s = .next t ∧ (t.ch c).state = 4 ∧ (t.ch c).hwDisable = true ∧ (t.ch c).rbActive = true ∧ t.waits 0x3106 c 2 = true)
  ∧ (∀ s c rb, c < 4 → s.isStandby = true → (s.ch c).state = 2 → threeBad rb (1000 * s.parN 0x391 c + 2000 * s.parN 0x300 0 / 32768) = true → ∃ t,
      exec (.readbackShadow c rb) s = .next t ∧ (t.ch c).rbShadow = true ∧ (t.ch c).state = 2 ∧ t.waits 0x3107 c 1 = true)
  ∧ (∀ a b c : Readback, ∀ tol, threeBad [a, b, c] tol = (readbackBad a tol && readbackBad b tol && readbackBad c tol))
  ∧ (∀ s c bits, c < 4 → s.ocTrips c bits = true → ∃ u : State, exec (.overcurrent c bits) s = .next (u.tripFault 0x6011 c [c])
      ∧ (u.ch c).oc = true ∧ u.safe = s.safe)
  ∧ (∀ s c bits, s.ocTrips c bits = false → exec (.overcurrent c bits) s = .next s)
  ∧ (∀ s c f, c < 4 → s.ocSlow c f = true → ∃ t, exec (.ocTimeExceeded c f) s = .next t ∧ (t.ch c).state = 4 ∧ (t.ch c).gateTurnipShut = true
      ∧ t.waits 0x6017 c 2 = true)

/-- 09 R243 to R249, R266: targets, emergency stops, status and the position tick. -/
def Obligations.ProfilesComplete : Prop :=
  (∀ s h (g : Byte) (w : BitVec 64) u v, s.passes 0x0400 h false [] → u = s.admitted 0x0400 h (g :: [0, 0, 0] ++ leBytes 8 w.toNat) →
      g.toNat < 4 → (s.gen g.toNat).mode ∈ [.run, .stop] → (s.ch g.toNat).state ≠ 3 → u.targetOf g.toNat w.toNat = some v →
      ∃ t, exec (.profTarget h g w) s = .next t ∧ (t.gen g.toNat).tgt = v ∧ (t.gen g.toNat).x = (s.gen g.toNat).x
        ∧ (t.gen g.toNat).v = (s.gen g.toNat).v)
  ∧ (∀ s h (g : Byte) (w : BitVec 64) a u v, s.passes 0x0400 h false [] → u = s.admitted 0x0400 h (g :: [0, 0, 0] ++ leBytes 8 w.toNat) →
      g.toNat = a + 4 → a < 4 → (s.gen g.toNat).mode ∈ [.run, .stop] → (s.axis a).fire = false → (s.axis a).posValid = true →
      (s.axis a).home = none → (s.axis a).cal = none → u.targetOf g.toNat w.toNat = some v →
      ∃ t, exec (.profTarget h g w) s = .next t ∧ (t.gen g.toNat).tgt = v ∧ (t.gen g.toNat).x = (s.gen g.toNat).x
        ∧ (t.axis a).stalled = false)
  ∧ (∀ s h (m : Byte) g, s.passes 0x0401 h false [] → bitsSet 8 m.toNat = [g] → (4 ≤ g → (s.axis (g - 4)).fire = false) →
      (s.gen g).atRest = false → ∃ t, exec (.profEstop h m) s = .next t ∧ (t.gen g).mode = .emergency
        ∧ (t.gen g).tgt = (if g < 4 then 0 else (s.gen g).tgt))
  ∧ (∀ s h m u, s.passes 0x0402 h false [] → u = s.admitted 0x0402 h [m] → exec (.profStatus h m) s =
      .next (u.reply 0x0402 h 0 ((bitsSet 8 m.toNat).flatMap fun g => u32 (u.profStatus g) ++ sBytes 8 (u.genOut g (u.gen g).x)
        ++ sBytes 4 (u.speedOut g) ++ sBytes 8 (u.genOut g (u.gen g).tgt))))
  ∧ (∀ s, ∃ u : State, exec .positionTick s = .next ((List.range 4).foldl State.axisTick (u.boundary .axes))
      ∧ u.now = (s.now / 100000 + 1) * 100000 ∧ u.prof = { s.prof with tick := u.now, axisNew := true } ∧ u.loop = s.loop)

/-- 09 R251 to R264: the axes, their runs, diagnostics and SF4's time limit. -/
def Obligations.AxesComplete : Prop :=
  (∀ s h (m e : Byte) a, s.passes 0x0403 h (decide (bitsSet 4 (m &&& e).toNat ≠ [])) [] → bitsSet 4 m.toNat = [a] →
      (s.axis a).fire = false → (e.getLsbD a = true → 19000 ≤ s.actMv) → ∃ t,
      exec (.axisEnable h m e) s = .next t ∧ (t.axis a).energised = e.getLsbD a)
  ∧ (∀ s h (a d : Byte) u, s.passes 0x0404 h true [] → u = s.admitted 0x0404 h [a, d] → a.toNat < 4 → d.toNat < 2 →
      (s.axis a.toNat).fire = false → (s.axis a.toNat).energised = true → (s.axis a.toNat).home = none → (s.axis a.toNat).cal = none →
      (s.gen (a.toNat + 4)).mode = .run → ¬ (u.parN 0x44A a.toNat = 255 ∧ u.homeSlow a.toNat = true) → ∃ t,
      exec (.axisHome h a d) s = .next t ∧ (t.axis a.toNat).home = some ⟨opRef 0x0404 h, decide (d = 0), (s.gen (a.toNat + 4)).x, false⟩
        ∧ (t.gen (a.toNat + 4)).tgt = farTarget (d = 0))
  ∧ (∀ s h (a : Byte) (w : BitVec 64), s.passes 0x0405 h false [] → a.toNat < 4 → -(2 ^ 47) ≤ toSigned 64 w.toNat →
      toSigned 64 w.toNat < 2 ^ 47 → (s.axis a.toNat).fire = false → (s.gen (a.toNat + 4)).atRest = true → ∃ t,
      exec (.axisSetPos h a w) s = .next t ∧ (t.axis a.toNat).posValid = true
        ∧ (t.gen (a.toNat + 4)).x = toSigned 64 w.toNat * fpOne ∧ (t.gen (a.toNat + 4)).tgt = toSigned 64 w.toNat * fpOne)
  ∧ (∀ s h (a : Byte) (w : BitVec 32) u v, s.passes 0x0406 h true [] → u = s.admitted 0x0406 h (a :: [0, 0, 0] ++ leBytes 4 w.toNat) →
      f32Val w.toNat = some v → a.toNat < 4 → 2 * u.parF 0x448 a.toNat ≤ v → (s.axis a.toNat).fire = false →
      (s.axis a.toNat).energised = true → (s.gen (a.toNat + 4)).atRest = true → (s.axis a.toNat).home = none → (s.axis a.toNat).cal = none →
      ∃ t, exec (.axisCalibrate h a w) s = .next t
        ∧ (t.axis a.toNat).cal = some ⟨opRef 0x0406 h, perTick v (1 / 10000) 1, none, 0, 0⟩)
  ∧ (∀ s h m u, s.passes 0x0407 h false [] → u = s.admitted 0x0407 h [m] → exec (.axisStatus h m) s =
      .next (u.reply 0x0407 h 0 ((bitsSet 4 m.toNat).flatMap fun a =>
        u32 (u.actStatus a) ++ sBytes 2 (u.setPoints a).1 ++ sBytes 2 (u.setPoints a).2)))
  ∧ (∀ s a, a < 4 → (s.axis a).energised = true → (s.axis a).fire = false → (s.gen (a + 4)).atRest = true → ∃ t,
      exec (.holdDelayExpiry a) s = .next t ∧ t.axis a = { s.axis a with holding := true }
      ∧ t.now = max s.now ((s.axis a).restAt + s.parN 0x442 a * 1000000))
  ∧ (∀ s a e, a < 4 → s.bridgeOn a = true → (s.gen (a + 4)).v ≠ 0 → s.stallArmed a = true →
      exec (.loadAngleSample a e false) s = .next ((s.updAxis a fun x => { x with slip := x.slip - 1 }).inc 0x453 a))
  ∧ (∀ s a (e : Int), a < 4 → s.bridgeOn a = true → (s.gen (a + 4)).v ≠ 0 → (s.axis a).cal = none → s.stallArmed a = true →
      exec (.loadAngleSample a e true) s = .next (s.reading a ((e : ℚ) / 1000 / (s.parF 0x445 a * s.kStepsPerS a))))
  ∧ (∀ s a, a < 4 → ∃ t, exec (.bridgeOvercurrent a) s = .next t ∧ (t.axis a).oc = true ∧ (t.axis a).energised = false
      ∧ t.waits 0x4102 a 1 = true)
  ∧ (∀ s a p, a < 4 → ∃ t, exec (.coilOpen a p) s = .next t ∧ (t.axis a).energised = false ∧ t.waits 0x4103 a 1 = true
      ∧ (if p = 0 then (t.axis a).openA = true else (t.axis a).openB = true))
  ∧ (∀ s mv, mv < 17000 → ∃ t, exec (.actSupplyLow mv) s = .next t ∧ t.prof.supplyMv = mv ∧ t.waits 0x4101 0 1 = true
      ∧ ∀ a, a < 4 → (t.axis a).energised = false)
  ∧ (∀ s mv, 17000 ≤ mv → exec (.actSupplyLow mv) s = .next { s with prof := { s.prof with supplyMv := mv } })
  ∧ (∀ s l, 2 ≤ l → s.prof.hot < l → ∃ t, exec (.bridgeHot l) s = .next t ∧ t.prof.hot = 2 ∧ t.waits 0x4104 0 1 = true
      ∧ ∀ a, a < 4 → (t.axis a).energised = false)
  ∧ (∀ s a t0, a < 4 → s.prof.fireSince = some t0 → (s.axis a).fire = true → ¬ ((s.gen (a + 4)).atRest = true
      ∧ (s.gen (a + 4)).x = (s.gen (a + 4)).tgt) →
      exec (.sf4Incomplete a) s = .next ((s.advanceTo (t0 + s.parN 0x621 0 * 1000000000)).raise 0x4120 a 2))

/-- 10 R269 to R272, R301, R302, R305: the estimator's cycle, its saving and its readings. -/
def Obligations.EstimatorComplete : Prop :=
  (∀ s, s.estRuns = true → s.est.busy = true → s.est.overrun = false → ∃ t, exec .estimatorCycle s = .next t ∧ t.est.overrun = true
      ∧ t.est.cell = s.est.cell ∧ t.waits 0x5001 0 1 = true)
  ∧ (∀ s, s.estRuns = true → s.est.busy = false → s.est.skip = false → ∃ u : State,
      exec .estimatorCycle s = .next ((List.range 4).foldl State.ringCycle u) ∧ u.est.busy = true ∧ u.est.tc = u.now ∧ u.est.work = [])
  ∧ (∀ s, s.est.busy = true → ∃ u : State,
      exec (.estCycleComplete false) s = .next ((List.range 4).foldl (fun v r => (v.anchorRequest r).health r) u).cycleSent)
  ∧ (∀ s b, s.estRuns = true → s.est.busy = false → s.sys.vinWarn = false → s.sys.diesLost.getLsbD 4 = false →
      ∃ t, exec (.estimatorPersist b) s = .next t ∧ t.est.lastSave = max s.now (s.est.lastSave + s.parN 0x538 0 * 1000000000)
        ∧ ∀ r, r < 4 → (t.strE r).mram.length ≤ 2
          ∧ (b.getLsbD r = false → (t.strE r).mram.tail = (s.strE r).mram.take 1)
          ∧ (b.getLsbD r = true → (t.strE r).mram = (s.strE r).mram.take 1 ∧ t.waits 0x5040 r 1 = true))
  ∧ (∀ s h (r n : Byte) u, s.passes 0x0500 h false [] → u = s.admitted 0x0500 h [r, n] → s.nodeOk r.toNat n.toNat = true →
      exec (.estCells h r n) s = .next (u.reply 0x0500 h 0 (u32 u.est.cycle ++ leBytes 4 (ts32 (u.est.done.getD 0)).toNat
        ++ (List.range 16).flatMap fun j => u.estCellBytes (cellKey r.toNat n.toNat j))))
  ∧ (∀ s h m u, s.passes 0x0501 h false [] → u = s.admitted 0x0501 h [m] → exec (.estString h m) s =
      .next (u.reply 0x0501 h 0 ((bitsSet 4 m.toNat).flatMap fun r => u32 (u.stringStatus r) ++ padTo 52 (u.strE r).figs)))
  ∧ (∀ s h (r n : Byte) (m : BitVec 16) j, s.passes 0x0502 h false [] → s.nodeOk r.toNat n.toNat = true → n.toNat ≠ 255 → j < 16 →
      m.getLsbD j = true → ∃ t, exec (.estReset h r n m) s = .next t ∧ (t.cellE (cellKey r.toNat n.toNat j)).resetDue = true)

/-- 11 R309 to R334: injection runs and their windows, the precursor, and the readings of tables, health and identity. -/
def Obligations.ImpedanceComplete : Prop :=
  (∀ s h (m : Byte) rs, s.passes 0x0510 h false [] → rs = bitsSet 4 m.toNat → rs ≠ [] →
      rs.all (s.admitted 0x0510 h [m]).impReady = true → ∃ t, exec (.impRun h m) s = .next t
        ∧ t.est.runs = s.est.runs ++ [⟨opRef 0x0510 h, rs, rs, false⟩] ∧ ∀ r ∈ rs, (t.imp r).run = 1 ∧ (t.imp r).reqAt = none)
  ∧ (∀ s h m u, s.passes 0x0511 h false [] → u = s.admitted 0x0511 h [m] → exec (.impStop h m) s =
      .next (((bitsSet 4 m.toNat).foldl (fun v r => v.abandonRun r 0x5052) u).reply 0x0511 h 0))
  ∧ (∀ s r, r < 4 → s.isActive = true → s.parN 0x586 r ≠ 0 → ∃ u : State, exec (.impScheduleDue r) s = .next (u.impDue r)
      ∧ (u.imp r).due = true ∧ u.now = max s.now ((s.imp r).lastEnd + s.parN 0x586 r * 3600000000000))
  ∧ (∀ s r i w v, r < 4 → i = s.imp r → i.run = 2 → i.reqAt.isSome = true → s.windowLen ≠ 0 → s.windowLen ≤ i.win.length →
      w = i.win.drop (i.win.length - s.windowLen) → v = s.setImp r { i with win := i.win.take (i.win.length - s.windowLen) } →
      exec (.impWindowEnd r) s = .next ((s.nodeCells r).foldl (fun u k => u.joinWindow r w (v.windowCurrent r w) k) v))
  ∧ (∀ s r, (s.imp r).win.length < s.windowLen → exec (.impWindowEnd r) s = .next s)
  ∧ (∀ s r t0, r < 4 → (s.imp r).run = 2 → (s.imp r).reqAt = some t0 → ∃ u : State, exec (.impRunEnd r) s =
      .next ((u.runEnded r false).syncNext r))
  ∧ (∀ s r k t0, r < 4 → (s.imp r).precursor = [k] → (s.imp r).cool.find (k / 4) = some t0 → ∃ t, exec (.precursorCleared r) s = .next t
      ∧ (t.imp r).precursor = [] ∧ t.now = max s.now (t0 + 600000000000) ∧ (t.fm.known.any fun e => e.1 == 0x5061 && e.2.1 == k / 16) = true)
  ∧ (∀ s h (r n c : Byte) u, s.passes 0x0512 h false [] → u = s.admitted 0x0512 h [r, n, c] → s.nodeOk r.toNat n.toNat = true →
      c.toNat < 16 → exec (.impTable h r n c) s =
        .next (u.reply 0x0512 h 0 (padTo 256 (s.cellE (cellKey r.toNat n.toNat c.toNat)).bins)))
  ∧ (∀ s h (r n : Byte), s.passes 0x0513 h false [] → s.nodeOk r.toNat n.toNat = true → ∃ body, exec (.impHealth h r n) s =
      .next ((s.admitted 0x0513 h [r, n]).reply 0x0513 h 0 body) ∧ body.length = 160)
  ∧ (∀ s h (r n : Byte) u a, s.passes 0x0520 h false [] → u = s.admitted 0x0520 h [r, n] → s.nodeOk r.toNat n.toNat = true →
      a = s.auth (nodeKey r.toNat n.toNat) → exec (.nodeIdentity h r n) s = .next (u.reply 0x0520 h 0
        (padTo 16 a.serial ++ u32 (s.nodeAuth (nodeKey r.toNat n.toNat)) ++ leBytes 4 a.nvgen.toNat ++ padTo 8 a.certId)))
  ∧ (∀ s h (r n : Byte), s.passes 0x0521 h false [] → s.nodeOk r.toNat n.toNat = true → n.toNat ≠ 255 → ∃ t,
      exec (.nodeReauth h r n) s = .next t ∧ (t.auth (nodeKey r.toNat n.toNat)).op = some (opRef 0x0521 h)
        ∧ (t.auth (nodeKey r.toNat n.toNat)).challenge = some (s.now, padTo 32 (Config.freeBytes (s.admitted 0x0521 h [r, n]).free)))
  ∧ (∀ s h (m : Byte) r u, s.passes 0x0522 h false [] → u = s.admitted 0x0522 h [m] → bitsSet 4 m.toNat = [r] →
      exec (.impNodeSync h m) s = .next ((u.reply 0x0522 h 1).syncStart r (some (opRef 0x0522 h))))
  ∧ (∀ s k x, k < 112 → s.isActive = true → s.nodeOk (k / 28) (k % 28 + 1) = true → ∃ t, exec (.authChallengeDue k x) s = .next t
      ∧ (t.auth k).challenge = some (max s.now (s.challengeDue k), padTo 32 x))
  ∧ (∀ s k t0 x d, (s.auth k).challenge = some (t0, x) → (s.auth k).op = none → ∃ u : State, exec (.authAnswer k (some d)) s =
      .next (if u.answerGenuine (u.auth k) x d then u.authAccept k d
        else (u.authReject k false false).updAuth k fun a => { a with epoch := d.epoch }) ∧ (u.auth k).challenge = none ∧ (u.auth k).last = s.now)
  ∧ (∀ s k t0 x, (s.auth k).challenge = some (t0, x) → (s.auth k).op = none → ∃ u : State, exec (.authAnswer k none) s =
      .next (u.authReject k true false) ∧ (u.auth k).challenge = none ∧ u.now = max s.now (t0 + 500000000))
  ∧ (∀ s r, r < 4 → s.isActive = true → exec (.nodeSyncDue r) s =
      .next ((s.advanceTo ((s.imp r).syncAt + s.parN 0x5A2 0 * 3600000000000)).syncStart r none))

/-- 12 R339 to R357, R338, 16 R455: demands, pulses and faults of inputs and outputs. -/
def Obligations.SafetyDemandsComplete : Prop :=
  (∀ s, ∃ u : State, exec .safetyHeartbeatLoss s = .next ((u.resetSoc 4).raise 0x6041 0 3)
      ∧ u = (({ s with safe := { s.safe with lockout := true } } : State).demandEnds.endDrive).markFaulty 0x6041 0
      ∧ (0x6041, 0) ∈ u.safe.faulty ∧ u.safe.lockout = true ∧ u.sys.roleOut = false)
  ∧ (∀ s, ∃ u : State, exec .safetyLockstep s = .next (u.moduleLock 0x6042 0) ∧ (0x6042, 0) ∈ u.safe.faulty)
  ∧ (∀ s, ∃ u : State, exec .crossDemandTimeout s = .next (u.moduleLock 0x6043 0) ∧ (0x6043, 0) ∈ u.safe.faulty)
  ∧ (∀ s n f, exec (.crossDemand .stringTrip n f) s = .next ((bitsSet 4 n).foldl (fun u r =>
      (if (u.str r).tripped then u else u.inc 0x690 0).latchOne f r 0x6010 (fun l => { l with tripped := true }) true) s)
    ∧ exec (.crossDemand .runStop n f) s =
      .next ((bitsSet 4 n).foldl (fun u r => u.latchOne f r 0x6020 (fun l => { l with runStop := true }) false) s)
    ∧ exec (.crossDemand .stringLockout n f) s =
      .next ((bitsSet 4 n).foldl (fun u r => u.latchOne f r 0x6040 (fun l => { l with lockout := true }) true) s))
  ∧ (∀ s n f, s.isActive = true → ∃ u : State, exec (.crossDemand .moduleLockout n f) s =
      .next (if u.isActive || u.isStandby || u.sys.lifecycle == .negotiate then u.setLifecycle .safe else u)
        ∧ u = ({ s with safe := { s.safe with lockout := true } } : State).demandEnds.endDrive)
  ∧ (∀ s n f, ∃ u : State, exec (.crossDemand .fire n f) s = .next u.startSf4
      ∧ ∀ k, k < 8 → (u.so k).opening = .clamp ∧ (if f then (u.so k).p = false else (u.so k).t = false))
  ∧ (∀ s r t0 cause, r < 4 → (s.str r).doubt = some (t0, cause) → ∃ u : State, u.now = max s.now (t0 + 50000000) ∧ (u.str r).doubt = none
      ∧ exec (.channelDiscrepancy r) s = .next (if u.causeSeen r cause then u else u.lockFault 0x6040 r [r]))
  ∧ (∀ s k b, k < 4 → (s.siFunc k).1 = 1 → s.fieldOn = true → ∃ u : State, exec (.siDemand k b) s = .next u.sf3
      ∧ u.now = max s.now ((s.si k).since.getD s.now + s.parN 0x619 0 * 1000000) ∧ (if b then (u.si k).turnip = true else (u.si k).core = true))
  ∧ (∀ s k b, k < 4 → (s.siFunc k).1 = 2 → s.fieldOn = true → ∃ u : State, exec (.siDemand k b) s =
      .next ((bitsSet 4 (s.siFunc k).2.2).foldl State.sf1 u) ∧ u.safe.str = s.safe.str)
  ∧ (∀ s k b, k < 4 → (s.siFunc k).1 = 3 → s.fieldOn = true → ∃ u : State, exec (.siDemand k b) s =
      .next ((bitsSet 4 (s.siFunc k).2.2).foldl State.sf2 u) ∧ u.safe.str = s.safe.str)
  ∧ (∀ s k t0, k < 4 → (s.siFunc k).1 ≠ 0 → (s.si k).apart = some t0 → ∃ u : State, exec (.siDiscrepancy k) s =
      .next (u.lockFault 0x6060 k (s.siStrings k)) ∧ (u.si k).disagree = true ∧ u.now = max s.now (t0 + s.parN 0x61A 0 * 1000000))
  ∧ (∀ s i, i < 8 → (s.siFunc (i / 2)).1 ≠ 0 → (s.siFunc (i / 2)).2.1.testBit 1 = false → s.fieldOn = true → s.permit = true →
      ∀ us, us ≤ 250 → ∃ t, exec (.siTestPulse i (some us) false) s = .next t ∧ (0x6061, i) ∉ t.safe.faulty
        ∧ t.out = s.out ++ [.sit i (sitAt s.now i)]
        ∧ (if i % 2 = 0 then (t.si (i / 2)).failsA = 0 else (t.si (i / 2)).failsB = 0))
  ∧ (∀ s o w a b, o < 8 → w < 2 → s.fieldOn = true → s.soOn o = true → pulsePass true w a = true → pulsePass true w b = true →
      exec (.offPulse o w a b) s =
      .next ((((s.advanceTo (pulseAt s.now o w)).inc 0x691 0)).clearFaulty 0x6050 (2 * o + w)))
  ∧ (∀ s o w a b, o < 8 → w < 2 → s.fieldOn = true → s.soOn o = false → (s.isActive || s.isStandby) = true → pulsePass false w a = true →
      pulsePass false w b = true → exec (.onPulse o w a b) s =
      .next ((((s.advanceTo (pulseAt s.now o w)).inc 0x691 0)).clearFaulty 0x6050 (2 * o + w)))
  ∧ (∀ s o, o < 8 → s.soOn o = true → exec (.soOverload o) s = .next ((s.openSo .clamp o).lockFault 0x6051 o [(s.soMap o).1]))
  ∧ (∀ s o, o < 8 → s.soOn o = true → exec (.soOpenLoad o) s = .next (s.lockFault 0x6052 o [(s.soMap o).1]))
  ∧ (∀ s w, ∃ t, exec (.safetySwitchFrameLoss w) s = .next t ∧ (∀ n, n < 8 → t.soOn n = false ∧ (t.so n).opening = .clamp)
      ∧ (s.sys.holdOn = true → t.sys.holdReg = 0 ∧ ∀ n, n < 8 → (t.so n).p = false))
  ∧ (∀ s o, o < 8 → s.soOn o = false → (s.so o).opening ≠ .clamp → ∃ t, exec (.freewheelToClamp o) s = .next t
      ∧ t.so o = { s.so o with opening := .clamp } ∧ ∀ n, n < 8 → n ≠ o → t.so n = s.so n)

/-- 12 R350, R358, R361, R362, R364, R371: strings open and close, resets, the safety block and the commissioning test. -/
def Obligations.SafetyRequestsComplete : Prop :=
  (∀ s h (m : Byte) r, s.passes 0x0310 h true [0x01, 0x02, 0x50] → bitsSet 4 m.toNat = [r] → (s.str r).closed = false →
      (s.str r).closing = 0 → (s.admitted 0x0310 h [m]).closeOk r = true → ∃ t, exec (.stringClose h m) s = .next t
        ∧ (t.str r).closing = 1 ∧ (t.str r).closeAt = s.now ∧ (∀ n ∈ s.outs r 2, t.soOn n = true)
        ∧ t.safe.closes = s.safe.closes ++ [⟨opRef 0x0310 h, [r], [], [], 0⟩])
  ∧ (∀ s r, r < 4 → (s.str r).closing = 1 → ∃ u : State, exec (.prechargeElapsed r) s = .next (u.closeEnd r none)
      ∧ (u.str r).closed = true ∧ (u.str r).closing = 0 ∧ (∀ n ∈ s.outs r 1, u.soOn n = true) ∧ (∀ n ∈ s.outs r 2, u.soOn n = false)
      ∧ u.now = max s.now ((s.str r).closeAt + s.parN 0x611 0 * 1000000) + 100000000)
  ∧ (∀ s h (m : Byte) u, s.passes 0x0311 h false [] → u = s.admitted 0x0311 h [m, 0] →
      ((bitsSet 4 m.toNat).all fun r => (s.ch r).state == 0) = true → exec (.stringOpenStopped h m) s =
        .next (((bitsSet 4 m.toNat).foldl (fun v r => v.openString r .clamp 0x0105) u).reply 0x0311 h 0))
  ∧ (∀ s h m u, s.passes 0x0311 h false [] → u = s.admitted 0x0311 h [m, 1] → exec (.stringOpenRunning h m) s =
      .next (((bitsSet 4 m.toNat).foldl State.openRunning u).reply 0x0311 h 0))
  ∧ (∀ s h u, s.passes 0x0600 h false [] → u = s.admitted 0x0600 h [] → s.safe.mismatch = false → exec (.safetyStatus h) s =
      .next (u.reply 0x0600 h 0 (u32 u.safeStatus ++ u32 u.blockCrc ++ u32 u.blockCrc ++ [0, 1, 2, 3].flatMap (fun r => u32 (u.latchWord r))
        ++ [0, 1, 2, 3].flatMap fun k => u8 (u.safe.wsf.get k).state ++ [0] ++ leBytes 2 (u.safe.wsf.get k).last.toNat)))
  ∧ (∀ s h (c m : Byte) u, s.passes 0x0601 h false [] → u = s.admitted 0x0601 h [c, m] → c.toNat ≤ 2 → (c.toNat ≠ 2 → h.target = 0) →
      s.nothingLatched c.toNat m.toNat = false → s.safe.reset = none → exec (.safetyReset h c m) s =
        .next ((((({ u.reply 0x0601 h 1 with safe := { s.safe with reset := some ⟨opRef 0x0601 h, c.toNat, m.toNat, s.now, none⟩ } } :
          State)).clearTrips (resetStrings c.toNat m.toNat)).retest c.toNat m.toNat).tryArm))
  ∧ (∀ s a c, s.safe.reset = some a → a.armed = none →
      (s.advanceTo (a.since + 2000000000)).firstCause a.scope a.mask = some c → ∃ t, exec .resetArmTimeout s = .next t
        ∧ t.safe.reset = none ∧ t.safe.str = s.safe.str ∧ t.now = max s.now (a.since + 2000000000))
  ∧ (∀ s i lo sk a t0, i = s.parN 0x61B 0 → 100 ≤ lo → sk ≤ 20 → s.safe.reset = some a → a.armed = some t0 → s.now ≤ t0 + 10000000000 →
      exec (.resetInputEdge i lo sk) s = .next s.completeReset.beginCt)
  ∧ (∀ s a t0, s.safe.reset = some a → a.armed = some t0 → ∃ t, exec .resetLapsed s = .next t ∧ t.safe.reset = none
      ∧ t.safe.str = s.safe.str ∧ t.now = max s.now (t0 + 10000000000))
  ∧ (∀ s h (c : BitVec 32), s.passes 0x0602 h false [] → s.safe.mismatch = false →
      c.toNat = (s.admitted 0x0602 h (leBytes 4 c.toNat)).blockCrc → ∃ t, exec (.confirmSafetyConfig h c) s = .next t
        ∧ t.safe = { s.safe with confirmed := true })
  ∧ (∀ s h (c : Byte), s.passes 0x0603 h true [] → c.toNat < 4 → s.safe.ct = none → s.safe.lockout = false → (s.str c.toNat).locked = false →
      ∃ t, exec (.commissioningTestStart h c) s = .next t ∧ t.safe.ct = some ⟨opRef 0x0603 h, c.toNat, s.now, none⟩
        ∧ t.safe.str = s.safe.str)
  ∧ (∀ s h (c : Byte) x u, s.passes 0x0603 h false [] → u = s.admitted 0x0603 h [1, c] → s.safe.ct = some x → x.ch = c.toNat →
      exec (.commissioningTestStop h c) s = .next (u.endCt.reply 0x0603 h 0))
  ∧ (∀ s c x b, s.safe.ct = some x → x.ch = c → x.begun = some b → exec (.ctTimeExpiry c) s =
      .next ((s.advanceTo (b + s.parN 0x632 0 * 1000000000)).endCt))
  ∧ (∀ s k, s.wcp.commit = some k → (k.entries.any fun v => inBlock v.id) = true → s.halted 0x600 0 = true → ∃ u : State,
      exec .safeBlockApply s = .next ((((u.writeThresholds 0).writeThresholds 1).writeThresholds 2).writeThresholds 3)
        ∧ u.safe.confirmed = false ∧ u.safe.mismatch = false)

/-- 12 R365 to R368, R539: the Welfer Safe Frame. -/
def Obligations.SafeFramesComplete : Prop :=
  (∀ s tr p b k, s.isActive = true → k ∈ s.consumed →
      ((s.consumed.filter fun k => (s.wsfEntry k).transport == tr && (s.wsfEntry k).peer == p).find?
        fun k => wsfWhole tr b && wsfCrcOk (s.wsfEntry k).id b) = some k → exec (.wsfPdu tr p b) s = .next (s.wsfJudge k b))
  ∧ (∀ s k, k < 4 → s.isActive = true → (s.wsfSt k).started = true → (s.wsfEntry k).kind = 1 → (s.wsfSt k).state = 1 → ∃ u : State,
      exec (.wsfWatchdog k) s = .next (u.useData k 0) ∧ (u.wsfSt k).state = 2 ∧ (u.wsfSt k).good = 0 ∧ u.waits 0x6070 k 1 = true)
  ∧ (∀ s k, k < 4 → s.isActive = true → (s.wsfEntry k).kind = 2 → (s.wsfEntry k).period ≠ 0 → (s.wsfSt k).startSent = true → ∃ u : State,
      exec (.wsfProduce k) s = .next (u.wsfSend k 0 u.moduleStatus) ∧ u.safe = s.safe ∧ k * 250000 ≤ u.now)

/-- 05 R136: the ring requests that pass the checks. -/
def Obligations.RingRequestsComplete : Prop :=
  (∀ s h (m : Byte) go, s.passes 0x0200 h false [] →
      go = ((bitsSet 4 m.toNat).filter fun r => decide (s.parN 0x201 r ≠ 0) && !(s.ring r).sweeping) → go ≠ [] →
      (go.all fun r => (s.ring r).mode == 0 && s.contactsOpen r) = true →
      ∃ u : State, exec (.ringStart h m) s = .next (go.foldl State.beginEnum u)
        ∧ u.rings.ops = s.rings.ops ++ [⟨opRef 0x0200 h, bitsSet 4 m.toNat, go, false⟩] ∧ u.rings.ring = s.rings.ring ∧ u.rings.node = s.rings.node)
  ∧ (∀ s h (m : Byte), s.passes 0x0201 h false [] → ((bitsSet 4 m.toNat).all s.contactsOpen) = true →
      exec (.ringStop h m) s = .next (((bitsSet 4 m.toNat).foldl State.stopRing (s.admitted 0x0201 h [m])).reply 0x0201 h 0))
  ∧ (∀ s h (r : Byte), s.passes 0x0202 h false [] → r.toNat < 4 → (s.ring r.toNat).mode = 0 → s.contactsOpen r.toNat = true →
      s.parN 0x201 r.toNat ≠ 0 → ∃ t, exec (.ringEnumerate h r) s = .next t ∧ (t.ring r.toNat).mode = 1 ∧ (t.ring r.toNat).enumStage = 1)
  ∧ (∀ s h (r n src : Byte), s.passes 0x0203 h false [] → s.nodeOk r.toNat n.toNat = true → src.toNat ≤ 4 → 2 ≤ (s.ring r.toNat).mode →
      s.canSend r.toNat ((s.ring r.toNat).port n.toNat) = true → exec (.nodeCounters h r n src) s =
        .next ((s.admitted 0x0203 h [r, n, src]).sendCmd r.toNat n.toNat 0x13 [src] (some h) src.toNat))
  ∧ (∀ s h (r n : Byte), s.passes 0x0204 h false [] → s.nodeOk r.toNat n.toNat = true → 2 ≤ (s.ring r.toNat).mode →
      s.canSend r.toNat ((s.ring r.toNat).port n.toNat) = true →
        exec (.nodePorts h r n) s = .next ((s.admitted 0x0204 h [r, n]).sendCmd r.toNat n.toNat 0x12 [] (some h) 0))

/-- 05 R116 to R126: enumeration, delay measurement, and the life of a sweep. -/
def Obligations.EnumerationAndSweepsComplete : Prop :=
  (∀ s r, r < 4 → (s.ring r).enumStage = 1 → ∃ u : State, exec (.enumResult r (s.parN 0x201 r) none false) s =
        .next (((u.serviceNodes r).sendProbes r).sendTable r)
      ∧ (u.ring r).mode = 2 ∧ (u.ring r).n = s.parN 0x201 r ∧ (u.ring r).enumerated = true ∧ (u.ring r).brk = none)
  ∧ (∀ s r k, r < 4 → (s.ring r).enumStage = 1 → k < s.parN 0x201 r → ∃ u : State,
        exec (.enumResult r k (some (s.parN 0x201 r - k)) false) s = .next (((u.serviceNodes r).sendProbes r).sendTable r)
      ∧ (u.ring r).mode = 3 ∧ (u.ring r).brk = some (k, k + 1) ∧ u.waits 0x2010 r 1 = true)
  ∧ (∀ s r k, r < 4 → (s.ring r).enumStage = 1 → k ≠ s.parN 0x201 r → ∃ u : State,
        exec (.enumResult r k none false) s = .next (u.enumEnded r true false)
      ∧ (u.ring r).mode = 4 ∧ (u.ring r).turnipSet = 0 ∧ u.waits 0x2001 r 2 = true)
  ∧ (∀ s r a b, r < 4 → (s.ring r).enumStage = 2 → (s.ring r).brk = none → a ≤ b → b ≤ a + 200000 → ∃ u : State,
        exec (.delayMeasured r a b) s = .next (((u.broadcast r 0x05 (u32 ((a + b) / 2) ++ u16 (s.parN 0x202 r)
            ++ leBytes 2 ((s.ring r).sweep + 1).toNat ++ u8 0)).sendTable r).enumEnded r false false)
        ∧ (u.ring r).sweeping = true ∧ (u.ring r).enumStage = 0 ∧ (u.ring r).loopPs = (a + b) / 2 ∧ u.out = s.out)
  ∧ (∀ s r a b, r < 4 → (s.ring r).enumStage = 2 → (s.ring r).brk.isSome = true → ∃ u : State, exec (.delayMeasured r a b) s = .next u
        ∧ (u.ring r).sweeping = true ∧ (u.ring r).loopPs = a)
  ∧ (∀ s r a b, r < 4 → (s.ring r).enumStage = 2 → (s.ring r).brk = none → a + 200000 < b → ∃ u : State,
        exec (.delayMeasured r a b) s = .next (u.enumEnded r true false) ∧ (u.ring r).sweeping = false ∧ (u.ring r).mode = 4
        ∧ u.waits 0x2002 r 2 = true)
  ∧ (∀ s r, r < 4 → (s.ring r).sweeping = true → s.sweepNs r ≠ 0 → (s.sys.power = .p0 ∨ s.sys.power = .p1 ∨ s.sys.power = .p2
      ∧ s.sys.checkVisit = false) → ∃ t,
        exec (.sweepSync r) s = .next t ∧ (t.ring r).collecting = true ∧ (t.ring r).held = [] ∧ (t.ring r).attempts = []
        ∧ (t.ring r).depart = t.now)
  ∧ (∀ (s : State) r (rx : Rx), (s.arrived r rx).count (if Rx.ok rx then 0x210 else 0x211) r
        = min 0xFFFFFFFF (s.count (if Rx.ok rx then 0x210 else 0x211) r + 1))
  ∧ (∀ s r a (rx : Rx) p, r < 4 → s.hears r rx.q = true → Rx.ok rx = false → exec (.sweepData r a rx p) s = .next (s.arrived r rx))
  ∧ (∀ s r (rx : Rx) p, r < 4 → s.hears r rx.q = true → Rx.ok rx = true → (s.ring r).mode = 2 →
        exec (.sweepData r 0xFE rx p) s = .next ((s.arrived r rx).raise 0x2041 r 1))
  ∧ (∀ s r (a : Byte) (rx : Rx) p, r < 4 → s.hears r rx.q = true → Rx.ok rx = true → a ≠ 0xFE → (s.ring r).sweeping = true →
      s.nodeOk r a.toNat = true →
        exec (.sweepData r a rx p) s = .next ((s.arrived r rx).frameIn r a.toNat p))
  ∧ (∀ s r n idle, s.nodeOk r n = true → s.isActive = true → (s.ring r).collecting = true → (s.ring r).held.find n = none →
        (s.ring r).givenUp = [] → (s.ring r).attempts = [] → s.framesOn = true → s.ringLine r ((s.ring r).port n) = some idle →
        ∃ t, exec (.readRetained r n .notHeld) s = .next t ∧ t.now = max s.now (s.askAt r n)
        ∧ (t.ring r).givenUp = [n] ∧ t.count 0x215 r = min 0xFFFFFFFF (s.count 0x215 r + 1)
        ∧ t.out = s.out ++ [.ring r ((s.ring r).port n) idle
            (ringFrame 0x10 n ((s.ring r).tag + 1).toNat (leBytes 2 (s.ring r).sweep.toNat))])
  ∧ (∀ s r, r < 4 → (s.ring r).collecting = true → (s.ring r).whole = true → exec (.sweepFinalised r) s = .next ((s.finalise r).visitOver))
  ∧ (∀ s r, r < 4 → (s.ring r).collecting = true → (s.ring r).whole = false → exec (.sweepFinalised r) s =
        .next (((s.advanceTo (s.sampleAt r (s.ring r).sweep + s.parN 0x203 r * 1000000)).finalise r).visitOver))

/-- 05 R109, R114, R127 to R133: link events, breaks, the heartbeat watch, ordered-set errors and node replies. -/
def Obligations.RingEventsComplete : Prop :=
  (∀ s r (a : Byte) (rx : Rx) p w, r < 4 → s.hears r rx.q = true → Rx.ok rx = true → a ≠ 0xFE → s.nodeOk r a.toNat = true → p < 2 →
      2 ≤ (s.ring r).mode →
      exec (.linkEvent r a rx p 0 w) s = .next (((s.arrived r rx).statusSeen r a.toNat w).lockLost r a.toNat p)
      ∧ exec (.linkEvent r a rx p 1 w) s = .next (((s.arrived r rx).statusSeen r a.toNat w).lockStable r a.toNat p))
  ∧ (∀ s r q, r < 4 → s.isActive = true → (s.ring r).txSince + 200000 ≤ s.now → (s.ring r).mode = 2 → (s.ring r).lost = [] → ∃ t,
      exec (.masterPortLockLoss r q) s = .next t ∧ (t.ring r).mode = 3
        ∧ (t.ring r).brk = some (if q then ((s.ring r).n, (s.ring r).n + 1) else (0, 1)) ∧ t.waits 0x2010 r 1 = true
        ∧ t.count 0x216 r = min 0xFFFFFFFF (s.count 0x216 r + 1))
  ∧ (∀ s r n m, r < 4 → (s.ring r).asked = [(n, m)] → (s.ring r).mode = 2 → ∃ t, exec (.portStatusTimeout r n) s = .next t
        ∧ t.now = s.now + 200000 ∧ (t.ring r).mode = 3 ∧ (t.ring r).brk = some (min n m, max n m) ∧ t.waits 0x2010 r 1 = true)
  ∧ (∀ s r n, r < 4 → n ≠ 0 → (s.ring r).turnipSet.getLsbD (n - 1) = true → (s.ring r).hbLost.getLsbD (n - 1) = false →
      s.sys.power ≠ .p4 → s.sys.power ≠ .p5 →
      ∃ u v w : State, v = (if s.sys.power = .p3 then u.turnipTrip r 0x2030 (nodeKey r n) else u.tripFault 0x2030 (nodeKey r n) [r]).dropHold r
        ∧ w = v.updStr r (fun x => { x with doubt := some (v.now, some (nodeKey r n)) })
        ∧ exec (.heartbeatLoss r n) s = .next (if w.sys.power = .p0 then w else w.wake)
        ∧ u.now = max s.now ((s.ring r).hbAt.at n s.now + 512000)
        ∧ (u.ring r).hbSeen = (s.ring r).hbSeen &&& ~~~(BitVec.ofNat 32 (2 ^ (n - 1)))
        ∧ (u.ring r).hbLost = (s.ring r).hbLost ||| BitVec.ofNat 32 (2 ^ (n - 1)))
  ∧ (∀ s r e k, r < 4 → k = ((s.ring r).osetAt.filter fun t => decide (s.now < t + 1000000000)).length → 64 < k + e → ∃ t,
      exec (.osetErrorRate r e) s = .next t ∧ t.waits 0x2031 r 1 = true ∧ t.count 0x217 r = min 0xFFFFFFFF (s.count 0x217 r + e)
        ∧ (t.ring r).osetAt = [])
  ∧ (∀ s r e k, r < 4 → k = ((s.ring r).osetAt.filter fun t => decide (s.now < t + 1000000000)).length → k + e ≤ 64 → ∃ t,
      exec (.osetErrorRate r e) s = .next t ∧ t.fm = s.fm ∧ t.rings = s.rings ∧ t.count 0x217 r = min 0xFFFFFFFF (s.count 0x217 r + e))
  ∧ (∀ s v r (a : Byte) (rx : Rx) st d q i, r < 4 → s.hears r rx.q = true → Rx.ok rx = true → a ≠ 0xFE → v = s.arrived r rx →
      (v.ring r).reqs.findIdx? (fun q => q.meets a.toNat rx (v.ring r).cut.isSome) = some i → (v.ring r).reqs[i]? = some q →
      exec (.nodeReply r a rx st d) s = .next ((v.setRing r { v.ring r with reqs := (v.ring r).reqs.eraseIdx i }).nodeAnswer r q st d))
  ∧ (∀ (s : State) r q st (d : Bytes), q.type = 0x1E → q.arg ≠ 3 → s.nodeAnswer r q st d = s.loaderReply r q st)
  ∧ (∀ (s : State) r q (d : Bytes), q.type = 0x1E → q.arg = 3 → ∃ t, s.nodeAnswer r q 0 d = t
        ∧ t.upd.nodeVer = s.upd.nodeVer.set (nodeKey r q.node) (fieldAt d 0 4)
        ∧ (fieldAt d 0 4 ≠ s.upd.running 4 → t.waits 0xD041 (nodeKey r q.node) 2 = true))
  ∧ (∀ (s : State) r q (d : Bytes) h, q.type = 0x18 → q.hdr = some h → ∃ u : State,
      s.nodeAnswer r q 0 d = u.reply 0x0211 h 0 (padTo 2 d) ∧ (u.node (nodeKey r q.node)).balMask = BitVec.ofNat 16 (fieldAt d 0 2))

/-- 06 R151 to R167: cell readings, balancing, open-wire tests and comparators. -/
def Obligations.CellCommandsComplete : Prop :=
  (∀ s h (r n : Byte) p, s.passes 0x0210 h false [] → s.nodeOk r.toNat n.toNat = true → (s.node (nodeKey r.toNat n.toNat)).last = some p →
      ∃ body, exec (.cellValues h r n) s = .next ((s.admitted 0x0210 h [r, n]).reply 0x0210 h 0
          (leBytes 2 p.sweep.toNat ++ leBytes 4 (s.node (nodeKey r.toNat n.toNat)).stamp.toNat ++ leBytes 2 p.status.toNat
            ++ leBytes 2 (s.node (nodeKey r.toNat n.toNat)).unmeasured.toNat ++ leBytes 4 (s.node (nodeKey r.toNat n.toNat)).wireFault.toNat
            ++ body)) ∧ body.length = 104)
  ∧ (∀ s h (r n : Byte) pl, s.passes 0x0211 h false [] → s.nodeOk r.toNat n.toNat = true → pl.length = 10 → fieldAt pl 0 1 ≤ 3 →
      (fieldAt pl 0 1 = 2 → 1 ≤ fieldAt pl 6 2 ∧ fieldAt pl 6 2 ≤ 600) → s.parN 0x280 r.toNat = 0 → (s.ring r.toNat).sweeping = true →
      s.canSend r.toNat ((s.ring r.toNat).port n.toNat) = true → exec (.balanceManual h r n pl) s =
        .next ((s.admitted 0x0211 h ([r, n] ++ pl)).sendCmd r.toNat n.toNat 0x18 pl (some h) (fieldAt pl 0 1)))
  ∧ (∀ s h (r n t : Byte), s.passes 0x0212 h false [] → s.nodeOk r.toNat n.toNat = true → t.toNat ≤ 16 → (s.ring r.toNat).sweeping = true →
      ∃ u : State, exec (.openWireRun h r n t) s = .next ((u.reply 0x0212 h 1).owStart (nodeKey r.toNat n.toNat))
        ∧ (u.node (nodeKey r.toNat n.toNat)).owWait
            = (s.node (nodeKey r.toNat n.toNat)).owWait ++ [⟨t.toNat, 0, some (opRef 0x0212 h), 0⟩])
  ∧ (∀ s h (r n t : Byte), s.passes 0x0213 h false [] → s.nodeOk r.toNat n.toNat = true → t.toNat ≤ 16 →
      (s.node (nodeKey r.toNat n.toNat)).wireFault.getLsbD t.toNat = true →
      ((s.node (nodeKey r.toNat n.toNat)).owPass.find t.toNat).isSome = true → ∃ v, exec (.wireFaultClear h r n t) s = .next v
        ∧ (v.node (nodeKey r.toNat n.toNat)).wireFault
            = (s.node (nodeKey r.toNat n.toNat)).wireFault &&& ~~~(BitVec.ofNat 17 (2 ^ t.toNat)))
  ∧ (∀ s h (r n c : Byte), s.passes 0x0214 h false [] → s.nodeOk r.toNat n.toNat = true → c.toNat < 16 → (s.ring r.toNat).sweeping = true →
      (s.ring r.toNat).cmpTest = none → (s.node (nodeKey r.toNat n.toNat)).cmpTestable c.toNat = true →
      ∃ u : State, exec (.cmpTestRun h r n c) s = .next ((u.reply 0x0214 h 1).cmpNext r.toNat)
        ∧ (u.ring r.toNat).cmpTest = some (n.toNat, [(c.toNat, false), (c.toNat, true)], some (opRef 0x0214 h), 0, 0))
  ∧ (∀ s v r n t k (lo hi : Int), s.nodeOk r n = true → (s.node (nodeKey r n)).ow = some t → s.canSend r ((s.ring r).port n) = true →
      v = s.command r n 0x1A [1, BitVec.ofNat 8 t.tap] → exec (.openWireResult r n 4 lo hi) s = .next v
        ∧ (k ≠ 3 → k ≠ 4 → exec (.openWireResult r n k lo hi) s = .next (v.owJudge r n t lo hi)))
  ∧ (∀ (s : State) r n t (lo hi : Int), 1 ≤ t.tap → t.tap ≤ 15 →
      lo < -(s.parN 0x297 r : Int) → (s.parN 0x297 r : Int) < hi → s.owJudge r n t lo hi =
        (((s.updNode (nodeKey r n) fun x => { x with ow := none }).wireOpen r n t.tap).owDone t 1).owStart (nodeKey r n))
  ∧ (∀ (s : State) r n t (lo hi : Int), |lo| ≤ 60 → |hi| ≤ 60 → 60 ≤ s.parN 0x297 r → s.owJudge r n t lo hi =
        (((s.updNode (nodeKey r n) fun x => { x with ow := none }).wirePass r n t).owDone t 0).owStart (nodeKey r n))
  ∧ (∀ s r q f, r < 4 → s.isActive = true → (s.ring r).sweeping = true → s.framesOn = true → s.rotNext r (s.ring r).cmpRot = some q →
      ∃ u : State, exec (.cmpTestDue r f) s = .next ((u.sendCmd r (rotTest q).1 0x1B
          ([3, BitVec.ofNat 8 ((rotTest q).2.1 + if (rotTest q).2.2 then 128 else 0)] ++ List.replicate 10 0) none 5).cmpOutcome
            r (rotTest q).1 (rotTest q).2.1 (rotTest q).2.2 f)
        ∧ u.now = max s.now ((s.ring r).cmpAt + s.rotNs r) ∧ (u.ring r).cmpRot = q + 1 ∧ u.rings.node = s.rings.node)
  ∧ (∀ s r o u hy, r < 4 → s.isActive = true → (s.ring r).sweeping = true → (s.ring r).n ≠ 0 →
      s.canSend r ((s.ring r).port ((s.ring r).cmpNode % (s.ring r).n + 1)) = true → ∃ v : State,
      exec (.cmpReadback r o u hy) s = .next (v.judgeThresholds r ((s.ring r).cmpNode % (s.ring r).n + 1) (o, u, hy))
        ∧ v.now = (s.now / 1000000000 + 1) * 1000000000)
  ∧ (∀ s r, r < 4 → s.isActive = true → (s.ring r).sweeping = true → s.framesOn = true → s.parN 0x280 r = 1 → exec (.balancePolicyTick r) s =
      .next ((s.advanceTo ((s.now / 60000000000 + 1) * 60000000000)).balBySoc r))
  ∧ (∀ s r t, r < 4 → s.isActive = true → (s.ring r).sweeping = true → s.framesOn = true → s.parN 0x280 r = 2 → (s.ring r).restSince = some t →
      exec (.balancePolicyTick r) s = .next ((s.advanceTo (t + 600000000000)).balByVolt r))
/-- 13 R374, R377, Table 13.1: how what is sent over Shallot is framed — type, class by type, one sequence per class counting from 0, length,
data, CRC-32C — and what a frame whose CRC is wrong does: it is counted, and its command has no other effect on the pair. -/
def shallotFraming : Prop :=
  (∀ t q d, shallotBytes t q d = u8 t ++ u8 (if t < 16 then 0 else 1) ++ u16 q ++ u16 d.length ++ u16 0 ++ d
      ++ u32 (crc32c (u8 t ++ u8 (if t < 16 then 0 else 1) ++ u16 q ++ u16 d.length ++ u16 0 ++ d)))
  ∧ (∀ (s : State) u b x, s.shallotSent = shallotFrames 0 0 s.out ∧ shallotFrames u b (x :: s.out) = (match x with
      | .shallot t d => if t < 16 then shallotBytes t u d :: shallotFrames ((u + 1) % 65536) b s.out
        else shallotBytes t b d :: shallotFrames u ((b + 1) % 65536) s.out
      | _ => shallotFrames u b s.out))
  ∧ (∀ s f l p st ts k, f.crcOk = false → exec (.shallotKeepalive f l p st ts k) s = .next s.badLink)
  ∧ (∀ s f, f.crcOk = false → (∀ c, exec (.loopCopy f c) s = .next s.badLink) ∧ (∀ c, exec (.axisCopy f c) s = .next s.badLink)
      ∧ (∀ m, exec (.safetyCopy f m) s = .next s.badLink) ∧ (∀ m, exec (.shallotControl f m) s = .next s.badLink)
      ∧ (∀ m, exec (.sweepFinal f m) s = .next s.badLink) ∧ (∀ m, exec (.estDigest f m) s = .next s.badLink)
      ∧ (∀ m, exec (.shallotImage f m) s = .next s.badLink))
  ∧ (∀ s : State, s.badLink.count 0x724 0 = min 0xFFFFFFFF (s.count 0x724 0 + 1) ∧ s.badLink.twin.heardAt = s.twin.heardAt)


/-- 13 R374, R377, R375 to R384, R396, 04 R91, R92, R100, 09 R250, 12 R368, 20 R526: frames over Shallot, how they are framed and what each does
(Table 13.1). -/
def Obligations.ShallotFramesComplete : Prop :=
  (∀ s f (l : Lifecycle) p st ts k, f.crcOk = true → s.isActive = false →
    ∃ u : State, exec (.shallotKeepalive f l p st ts k) s = .next u.followTwin.joinTwin
      ∧ u.twin.life = some l ∧ u.twin.power = p ∧ u.twin.rstate = st ∧ u.twin.heardAt = s.now
      ∧ u.sys = { s.sys with roleIn := s.sys.roleIn || (l == .active && !s.sys.roleOut) })
  ∧ (∀ s, s.sys.lifecycle = .standby → s.twin.life = some .active → s.upd.tx = none → s.upd.stage = none → s.wcp.commit = none → ∃ t,
      exec .keepaliveDue s = .next t ∧ t.out = s.out ++ [.shallot 0x01 (u8 3 ++ u8 (pstateCode s.sys.power) ++ u32 s.twinState
        ++ leBytes 4 (ts32 s.now).toNat ++ u8 s.net.servo)] ∧ t.sys = s.sys)
  ∧ (∀ s f c, f.crcOk = true → s.isStandby = true → c.period ≠ s.loop.period → c.flags.getLsbD 0 = false → ∃ u : State,
      exec (.loopCopy f c) s = .next u.copyValues ∧ u.twin.copy = some (c, s.now) ∧ u.twin.copyNew = false
        ∧ u.wcp.generation = c.generation ∧ u.loop = s.loop)
  ∧ (∀ s f c, f.crcOk = true → s.isStandby = true → c.period = s.loop.period → c.flags.getLsbD 0 = false → ∃ u : State,
      exec (.loopCopy f c) s = .next u.copyValues ∧ u.twin.copy = some (c, s.now) ∧ u.twin.copyNew = true
        ∧ u.twin.run = ((s.heard false f).compareLoop c).twin.run)
  ∧ (∀ s f rs, f.crcOk = true → s.isStandby = true → ∃ t, exec (.axisCopy f rs) s = .next t ∧ ∀ a, a < 4 → (t.gen (a + 4)).x = (rs.get a).x
      ∧ (t.gen (a + 4)).v = (rs.get a).v ∧ (t.gen (a + 4)).tgt = (rs.get a).t ∧ (t.axis a).energised = (rs.get a).status.getLsbD 0)
  ∧ (∀ s f m, f.crcOk = true → s.isStandby = true → ∃ t, exec (.safetyCopy f m) s = .next t ∧ t.twin.safety = some (m, s.now)
      ∧ ∀ r, r < 4 → (t.str r).closed = (m.latch.get r).getLsbD 3
        ∧ ((m.latch.get r).getLsbD 0 = true → (t.str r).core.tripped = true ∧ (t.str r).turnip.tripped = true))
  ∧ (∀ s f n t80v, f.crcOk = true → s.isStandby = true → ∃ t, exec (.shallotControl f (.snapshot n t80v)) s = .next t
      ∧ t.wcp.snaps = ({ num := n.toNat, instant := t80 t80v, session := 0 } :: s.wcp.snaps).take 4)
  ∧ (∀ s f, f.crcOk = true → ∃ t, exec (.shallotControl f .p0Report) s = .next t ∧ t.sys = { s.sys with twinP0 := true, awaitP0 := false })
  ∧ (∀ s f x n, f.crcOk = true → s.isStandby = true → s.net.twinSet = false → ∃ t, exec (.shallotControl f (.time x n)) s = .next t
      ∧ t.now = t80 x + n ∧ t.net.twinSet = true)
  ∧ (∀ s f m, f.crcOk = true → s.isStandby = true → m.ring < 4 → m.sweep = (s.ring m.ring).sweep → m.stamp = ts32 (s.sampleAt m.ring m.sweep) →
      (s.heard true f).sweepNeed m ≠ 0 → ∃ t, exec (.sweepFinal f m) s = .next t
        ∧ t.exch m.ring = some ⟨m.sweep, some (m.rxMask.toNat, m.stamp), (s.heard true f).sweepNeed m⟩
        ∧ t.out = s.out ++ [.shallot 0x11 (u8 m.ring ++ [0] ++ leBytes 2 m.sweep.toNat ++ u32 ((s.heard true f).sweepNeed m))])
  ∧ (∀ s f r w n, f.crcOk = true → s.isActive = true → r < 4 → exec (.sweepNeed f r w n) s = .next { (s.heard true f) with
      out := s.out ++ (bitsSet 28 n.toNat).filterMap fun i => ((s.ring r).frameOf w (i + 1)).map fun p =>
        (.shallot 0x12 (u8 r ++ u8 (i + 1) ++ frameBytes (i + 1) p ++ u16 (crc16 (frameBytes (i + 1) p))) : Out) })
  ∧ (∀ s f r n p x, f.crcOk = true → s.isStandby = true → r < 4 → s.exch r = some x → x.sweep = (s.ring r).sweep → n ≠ 0 →
      x.need.testBit (n - 1) = true →
      (s.ring r).collecting = true → ∃ u : State, exec (.sweepFrame f r x.sweep n p) s = .next (u.closeExch r)
        ∧ u.exch r = some { x with need := x.need - 2 ^ (n - 1) } ∧ (u.ring r).held.find n = some p)
  ∧ (∀ s f c r part off d, f.crcOk = true → s.isStandby = true → c < 2 ^ 32 → r < 4 → part < 3 → off < 65536 → s.twin.estCopyCycle = some c → ∃ t,
      exec (.estCopy f (c + r * 2 ^ 32 + part * 2 ^ 40 + off * 2 ^ 48) d) s = .next t
        ∧ (t.twin.estCopy : SMap Bytes).at (4 * r + part) [] = putAt ((s.twin.estCopy : SMap Bytes).at (4 * r + part) []) (off * 8) d
        ∧ t.est = s.est)
  ∧ (∀ s f m, f.crcOk = true → s.isStandby = true → ∃ u : State, exec (.estDigest f m) s = .next u.compareEst ∧ u.twin.digest = some m
      ∧ u.est = s.est)
  ∧ (∀ s f i, f.crcOk = true → s.isStandby = true → ∃ t, exec (.paramMirror f i []) s = .next t ∧ (∀ p ∈ t.wcp.mirror, p.1 ≠ i)
      ∧ t.wcp.params = s.wcp.params)
  ∧ (∀ s f i es, f.crcOk = true → s.isStandby = true → es ≠ [] →
      exec (.paramMirror f i es) s = .next (es.foldl (fun u e => u.mirrorEntry i e) (s.heard true f)))
  ∧ (∀ s f (i : Nat) es ok, f.crcOk = true → s.isStandby = true → i ≠ 0 → ∃ t, exec (.dictCopy f i false es ok) s = .next t
      ∧ t.twin.dict = s.twin.dict ++ es.map (fun e => ⟨e.id.toNat, e.inst.toNat, e.value⟩) ∧ t.wcp.params = s.wcp.params)
  ∧ (∀ s f es, f.crcOk = true → s.isStandby = true → s.sys.vinWarn = false → ∃ u : State, exec (.dictCopy f 0 true es true) s = .next u.storeParams
      ∧ u.sys.notActive.dictionary = false)
  ∧ (∀ s f h role op pl, f.crcOk = true → malformed op pl = none → ∃ t, exec (.wcpFwd f false h role op pl) s = .next t ∧ (h, op, role) ∈ t.wcp.guests
      ∧ (⟨h, op, pl⟩ : Waiting) ∈ t.wcp.queue)
  ∧ (∀ s f h role op pl h0, f.crcOk = true →
      s.wcp.forwarded.find? (fun p => p.1.session == h.session && p.1.seq == h.seq && p.2 == op) = some (h0, op) →
      ∃ (u : State) (p : Packet), exec (.wcpFwd f true h role op pl) s = .next (u.post p) ∧ p.target = 3 - s.sys.slot
        ∧ u.wcp.forwarded = s.wcp.forwarded.erase (h0, op))
  ∧ (∀ s f k d, f.crcOk = true → s.isStandby = true → ∃ t, exec (.stateXfer f k d true) s = .next t ∧ t.twin.xfer = true)
  ∧ (∀ s f c i v d, f.crcOk = true → s.isActive = true → c ≠ 0x1071 → exec (.standbyReport f c i v d) s =
      .next ((s.heard true f).record { mkFault (s.heard true f) c i v (padTo 12 d) none none with twin := true }))
  ∧ (∀ s, ∃ t, exec .shallotLockLoss s = .next t
      ∧ t = { s with twin := { s.twin with linkUp := false, rxUrgent := none, rxBulk := none } })
  ∧ (∀ s, s.isActive = true → ∃ t, exec .shallotSendWatch s = .next t ∧ t.sys.roleOut = false ∧ t.sys.driveEnded = true
      ∧ t.sys.lifecycle = s.sys.lifecycle ∧ ∀ c, c < 4 → (t.ch c).driven = false)
  ∧ shallotFraming

/-- 13 R383, R386 to R394, Table 13.6: comparison, silence, arbitration, handover and the swap drill. -/
def Obligations.TwinEventsComplete : Prop :=
  (∀ s f c, f.crcOk = true → s.isStandby = true → s.twin.arb = none → ∃ t, exec (.arbStart f c) s = .next t
    ∧ t.twin.arb = some ⟨true, s.now, none, none⟩
      ∧ t.twin.kat = some s.now ∧ t.count 0x725 0 = min 0xFFFFFFFF (s.count 0x725 0 + 1))
  ∧ (∀ s f (m : Byte) a, f.crcOk = true → s.twin.arb = some a → ∃ u : State, exec (.arbResult f m) s = .next u.outcome
      ∧ u.twin.twinLanes = m.toNat % 16 ∧ u.twin.arb = some { a with twin := some (m.toNat % 16) })
  ∧ (∀ s f p d, f.crcOk = true → s.isStandby = true → ∃ t, exec (.arbHandover f p d) s = .next t ∧ t.twin.handTwin = some p ∧ t.twin.handDrill = d
      ∧ t.sys = s.sys)
  ∧ (∀ s l t0 a, s.twin.kat = some t0 → s.twin.arb = some a → ∃ u : State, exec (.katComplete l) s = .next u.outcome
      ∧ u.twin.kat = none ∧ u.twin.ownLanes = laneMask l ∧ u.twin.arb = some { a with own := some (laneMask l) }
      ∧ u.out = s.out ++ [.shallot 0x04 (u8 1 ++ u8 (if a.mismatch then 1 else 2) ++ u8 (laneMask l) ++ [0])])
  ∧ (∀ l c, c < 4 → ((laneMask l).testBit c = true ↔ (l.get c).sigOk = true ∧ (l.get c).count = (l.get c).expected))
  ∧ (∀ s, s.twin.silence = none → s.twin.life = some .active → s.isStandby = true → ∃ t, exec .shallotSilence s = .next t
      ∧ t.twin.silence = some s.twin.heardAt ∧ t.twin.linkUp = false ∧ t.now = max s.now (s.twin.heardAt + 50000)
      ∧ t.twin.arb = some ⟨false, t.now, none, none⟩)
  ∧ (∀ s t0, s.twin.silence = some t0 → s.isStandby = true → s.sys.roleIn = true → s.twin.ownLanes = 15 → s.twin.kat = none → ∃ t,
      exec .silenceRoleHeld s = .next t ∧ t.twin.ahead = true ∧ t.twin.arb = none ∧ t.waits 0x7030 0 1 = true
        ∧ t.now = max s.now (t0 + 250000) ∧ t.sys.lifecycle = .standby)
  ∧ (∀ s, s.twin.ahead = true → ∃ t, exec .aheadTimeout s = .next t ∧ t.twin.aheadLong = true
      ∧ t.now = max s.now (s.twin.aheadSince + s.parN 0x704 0 * 1000000))
  ∧ (∀ s c, c < 4 → s.upd.mixed 2 = false → s.parN 0x705 0 ≤ s.twin.uncomp.get c → ∃ t, exec (.uncomparedRun c) s = .next t
      ∧ t.waits 0x7023 c 1 = true ∧ t.twin.uncomp.get c = 0)
  ∧ (∀ s, s.twin.suspect = true → ∃ t, exec .suspectClear s = .next t ∧ t.twin.suspect = false
      ∧ t.now = max s.now (s.twin.suspectAt + s.parN 0x706 0 * 3600000000000))
  ∧ (∀ s, s.isActive = true → s.parN 0x700 0 = 1 → s.twin.swapDue = false → (s.advanceTo s.swapInstant).handRefused = false → ∃ u : State,
      exec .swapDrillDue s = .next (u.beginHand .drill none) ∧ u.twin.swapDue = false ∧ u.now = max s.now s.swapInstant)
  ∧ (∀ s, s.isActive = true → s.parN 0x700 0 = 1 → s.twin.swapDue = true → (s.advanceTo (max s.now s.twin.swapTry)).handRefused = true →
      ∃ t, exec .swapDrillDue s = .next t ∧ t.twin.swapTry = t.now + 600000000000 ∧ t.sys.lifecycle = .active)
  ∧ (∀ s t0, s.twin.watch = some t0 → ∃ u : State, exec .swapWatchEnd s = .next (u.raise 0x7040 0 0) ∧ u.twin.watch = none
      ∧ u.twin.lastSwap = u.now ∧ u.now = max s.now (t0 + s.parN 0x703 0 * 1000000000))
  ∧ (∀ s c, s.isActive = true → s.twin.watch ≠ none → s.handsBack c = true → ∃ t, exec (.swapHandedBack c) s = .next t ∧ t.waits 0x7042 0 1 = true
      ∧ t.sys.notActive.handback = true ∧ t.twin.watch = none ∧ t.twin.backTested = [])

/-- 13 R388, R392, R395, R398: the twin opcodes. -/
def Obligations.TwinRequestsComplete : Prop :=
  (∀ s h u, s.passes 0x0700 h false [] → u = s.admitted 0x0700 h [] → s.twin.copy = none → exec (.twinStatus h) s =
      .next (u.reply 0x0700 h 0 (u32 u.twinState ++ leBytes 4 s.twin.rstate.toNat ++ u32 0xFFFFFFFF ++ time80Bytes s.twin.lastSwap)))
  ∧ (∀ s h u c t0, s.passes 0x0700 h false [] → u = s.admitted 0x0700 h [] → s.twin.copy = some (c, t0) → exec (.twinStatus h) s =
      .next (u.reply 0x0700 h 0 (u32 u.twinState ++ leBytes 4 s.twin.rstate.toNat ++ u32 (min 0xFFFFFFFF ((s.now - t0) / 1000))
        ++ time80Bytes s.twin.lastSwap)))
  ∧ (∀ s h u, s.passes 0x0701 h false [] → u = s.admitted 0x0701 h [] → s.isActive = true → u.handRefused = false → ∃ t,
      exec (.twinHandover h) s = .next t ∧ t = (u.reply 0x0701 h 1).beginHand .command (some (opRef 0x0701 h)))
  ∧ (∀ s h (k : Byte) u, s.passes 0x0702 h false [] → u = s.admitted 0x0702 h [k] → k.toNat ≠ 0 → k.toNat = s.sys.slot → k.toNat ≤ 2 →
      s.sys.lifecycle = .standby → exec (.twinIsolate h k) s =
        .next (((u.reply 0x0702 h 1).setLifecycle .isolated).complete (opRef 0x0702 h) 0))
  ∧ (∀ s h (k : Byte), s.passes 0x0702 h false [] → k.toNat ≠ 0 → k.toNat ≤ 2 → k.toNat ≠ s.sys.slot → ∃ t,
      exec (.twinIsolate h k) s = .next t
        ∧ t.out = s.out ++ [.shallot 0x40 (requestBytes 0x0702 h [k] ++ u8 (roleCode ((s.admitted 0x0702 h [k]).roleOf h)))]
        ∧ t.wcp.forwarded = s.wcp.forwarded ++ [(h, 0x0702)] ∧ t.sys = s.sys)
  ∧ (∀ s h u, s.passes 0x0703 h false [] → u = s.admitted 0x0703 h [] → s.sys.lifecycle = .isolated → exec (.twinJoin h) s =
      .next (((u.reply 0x0703 h 1).setLifecycle .negotiate).complete (opRef 0x0703 h) 0))
  ∧ (∀ s h, s.passes 0x0704 h false [] → s.twin.suspect = true → (suspectBlocks.all fun c => s.twin.tested.contains c) = true → ∃ t,
      exec (.twinClearSuspect h) s = .next t ∧ t.twin.suspect = false ∧ t.twin.estDiff = ⟨0, 0, 0, 0⟩)
  ∧ (∀ s h u, s.passes 0x0705 h false [] → u = s.admitted 0x0705 h [] → s.isStandby = true → s.activeEligible = true → s.sys.roleIn = false →
      exec (.twinPromote h) s = .next ((u.reply 0x0705 h 0).activeOpen))

/-- 14 R401 to R408, R421, R422: links, addresses, PRP and launch times. -/
def Obligations.NetworkComplete : Prop :=
  (∀ s p, p < 2 → (s.eth p).link = 0 → ∃ u : State, exec (.ethLinkChange p 1) s = .next u.reselect ∧ (u.eth p).link = 1 ∧ u.now = s.now)
  ∧ (∀ s p, p < 2 → (s.eth p).link = 1 → (s.eth (1 - p)).link = 1 → ∃ u : State, exec (.ethLinkChange p 0) s = .next u.reselect
      ∧ (u.eth p).link = 0 ∧ (u.eth p).queue = [] ∧ (u.eth p).waiting = [] ∧ u.waits (0x8001 + p) 0 1 = true)
  ∧ (∀ s (f : EthIn) (ip : BitVec 32) m, f.port < 2 → s.portOn f.port = true → f.passed = false → f.fcsOk = true → s.tagsOk f.tags = true →
      s.forUs f.port ip = true → exec (.arpRequest f ip m) s =
        .next ((s.inc 0x840 f.port).plantOut 1 (s.mac f.port ++ beBytes 4 ip.toNat ++ m)))
  ∧ (∀ s (f : EthIn) (a b : BitVec 32) d, f.port < 2 → s.portOn f.port = true → f.passed = false → f.fcsOk = true → s.tagsOk f.tags = true →
      s.forUs f.port a = true → (s.net.echoes.filter fun t => s.now < t + 1000000000).length < 10 → ∃ u : State,
        exec (.icmpEcho f a b d) s = .next (u.plantOut 2 (beBytes 4 b.toNat ++ d))
          ∧ u.net.echoes = s.now :: s.net.echoes.filter fun t => s.now < t + 1000000000)
  ∧ (∀ s t0 l, s.net.arps = t0 :: l → s.holdsPair = true → ∃ u : State, exec .gratuitousArp s =
      .next (u.plantOut 3 (s.mac 0 ++ beBytes 4 (s.parN 0x805 0))) ∧ u.net.arps = l ∧ u.now = max s.now t0)
  ∧ (∀ s, s.netOn = true → s.parN 0x807 0 ≠ 0 → ∃ u : State, exec .prpSupervision s = .next ((u.ethOut 0 4 (s.mac 0)).ethOut 1 4 (s.mac 0))
      ∧ u.net.supAt = u.now ∧ u.now = max s.now (s.net.supAt + s.parN 0x809 0 * 1000000))
  ∧ (∀ s (f : EthIn) i (q : BitVec 16), f.port < 2 → s.portOn f.port = true → f.passed = false → f.fcsOk = true → s.tagsOk f.tags = true →
      s.parN 0x807 0 ≠ 0 → s.net.prpSeen = [] → ∃ t, exec (.prpFrame f i q f.port) s = .next t ∧ t.net.prpSeen = [(i, [(q, s.now)])]
        ∧ t.count 0x845 0 = s.count 0x845 0)
  ∧ (∀ s (f : EthIn) i (q : BitVec 16), f.port < 2 → s.portOn f.port = true → f.passed = false → f.fcsOk = true → s.tagsOk f.tags = true →
      s.parN 0x807 0 ≠ 0 → s.parN 0x808 0 ≠ 0 → s.net.prpSeen = [(i, [(q, s.now)])] → ∃ t, exec (.prpFrame f i q f.port) s = .next t
        ∧ t.count 0x845 0 = min 0xFFFFFFFF (s.count 0x845 0 + 1) ∧ t.net.prpSeen = s.net.prpSeen)
  ∧ (∀ s p (g : LaunchFrame) l, p < 2 → s.portOn p = true → (s.eth p).link = 1 → (s.eth p).queue = [g] → g.kind = 9 → g.launch = l → s.now ≤ l →
      ∃ u : State, exec (.launchTime p g.data l) s = .next (u.sendWaiting p) ∧ u.now = l ∧ (u.eth p).queue = []
        ∧ u.out = s.out ++ [.eth p 9 g.data] ∧ u.fm = s.fm)
  ∧ (∀ s p (g : LaunchFrame) l, p < 2 → s.portOn p = true → (s.eth p).link = 1 → (s.eth p).queue = [g] → g.kind = 9 → g.launch = l →
      l + s.parN 0x80C 0 < s.now → ∃ u : State, exec (.launchTime p g.data l) s = .next ((u.launchLate p).sendWaiting p) ∧ u.now = s.now
        ∧ u.out = s.out ++ [.eth p 9 g.data])
  ∧ (∀ s h u, s.passes 0x0800 h false [] → u = s.admitted 0x0800 h [] → exec (.netStatus h) s =
      .next (u.reply 0x0800 h 0 (([0, 1, 2].flatMap fun p => u8 (s.eth p).link ++ [0, 0, 0]) ++ u32 (s.parN 0x805 0)
        ++ u8 (if s.holdsPair then 1 else 0))))

/-- 14 R402, R413: an accepted PTP message of one type of Table 14.1 at a plant port. -/
abbrev ptpArrives (s : State) (f : EthIn) (m : PtpHdr) (k : Nat) : Prop :=
  s.ptpOn f.port = true ∧ f.passed = false ∧ f.fcsOk = true ∧ s.tagsOk f.tags = true ∧ s.ptpOurs m = true ∧ m.type = k

/-- 14 R410 to R420, R425: the servo's inputs, steps and the time commands. -/
def Obligations.TimeComplete : Prop :=
  (∀ s f m a, ptpArrives s f m 11 → (s.eth f.port).master = none → ∃ u : State, exec (.ptpAnnounce f m a) s = .next u.reselect
      ∧ (u.eth f.port).master = some a ∧ (u.eth f.port).annAt = s.now ∧ u.now = s.now)
  ∧ (∀ s p m, p < 2 → (s.eth p).master = some m → ∃ u : State, exec (.ptpAnnounceTimeout p) s = .next u.reselect.lostSync
      ∧ (u.eth p).master = none ∧ u.now = max s.now ((s.eth p).annAt + s.parN 0x866 0 * m.interval)
      ∧ u.count 0x8A3 0 = min 0xFFFFFFFF (s.count 0x8A3 0 + 1))
  ∧ (∀ s f m (t1 t2 : Nat) (c : Int) i x a (o : Int), ptpArrives s f m 0 → f.port = s.net.port → (s.eth f.port).master = some a → a.identity = x →
      s.isStandby = false → s.net.everLocked = false → o = (t2 : Int) - s.parN 0x80A f.port - t1 - c - s.pathDelay f.port → ∃ u : State,
      exec (.ptpSync f m t1 t2 c i x) s = .next (u.servoSync (o + s.net.bias) i
          (if |o + s.net.bias| ≤ (s.parN 0x86A 0 : Int) then (s.eth f.port).good + 1 else 0))
        ∧ (u.eth f.port).offsets = (o :: (s.eth f.port).offsets).take 16 ∧ u.count 0x8A0 0 = min 0xFFFFFFFF (s.count 0x8A0 0 + 1))
  ∧ (∀ s f m t2 t3 t4 c out d, (ptpArrives s f m 3 ∨ ptpArrives s f m 9 ∨ ptpArrives s f m 10) → s.p2p = (m.type != 9) →
      (s.eth f.port).reqAt = some out → s.meanPath f.port s.p2p out t2 t3 t4 c = some d → 0 ≤ d → (s.eth f.port).delays = [] →
      ∃ t, exec (.ptpDelayResp f m t2 t3 t4 c) s = .next t ∧ (t.eth f.port).delays = [d] ∧ (t.eth f.port).reqAt = none ∧ t.now = s.now)
  ∧ (∀ s f m rx u, ptpArrives s f m 2 → u = s.inc 0x840 f.port → exec (.ptpPdelayReq f m rx) s =
      .next ((u.ethOut f.port 7 (time80Bytes (rx - s.parN 0x80A f.port))).ethOut f.port 8 (time80Bytes (s.now + s.parN 0x80B f.port))))
  ∧ (∀ s p n, s.ptpOn p = true → n = max s.now (s.eth p).reqDue → ∃ u : State, exec (.delayReqDue p) s =
      .next (u.ethOut p (if s.p2p then 6 else 5) (time80Bytes (n + s.parN 0x80B p))) ∧ u.now = n ∧ u.free = s.free + 1
        ∧ (u.eth p).reqAt = some ((n + s.parN 0x80B p : Nat) : Int) ∧ (u.eth p).reqDue = n + s.drawInterval)
  ∧ (∀ s, s.net.servo = 3 → s.net.holdLong = false → ∃ t, exec .holdoverLong s = .next t ∧ t.net.holdLong = true ∧ t.net.servo = 3
      ∧ t.waits 0x8022 0 1 = true ∧ t.now = max s.now (s.net.holdSince + s.parN 0x86E 0 * 1000000000))
  ∧ (∀ s w d, s.net.step = some (w, d) → ∃ t, exec .timeStep s = .next t ∧ t.now = (((max s.now w : Nat) : Int) + d).toNat
      ∧ t.sys.rtc = t.now ∧ t.net.step = none ∧ t.net.jump = none)
  ∧ (∀ s, s.netOn = true → ∃ t, exec .wholeSecond s = .next t ∧ t.now = (s.now / 1000000000 + 1) * 1000000000
      ∧ (s.net.servo = 2 → s.isStandby = false → t.sys.rtc = t.now)
      ∧ t.out = s.out ++ (if s.isActive then [.shallot 0x06 (u8 3 ++ time80Bytes t.now)] else [])
          ++ (if s.parN 0x871 0 = 1 then [.pps t.now] else []))
  ∧ (∀ s h j, s.passes 0x0802 h false [] → h.target = 0 → s.net.jump = some j → ∃ t, exec (.timeJumpAccept h) s = .next t
      ∧ t.net = { s.net with accepted := true, jumpOp := some (opRef 0x0802 h) } ∧ t.now = s.now)
  ∧ (∀ s h j, s.passes 0x0803 h false [] → h.target = 0 → s.net.jump = some j → ∃ t, exec (.timeJumpReject h) s = .next t
      ∧ t.net.jump = none ∧ t.net.accepted = false ∧ t.net.jumps = [] ∧ t.net.jumpOp = none ∧ t.now = s.now)
  ∧ (∀ s h, s.passes 0x0801 h false [] → ∃ body, exec (.ptpStatus h) s =
      .next ((s.admitted 0x0801 h []).reply 0x0801 h 0 (time80Bytes s.now ++ u32 s.ptpStatus ++ body)))

/-- 15 R433 to R442: the CAN FD controllers. -/
def Obligations.CanComplete : Prop :=
  (∀ s h (k : Byte) es, s.passes 0x0810 h false [] → k.toNat < 2 → es.all canOk = true →
      (s.ctl k.toNat).tx.length + es.length ≤ s.parN 0x8C8 k.toNat → ∃ t, exec (.canTx h k es) s = .next t
        ∧ t.ctl k.toNat = { s.ctl k.toNat with tx := (s.ctl k.toNat).tx ++ es.map fun f => ⟨canClean f, 0, false, false, false⟩ })
  ∧ (∀ s h (k : Byte) n f rest, s.passes 0x0811 h false [] → k.toNat < 2 → (s.ctl k.toNat).tx = f :: rest → f.f.handle = n → f.stage = 0 →
      (s.ctl k.toNat).results.length < 64 → ∃ t, exec (.canTxAbort h k n) s = .next t ∧ (t.ctl k.toNat).tx = rest
        ∧ (t.ctl k.toNat).results = (s.ctl k.toNat).results ++ [⟨n, 1, ofBits [false, f.lost, f.err], 0⟩])
  ∧ (∀ s h (k : Byte) n f rest, s.passes 0x0811 h false [] → k.toNat < 2 → (s.ctl k.toNat).tx = f :: rest → f.f.handle = n → f.stage ≠ 0 →
      ∃ t, exec (.canTxAbort h k n) s = .next t ∧ (t.ctl k.toNat).tx = { f with abort := true } :: rest
        ∧ (t.ctl k.toNat).results = (s.ctl k.toNat).results)
  ∧ (∀ s h (k : Byte), s.passes 0x0812 h false [] → k.toNat < 2 → ∃ t, exec (.canTxFlush h k) s = .next t
      ∧ (t.ctl k.toNat).tx = ((s.ctl k.toNat).tx.filter fun f => f.stage != 0).map fun f => { f with abort := true })
  ∧ (∀ s h (k m : Byte) u, s.passes 0x0813 h false [] → u = s.admitted 0x0813 h [k, m] → k.toNat < 2 → exec (.canTxResults h k m) s =
      .next ((u.setCtl k.toNat { s.ctl k.toNat with results := (s.ctl k.toNat).results.drop m.toNat }).reply 0x0813 h 0
        (u8 ((s.ctl k.toNat).results.take m.toNat).length ++ ((s.ctl k.toNat).results.take m.toNat).flatMap fun r =>
          leBytes 2 r.handle.toNat ++ u8 r.result ++ u8 r.flags ++ leBytes 4 r.stamp.toNat)))
  ∧ (∀ s h (k m : Byte), s.passes 0x0814 h false [] → k.toNat < 2 → ∃ t, exec (.canRxRead h k 0 m) s = .next t
      ∧ t.ctl k.toNat = { s.ctl k.toNat with rx0 := (s.ctl k.toNat).rx0.drop m.toNat })
  ∧ (∀ s h (k m : Byte), s.passes 0x0814 h false [] → k.toNat < 2 → ∃ t, exec (.canRxRead h k 1 m) s = .next t
      ∧ t.ctl k.toNat = { s.ctl k.toNat with rx1 := (s.ctl k.toNat).rx1.drop m.toNat })
  ∧ (∀ s h (k : Byte), s.passes 0x0815 h false [] → k.toNat < 2 → (s.ctl k.toNat).off = 2 → ∃ t, exec (.canRecover h k) s = .next t
      ∧ t.ctl k.toNat = { s.ctl k.toNat with off := 3 })
  ∧ (∀ s h (k : Byte) u x, s.passes 0x0816 h false [] → u = s.admitted 0x0816 h [k] → k.toNat < 2 → x = s.ctl k.toNat →
      exec (.canStatus h k) s = .next (u.reply 0x0816 h 0 (u32 (u.canStatusWord k.toNat) ++ u8 (min 255 x.tec) ++ u8 (min 255 x.rec_)
        ++ u8 x.tx.length ++ u8 x.rx0.length ++ u8 x.rx1.length ++ u8 (min 255 x.delay))))
  ∧ (∀ s k f rest o, k < 2 → s.canMonitor k = false → (s.ctl k).off = 0 → (s.ctl k).wsfTx = none → (s.ctl k).wsf = [] ∨ f.stage ≠ 0 →
      (s.ctl k).tx = f :: rest → exec (.canTxDone k o) s = .next (s.headOutcome k f o))
  ∧ (∀ s k n f l o, k < 2 → s.canMonitor k = false → (s.ctl k).off = 0 → (s.ctl k).wsfTx = none → (s.ctl k).wsf = (n, f) :: l →
      (s.ctl k).tx = [] → exec (.canTxDone k o) s = .next ((s.setCtl k { s.ctl k with wsfTx := some n }).wsfOutcome k n f o))
  ∧ (∀ s k (f : CanEntry) sof, k < 2 → (s.ctl k).off = 0 → s.wsfOfCan k f.id = none → (s.ctl k).rec_ < 128 →
      (s.ctl k).tec < 128 → s.canFilter k f.id = 1 → (s.ctl k).rx0.length < 64 → ∃ t, exec (.canRxFrame k f sof .none) s = .next t
        ∧ (t.ctl k).rx0 = (s.ctl k).rx0 ++ [(sof, f)] ∧ (t.ctl k).rec_ = (s.ctl k).rec_ - 1 ∧ t.fm = s.fm)
  ∧ (∀ s k (f : CanEntry) sof, k < 2 → (s.ctl k).off = 0 → s.canMonitor k = false → (s.ctl k).rec_ < 127 → ∃ t,
      exec (.canRxFrame k f sof .error) s = .next t ∧ (t.ctl k).rec_ = (s.ctl k).rec_ + 1
        ∧ t.count 0x8E3 k = min 0xFFFFFFFF (s.count 0x8E3 k + 1) ∧ t.fm = s.fm)
  ∧ (∀ s k, k < 2 → s.canMonitor k = false → (s.ctl k).off = 0 → ∃ t, exec (.canBusOff k) s = .next t
      ∧ (t.ctl k).off = (if s.parN 0x8C7 k = 1 then 3 else 2) ∧ (t.ctl k).tec = 256 ∧ t.waits 0x9001 k 1 = true)
  ∧ (∀ s k, k < 2 → (s.ctl k).off = 3 → ∃ t, exec (.canRecovered k) s = .next t
      ∧ t.ctl k = { s.ctl k with off := 0, tec := 0, rec_ := 0 })

/-- 16 R445 to R457: field inputs and outputs. -/
def Obligations.FieldIoComplete : Prop :=
  (∀ s d, s.fieldOn = true → ∃ u : State, exec (.fieldScan d) s = .next (u.siScan d.si) ∧ u.fio.sampled = true ∧ u.fio.si = d.si
      ∧ u.fio.so = d.so ∧ u.fio.missed = (if d.replyOk then 0 else s.fio.missed + 1) ∧ u.now = (s.now / 100000 + 1) * 100000)
  ∧ (∀ s n a, n < 16 → (s.di n).isOpen = false → (s.di n).lowAt = some a → ∃ t, exec (.diOpenWire n true) s = .next t
      ∧ (t.di n).isOpen = true ∧ (t.di n).state = false ∧ t.waits 0xA001 n 1 = true ∧ t.now = max s.now (a + 100000000))
  ∧ (∀ s n a, n < 16 → (s.di n).isOpen = true → (s.di n).fineAt = some a → ∃ t, exec (.diOpenWire n false) s = .next t
      ∧ t.di n = { s.di n with isOpen := false, c := 0, fineAt := none } ∧ t.fm = s.fm ∧ t.now = max s.now (a + 100000000))
  ∧ (∀ s n a, n < 8 → (s.dout n).limitAt = some a → (s.dout n).ovl = false → (s.dout n).past = false → ∃ t,
      exec (.doDiagnostic n .overload) s = .next t ∧ t.dout n = { s.dout n with ovl := true } ∧ t.doOn n = false
        ∧ t.waits 0xA010 n 1 = true ∧ t.count 0x4A2 0 = min 0xFFFFFFFF (s.count 0x4A2 0 + 1)
        ∧ t.now = max s.now (a + s.parN 0x484 0 * 1000000))
  ∧ (∀ s n, n < 8 → (s.dout n).past = true → (s.dout n).ot = false → ∃ t, exec (.doDiagnostic n .overTemp) s = .next t
      ∧ t.dout n = { s.dout n with ot := true } ∧ t.doOn n = false ∧ t.waits 0xA013 n 1 = true
      ∧ t.count 0x4A2 0 = min 0xFFFFFFFF (s.count 0x4A2 0 + 1) ∧ t.now = s.now)
  ∧ (∀ s n a, n < 8 → bitOf (s.parN 0x483 0) n = true → (s.dout n).lowAt = some a → (s.dout n).supplyLow = false → ∃ t,
      exec (.doDiagnostic n .supplyLow) s = .next t ∧ t.dout n = { s.dout n with supplyLow := true } ∧ t.doOn n = false
        ∧ t.waits 0xA014 n 1 = true ∧ t.now = max s.now (a + 1000000))
  ∧ (∀ s, s.fieldOn = true → s.fio.wdog = false → ∃ t, exec .fieldWatchdog s = .next t ∧ t.fio.wdog = true
      ∧ t.now = max s.now (s.fio.frameAt + s.parN 0x486 0 * 1000000) ∧ t.count 0x4A3 0 = min 0xFFFFFFFF (s.count 0x4A3 0 + 1)
      ∧ ∀ n, n < 8 → fieldAt (s.par 0x485 0) n 1 = 0 → (t.dout n).cmd = false)
  ∧ (∀ s, 3 ≤ s.fio.missed → ∃ t, exec .barrierLinkLost s = .next t ∧ t.waits 0xA020 0 3 = true ∧ t.fio = { s.fio with missed := 0 }
      ∧ t.now = s.now)
  ∧ (∀ s, ∃ t, exec .fieldSupplyLow s = .next t ∧ t.waits 0xA030 0 3 = true ∧ t.fio.sampled = false ∧ (∀ n, n < 8 → (t.dout n).cmd = false)
      ∧ ∀ n, n < 8 → t.soOn n = false)
  ∧ (∀ s h u, s.passes 0x0420 h false [] → u = s.admitted 0x0420 h [] → exec (.fioStatus h) s =
      .next (u.reply 0x0420 h 0 (leBytes 2 s.fio.diState.toNat ++ u16 s.diOpen ++ leBytes 1 s.fio.si.toNat ++ [0]
        ++ ((List.range 8).flatMap fun n => u32 (s.doStatus n)) ++ leBytes 2 s.fio.so.toNat)))
  ∧ (∀ s h (m : Byte), s.passes 0x0421 h false [] → ∃ t, exec (.fioEdges h m) s = .next t ∧ t.fio = { s.fio with edges := s.fio.edges.drop m.toNat }
      ∧ t.now = s.now)
  ∧ (∀ s h (m : Byte) n, s.passes 0x0422 h false [] → bitsSet 8 m.toNat = [n] → (s.dout n).hot = false → ∃ t,
      exec (.fioDoClear h m) s = .next t ∧ (t.dout n).ovl = false ∧ (t.dout n).ot = false ∧ ∀ k, k ≠ n → t.dout k = s.dout k)

/-- 17 R461 to R468, R476: self-tests at start-up and in service. -/
def Obligations.SelfTestsComplete : Prop :=
  (∀ s n rs, s.sys.lifecycle = .selftest → n = s.bist.slot + 1 → n ≤ 5 →
      (n = 5 → (rs.any fun r => r.1 == 0 && !r.2.1) = false) → ∃ u : State, exec (.selftestSlotEnd n rs) s =
      .next (u.beginTests (slotBlocks (n + 1))) ∧ u.bist.slot = n)
  ∧ (∀ s, s.sys.lifecycle = .selftest → s.bist.slot = 5 → s.preempted = [] → s.bist.running = [] → s.now < s.bist.started + 12500000000 →
      exec .selftestComplete s = .next s.endSelftest)
  ∧ (∀ s h (cs : Bytes) l, s.passes 0x0A00 h false l → l = (cs.map (·.toNat)).dedup → l ≠ [] → l.all allBlocks.contains = true →
      l.all s.mayTest = true → ∃ t, exec (.bistRun h cs) s = .next t ∧ t.bist.runs = s.bist.runs ++ [⟨opRef 0x0A00 h, l, l⟩]
        ∧ ∀ c ∈ l, (t.bist.running.any fun b => b.1 == c) = true)
  ∧ (∀ s h (cs : Bytes) u, s.passes 0x0A01 h false [] → u = s.admitted 0x0A01 h (u8 cs.length ++ cs) →
      (cs.all fun c => allBlocks.contains c.toNat) = true → exec (.bistStatus h cs) s =
        .next (u.reply 0x0A01 h 0 (cs.flatMap fun c => u32 (s.bistWord c.toNat))))
  ∧ (∀ s k due (ok : Bool) n o, s.bist.running.find? (fun b => b.1 == k) = some (k, due) → o = (if ok then 2 else 3) → s.sys.lifecycle ≠ .selftest →
      exec (.bistComplete k ok n n) s = .next (((s.advanceTo due).bistEnd k o n false false).tested k o))
  ∧ (∀ s k due ok n e, s.bist.running.find? (fun b => b.1 == k) = some (k, due) → n < e → s.sys.lifecycle ≠ .selftest →
      exec (.bistComplete k ok n e) s = .next ((s.bistEnd k 4 n false false).tested k 4))
  ∧ (∀ s k, k < 3 → s.sys.power = .p0 → ∃ t, exec (.scrubDue k) s = .next t ∧ t.bist.scrubs = s.bist.scrubs.set k t.now
      ∧ t.now = max s.now (s.bist.scrubs.getD k 0 + s.parN (0xA00 + k) 0 * (if k = 0 then 1000000000 else 3600000000000)))
  ∧ (∀ s, s.bist.rotDue = false → ∃ t, exec .clusterRotationDue s = .next t ∧ t.bist.rotDue = true ∧ t.bist.running = s.bist.running
      ∧ t.now = max s.now (s.bist.rotAt + s.parN 0xA03 0 * 3600000000000))
  ∧ (∀ s (l : Four LaneTest), s.isStandby = true → s.twin.kat = none → s.bist.running = [] → ∃ u : State, exec (.standbyKatDue l) s =
      .next ((List.range 4).foldl (fun v c => (v.bistEnd (0x20 + c) (laneOutcome (l.get c)) (l.get c).count false false).tested (0x20 + c)
        (laneOutcome (l.get c))) u) ∧ u.twin.katIdle = s.twin.katIdle ++ [0, 1, 2, 3] ∧ u.bist = { s.bist with katAt := u.now }
        ∧ u.now = max s.now (s.bist.katAt + s.parN 0xA04 0 * 1000000000))

/-- 17 R469 to R476: temperatures, the thermal shutdown and its hold. -/
def Obligations.ThermalComplete : Prop :=
  (∀ s rs r, s.sys.power = .p0 → ∃ t, exec (.thermalEvaluation (rs ++ [r])) s = .next t ∧ t.bist.sensors = r
      ∧ t.now = (s.now / 100000000 + 1) * 100000000 ∧ t.sys.lifecycle = s.sys.lifecycle)
  ∧ (∀ s, s.bist.hold = false → s.bist.holdAt = none → ∃ t, exec .thermalShutdown s = .next t ∧ t.sys.roleOut = false
      ∧ t.bist.flag = true ∧ t.bist.holdAt = some (s.now + 2000000) ∧ t.waits 0xB002 0 3 = true)
  ∧ (∀ s rs, s.bist.hold = true → s.bist.holdAt = none → s.bist.polls = 0 → ∃ t, exec (.thermalHoldPoll rs) s = .next t ∧ t.bist.hold = true
      ∧ t.now = max s.now (s.bist.pollAt + 10000000000))
  ∧ (∀ s rs, s.bist.hold = true → s.bist.holdAt = none → 1 ≤ s.bist.polls →
      ([0, 1, 2, 3, 4, 6].all fun i => match rs.getD i none with
        | some v => decide (v < 9500)
        | none => false) = true → ∃ t, exec (.thermalHoldPoll rs) s = .next t ∧ t.bist.hold = false ∧ t.sys.lifecycle = .boot
        ∧ t.sys.resetCause.getLsbD 8 = true)
  ∧ (∀ s h u, s.passes 0x0A10 h false [] → u = s.admitted 0x0A10 h [] → exec (.thermStatus h) s =
      .next (u.reply 0x0A10 h 0 (u32 s.thermStatus ++ u32 (toF32 s.moduleMax.2) ++ s.thermSensors)))
  ∧ (∀ s h, s.passes 0x0A11 h false [] → (∀ v, some v ∈ s.bist.sensors → v < 9500) → ∃ t,
      exec (.thermClear h) s = .next t ∧ t.bist = { s.bist with flag := false })

/-- 20 R524 to R531: acceptance, handling and the deadline. -/
def Obligations.FaultHandlingCompletes : Prop :=
  (∀ s f, nextRaised s.fm.raised = some f → s.fm.cur = none → s.fm.queue = [] → ∃ t, exec .faultAccepted s = .next t
      ∧ t.fm.cur = some { f with time := s.now } ∧ t.fm.raised = s.fm.raised.erase f ∧ t.fm.queue = [])
  ∧ (∀ s f c, nextRaised s.fm.raised = some f → s.fm.cur = some c → s.fm.queue = [] → f.same c = true → ∃ t,
      exec .faultAccepted s = .next t ∧ t.fm.cur = some { c with repeats := min 0xFFFF (c.repeats + 1) }
        ∧ t.count 0x42 0 = min 0xFFFFFFFF (s.count 0x42 0 + 1))
  ∧ (∀ s f, s.fm.cur = some f → f.begun = false → exec .faultHandling s = .next (s.begin_ f))
  ∧ (∀ s f g l, s.fm.cur = some f → f.begun = true → s.fm.queue = g :: l → g.begun = false → ∃ u : State,
      exec .faultHandling s = .next (u.begin_ g) ∧ u.fm.cur = some g ∧ u.fm.queue = l
        ∧ u.count 0x40 0 = min 0xFFFFFFFF (s.count 0x40 0 + 1))
  ∧ (∀ s f, s.late = some f → ∃ t, exec .handlerDeadline s = .next t ∧ t.waits 0x1081 0 3 = true ∧ t.sys.roleOut = false
      ∧ t.now = max s.now (f.time + (if f.sev = 3 then 10000 else 100000)))
  ∧ (∀ (s : State) f, s.fm.cur = some f → s.fm.queue = [] → 2 ≤ f.sev → s.late = some f)

/-- 18 R481 to R486, R495: records are written, read and cleared. -/
def Obligations.RecorderComplete : Prop :=
  (∀ s r l, s.recd.queue = r :: l → s.sys.diesLost.getLsbD 4 = false → s.sys.vinWarn = false → exec (.recordWrite true) s =
      .next (({ s with recd := { s.recd with queue := l } } : State).writeRec r true))
  ∧ (∀ s r l, s.recd.queue = r :: l → s.sys.diesLost.getLsbD 4 = false → s.sys.vinWarn = false → exec (.recordWrite false) s =
      .next (({ s with recd := { s.recd with queue := l } } : State).writeRec r false))
  ∧ (∀ s h (p : Byte) u x old, s.passes 0x0900 h false [] → u = s.admitted 0x0900 h [p] → p.toNat < 5 → x = s.part p.toNat →
      old = x.valid.head?.getD (0, []) → exec (.recInfo h p) s = .next (u.reply 0x0900 h 0 (u32 (partCap p.toNat) ++ u32 x.write
        ++ u32 x.newest ++ u32 (slotSeq old.2) ++ u32 old.1 ++ u32 x.gen ++ u32 x.held)))
  ∧ (∀ s h (p n : Byte) (k : BitVec 32) u, s.passes 0x0901 h false [] → u = s.admitted 0x0901 h ([p, n, 0, 0] ++ leBytes 4 k.toNat) →
      p.toNat < 5 → n ≠ 0 → n.toNat ≤ 20 → k.toNat < partCap p.toNat → exec (.recRead h p n k) s = .next (u.reply 0x0901 h 0
        ([n] ++ (List.range n.toNat).flatMap fun i => (s.part p.toNat).slot ((k.toNat + i) % partCap p.toNat))))
  ∧ (∀ s h (q : BitVec 32), s.passes 0x0902 h false [] → q.toNat = (s.part 0).newest → s.sys.vinWarn = false →
      ∃ t, exec (.recClearGeneral h q) s = .next t
      ∧ (t.part 0).used = 0 ∧ (t.part 0).held = 0 ∧ (t.part 0).valid = [] ∧ t.part 1 = s.part 1)
  ∧ (∀ s h (q : BitVec 32), s.passes 0x0902 h false [] → s.anyLatch = false → q.toNat = s.newestSafe → s.recd.arm = none → ∃ t a,
      exec (.recClearSafety h q) s = .next t ∧ t.recd.arm = some a ∧ a.op = opRef 0x0902 h ∧ a.seq = q.toNat ∧ a.since = s.now)
  ∧ (∀ s h (q : BitVec 32) a, s.passes 0x0903 h false [] → s.recd.arm = some a → q.toNat = a.seq → s.anyLatch = false → s.sys.vinWarn = false → ∃ t,
      exec (.recClearConfirm h q) s = .next t ∧ t.recd.arm = none ∧ (t.part 1).held = 0 ∧ (t.part 2).held = 0)
  ∧ (∀ s a, s.recd.arm = some a → ∃ t, exec .clearLapsed s = .next t ∧ t.recd.arm = none ∧ t.now = max s.now (a.since + 60000000000)
      ∧ t.recd.part = s.recd.part)

/-- 18 R488 to R494: the flight buffer and replay. -/
def Obligations.FlightBufferComplete : Prop :=
  (∀ s h u, s.passes 0x0911 h false [] → u = s.admitted 0x0911 h [] → s.recd.fb.desc = none → exec (.fbTrigger h) s =
      .next ((u.fbTrigger 0 0).reply 0x0911 h 0))
  ∧ (∀ s x, s.recd.fb.trig = some x → s.recd.fb.desc = none → s.sys.vinWarn = false → ∃ t d, exec .fbFrozen s = .next t ∧ t.recd.fb.desc = some d
      ∧ d.trig = x
      ∧ t.recd.fb.trig = none ∧ d.stop = x.time + 10000000000 ∧ t.now = max s.now (x.time + 10000000000))
  ∧ (∀ s x, s.recd.fb.ckptDue = some x → s.sys.power = .p0 → s.fbOn = true → ∃ t, exec .fbCheckpoint s = .next t
      ∧ t.recd.fb.ckptDue = none ∧ t.recd.fb.ckpt = (s.recd.fb.ckpt + 1) % 2 ^ 32)
  ∧ (∀ s d, s.recd.fb.desc = some d → s.parN 0x903 0 ≠ 0 → exec .fbAutoRelease s =
      .next ((s.advanceTo (d.stop + s.parN 0x903 0 * 3600000000000)).fbRelease))
  ∧ (∀ s h u, s.passes 0x0910 h false [] → u = s.admitted 0x0910 h [] → u.recd.fb.desc = none → u.recd.fb.trig = none →
      exec (.fbStatus h) s = .next (u.reply 0x0910 h 0 (u8 u.fbState ++ [0, 0, 0] ++ u32 0 ++ List.replicate 24 0)))
  ∧ (∀ s h u d, s.passes 0x0910 h false [] → u = s.admitted 0x0910 h [] → u.recd.fb.desc = some d → exec (.fbStatus h) s =
      .next (u.reply 0x0910 h 0 (u8 2 ++ [0, 0, 0] ++ u32 d.trig.seq ++ (time80Bytes d.start ++ time80Bytes d.stop
        ++ u32 (u.exportFile d).length))))
  ∧ (∀ s h (o : BitVec 32) (n : BitVec 16) u d, s.passes 0x0912 h false [] → u = s.admitted 0x0912 h (leBytes 4 o.toNat ++ leBytes 2 n.toNat) →
      u.recd.fb.desc = some d → n.toNat ≤ 4000 → exec (.fbExport h o n) s =
        .next (u.reply 0x0912 h 0 (leBytes 4 o.toNat ++ slice (u.exportFile d) o.toNat n.toNat)))
  ∧ (∀ s h u d, s.passes 0x0913 h false [] → u = s.admitted 0x0913 h [] → u.recd.fb.desc = some d → exec (.fbRelease h) s =
      .next (u.fbRelease.reply 0x0913 h 0))
  ∧ (∀ s h (n : BitVec 32), s.passes 0x0920 h false [] → s.sys.lifecycle = .isolated → s.sys.power = .p0 → s.recd.fb.desc = none → ∃ t r,
      exec (.replayOpen h 0 n) s = .next t ∧ t.sys.lifecycle = .replay ∧ t.recd.replay = some r ∧ r.source = 0 ∧ r.length = n.toNat
        ∧ r.file = none)
  ∧ (∀ s h (n : BitVec 32) d, s.passes 0x0920 h false [] → s.sys.lifecycle = .isolated → s.sys.power = .p0 → s.recd.fb.desc = some d → ∃ t r,
      exec (.replayOpen h 1 n) s = .next t ∧ t.sys.lifecycle = .replay ∧ t.recd.replay = some r ∧ r.source = 1 ∧ r.file.isSome = true)
  ∧ (∀ s h (o : BitVec 32) b r, s.passes 0x0921 h false [] → s.recd.replay = some r → r.source = 0 → r.file = none → r.pieces = [] →
      o.toNat + b.length ≤ r.length → b ≠ [] → o ≠ 0 → ∃ t, exec (.replayLoad h o b) s = .next t
        ∧ t.recd.replay = some { r with pieces := [(o.toNat, b)] })
  ∧ (∀ s h (c : BitVec 32) e (m : Byte) r f, s.passes 0x0922 h false [] → s.recd.replay = some r → r.file = some f → r.state ≠ 1 →
      m.toNat < 2 → e.ns.toNat < 1000000000 → c.toNat ∈ wholeCheckpoints ((parseChunks f.length (f.drop 256)).getD []) →
        ∃ t, exec (.replayStart h c e m) s = .next t
        ∧ t.recd.replay = some { r with state := 1, op := some (opRef 0x0922 h), periods := 0, cycles := 0, div := none,
                                              cp := c.toNat, stop := t80 e, mode := m.toNat })
  ∧ (∀ s r, s.recd.replay = some r → r.state = 1 → ∃ t x, exec .replayEnd s = .next t ∧ t.recd.replay = some x ∧ x.op = none
      ∧ x.periods = (s.replayRun r).periods ∧ x.cycles = (s.replayRun r).cycles ∧ x.div = (s.replayRun r).div
      ∧ x.state = if (s.replayRun r).div = none then 2 else 3)
  ∧ (∀ s h r, s.passes 0x0923 h false [] → s.recd.replay = some r → ∃ body, exec (.replayStatus h) s =
      .next ((s.admitted 0x0923 h []).reply 0x0923 h 0 (u8 r.state ++ [0, 0, 0] ++ u32 r.periods ++ u32 r.cycles ++ body)) ∧ body.length = 8)
  ∧ (∀ s h r u, s.passes 0x0924 h false [] → u = s.admitted 0x0924 h [] → s.recd.replay = some r → r.op = none → exec (.replayClose h) s =
      .next (((u.setReplay none).setLifecycle .isolated).reply 0x0924 h 0))

/-- 19 R502, R505, R507, R514, R521: receiving, verifying and activating a bundle. -/
def Obligations.UpdateSessionsComplete : Prop :=
  (∀ s h u, s.passes 0x0B00 h false [] → u = s.admitted 0x0B00 h [] → exec (.updStatus h) s =
      .next (u.reply 0x0B00 h 0 (u8 s.upd.state ++ [0, 0, 0] ++ leBytes 8 s.upd.bundleId.toNat ++ s.updParts)))
  ∧ (∀ s h (n : BitVec 32), s.passes 0x0B01 h false [] → n ≠ 0 → n.toNat ≤ 67108864 → s.upd.state = 0 → s.pairOpen = false → s.sys.vinWarn = false →
      s.sys.lifecycle = .active → ∃ t,
      exec (.updBegin h n) s = .next t ∧ t.upd.state = 1 ∧ t.upd.stage = some ⟨n.toNat, [], false⟩ ∧ t.upd.session = h.session.toNat
        ∧ t.sys.lifecycle = .active)
  ∧ (∀ s h (n : BitVec 32), s.passes 0x0B01 h false [] → n ≠ 0 → n.toNat ≤ 67108864 → s.upd.state = 0 → s.pairOpen = false → s.sys.vinWarn = false →
      s.sys.lifecycle = .standby → ∃ t,
      exec (.updBegin h n) s = .next t ∧ t.upd.state = 1 ∧ t.upd.from_ = some .standby ∧ t.sys.lifecycle = .update)
  ∧ (∀ s h (o : BitVec 32) b g, s.passes 0x0B02 h false [] → s.upd.stage = some g → s.upd.state = 1 → o.toNat + b.length ≤ g.length → ∃ t,
      exec (.updData h o b) s = .next t ∧ t.upd = { s.upd with stage := some { g with pieces := g.pieces ++ [(o.toNat, b)] } })
  ∧ (∀ s h g, s.passes 0x0B03 h false [] → s.upd.stage = some g → s.upd.state = 1 → ∃ t, exec (.updVerify h) s = .next t
      ∧ t.upd = { s.upd with state := 2, op := some (opRef 0x0B03 h) })
  ∧ (∀ s g, s.upd.stage = some g → s.upd.state = 2 → g.forwarded = false → ∃ t, exec .updVerifyDone s = .next t ∧ t.upd.stage = some g
      ∧ (if (s.verdict g).1 = 0 then t.upd.state = 3 ∧ t.upd.op = none ∧ ∀ b, g.bundle = some b → t.upd.bundleId = bundleId b
        else t.upd.state = 1 ∧ t.waits 0xD003 0 1 = true))
  ∧ (∀ s h (m : Byte) u ps, s.passes 0x0B04 h false [] → u = s.admitted 0x0B04 h [m] → 0 < m.toNat → m.toNat < 8 → s.upd.state = 3 →
      s.sys.vinWarn = false →
      s.sys.lifecycle = .update → ps = (forSlot (bundleParts s.staged) s.sys.slot).filter (fun p => m.toNat.testBit (p.type - 1)) →
      ((bitsSet 3 m.toNat).all fun i => ps.any fun p => p.type == i + 1) = true →
      admissible (replaceParts s.ownModule ps) (s.upd.twinParts.filter fun e => e.type != 4) s.nodeParts = true →
      exec (.updActivate h m) s =
        .next ((({ u with upd := { s.upd with op := some (opRef 0x0B04 h) } } : State).reply 0x0B04 h 1).activate m.toNat))
  ∧ (∀ s h e, s.passes 0x0B04 h false [] → s.upd.state = 3 → s.sys.vinWarn = false → s.isActive = true →
      (bundleParts s.staged).find? (fun p => p.type == 4) = some e →
      ((bitsSet 4 e.scope.toNat).all s.nodeStepOk) = true → meet s.ownModule 1 [e] 4 = true → ∃ u : State, exec (.updActivate h 8) s =
        .next ((u.nodeStep e).reply 0x0B04 h 1) ∧ u.upd.op = some (opRef 0x0B04 h) ∧ u.upd.tx = some (s.newTx 8))
  ∧ (∀ s h u, s.passes 0x0B06 h false [] → u = s.admitted 0x0B06 h [] → s.updOpen = true → s.sys.bootHold = false → exec (.updAbort h) s =
      .next ((u.updDone 0x0105).dropStage.leaveUpdate.reply 0x0B06 h 0))


/-- 19 R514, R515: a ring's nodes are loaded one at a time in address order, each by ENTER with the version expected to be running, WRITEs of at
most 112 bytes and FINISH with the length and digest; an answer brings the next command, a digest that differs one more loading, and the second
such answer fails the step. -/
def nodesAreLoadedInOrder : Prop :=
  (∀ (s : State) k, (s.loaderData k).length = (s.upd.run.get 3).payload.length / 112 + (if (s.upd.run.get 3).payload.length % 112 = 0 then 2 else 3)
      ∧ (s.loaderData k).head? = some ([0, 0] ++ u32 ((s.upd.nodeVer : SMap Nat).at k 0))
      ∧ (s.loaderData k).getLast? = some ([2, 0] ++ u32 (s.upd.run.get 3).payload.length ++ padTo 32 (s.upd.run.get 3).entry.digest))
  ∧ (∀ (s : State) r q l, (s.upd.loads.find? fun p => p.1 == r) = some (r, l) → l.node = q.node →
      l.at_ + 1 ≠ (s.loaderData (nodeKey r l.node)).length →
      s.loaderReply r q 0 = s.loadFrom r { l with at_ := l.at_ + 1 })
  ∧ (∀ (s : State) r q l, (s.upd.loads.find? fun p => p.1 == r) = some (r, l) → l.node = q.node →
      l.at_ + 1 = (s.loaderData (nodeKey r l.node)).length →
      s.loaderReply r q 0 = ({ s with upd := { s.upd with nodeVer := s.upd.nodeVer.set (nodeKey r l.node) (s.upd.running 4) } } : State).loadNext r l.node)
  ∧ (∀ (s : State) r q l, (s.upd.loads.find? fun p => p.1 == r) = some (r, l) → l.node = q.node →
      l.at_ + 1 = (s.loaderData (nodeKey r l.node)).length →
      (l.fails = 0 → s.loaderReply r q 2 = s.loadFrom r { l with at_ := 1, fails := 1 })
      ∧ (l.fails ≠ 0 → s.loaderReply r q 2 = s.nodeFailed r l.node))
  ∧ (∀ (s : State) r n, (n < s.parN 0x201 r → s.loadNext r n = s.loadFrom r ⟨n + 1, 0, 0⟩)
      ∧ (s.parN 0x201 r ≤ n → (s.loadNext r n).upd.loads = s.upd.loads.filter fun p => p.1 != r))

/-- 19 R507 to R519: the nodes' loading, Sprout, trials, confirmation, rollback, parts from the twin and the node step. -/
def Obligations.UpdateTrialsComplete : Prop :=
  (∀ s x, s.sys.lifecycle = .boot → s.upd.state = 4 → s.upd.tx = some x → exec (.sproutActivation none) s =
      .next ((((bitsSet 3 x.mask).map (· + 1)).foldl State.writePart s).onTrial))
  ∧ (∀ s c x, s.sys.lifecycle = .boot → s.upd.state = 6 → s.upd.tx = some x → ∃ t, exec (.sproutActivation c) s = .next t
      ∧ t.upd.state = 0 ∧ t.upd.tx = none ∧ t.upd.run = (s.upd.putBack ((bitsSet 4 x.mask).map (· + 1))).run ∧ t.waits 0xD006 0 1 = true)
  ∧ (∀ s p k x, s.sys.lifecycle = .boot → s.upd.state = 4 → s.upd.tx = some x → p ∈ (bitsSet 3 x.mask).map (· + 1) → ∃ u : State,
      exec (.sproutActivation (some (p, k))) s = .next (u.interrupted p (k == 1)))
  ∧ (∀ s h x, s.passes 0x0B05 h false [] → s.upd.state = 5 → s.sys.startPhase = 7 → s.sys.vinWarn = false → s.upd.tx = some x → x.pair = false → ∃ t,
      exec (.updConfirm h) s = .next t ∧ t.sys.imageConfirmed = true ∧ t.upd.state = 0 ∧ t.upd.tx = none ∧ t.upd.deadline = none
        ∧ t.upd.floor.toNat = max s.upd.floor.toNat x.floor.toNat)
  ∧ (∀ s h (m : Byte) u back, s.passes 0x0B07 h false [] → u = s.admitted 0x0B07 h [m] → 0 < m.toNat → m.toNat < 16 → s.upd.state = 0 →
      s.sys.vinWarn = false →
      s.isActive = false → (∀ i ∈ bitsSet 4 m.toNat, (s.upd.res.get i).valid = true
        ∧ s.upd.floor.toNat ≤ (s.upd.res.get i).entry.version.toNat) →
      back = (bitsSet 3 m.toNat).map (fun i => { (s.upd.res.get i).entry with type := i + 1 }) →
      admissible (replaceParts s.ownModule back) (s.upd.twinParts.filter fun e => e.type != 4) s.nodeParts = true →
      exec (.updRollback h m) s =
        .next ((({ u with upd := { s.upd with state := 6, op := some (opRef 0x0B07 h), tx := some ⟨m.toNat, 0, false, false, [], [], []⟩ } } :
          State).reply 0x0B07 h 1).intoSprout))
  ∧ (∀ s h (m : Byte), s.passes 0x0B08 h false [] → 0 < m.toNat → m.toNat < 16 → s.twinSource = true → s.sys.lifecycle = .isolated →
      s.upd.state = 0 → s.pairOpen = false → s.sys.vinWarn = false → ∃ t, exec (.updFromTwin h m) s = .next t ∧ t.upd.state = 7
        ∧ t.upd.want = m.toNat ∧ t.sys.lifecycle = .update
        ∧ t.upd.op = some (opRef 0x0B08 h))
  ∧ (∀ s f m, f.crcOk = true → m.bundle = false → exec (.shallotImage f m) s = .next ((s.heard true f).takeImage m))
  ∧ (∀ s f m, f.crcOk = true → m.bundle = true → s.upd.state = 0 → ∃ t, exec (.shallotImage f m) s = .next t ∧ t.upd.state = 2
      ∧ t.upd.stage = some ⟨m.payload.length, [(0, m.payload)], true⟩)
  ∧ (∀ s, s.upd.state = 5 → s.sys.startPhase ≠ 7 → exec .trialReadyTimeout s =
      .next ((s.advanceTo (s.upd.trialSince + s.parN 0xB02 0 * 1000000000)).intoSprout))
  ∧ (∀ s x, s.upd.deadline = some x → s.upd.state = 5 → exec .confirmExpired s =
      .next (((s.advanceTo x).startRollback).raise 0xD021 0 1))
  ∧ (∀ s n, s.upd.state = 8 → s.upd.loads = [] → exec (.nodeStepComplete true n) s =
      .next (({ s with upd := { s.upd with nodeBad := false } } : State).nodeStepEnd !s.upd.nodeBad))
  ∧ (∀ s n, s.upd.state = 8 → s.upd.loads ≠ [] → exec (.nodeStepComplete true n) s = .next s)
  ∧ (∀ s n, s.upd.state = 8 → s.upd.nodeBad = false → ∃ u : State, exec (.nodeStepComplete false n) s = .next (u.loadRings s.upd.nodeRings)
      ∧ u.waits 0xD040 (nodeKey (n / 28) (n % 28 + 1)) 1 = true ∧ u.upd.run.get 3 = s.upd.res.get 3 ∧ u.upd.nodeBad = true)
  ∧ (∀ s x, s.upd.mixedSince = some x → s.upd.mixedLong = false → ∃ t, exec .mixedPairLong s = .next t ∧ t.upd.mixedLong = true
      ∧ t.waits 0xD031 0 1 = true ∧ t.now = max s.now (x + s.parN 0xB04 0 * 3600000000000))
  ∧ nodesAreLoadedInOrder

/-- 04 R79: SAFETY_CLASS packets enter the execution queue ahead of every waiting packet without the flag; within each class the order of
arrival is kept. -/
def Obligations.SafetyClassRunsAhead : Prop :=
  ∀ (s : State) (w : Waiting), let safe := fun (x : Waiting) => x.hdr.flags.getLsbD 3; let q := s.wcp.queue; let r := (s.enqueue w).wcp.queue
    r.filter safe = (q ++ [w]).filter safe ∧ r.filter (fun x => !safe x) = (q ++ [w]).filter (fun x => !safe x)
      ∧ (safe w = true → ∃ a b, r = a ++ w :: b ∧ (∀ x ∈ a, safe x = true) ∧ (∀ x ∈ b, safe x = false))
      ∧ (safe w = false → r = q ++ [w])
      ∧ s.enqueue w = { s with wcp := { s.wcp with queue := r } }

/-- 03 R61: P4 is refused with 0x0105 while any safety output is closed; a module in SAFE, which may not enter P4 at all, answers 0x0109
(01 R23). Nothing of the module moves. -/
def Obligations.ClosedOutputsForbidP4 : Prop :=
  (∀ s h u, s.passes 0x0020 h false [] → u = s.admitted 0x0020 h [4] → s.anySoOn = true → s.sys.lifecycle ≠ .safe →
      exec (.powerSet h 4) s = .next (u.fail 0x0020 h 0x0105))
  ∧ (∀ s h u, s.passes 0x0020 h false [] → u = s.admitted 0x0020 h [4] → s.sys.lifecycle = .safe →
      exec (.powerSet h 4) s = .next (u.fail 0x0020 h 0x0109))
  ∧ (∀ s h t, s.passes 0x0020 h false [] → s.anySoOn = true → exec (.powerSet h 4) s = .next t → t.kept = s.kept)

/-- 08 R216, R217: the high-side on-intervals of each phase lie in the period and last n_on units. In complementary operation its low side is on
whenever the high side is off, less the dead time at each transition, those at the ends of the period towards its neighbours among them: no
low-side interval comes nearer than the dead time to a high-side one of the previous, the present or the next period, and every instant that far
from all of them lies in one. -/
def Obligations.PhasesKeepTheDeadTime : Prop :=
  ∀ (n prev on next dead i : Nat) (h : Nat → List (Nat × Nat)) (l : List (Nat × Nat)), prev ≤ n → on ≤ n → next ≤ n →
    (h = fun k => if i = 0 then (highSide n k).1 else (highSide n k).2) → l = lowSide n dead (h prev) (h on) (h next) →
    (∀ p ∈ h on ++ l, p.1 < p.2 ∧ p.2 ≤ n)
    ∧ ((h on).map fun p => p.2 - p.1).sum = on
    ∧ (∀ p ∈ h prev, ∀ q ∈ l, p.2 + dead ≤ q.1 + n)
    ∧ (∀ p ∈ h on, ∀ q ∈ l, q.2 + dead ≤ p.1 ∨ p.2 + dead ≤ q.1)
    ∧ (∀ p ∈ h next, ∀ q ∈ l, q.2 + dead ≤ p.1 + n)
    ∧ (∀ t, t < n → (∀ p ∈ h prev, p.2 + dead ≤ t + n) → (∀ p ∈ h on, t + dead < p.1 ∨ p.2 + dead ≤ t) →
        (∀ p ∈ h next, t + dead < p.1 + n) → ∃ q ∈ l, q.1 ≤ t ∧ t < q.2)

/-- 07 R185: the winner is the candidate with the smallest output, a tie at Imax goes to L0, any other to the lowest-numbered limit code,
so that L0 wins below Imax only with an output strictly below every other. -/
def Obligations.SmallestOutputWins : Prop :=
  ∀ (imax : Int) (cands : List (Nat × Int)) (k : Nat) (a : Int), selectWinner imax cands = (k, a) → (∀ c ∈ cands, c.2 ≤ imax) → cands ≠ [] →
    (∀ c ∈ cands, a ≤ c.2) ∧ (∃ c ∈ cands, c.2 = a) ∧ (a = imax → k = 0)
    ∧ (a ≠ imax → (k, a) ∈ cands ∧ (k = 0 → ∀ c ∈ cands, c.2 = a → c.1 = 0) ∧ (k ≠ 0 → ∀ c ∈ cands, c.2 = a → c.1 ≠ 0 → k ≤ c.1))

/-- 07 R184, R192: with the bus at LOOP.VB_MIN or above a running lane's duty lies between D_MIN and D_MAX; below it the lane has no duty,
its inner integrator holds, and the period reports the under-voltage. -/
def Obligations.DutiesStayInTheirLimits : Prop :=
  ∀ (s : State) (c : Nat) (iM vS vB r0 : Int) (l : LaneSt), l = (s.lanePeriod c iM vS vB r0).lane →
    s.parI 0x307 c ≤ s.parI 0x308 c →
    (l.hasDuty = true → s.parQ 0x303 0x30B c ≤ vB ∧ 0 < vB ∧ s.parI 0x307 c ≤ l.duty ∧ l.duty ≤ s.parI 0x308 c)
    ∧ (l.hasDuty = false → (vB < s.parQ 0x303 0x30B c ∨ vB ≤ 0) ∧ l.duty = 0 ∧ l.iIl = (s.lane c).iIl)
    ∧ (l.hasDuty = !(s.lanePeriod c iM vS vB r0).undervolt)

/-- 08 R207, R220, Table 8.5: a detector that disables a channel leaves its outputs high-impedance, its latch set and its lane without
duty, and touches no other channel, lane or generator. -/
def Obligations.DetectorsDisableTheirChannelAlone : Prop :=
  ∀ s c n i, c < 4 → s.parN 0x38D c ≤ n →
    i ∈ [Instr.dsClockLoss c, .dsStuck c 0, .dsStuck c 1, .dsStuck c 2, .gateDriverFault c n, .turnipDsStuck c] →
    ∃ t, exec i s = .next t ∧ (t.ch c).state = 4 ∧ (t.ch c).driven = false ∧ (t.ch c).pwm = ⟨[], [], [], []⟩ ∧ (t.ch c).stopNow = false
      ∧ (t.lane c).shadow = none ∧ (t.lane c).applied = none ∧ ((t.ch c).hwDisable = true ∨ (t.ch c).gateTurnipShut = true)
      ∧ (∀ k, k < 4 → k ≠ c → t.ch k = s.ch k ∧ t.lane k = s.lane k ∧ t.gen k = s.gen k ∧ t.gen (k + 4) = s.gen (k + 4))
      ∧ t.safe = s.safe ∧ t.wcp.params = s.wcp.params

/-- 12 R339, R342, R344: an overcurrent, Turnip's second-order filter over the bits of the channel's DSI at or beyond a threshold, trips its
string in both channels: every output of the string clamp-opens, both gates of the channel
close and its outputs go high-impedance. Outside a commissioning test the other strings, outputs, channels and lanes go on. -/
def Obligations.OvercurrentTripsItsStringAlone : Prop :=
  ∀ s c bits, c < 4 → s.ocTrips c bits = true → ∃ t, exec (.overcurrent c bits) s = .next t ∧ (t.str c).core.tripped = true
    ∧ (t.str c).turnip.tripped = true
    ∧ (t.str c).closed = false ∧ (∀ n ∈ s.outsOf c, t.soOn n = false ∧ (t.so n).opening = .clamp)
    ∧ t.gateSafe c = false ∧ t.gateTurnip c = false ∧ (t.ch c).state = 4 ∧ (t.ch c).driven = false ∧ (t.ch c).pwm = ⟨[], [], [], []⟩
    ∧ t.waits 0x6011 c 2 = true
    ∧ (s.safe.ct = none → (∀ k, k < 4 → k ≠ c → t.str k = s.str k ∧ t.ch k = s.ch k ∧ t.lane k = s.lane k)
        ∧ ∀ n, n ∉ s.outsOf c → t.so n = s.so n)

/-- 12 R345, R353: a fire input demands SF3: every safety output clamp-opens, every gate closes, every channel goes FAULTED with its
outputs high-impedance, FIRE is latched in both channels, and every string is open. -/
def Obligations.FireOpensEverything : Prop :=
  ∀ s k b, k < 4 → (s.siFunc k).1 = 1 → s.fieldOn = true → ∃ t, exec (.siDemand k b) s = .next t
    ∧ t.safe.fireCore = true ∧ t.safe.fireTurnip = true ∧ t.anySoOn = false ∧ (∀ n, n < 8 → (t.so n).opening = .clamp)
    ∧ (∀ c, c < 4 → (t.str c).closed = false ∧ t.gateSafe c = false ∧ t.gateTurnip c = false ∧ (t.ch c).state = 4
        ∧ (t.ch c).driven = false ∧ (t.ch c).pwm = ⟨[], [], [], []⟩)
    ∧ (s.safe.fire = false → t.waits 0x6030 0 2 = true)

/-- 07 R174, 08 R214, R220: at the application instant a RUNNING channel whose gates are open takes the duty released for it and drives
the edges R216 to R218 give it beside the period before; until the next duty is released, that duty stands for the period after too. -/
def Obligations.RunningChannelsTakeTheirDuty : Prop :=
  ∀ s c d n dead, c < 4 → n = pwmUnits (s.parN 0x300 0) → dead = (rhe (s.parN 0x38B c * 32 / 5)).toNat → (s.sys.lane.get c).fenced = false →
    s.sys.power = .p0 → s.isActive = true → (s.ch c).state = 2 → (s.ch c).freeze = none → (s.ch c).stopNow = false →
    (s.ch c).hwDisable = false → s.gateSafe c = true → s.gateTurnip c = true → (s.lane c).shadow = some d → s.twin.hand = none →
    s.safe.openSoon = [] → ∃ t, exec .applicationInstant s = .next t ∧ (t.ch c).driven = true 
      ∧ (t.ch c).pwm = pwmEdges n (s.ch c).onNow (nOn n d) (nOn n d) dead (s.parN 0x38A c) (s.lane c).shadowDir
      ∧ (t.lane c).applied = some d ∧ (t.ch c).state = 2 ∧ t.loop.passed = true

/-- 08 R220: outputs are enabled only at an application instant. In every step of the block, from every state, a channel that drives its
outputs afterwards and did not before was enabled by APPLICATION_INSTANT. -/
def Obligations.OutputsAreEnabledOnlyAtApplicationInstants : Prop :=
  (∀ (c : Instr) (s t : State) (k : Nat), exec c s = .next t → (s.ch k).driven = false → (t.ch k).driven = true → c = .applicationInstant)
  ∧ (∀ (s t : State) (k : Nat), s.pending = [] → step s = .next t → (s.ch k).driven = false → (t.ch k).driven = false)

/-- 04 R91 and the chapters' opcode tables: a request that reads leaves every register, buffer and parameter of the module as it was,
whatever the checks of R83 decide about it. -/
def Obligations.ReadsLeaveTheModuleAlone : Prop :=
  ∀ (c : Instr) (s t : State), c.reads = true → exec c s = .next t →
    t.kept = s.kept ∧ t.wcp.params = s.wcp.params ∧ t.wcp.generation = s.wcp.generation

/-- 04 R83, R84, R85: a request of the module's own hosts that a check turns away changes nothing but the protocol's own state and what is
sent or recorded. -/
def Obligations.RequestsTurnedAwayChangeNothing : Prop :=
  ∀ (s : State) (op : Nat) (h : Hdr) (pl : Bytes) (energise : Bool) (blocks : List Nat) (body : State → State),
    s.isGuest op h = false → s.passes op h energise blocks = false →
    (s.wcpRun op h pl energise blocks body).kept = s.kept ∧ (s.wcpRun op h pl energise blocks body).wcp.params = s.wcp.params
      ∧ (s.answers h op = false → s.wcpRun op h pl energise blocks body = s)

/-- The frames of the recorder, of updates, inputs, controllers, estimators, rings, twin and network: a command of one part changes no other
part of the module and no parameter. -/
def Obligations.CommandsKeepToTheirPart : Prop :=
  (∀ (c : Instr) (p : Part) (s t : State), c.homeOf = some p → p ∉ [Part.axes, .timedAxes, .stage, .channel, .safe, .loop] → exec c s = .next t →
    t.outside p = s.outside p ∧ t.wcp.params = s.wcp.params)
  ∧ (∀ h s t, exec (.commit h) s = .next t → t.kept = s.kept)
  ∧ (∀ far how s t, exec (.crossingTimeout far how) s = .next t → t.kept = { s.kept with
        sys := { s.sys with xingAnswer := t.sys.xingAnswer, xingDropped := t.sys.xingDropped } } ∧ t.wcp.params = s.wcp.params)
  ∧ (∀ (i : Instr) (k : Nat) (o : CanOutcome) (s t : State), i ∈ [Instr.canTxDone k o, .canBusOff k, .canRecovered k] → exec i s = .next t →
    ∀ d, d < 2 → d ≠ k → t.ctl d = s.ctl d)

/-- The frames of channels, strings and axes: a command of one of these parts changes no other part of the module and no parameter, and an
event of one axis leaves the other axes alone. -/
def Obligations.DriveCommandsKeepToTheirPart : Prop :=
  (∀ (c : Instr) (p : Part) (s t : State), c.homeOf = some p → p ∈ [Part.axes, .timedAxes, .stage, .channel, .safe, .loop] → exec c s = .next t →
    t.outside p = s.outside p ∧ t.wcp.params = s.wcp.params)
  ∧ (∀ (i : Instr) (a ph : Nat) (s t : State), a < 4 → i ∈ [Instr.holdDelayExpiry a, .bridgeOvercurrent a, .coilOpen a ph] → exec i s = .next t →
    ∀ b, b < 4 → b ≠ a → t.axis b = s.axis b ∧ t.gen (b + 4) = s.gen (b + 4))

/-- 04 R80: a sequence number stands for the one extended sequence at most 1,024 above the highest accepted or within the last 1,024; an
accepted request is not accepted a second time, and its repeat gets the reply that was sent. -/
def Obligations.RequestsRunOnce : Prop :=
  (∀ hi seq e, extend hi seq = some e → e % 65536 = seq % 65536 ∧ e ≤ hi + 1024 ∧ hi < e + 1024 ∧ 0 < e)
  ∧ (∀ hi e, 0 < e → e ≤ hi + 1024 → hi < e + 1024 → extend hi (e % 65536) = some e)
  ∧ (∀ (s : State) h x e, h.session ≠ 0 → s.sess h.session.toNat = some x → extend x.hi h.seq.toNat = some e →
      (s.accept h).checkPacket h ≠ .pass)
  ∧ (∀ (s : State) op h st body, h.session ≠ 0 → s.isGuest op h = false → s.checkPacket h = .pass →
      ((s.accept h).reply op h st body).checkPacket h = .resend ((s.accept h).replyPacket op h st body true))
  ∧ (∀ (s : State) op h pl en bl body p, s.answers h op = true → s.turn op h = true → s.isGuest op h = false →
      (s.dequeue op h).checkPacket h = .resend p →
      s.wcpRun op h pl en bl body = (s.dequeue op h).post p)

/-- 12 R365, R366: the PDU of a produce connection has LEN, the data and a CRC-32 that its consumer accepts under the same CONN_ID. -/
def Obligations.ProducedPdusPassTheirCheck : Prop :=
  ∀ (id type : Nat) (seq : BitVec 16) (wd : Nat) (data : Bytes), data.length ≤ 255 → type < 15 → wd < 65536 →
    let b := wsfPdu id type seq wd data
    wsfCrcOk id b = true ∧ wsfWhole 0 b = true ∧ b.length = 10 + data.length ∧ fieldAt b 0 1 = 1 + 16 * type ∧ fieldAt b 1 1 = data.length
      ∧ fieldAt b 2 2 = seq.toNat ∧ fieldAt b 4 2 = wd ∧ slice b 6 data.length = data

/-- 04 R77, R78: reception finds in a packet on the wire the header, payload and checks with which it was sent: the CRC and the length hold,
every field reads back, and the tag is good where the session's key and the extended sequence are the sender's. -/
def Obligations.PacketsReadBackFromTheWire : Prop :=
  ∀ (s : State) (p : Packet) (more : Bool) (payload : Bytes) (h : Hdr), payload.length ≤ 4096 →
    h = s.parseHdr p.transport p.peer (wirePacket p more payload) →
    h.crcOk = true ∧ h.sizeOk = true ∧ h.version = 2 ∧ h.resv = 0 ∧ h.transport = p.transport ∧ h.peer = p.peer
      ∧ h.seq.toNat = p.seq % 65536 ∧ h.session.toNat = p.session % 65536 ∧ h.target.toNat = p.target % 256
      ∧ h.flags.getLsbD 0 = p.reply ∧ h.flags.getLsbD 1 = p.error ∧ h.flags.getLsbD 2 = more ∧ h.flags.getLsbD 3 = p.safety
      ∧ h.flags.getLsbD 4 = p.key.isSome ∧ fieldAt (wirePacket p more payload) 6 2 = p.opcode % 65536
      ∧ fieldAt (wirePacket p more payload) 8 2 = payload.length ∧ slice (wirePacket p more payload) 16 payload.length = payload
      ∧ (p.key = none → h.tag = .absent)
      ∧ (∀ x, s.sess (p.session % 65536) = some x → p.key = some x.keyIn → extend x.hi (p.seq % 65536) = some p.seq → h.tag = .good)
end

