-- ==== Sys2Proof/Laws/Bits.lean ====
section
/-! SUPPORT. Bytes and checksums: what little-endian fields give back, and that every CRC fits its width. -/

namespace Sys2Proof.Machine
open Sys2Proof

@[simp] theorem leBytes_length (n v : Nat) : (leBytes n v).length = n := by
  induction n generalizing v with
  | zero => rfl
  | succ n ih => simp [leBytes, ih]

theorem ofLe_leBytes (n v : Nat) : ofLe (leBytes n v) = v % 256 ^ n := by
  induction n generalizing v with
  | zero => simp [leBytes, ofLe, Nat.mod_one]
  | succ n ih =>
    simp only [leBytes, ofLe, ih, BitVec.toNat_ofNat]
    rw [show (256 : Nat) ^ (n + 1) = 256 * 256 ^ n from Nat.pow_succ']
    exact Nat.mod_mul.symm

theorem crcStep_lt (poly n c : Nat) (hp : poly < 2 ^ 32) (hc : c < 2 ^ 32) : crcStep poly n c < 2 ^ 32 := by
  induction n generalizing c with
  | zero => exact hc
  | succ n ih =>
    simp only [crcStep]
    split
    · exact ih _ (Nat.xor_lt_two_pow (by omega) hp)
    · exact ih _ (by omega)

theorem crc32c_lt (bs : Bytes) : crc32c bs < 2 ^ 32 := by
  have key : ∀ (l : Bytes) c, c < 2 ^ 32 → l.foldl (fun c b => crcStep 0x82F63B78 8 (c ^^^ b.toNat)) c < 2 ^ 32 := by
    intro l
    induction l with
    | nil => exact fun c h => h
    | cons b l ih =>
      intro c h
      exact ih _ (crcStep_lt _ _ _ (by decide) (Nat.xor_lt_two_pow h (by have := b.isLt; omega)))
  exact Nat.xor_lt_two_pow (key bs _ (by decide)) (by decide)

theorem crcUpStep_lt (poly n c : Nat) (hp : poly < 2 ^ 32) (hc : c < 2 ^ 32) : crcUpStep 32 poly n c < 2 ^ 32 := by
  induction n generalizing c with
  | zero => exact hc
  | succ n ih =>
    simp only [crcUpStep]
    split
    · exact ih _ (Nat.xor_lt_two_pow (Nat.mod_lt _ (by decide)) hp)
    · exact ih _ (Nat.mod_lt _ (by decide))

theorem crc32s_lt (bs : Bytes) : crc32s bs < 2 ^ 32 := by
  have key : ∀ (l : Bytes) c, c < 2 ^ 32 → l.foldl (fun c b => crcUpStep 32 0x741B8CD7 8 (c ^^^ (b.toNat * 2 ^ (32 - 8)))) c < 2 ^ 32 := by
    intro l
    induction l with
    | nil => exact fun c h => h
    | cons b l ih =>
      intro c h
      exact ih _ (crcUpStep_lt _ _ _ (by decide) (Nat.xor_lt_two_pow h (by have := b.isLt; omega)))
  exact Nat.xor_lt_two_pow (key bs _ (by decide)) (by decide)

end Sys2Proof.Machine
end

