-- ==== Sys2Proof/Laws/Data.lean ====
section
/-! SUPPORT. Sparse tables and groups of four: a read after a write gives the value written, a write leaves every other place alone, and
keys keep rising. -/

namespace Sys2Proof

variable {α : Type}

@[simp] theorem SMap.find_set_same (m : SMap α) (k : Nat) (v : α) : SMap.find (SMap.set m k v) k = some v := by
  induction m with
  | nil => simp [SMap.set, SMap.find]
  | cons p t ih =>
    obtain ⟨k', v'⟩ := p
    simp only [SMap.set]
    split
    · simp [SMap.find]
    · split
      · simp [SMap.find]
      · simp only [SMap.find]; rw [if_neg (by omega)]; exact ih

theorem SMap.find_set_other (m : SMap α) {k j : Nat} (v : α) (h : j ≠ k) : SMap.find (SMap.set m k v) j = SMap.find m j := by
  induction m with
  | nil => simp [SMap.set, SMap.find, Ne.symm h]
  | cons p t ih =>
    obtain ⟨k', v'⟩ := p
    simp only [SMap.set]
    split
    · simp [SMap.find, Ne.symm h]
    · split
      · next hk => subst hk; simp [SMap.find, Ne.symm h]
      · simp only [SMap.find]; split <;> simp_all

theorem SMap.at_eq (m : SMap α) (k : Nat) (d : α) : SMap.at m k d = (SMap.find m k).getD d := by
  induction m with
  | nil => rfl
  | cons p t ih =>
    obtain ⟨k', v'⟩ := p
    simp only [SMap.at, SMap.find]
    split
    · rfl
    · exact ih

@[simp] theorem SMap.at_set_same (m : SMap α) (k : Nat) (v d : α) : SMap.at (SMap.set m k v) k d = v := by simp [SMap.at_eq]

theorem SMap.at_set_other (m : SMap α) {k j : Nat} (v d : α) (h : j ≠ k) : SMap.at (SMap.set m k v) j d = SMap.at m j d := by
  simp [SMap.at_eq, SMap.find_set_other m v h]

/-- Keys rise strictly. -/
def SMap.wf (m : SMap α) : Prop := m.Pairwise fun p q => p.1 < q.1

theorem SMap.mem_set {m : SMap α} {k : Nat} {v : α} {p : Nat × α} (h : p ∈ SMap.set m k v) : p = (k, v) ∨ p ∈ m := by
  induction m with
  | nil => simpa [SMap.set] using h
  | cons q t ih =>
    obtain ⟨k', v'⟩ := q
    simp only [SMap.set] at h
    split at h
    · simpa using h
    · split at h
      · rcases List.mem_cons.1 h with h | h
        · exact .inl h
        · exact .inr (List.mem_cons_of_mem _ h)
      · rcases List.mem_cons.1 h with h | h
        · exact .inr (by simp [h])
        · rcases ih h with h | h
          · exact .inl h
          · exact .inr (List.mem_cons_of_mem _ h)

theorem SMap.set_wf {m : SMap α} (k : Nat) (v : α) (h : SMap.wf m) : SMap.wf (SMap.set m k v) := by
  induction m with
  | nil => simp [SMap.set, SMap.wf]
  | cons q t ih =>
    obtain ⟨k', v'⟩ := q
    obtain ⟨h1, h2⟩ := List.pairwise_cons.1 h
    simp only [SMap.set]
    split
    · next hk =>
      refine List.pairwise_cons.2 ⟨fun p hp => ?_, h⟩
      rcases List.mem_cons.1 hp with rfl | hp
      · exact hk
      · exact Nat.lt_trans hk (h1 p hp)
    · split
      · next hk => subst hk; exact List.pairwise_cons.2 ⟨h1, h2⟩
      · next hk hne =>
        refine List.pairwise_cons.2 ⟨fun p hp => ?_, ih h2⟩
        rcases SMap.mem_set hp with rfl | hp
        · show k' < k; omega
        · exact h1 p hp

theorem SMap.del_wf {m : SMap α} (k : Nat) (h : SMap.wf m) : SMap.wf (SMap.del m k) := List.Pairwise.filter _ h

@[simp] theorem Four.get_set_same (f : Four α) (i : Nat) (v : α) (h : i < 4) : (f.set i v).get i = v := by
  match i, h with
  | 0, _ => rfl
  | 1, _ => rfl
  | 2, _ => rfl
  | 3, _ => rfl

theorem Four.get_set_other (f : Four α) {i j : Nat} (v : α) (hi : i < 4) (hj : j < 4) (h : j ≠ i) : (f.set i v).get j = f.get j := by
  match i, j, hi, hj with
  | 0, 1, _, _ | 0, 2, _, _ | 0, 3, _, _ | 1, 0, _, _ | 1, 2, _, _ | 1, 3, _, _ => rfl
  | 2, 0, _, _ | 2, 1, _, _ | 2, 3, _, _ | 3, 0, _, _ | 3, 1, _, _ | 3, 2, _, _ => rfl
  | 0, 0, _, _ | 1, 1, _, _ | 2, 2, _, _ | 3, 3, _, _ => exact absurd rfl h

@[simp] theorem Four.set_get (f : Four α) (i : Nat) (h : i < 4) : f.set i (f.get i) = f := by
  match i, h with
  | 0, _ => rfl
  | 1, _ => rfl
  | 2, _ => rfl
  | 3, _ => rfl

end Sys2Proof
end

