-- ==== Sys2Proof/Laws/State.lean ====
section
/-! SUPPORT. What each named update leaves of the state: every field it does not write, by definition. -/

namespace Sys2Proof.Machine
open Sys2Proof

@[simp] theorem State.advanceTo_pending (s : State) (t : Nat) : (s.advanceTo t).pending = s.pending := rfl
@[simp] theorem State.advanceTo_frac (s : State) (t : Nat) : (s.advanceTo t).frac = s.frac := rfl
@[simp] theorem State.advanceTo_out (s : State) (t : Nat) : (s.advanceTo t).out = s.out := rfl
@[simp] theorem State.advanceTo_free (s : State) (t : Nat) : (s.advanceTo t).free = s.free := rfl
@[simp] theorem State.advanceTo_wcp (s : State) (t : Nat) : (s.advanceTo t).wcp = s.wcp := rfl
@[simp] theorem State.advanceTo_rings (s : State) (t : Nat) : (s.advanceTo t).rings = s.rings := rfl
@[simp] theorem State.advanceTo_loop (s : State) (t : Nat) : (s.advanceTo t).loop = s.loop := rfl
@[simp] theorem State.advanceTo_psi (s : State) (t : Nat) : (s.advanceTo t).psi = s.psi := rfl
@[simp] theorem State.advanceTo_prof (s : State) (t : Nat) : (s.advanceTo t).prof = s.prof := rfl
@[simp] theorem State.advanceTo_est (s : State) (t : Nat) : (s.advanceTo t).est = s.est := rfl
@[simp] theorem State.advanceTo_safe (s : State) (t : Nat) : (s.advanceTo t).safe = s.safe := rfl
@[simp] theorem State.advanceTo_twin (s : State) (t : Nat) : (s.advanceTo t).twin = s.twin := rfl
@[simp] theorem State.advanceTo_net (s : State) (t : Nat) : (s.advanceTo t).net = s.net := rfl
@[simp] theorem State.advanceTo_can (s : State) (t : Nat) : (s.advanceTo t).can = s.can := rfl
@[simp] theorem State.advanceTo_fio (s : State) (t : Nat) : (s.advanceTo t).fio = s.fio := rfl
@[simp] theorem State.advanceTo_bist (s : State) (t : Nat) : (s.advanceTo t).bist = s.bist := rfl
@[simp] theorem State.advanceTo_recd (s : State) (t : Nat) : (s.advanceTo t).recd = s.recd := rfl
@[simp] theorem State.advanceTo_upd (s : State) (t : Nat) : (s.advanceTo t).upd = s.upd := rfl
@[simp] theorem State.advanceTo_fm (s : State) (t : Nat) : (s.advanceTo t).fm = s.fm := rfl

@[simp] theorem State.setPar_pending (s : State) (id inst : Nat) (v : Bytes) : (s.setPar id inst v).pending = s.pending := rfl
@[simp] theorem State.setPar_now (s : State) (id inst : Nat) (v : Bytes) : (s.setPar id inst v).now = s.now := rfl
@[simp] theorem State.setPar_frac (s : State) (id inst : Nat) (v : Bytes) : (s.setPar id inst v).frac = s.frac := rfl
@[simp] theorem State.setPar_out (s : State) (id inst : Nat) (v : Bytes) : (s.setPar id inst v).out = s.out := rfl
@[simp] theorem State.setPar_free (s : State) (id inst : Nat) (v : Bytes) : (s.setPar id inst v).free = s.free := rfl
@[simp] theorem State.setPar_sys (s : State) (id inst : Nat) (v : Bytes) : (s.setPar id inst v).sys = s.sys := rfl
@[simp] theorem State.setPar_rings (s : State) (id inst : Nat) (v : Bytes) : (s.setPar id inst v).rings = s.rings := rfl
@[simp] theorem State.setPar_loop (s : State) (id inst : Nat) (v : Bytes) : (s.setPar id inst v).loop = s.loop := rfl
@[simp] theorem State.setPar_psi (s : State) (id inst : Nat) (v : Bytes) : (s.setPar id inst v).psi = s.psi := rfl
@[simp] theorem State.setPar_prof (s : State) (id inst : Nat) (v : Bytes) : (s.setPar id inst v).prof = s.prof := rfl
@[simp] theorem State.setPar_est (s : State) (id inst : Nat) (v : Bytes) : (s.setPar id inst v).est = s.est := rfl
@[simp] theorem State.setPar_safe (s : State) (id inst : Nat) (v : Bytes) : (s.setPar id inst v).safe = s.safe := rfl
@[simp] theorem State.setPar_twin (s : State) (id inst : Nat) (v : Bytes) : (s.setPar id inst v).twin = s.twin := rfl
@[simp] theorem State.setPar_net (s : State) (id inst : Nat) (v : Bytes) : (s.setPar id inst v).net = s.net := rfl
@[simp] theorem State.setPar_can (s : State) (id inst : Nat) (v : Bytes) : (s.setPar id inst v).can = s.can := rfl
@[simp] theorem State.setPar_fio (s : State) (id inst : Nat) (v : Bytes) : (s.setPar id inst v).fio = s.fio := rfl
@[simp] theorem State.setPar_bist (s : State) (id inst : Nat) (v : Bytes) : (s.setPar id inst v).bist = s.bist := rfl
@[simp] theorem State.setPar_recd (s : State) (id inst : Nat) (v : Bytes) : (s.setPar id inst v).recd = s.recd := rfl
@[simp] theorem State.setPar_upd (s : State) (id inst : Nat) (v : Bytes) : (s.setPar id inst v).upd = s.upd := rfl
@[simp] theorem State.setPar_fm (s : State) (id inst : Nat) (v : Bytes) : (s.setPar id inst v).fm = s.fm := rfl

@[simp] theorem State.incBy_pending (s : State) (id inst n : Nat) : (s.incBy id inst n).pending = s.pending := rfl
@[simp] theorem State.incBy_now (s : State) (id inst n : Nat) : (s.incBy id inst n).now = s.now := rfl
@[simp] theorem State.incBy_frac (s : State) (id inst n : Nat) : (s.incBy id inst n).frac = s.frac := rfl
@[simp] theorem State.incBy_out (s : State) (id inst n : Nat) : (s.incBy id inst n).out = s.out := rfl
@[simp] theorem State.incBy_free (s : State) (id inst n : Nat) : (s.incBy id inst n).free = s.free := rfl
@[simp] theorem State.incBy_sys (s : State) (id inst n : Nat) : (s.incBy id inst n).sys = s.sys := rfl
@[simp] theorem State.incBy_rings (s : State) (id inst n : Nat) : (s.incBy id inst n).rings = s.rings := rfl
@[simp] theorem State.incBy_loop (s : State) (id inst n : Nat) : (s.incBy id inst n).loop = s.loop := rfl
@[simp] theorem State.incBy_psi (s : State) (id inst n : Nat) : (s.incBy id inst n).psi = s.psi := rfl
@[simp] theorem State.incBy_prof (s : State) (id inst n : Nat) : (s.incBy id inst n).prof = s.prof := rfl
@[simp] theorem State.incBy_est (s : State) (id inst n : Nat) : (s.incBy id inst n).est = s.est := rfl
@[simp] theorem State.incBy_safe (s : State) (id inst n : Nat) : (s.incBy id inst n).safe = s.safe := rfl
@[simp] theorem State.incBy_twin (s : State) (id inst n : Nat) : (s.incBy id inst n).twin = s.twin := rfl
@[simp] theorem State.incBy_net (s : State) (id inst n : Nat) : (s.incBy id inst n).net = s.net := rfl
@[simp] theorem State.incBy_can (s : State) (id inst n : Nat) : (s.incBy id inst n).can = s.can := rfl
@[simp] theorem State.incBy_fio (s : State) (id inst n : Nat) : (s.incBy id inst n).fio = s.fio := rfl
@[simp] theorem State.incBy_bist (s : State) (id inst n : Nat) : (s.incBy id inst n).bist = s.bist := rfl
@[simp] theorem State.incBy_recd (s : State) (id inst n : Nat) : (s.incBy id inst n).recd = s.recd := rfl
@[simp] theorem State.incBy_upd (s : State) (id inst n : Nat) : (s.incBy id inst n).upd = s.upd := rfl
@[simp] theorem State.incBy_fm (s : State) (id inst n : Nat) : (s.incBy id inst n).fm = s.fm := rfl

@[simp] theorem State.inc_pending (s : State) (id inst : Nat) : (s.inc id inst).pending = s.pending := rfl
@[simp] theorem State.inc_now (s : State) (id inst : Nat) : (s.inc id inst).now = s.now := rfl
@[simp] theorem State.inc_frac (s : State) (id inst : Nat) : (s.inc id inst).frac = s.frac := rfl
@[simp] theorem State.inc_out (s : State) (id inst : Nat) : (s.inc id inst).out = s.out := rfl
@[simp] theorem State.inc_free (s : State) (id inst : Nat) : (s.inc id inst).free = s.free := rfl
@[simp] theorem State.inc_sys (s : State) (id inst : Nat) : (s.inc id inst).sys = s.sys := rfl
@[simp] theorem State.inc_rings (s : State) (id inst : Nat) : (s.inc id inst).rings = s.rings := rfl
@[simp] theorem State.inc_loop (s : State) (id inst : Nat) : (s.inc id inst).loop = s.loop := rfl
@[simp] theorem State.inc_psi (s : State) (id inst : Nat) : (s.inc id inst).psi = s.psi := rfl
@[simp] theorem State.inc_prof (s : State) (id inst : Nat) : (s.inc id inst).prof = s.prof := rfl
@[simp] theorem State.inc_est (s : State) (id inst : Nat) : (s.inc id inst).est = s.est := rfl
@[simp] theorem State.inc_safe (s : State) (id inst : Nat) : (s.inc id inst).safe = s.safe := rfl
@[simp] theorem State.inc_twin (s : State) (id inst : Nat) : (s.inc id inst).twin = s.twin := rfl
@[simp] theorem State.inc_net (s : State) (id inst : Nat) : (s.inc id inst).net = s.net := rfl
@[simp] theorem State.inc_can (s : State) (id inst : Nat) : (s.inc id inst).can = s.can := rfl
@[simp] theorem State.inc_fio (s : State) (id inst : Nat) : (s.inc id inst).fio = s.fio := rfl
@[simp] theorem State.inc_bist (s : State) (id inst : Nat) : (s.inc id inst).bist = s.bist := rfl
@[simp] theorem State.inc_recd (s : State) (id inst : Nat) : (s.inc id inst).recd = s.recd := rfl
@[simp] theorem State.inc_upd (s : State) (id inst : Nat) : (s.inc id inst).upd = s.upd := rfl
@[simp] theorem State.inc_fm (s : State) (id inst : Nat) : (s.inc id inst).fm = s.fm := rfl

@[simp] theorem State.emit_pending (s : State) (o : Out) : (s.emit o).pending = s.pending := rfl
@[simp] theorem State.emit_now (s : State) (o : Out) : (s.emit o).now = s.now := rfl
@[simp] theorem State.emit_frac (s : State) (o : Out) : (s.emit o).frac = s.frac := rfl
@[simp] theorem State.emit_free (s : State) (o : Out) : (s.emit o).free = s.free := rfl
@[simp] theorem State.emit_sys (s : State) (o : Out) : (s.emit o).sys = s.sys := rfl
@[simp] theorem State.emit_wcp (s : State) (o : Out) : (s.emit o).wcp = s.wcp := rfl
@[simp] theorem State.emit_rings (s : State) (o : Out) : (s.emit o).rings = s.rings := rfl
@[simp] theorem State.emit_loop (s : State) (o : Out) : (s.emit o).loop = s.loop := rfl
@[simp] theorem State.emit_psi (s : State) (o : Out) : (s.emit o).psi = s.psi := rfl
@[simp] theorem State.emit_prof (s : State) (o : Out) : (s.emit o).prof = s.prof := rfl
@[simp] theorem State.emit_est (s : State) (o : Out) : (s.emit o).est = s.est := rfl
@[simp] theorem State.emit_safe (s : State) (o : Out) : (s.emit o).safe = s.safe := rfl
@[simp] theorem State.emit_twin (s : State) (o : Out) : (s.emit o).twin = s.twin := rfl
@[simp] theorem State.emit_net (s : State) (o : Out) : (s.emit o).net = s.net := rfl
@[simp] theorem State.emit_can (s : State) (o : Out) : (s.emit o).can = s.can := rfl
@[simp] theorem State.emit_fio (s : State) (o : Out) : (s.emit o).fio = s.fio := rfl
@[simp] theorem State.emit_bist (s : State) (o : Out) : (s.emit o).bist = s.bist := rfl
@[simp] theorem State.emit_recd (s : State) (o : Out) : (s.emit o).recd = s.recd := rfl
@[simp] theorem State.emit_upd (s : State) (o : Out) : (s.emit o).upd = s.upd := rfl
@[simp] theorem State.emit_fm (s : State) (o : Out) : (s.emit o).fm = s.fm := rfl

@[simp] theorem State.setSess_pending (s : State) (x : Sess) : (s.setSess x).pending = s.pending := rfl
@[simp] theorem State.setSess_now (s : State) (x : Sess) : (s.setSess x).now = s.now := rfl
@[simp] theorem State.setSess_frac (s : State) (x : Sess) : (s.setSess x).frac = s.frac := rfl
@[simp] theorem State.setSess_out (s : State) (x : Sess) : (s.setSess x).out = s.out := rfl
@[simp] theorem State.setSess_free (s : State) (x : Sess) : (s.setSess x).free = s.free := rfl
@[simp] theorem State.setSess_sys (s : State) (x : Sess) : (s.setSess x).sys = s.sys := rfl
@[simp] theorem State.setSess_rings (s : State) (x : Sess) : (s.setSess x).rings = s.rings := rfl
@[simp] theorem State.setSess_loop (s : State) (x : Sess) : (s.setSess x).loop = s.loop := rfl
@[simp] theorem State.setSess_psi (s : State) (x : Sess) : (s.setSess x).psi = s.psi := rfl
@[simp] theorem State.setSess_prof (s : State) (x : Sess) : (s.setSess x).prof = s.prof := rfl
@[simp] theorem State.setSess_est (s : State) (x : Sess) : (s.setSess x).est = s.est := rfl
@[simp] theorem State.setSess_safe (s : State) (x : Sess) : (s.setSess x).safe = s.safe := rfl
@[simp] theorem State.setSess_twin (s : State) (x : Sess) : (s.setSess x).twin = s.twin := rfl
@[simp] theorem State.setSess_net (s : State) (x : Sess) : (s.setSess x).net = s.net := rfl
@[simp] theorem State.setSess_can (s : State) (x : Sess) : (s.setSess x).can = s.can := rfl
@[simp] theorem State.setSess_fio (s : State) (x : Sess) : (s.setSess x).fio = s.fio := rfl
@[simp] theorem State.setSess_bist (s : State) (x : Sess) : (s.setSess x).bist = s.bist := rfl
@[simp] theorem State.setSess_recd (s : State) (x : Sess) : (s.setSess x).recd = s.recd := rfl
@[simp] theorem State.setSess_upd (s : State) (x : Sess) : (s.setSess x).upd = s.upd := rfl
@[simp] theorem State.setSess_fm (s : State) (x : Sess) : (s.setSess x).fm = s.fm := rfl

@[simp] theorem State.updSess_pending (s : State) (id : Nat) (f : Sess → Sess) : (s.updSess id f).pending = s.pending := rfl
@[simp] theorem State.updSess_now (s : State) (id : Nat) (f : Sess → Sess) : (s.updSess id f).now = s.now := rfl
@[simp] theorem State.updSess_frac (s : State) (id : Nat) (f : Sess → Sess) : (s.updSess id f).frac = s.frac := rfl
@[simp] theorem State.updSess_out (s : State) (id : Nat) (f : Sess → Sess) : (s.updSess id f).out = s.out := rfl
@[simp] theorem State.updSess_free (s : State) (id : Nat) (f : Sess → Sess) : (s.updSess id f).free = s.free := rfl
@[simp] theorem State.updSess_sys (s : State) (id : Nat) (f : Sess → Sess) : (s.updSess id f).sys = s.sys := rfl
@[simp] theorem State.updSess_rings (s : State) (id : Nat) (f : Sess → Sess) : (s.updSess id f).rings = s.rings := rfl
@[simp] theorem State.updSess_loop (s : State) (id : Nat) (f : Sess → Sess) : (s.updSess id f).loop = s.loop := rfl
@[simp] theorem State.updSess_psi (s : State) (id : Nat) (f : Sess → Sess) : (s.updSess id f).psi = s.psi := rfl
@[simp] theorem State.updSess_prof (s : State) (id : Nat) (f : Sess → Sess) : (s.updSess id f).prof = s.prof := rfl
@[simp] theorem State.updSess_est (s : State) (id : Nat) (f : Sess → Sess) : (s.updSess id f).est = s.est := rfl
@[simp] theorem State.updSess_safe (s : State) (id : Nat) (f : Sess → Sess) : (s.updSess id f).safe = s.safe := rfl
@[simp] theorem State.updSess_twin (s : State) (id : Nat) (f : Sess → Sess) : (s.updSess id f).twin = s.twin := rfl
@[simp] theorem State.updSess_net (s : State) (id : Nat) (f : Sess → Sess) : (s.updSess id f).net = s.net := rfl
@[simp] theorem State.updSess_can (s : State) (id : Nat) (f : Sess → Sess) : (s.updSess id f).can = s.can := rfl
@[simp] theorem State.updSess_fio (s : State) (id : Nat) (f : Sess → Sess) : (s.updSess id f).fio = s.fio := rfl
@[simp] theorem State.updSess_bist (s : State) (id : Nat) (f : Sess → Sess) : (s.updSess id f).bist = s.bist := rfl
@[simp] theorem State.updSess_recd (s : State) (id : Nat) (f : Sess → Sess) : (s.updSess id f).recd = s.recd := rfl
@[simp] theorem State.updSess_upd (s : State) (id : Nat) (f : Sess → Sess) : (s.updSess id f).upd = s.upd := rfl
@[simp] theorem State.updSess_fm (s : State) (id : Nat) (f : Sess → Sess) : (s.updSess id f).fm = s.fm := rfl

@[simp] theorem State.setNode_pending (s : State) (k : Nat) (n : NodeSt) : (s.setNode k n).pending = s.pending := rfl
@[simp] theorem State.setNode_now (s : State) (k : Nat) (n : NodeSt) : (s.setNode k n).now = s.now := rfl
@[simp] theorem State.setNode_frac (s : State) (k : Nat) (n : NodeSt) : (s.setNode k n).frac = s.frac := rfl
@[simp] theorem State.setNode_out (s : State) (k : Nat) (n : NodeSt) : (s.setNode k n).out = s.out := rfl
@[simp] theorem State.setNode_free (s : State) (k : Nat) (n : NodeSt) : (s.setNode k n).free = s.free := rfl
@[simp] theorem State.setNode_sys (s : State) (k : Nat) (n : NodeSt) : (s.setNode k n).sys = s.sys := rfl
@[simp] theorem State.setNode_wcp (s : State) (k : Nat) (n : NodeSt) : (s.setNode k n).wcp = s.wcp := rfl
@[simp] theorem State.setNode_loop (s : State) (k : Nat) (n : NodeSt) : (s.setNode k n).loop = s.loop := rfl
@[simp] theorem State.setNode_psi (s : State) (k : Nat) (n : NodeSt) : (s.setNode k n).psi = s.psi := rfl
@[simp] theorem State.setNode_prof (s : State) (k : Nat) (n : NodeSt) : (s.setNode k n).prof = s.prof := rfl
@[simp] theorem State.setNode_est (s : State) (k : Nat) (n : NodeSt) : (s.setNode k n).est = s.est := rfl
@[simp] theorem State.setNode_safe (s : State) (k : Nat) (n : NodeSt) : (s.setNode k n).safe = s.safe := rfl
@[simp] theorem State.setNode_twin (s : State) (k : Nat) (n : NodeSt) : (s.setNode k n).twin = s.twin := rfl
@[simp] theorem State.setNode_net (s : State) (k : Nat) (n : NodeSt) : (s.setNode k n).net = s.net := rfl
@[simp] theorem State.setNode_can (s : State) (k : Nat) (n : NodeSt) : (s.setNode k n).can = s.can := rfl
@[simp] theorem State.setNode_fio (s : State) (k : Nat) (n : NodeSt) : (s.setNode k n).fio = s.fio := rfl
@[simp] theorem State.setNode_bist (s : State) (k : Nat) (n : NodeSt) : (s.setNode k n).bist = s.bist := rfl
@[simp] theorem State.setNode_recd (s : State) (k : Nat) (n : NodeSt) : (s.setNode k n).recd = s.recd := rfl
@[simp] theorem State.setNode_upd (s : State) (k : Nat) (n : NodeSt) : (s.setNode k n).upd = s.upd := rfl
@[simp] theorem State.setNode_fm (s : State) (k : Nat) (n : NodeSt) : (s.setNode k n).fm = s.fm := rfl

@[simp] theorem State.setRing_pending (s : State) (r : Nat) (x : RingSt) : (s.setRing r x).pending = s.pending := rfl
@[simp] theorem State.setRing_now (s : State) (r : Nat) (x : RingSt) : (s.setRing r x).now = s.now := rfl
@[simp] theorem State.setRing_frac (s : State) (r : Nat) (x : RingSt) : (s.setRing r x).frac = s.frac := rfl
@[simp] theorem State.setRing_out (s : State) (r : Nat) (x : RingSt) : (s.setRing r x).out = s.out := rfl
@[simp] theorem State.setRing_free (s : State) (r : Nat) (x : RingSt) : (s.setRing r x).free = s.free := rfl
@[simp] theorem State.setRing_sys (s : State) (r : Nat) (x : RingSt) : (s.setRing r x).sys = s.sys := rfl
@[simp] theorem State.setRing_wcp (s : State) (r : Nat) (x : RingSt) : (s.setRing r x).wcp = s.wcp := rfl
@[simp] theorem State.setRing_loop (s : State) (r : Nat) (x : RingSt) : (s.setRing r x).loop = s.loop := rfl
@[simp] theorem State.setRing_psi (s : State) (r : Nat) (x : RingSt) : (s.setRing r x).psi = s.psi := rfl
@[simp] theorem State.setRing_prof (s : State) (r : Nat) (x : RingSt) : (s.setRing r x).prof = s.prof := rfl
@[simp] theorem State.setRing_est (s : State) (r : Nat) (x : RingSt) : (s.setRing r x).est = s.est := rfl
@[simp] theorem State.setRing_safe (s : State) (r : Nat) (x : RingSt) : (s.setRing r x).safe = s.safe := rfl
@[simp] theorem State.setRing_twin (s : State) (r : Nat) (x : RingSt) : (s.setRing r x).twin = s.twin := rfl
@[simp] theorem State.setRing_net (s : State) (r : Nat) (x : RingSt) : (s.setRing r x).net = s.net := rfl
@[simp] theorem State.setRing_can (s : State) (r : Nat) (x : RingSt) : (s.setRing r x).can = s.can := rfl
@[simp] theorem State.setRing_fio (s : State) (r : Nat) (x : RingSt) : (s.setRing r x).fio = s.fio := rfl
@[simp] theorem State.setRing_bist (s : State) (r : Nat) (x : RingSt) : (s.setRing r x).bist = s.bist := rfl
@[simp] theorem State.setRing_recd (s : State) (r : Nat) (x : RingSt) : (s.setRing r x).recd = s.recd := rfl
@[simp] theorem State.setRing_upd (s : State) (r : Nat) (x : RingSt) : (s.setRing r x).upd = s.upd := rfl
@[simp] theorem State.setRing_fm (s : State) (r : Nat) (x : RingSt) : (s.setRing r x).fm = s.fm := rfl

@[simp] theorem State.setLane_pending (s : State) (c : Nat) (x : LaneSt) : (s.setLane c x).pending = s.pending := rfl
@[simp] theorem State.setLane_now (s : State) (c : Nat) (x : LaneSt) : (s.setLane c x).now = s.now := rfl
@[simp] theorem State.setLane_frac (s : State) (c : Nat) (x : LaneSt) : (s.setLane c x).frac = s.frac := rfl
@[simp] theorem State.setLane_out (s : State) (c : Nat) (x : LaneSt) : (s.setLane c x).out = s.out := rfl
@[simp] theorem State.setLane_free (s : State) (c : Nat) (x : LaneSt) : (s.setLane c x).free = s.free := rfl
@[simp] theorem State.setLane_sys (s : State) (c : Nat) (x : LaneSt) : (s.setLane c x).sys = s.sys := rfl
@[simp] theorem State.setLane_wcp (s : State) (c : Nat) (x : LaneSt) : (s.setLane c x).wcp = s.wcp := rfl
@[simp] theorem State.setLane_rings (s : State) (c : Nat) (x : LaneSt) : (s.setLane c x).rings = s.rings := rfl
@[simp] theorem State.setLane_psi (s : State) (c : Nat) (x : LaneSt) : (s.setLane c x).psi = s.psi := rfl
@[simp] theorem State.setLane_prof (s : State) (c : Nat) (x : LaneSt) : (s.setLane c x).prof = s.prof := rfl
@[simp] theorem State.setLane_est (s : State) (c : Nat) (x : LaneSt) : (s.setLane c x).est = s.est := rfl
@[simp] theorem State.setLane_safe (s : State) (c : Nat) (x : LaneSt) : (s.setLane c x).safe = s.safe := rfl
@[simp] theorem State.setLane_twin (s : State) (c : Nat) (x : LaneSt) : (s.setLane c x).twin = s.twin := rfl
@[simp] theorem State.setLane_net (s : State) (c : Nat) (x : LaneSt) : (s.setLane c x).net = s.net := rfl
@[simp] theorem State.setLane_can (s : State) (c : Nat) (x : LaneSt) : (s.setLane c x).can = s.can := rfl
@[simp] theorem State.setLane_fio (s : State) (c : Nat) (x : LaneSt) : (s.setLane c x).fio = s.fio := rfl
@[simp] theorem State.setLane_bist (s : State) (c : Nat) (x : LaneSt) : (s.setLane c x).bist = s.bist := rfl
@[simp] theorem State.setLane_recd (s : State) (c : Nat) (x : LaneSt) : (s.setLane c x).recd = s.recd := rfl
@[simp] theorem State.setLane_upd (s : State) (c : Nat) (x : LaneSt) : (s.setLane c x).upd = s.upd := rfl
@[simp] theorem State.setLane_fm (s : State) (c : Nat) (x : LaneSt) : (s.setLane c x).fm = s.fm := rfl

@[simp] theorem State.setCh_pending (s : State) (c : Nat) (x : ChSt) : (s.setCh c x).pending = s.pending := rfl
@[simp] theorem State.setCh_now (s : State) (c : Nat) (x : ChSt) : (s.setCh c x).now = s.now := rfl
@[simp] theorem State.setCh_frac (s : State) (c : Nat) (x : ChSt) : (s.setCh c x).frac = s.frac := rfl
@[simp] theorem State.setCh_out (s : State) (c : Nat) (x : ChSt) : (s.setCh c x).out = s.out := rfl
@[simp] theorem State.setCh_free (s : State) (c : Nat) (x : ChSt) : (s.setCh c x).free = s.free := rfl
@[simp] theorem State.setCh_sys (s : State) (c : Nat) (x : ChSt) : (s.setCh c x).sys = s.sys := rfl
@[simp] theorem State.setCh_wcp (s : State) (c : Nat) (x : ChSt) : (s.setCh c x).wcp = s.wcp := rfl
@[simp] theorem State.setCh_rings (s : State) (c : Nat) (x : ChSt) : (s.setCh c x).rings = s.rings := rfl
@[simp] theorem State.setCh_loop (s : State) (c : Nat) (x : ChSt) : (s.setCh c x).loop = s.loop := rfl
@[simp] theorem State.setCh_prof (s : State) (c : Nat) (x : ChSt) : (s.setCh c x).prof = s.prof := rfl
@[simp] theorem State.setCh_est (s : State) (c : Nat) (x : ChSt) : (s.setCh c x).est = s.est := rfl
@[simp] theorem State.setCh_safe (s : State) (c : Nat) (x : ChSt) : (s.setCh c x).safe = s.safe := rfl
@[simp] theorem State.setCh_twin (s : State) (c : Nat) (x : ChSt) : (s.setCh c x).twin = s.twin := rfl
@[simp] theorem State.setCh_net (s : State) (c : Nat) (x : ChSt) : (s.setCh c x).net = s.net := rfl
@[simp] theorem State.setCh_can (s : State) (c : Nat) (x : ChSt) : (s.setCh c x).can = s.can := rfl
@[simp] theorem State.setCh_fio (s : State) (c : Nat) (x : ChSt) : (s.setCh c x).fio = s.fio := rfl
@[simp] theorem State.setCh_bist (s : State) (c : Nat) (x : ChSt) : (s.setCh c x).bist = s.bist := rfl
@[simp] theorem State.setCh_recd (s : State) (c : Nat) (x : ChSt) : (s.setCh c x).recd = s.recd := rfl
@[simp] theorem State.setCh_upd (s : State) (c : Nat) (x : ChSt) : (s.setCh c x).upd = s.upd := rfl
@[simp] theorem State.setCh_fm (s : State) (c : Nat) (x : ChSt) : (s.setCh c x).fm = s.fm := rfl

@[simp] theorem State.updNode_pending (s : State) (k : Nat) (f : NodeSt → NodeSt) : (s.updNode k f).pending = s.pending := rfl
@[simp] theorem State.updNode_now (s : State) (k : Nat) (f : NodeSt → NodeSt) : (s.updNode k f).now = s.now := rfl
@[simp] theorem State.updNode_frac (s : State) (k : Nat) (f : NodeSt → NodeSt) : (s.updNode k f).frac = s.frac := rfl
@[simp] theorem State.updNode_out (s : State) (k : Nat) (f : NodeSt → NodeSt) : (s.updNode k f).out = s.out := rfl
@[simp] theorem State.updNode_free (s : State) (k : Nat) (f : NodeSt → NodeSt) : (s.updNode k f).free = s.free := rfl
@[simp] theorem State.updNode_sys (s : State) (k : Nat) (f : NodeSt → NodeSt) : (s.updNode k f).sys = s.sys := rfl
@[simp] theorem State.updNode_wcp (s : State) (k : Nat) (f : NodeSt → NodeSt) : (s.updNode k f).wcp = s.wcp := rfl
@[simp] theorem State.updNode_loop (s : State) (k : Nat) (f : NodeSt → NodeSt) : (s.updNode k f).loop = s.loop := rfl
@[simp] theorem State.updNode_psi (s : State) (k : Nat) (f : NodeSt → NodeSt) : (s.updNode k f).psi = s.psi := rfl
@[simp] theorem State.updNode_prof (s : State) (k : Nat) (f : NodeSt → NodeSt) : (s.updNode k f).prof = s.prof := rfl
@[simp] theorem State.updNode_est (s : State) (k : Nat) (f : NodeSt → NodeSt) : (s.updNode k f).est = s.est := rfl
@[simp] theorem State.updNode_safe (s : State) (k : Nat) (f : NodeSt → NodeSt) : (s.updNode k f).safe = s.safe := rfl
@[simp] theorem State.updNode_twin (s : State) (k : Nat) (f : NodeSt → NodeSt) : (s.updNode k f).twin = s.twin := rfl
@[simp] theorem State.updNode_net (s : State) (k : Nat) (f : NodeSt → NodeSt) : (s.updNode k f).net = s.net := rfl
@[simp] theorem State.updNode_can (s : State) (k : Nat) (f : NodeSt → NodeSt) : (s.updNode k f).can = s.can := rfl
@[simp] theorem State.updNode_fio (s : State) (k : Nat) (f : NodeSt → NodeSt) : (s.updNode k f).fio = s.fio := rfl
@[simp] theorem State.updNode_bist (s : State) (k : Nat) (f : NodeSt → NodeSt) : (s.updNode k f).bist = s.bist := rfl
@[simp] theorem State.updNode_recd (s : State) (k : Nat) (f : NodeSt → NodeSt) : (s.updNode k f).recd = s.recd := rfl
@[simp] theorem State.updNode_upd (s : State) (k : Nat) (f : NodeSt → NodeSt) : (s.updNode k f).upd = s.upd := rfl
@[simp] theorem State.updNode_fm (s : State) (k : Nat) (f : NodeSt → NodeSt) : (s.updNode k f).fm = s.fm := rfl

@[simp] theorem State.updRing_pending (s : State) (r : Nat) (f : RingSt → RingSt) : (s.updRing r f).pending = s.pending := rfl
@[simp] theorem State.updRing_now (s : State) (r : Nat) (f : RingSt → RingSt) : (s.updRing r f).now = s.now := rfl
@[simp] theorem State.updRing_frac (s : State) (r : Nat) (f : RingSt → RingSt) : (s.updRing r f).frac = s.frac := rfl
@[simp] theorem State.updRing_out (s : State) (r : Nat) (f : RingSt → RingSt) : (s.updRing r f).out = s.out := rfl
@[simp] theorem State.updRing_free (s : State) (r : Nat) (f : RingSt → RingSt) : (s.updRing r f).free = s.free := rfl
@[simp] theorem State.updRing_sys (s : State) (r : Nat) (f : RingSt → RingSt) : (s.updRing r f).sys = s.sys := rfl
@[simp] theorem State.updRing_wcp (s : State) (r : Nat) (f : RingSt → RingSt) : (s.updRing r f).wcp = s.wcp := rfl
@[simp] theorem State.updRing_loop (s : State) (r : Nat) (f : RingSt → RingSt) : (s.updRing r f).loop = s.loop := rfl
@[simp] theorem State.updRing_psi (s : State) (r : Nat) (f : RingSt → RingSt) : (s.updRing r f).psi = s.psi := rfl
@[simp] theorem State.updRing_prof (s : State) (r : Nat) (f : RingSt → RingSt) : (s.updRing r f).prof = s.prof := rfl
@[simp] theorem State.updRing_est (s : State) (r : Nat) (f : RingSt → RingSt) : (s.updRing r f).est = s.est := rfl
@[simp] theorem State.updRing_safe (s : State) (r : Nat) (f : RingSt → RingSt) : (s.updRing r f).safe = s.safe := rfl
@[simp] theorem State.updRing_twin (s : State) (r : Nat) (f : RingSt → RingSt) : (s.updRing r f).twin = s.twin := rfl
@[simp] theorem State.updRing_net (s : State) (r : Nat) (f : RingSt → RingSt) : (s.updRing r f).net = s.net := rfl
@[simp] theorem State.updRing_can (s : State) (r : Nat) (f : RingSt → RingSt) : (s.updRing r f).can = s.can := rfl
@[simp] theorem State.updRing_fio (s : State) (r : Nat) (f : RingSt → RingSt) : (s.updRing r f).fio = s.fio := rfl
@[simp] theorem State.updRing_bist (s : State) (r : Nat) (f : RingSt → RingSt) : (s.updRing r f).bist = s.bist := rfl
@[simp] theorem State.updRing_recd (s : State) (r : Nat) (f : RingSt → RingSt) : (s.updRing r f).recd = s.recd := rfl
@[simp] theorem State.updRing_upd (s : State) (r : Nat) (f : RingSt → RingSt) : (s.updRing r f).upd = s.upd := rfl
@[simp] theorem State.updRing_fm (s : State) (r : Nat) (f : RingSt → RingSt) : (s.updRing r f).fm = s.fm := rfl

@[simp] theorem State.updLane_pending (s : State) (c : Nat) (f : LaneSt → LaneSt) : (s.updLane c f).pending = s.pending := rfl
@[simp] theorem State.updLane_now (s : State) (c : Nat) (f : LaneSt → LaneSt) : (s.updLane c f).now = s.now := rfl
@[simp] theorem State.updLane_frac (s : State) (c : Nat) (f : LaneSt → LaneSt) : (s.updLane c f).frac = s.frac := rfl
@[simp] theorem State.updLane_out (s : State) (c : Nat) (f : LaneSt → LaneSt) : (s.updLane c f).out = s.out := rfl
@[simp] theorem State.updLane_free (s : State) (c : Nat) (f : LaneSt → LaneSt) : (s.updLane c f).free = s.free := rfl
@[simp] theorem State.updLane_sys (s : State) (c : Nat) (f : LaneSt → LaneSt) : (s.updLane c f).sys = s.sys := rfl
@[simp] theorem State.updLane_wcp (s : State) (c : Nat) (f : LaneSt → LaneSt) : (s.updLane c f).wcp = s.wcp := rfl
@[simp] theorem State.updLane_rings (s : State) (c : Nat) (f : LaneSt → LaneSt) : (s.updLane c f).rings = s.rings := rfl
@[simp] theorem State.updLane_psi (s : State) (c : Nat) (f : LaneSt → LaneSt) : (s.updLane c f).psi = s.psi := rfl
@[simp] theorem State.updLane_prof (s : State) (c : Nat) (f : LaneSt → LaneSt) : (s.updLane c f).prof = s.prof := rfl
@[simp] theorem State.updLane_est (s : State) (c : Nat) (f : LaneSt → LaneSt) : (s.updLane c f).est = s.est := rfl
@[simp] theorem State.updLane_safe (s : State) (c : Nat) (f : LaneSt → LaneSt) : (s.updLane c f).safe = s.safe := rfl
@[simp] theorem State.updLane_twin (s : State) (c : Nat) (f : LaneSt → LaneSt) : (s.updLane c f).twin = s.twin := rfl
@[simp] theorem State.updLane_net (s : State) (c : Nat) (f : LaneSt → LaneSt) : (s.updLane c f).net = s.net := rfl
@[simp] theorem State.updLane_can (s : State) (c : Nat) (f : LaneSt → LaneSt) : (s.updLane c f).can = s.can := rfl
@[simp] theorem State.updLane_fio (s : State) (c : Nat) (f : LaneSt → LaneSt) : (s.updLane c f).fio = s.fio := rfl
@[simp] theorem State.updLane_bist (s : State) (c : Nat) (f : LaneSt → LaneSt) : (s.updLane c f).bist = s.bist := rfl
@[simp] theorem State.updLane_recd (s : State) (c : Nat) (f : LaneSt → LaneSt) : (s.updLane c f).recd = s.recd := rfl
@[simp] theorem State.updLane_upd (s : State) (c : Nat) (f : LaneSt → LaneSt) : (s.updLane c f).upd = s.upd := rfl
@[simp] theorem State.updLane_fm (s : State) (c : Nat) (f : LaneSt → LaneSt) : (s.updLane c f).fm = s.fm := rfl

@[simp] theorem State.updCh_pending (s : State) (c : Nat) (f : ChSt → ChSt) : (s.updCh c f).pending = s.pending := rfl
@[simp] theorem State.updCh_now (s : State) (c : Nat) (f : ChSt → ChSt) : (s.updCh c f).now = s.now := rfl
@[simp] theorem State.updCh_frac (s : State) (c : Nat) (f : ChSt → ChSt) : (s.updCh c f).frac = s.frac := rfl
@[simp] theorem State.updCh_out (s : State) (c : Nat) (f : ChSt → ChSt) : (s.updCh c f).out = s.out := rfl
@[simp] theorem State.updCh_free (s : State) (c : Nat) (f : ChSt → ChSt) : (s.updCh c f).free = s.free := rfl
@[simp] theorem State.updCh_sys (s : State) (c : Nat) (f : ChSt → ChSt) : (s.updCh c f).sys = s.sys := rfl
@[simp] theorem State.updCh_wcp (s : State) (c : Nat) (f : ChSt → ChSt) : (s.updCh c f).wcp = s.wcp := rfl
@[simp] theorem State.updCh_rings (s : State) (c : Nat) (f : ChSt → ChSt) : (s.updCh c f).rings = s.rings := rfl
@[simp] theorem State.updCh_loop (s : State) (c : Nat) (f : ChSt → ChSt) : (s.updCh c f).loop = s.loop := rfl
@[simp] theorem State.updCh_prof (s : State) (c : Nat) (f : ChSt → ChSt) : (s.updCh c f).prof = s.prof := rfl
@[simp] theorem State.updCh_est (s : State) (c : Nat) (f : ChSt → ChSt) : (s.updCh c f).est = s.est := rfl
@[simp] theorem State.updCh_safe (s : State) (c : Nat) (f : ChSt → ChSt) : (s.updCh c f).safe = s.safe := rfl
@[simp] theorem State.updCh_twin (s : State) (c : Nat) (f : ChSt → ChSt) : (s.updCh c f).twin = s.twin := rfl
@[simp] theorem State.updCh_net (s : State) (c : Nat) (f : ChSt → ChSt) : (s.updCh c f).net = s.net := rfl
@[simp] theorem State.updCh_can (s : State) (c : Nat) (f : ChSt → ChSt) : (s.updCh c f).can = s.can := rfl
@[simp] theorem State.updCh_fio (s : State) (c : Nat) (f : ChSt → ChSt) : (s.updCh c f).fio = s.fio := rfl
@[simp] theorem State.updCh_bist (s : State) (c : Nat) (f : ChSt → ChSt) : (s.updCh c f).bist = s.bist := rfl
@[simp] theorem State.updCh_recd (s : State) (c : Nat) (f : ChSt → ChSt) : (s.updCh c f).recd = s.recd := rfl
@[simp] theorem State.updCh_upd (s : State) (c : Nat) (f : ChSt → ChSt) : (s.updCh c f).upd = s.upd := rfl
@[simp] theorem State.updCh_fm (s : State) (c : Nat) (f : ChSt → ChSt) : (s.updCh c f).fm = s.fm := rfl

@[simp] theorem State.setStr_pending (s : State) (r : Nat) (x : StringSt) : (s.setStr r x).pending = s.pending := rfl
@[simp] theorem State.setStr_now (s : State) (r : Nat) (x : StringSt) : (s.setStr r x).now = s.now := rfl
@[simp] theorem State.setStr_frac (s : State) (r : Nat) (x : StringSt) : (s.setStr r x).frac = s.frac := rfl
@[simp] theorem State.setStr_out (s : State) (r : Nat) (x : StringSt) : (s.setStr r x).out = s.out := rfl
@[simp] theorem State.setStr_free (s : State) (r : Nat) (x : StringSt) : (s.setStr r x).free = s.free := rfl
@[simp] theorem State.setStr_sys (s : State) (r : Nat) (x : StringSt) : (s.setStr r x).sys = s.sys := rfl
@[simp] theorem State.setStr_wcp (s : State) (r : Nat) (x : StringSt) : (s.setStr r x).wcp = s.wcp := rfl
@[simp] theorem State.setStr_rings (s : State) (r : Nat) (x : StringSt) : (s.setStr r x).rings = s.rings := rfl
@[simp] theorem State.setStr_loop (s : State) (r : Nat) (x : StringSt) : (s.setStr r x).loop = s.loop := rfl
@[simp] theorem State.setStr_psi (s : State) (r : Nat) (x : StringSt) : (s.setStr r x).psi = s.psi := rfl
@[simp] theorem State.setStr_prof (s : State) (r : Nat) (x : StringSt) : (s.setStr r x).prof = s.prof := rfl
@[simp] theorem State.setStr_est (s : State) (r : Nat) (x : StringSt) : (s.setStr r x).est = s.est := rfl
@[simp] theorem State.setStr_twin (s : State) (r : Nat) (x : StringSt) : (s.setStr r x).twin = s.twin := rfl
@[simp] theorem State.setStr_net (s : State) (r : Nat) (x : StringSt) : (s.setStr r x).net = s.net := rfl
@[simp] theorem State.setStr_can (s : State) (r : Nat) (x : StringSt) : (s.setStr r x).can = s.can := rfl
@[simp] theorem State.setStr_fio (s : State) (r : Nat) (x : StringSt) : (s.setStr r x).fio = s.fio := rfl
@[simp] theorem State.setStr_bist (s : State) (r : Nat) (x : StringSt) : (s.setStr r x).bist = s.bist := rfl
@[simp] theorem State.setStr_recd (s : State) (r : Nat) (x : StringSt) : (s.setStr r x).recd = s.recd := rfl
@[simp] theorem State.setStr_upd (s : State) (r : Nat) (x : StringSt) : (s.setStr r x).upd = s.upd := rfl
@[simp] theorem State.setStr_fm (s : State) (r : Nat) (x : StringSt) : (s.setStr r x).fm = s.fm := rfl

@[simp] theorem State.updStr_pending (s : State) (r : Nat) (f : StringSt → StringSt) : (s.updStr r f).pending = s.pending := rfl
@[simp] theorem State.updStr_now (s : State) (r : Nat) (f : StringSt → StringSt) : (s.updStr r f).now = s.now := rfl
@[simp] theorem State.updStr_frac (s : State) (r : Nat) (f : StringSt → StringSt) : (s.updStr r f).frac = s.frac := rfl
@[simp] theorem State.updStr_out (s : State) (r : Nat) (f : StringSt → StringSt) : (s.updStr r f).out = s.out := rfl
@[simp] theorem State.updStr_free (s : State) (r : Nat) (f : StringSt → StringSt) : (s.updStr r f).free = s.free := rfl
@[simp] theorem State.updStr_sys (s : State) (r : Nat) (f : StringSt → StringSt) : (s.updStr r f).sys = s.sys := rfl
@[simp] theorem State.updStr_wcp (s : State) (r : Nat) (f : StringSt → StringSt) : (s.updStr r f).wcp = s.wcp := rfl
@[simp] theorem State.updStr_rings (s : State) (r : Nat) (f : StringSt → StringSt) : (s.updStr r f).rings = s.rings := rfl
@[simp] theorem State.updStr_loop (s : State) (r : Nat) (f : StringSt → StringSt) : (s.updStr r f).loop = s.loop := rfl
@[simp] theorem State.updStr_psi (s : State) (r : Nat) (f : StringSt → StringSt) : (s.updStr r f).psi = s.psi := rfl
@[simp] theorem State.updStr_prof (s : State) (r : Nat) (f : StringSt → StringSt) : (s.updStr r f).prof = s.prof := rfl
@[simp] theorem State.updStr_est (s : State) (r : Nat) (f : StringSt → StringSt) : (s.updStr r f).est = s.est := rfl
@[simp] theorem State.updStr_twin (s : State) (r : Nat) (f : StringSt → StringSt) : (s.updStr r f).twin = s.twin := rfl
@[simp] theorem State.updStr_net (s : State) (r : Nat) (f : StringSt → StringSt) : (s.updStr r f).net = s.net := rfl
@[simp] theorem State.updStr_can (s : State) (r : Nat) (f : StringSt → StringSt) : (s.updStr r f).can = s.can := rfl
@[simp] theorem State.updStr_fio (s : State) (r : Nat) (f : StringSt → StringSt) : (s.updStr r f).fio = s.fio := rfl
@[simp] theorem State.updStr_bist (s : State) (r : Nat) (f : StringSt → StringSt) : (s.updStr r f).bist = s.bist := rfl
@[simp] theorem State.updStr_recd (s : State) (r : Nat) (f : StringSt → StringSt) : (s.updStr r f).recd = s.recd := rfl
@[simp] theorem State.updStr_upd (s : State) (r : Nat) (f : StringSt → StringSt) : (s.updStr r f).upd = s.upd := rfl
@[simp] theorem State.updStr_fm (s : State) (r : Nat) (f : StringSt → StringSt) : (s.updStr r f).fm = s.fm := rfl

@[simp] theorem State.setSo_pending (s : State) (n : Nat) (x : SoSt) : (s.setSo n x).pending = s.pending := rfl
@[simp] theorem State.setSo_now (s : State) (n : Nat) (x : SoSt) : (s.setSo n x).now = s.now := rfl
@[simp] theorem State.setSo_frac (s : State) (n : Nat) (x : SoSt) : (s.setSo n x).frac = s.frac := rfl
@[simp] theorem State.setSo_out (s : State) (n : Nat) (x : SoSt) : (s.setSo n x).out = s.out := rfl
@[simp] theorem State.setSo_free (s : State) (n : Nat) (x : SoSt) : (s.setSo n x).free = s.free := rfl
@[simp] theorem State.setSo_sys (s : State) (n : Nat) (x : SoSt) : (s.setSo n x).sys = s.sys := rfl
@[simp] theorem State.setSo_wcp (s : State) (n : Nat) (x : SoSt) : (s.setSo n x).wcp = s.wcp := rfl
@[simp] theorem State.setSo_rings (s : State) (n : Nat) (x : SoSt) : (s.setSo n x).rings = s.rings := rfl
@[simp] theorem State.setSo_loop (s : State) (n : Nat) (x : SoSt) : (s.setSo n x).loop = s.loop := rfl
@[simp] theorem State.setSo_psi (s : State) (n : Nat) (x : SoSt) : (s.setSo n x).psi = s.psi := rfl
@[simp] theorem State.setSo_prof (s : State) (n : Nat) (x : SoSt) : (s.setSo n x).prof = s.prof := rfl
@[simp] theorem State.setSo_est (s : State) (n : Nat) (x : SoSt) : (s.setSo n x).est = s.est := rfl
@[simp] theorem State.setSo_twin (s : State) (n : Nat) (x : SoSt) : (s.setSo n x).twin = s.twin := rfl
@[simp] theorem State.setSo_net (s : State) (n : Nat) (x : SoSt) : (s.setSo n x).net = s.net := rfl
@[simp] theorem State.setSo_can (s : State) (n : Nat) (x : SoSt) : (s.setSo n x).can = s.can := rfl
@[simp] theorem State.setSo_fio (s : State) (n : Nat) (x : SoSt) : (s.setSo n x).fio = s.fio := rfl
@[simp] theorem State.setSo_bist (s : State) (n : Nat) (x : SoSt) : (s.setSo n x).bist = s.bist := rfl
@[simp] theorem State.setSo_recd (s : State) (n : Nat) (x : SoSt) : (s.setSo n x).recd = s.recd := rfl
@[simp] theorem State.setSo_upd (s : State) (n : Nat) (x : SoSt) : (s.setSo n x).upd = s.upd := rfl
@[simp] theorem State.setSo_fm (s : State) (n : Nat) (x : SoSt) : (s.setSo n x).fm = s.fm := rfl

@[simp] theorem State.openSo_pending (s : State) (how : Opening) (n : Nat) : (s.openSo how n).pending = s.pending := by
  unfold State.openSo; simp only []; split <;> rfl
@[simp] theorem State.openSo_now (s : State) (how : Opening) (n : Nat) : (s.openSo how n).now = s.now := by
  unfold State.openSo; simp only []; split <;> rfl
@[simp] theorem State.openSo_frac (s : State) (how : Opening) (n : Nat) : (s.openSo how n).frac = s.frac := by
  unfold State.openSo; simp only []; split <;> rfl
@[simp] theorem State.openSo_out (s : State) (how : Opening) (n : Nat) : (s.openSo how n).out = s.out := by
  unfold State.openSo; simp only []; split <;> rfl
@[simp] theorem State.openSo_free (s : State) (how : Opening) (n : Nat) : (s.openSo how n).free = s.free := by
  unfold State.openSo; simp only []; split <;> rfl
@[simp] theorem State.openSo_wcp (s : State) (how : Opening) (n : Nat) : (s.openSo how n).wcp = s.wcp := by
  unfold State.openSo; simp only []; split <;> rfl
@[simp] theorem State.openSo_rings (s : State) (how : Opening) (n : Nat) : (s.openSo how n).rings = s.rings := by
  unfold State.openSo; simp only []; split <;> rfl
@[simp] theorem State.openSo_loop (s : State) (how : Opening) (n : Nat) : (s.openSo how n).loop = s.loop := by
  unfold State.openSo; simp only []; split <;> rfl
@[simp] theorem State.openSo_psi (s : State) (how : Opening) (n : Nat) : (s.openSo how n).psi = s.psi := by
  unfold State.openSo; simp only []; split <;> rfl
@[simp] theorem State.openSo_prof (s : State) (how : Opening) (n : Nat) : (s.openSo how n).prof = s.prof := by
  unfold State.openSo; simp only []; split <;> rfl
@[simp] theorem State.openSo_est (s : State) (how : Opening) (n : Nat) : (s.openSo how n).est = s.est := by
  unfold State.openSo; simp only []; split <;> rfl
@[simp] theorem State.openSo_twin (s : State) (how : Opening) (n : Nat) : (s.openSo how n).twin = s.twin := by
  unfold State.openSo; simp only []; split <;> rfl
@[simp] theorem State.openSo_net (s : State) (how : Opening) (n : Nat) : (s.openSo how n).net = s.net := by
  unfold State.openSo; simp only []; split <;> rfl
@[simp] theorem State.openSo_can (s : State) (how : Opening) (n : Nat) : (s.openSo how n).can = s.can := by
  unfold State.openSo; simp only []; split <;> rfl
@[simp] theorem State.openSo_fio (s : State) (how : Opening) (n : Nat) : (s.openSo how n).fio = s.fio := by
  unfold State.openSo; simp only []; split <;> rfl
@[simp] theorem State.openSo_bist (s : State) (how : Opening) (n : Nat) : (s.openSo how n).bist = s.bist := by
  unfold State.openSo; simp only []; split <;> rfl
@[simp] theorem State.openSo_recd (s : State) (how : Opening) (n : Nat) : (s.openSo how n).recd = s.recd := by
  unfold State.openSo; simp only []; split <;> rfl
@[simp] theorem State.openSo_upd (s : State) (how : Opening) (n : Nat) : (s.openSo how n).upd = s.upd := by
  unfold State.openSo; simp only []; split <;> rfl
@[simp] theorem State.openSo_fm (s : State) (how : Opening) (n : Nat) : (s.openSo how n).fm = s.fm := by
  unfold State.openSo; simp only []; split <;> rfl

@[simp] theorem State.closeSo_pending (s : State) (n : Nat) : (s.closeSo n).pending = s.pending := rfl
@[simp] theorem State.closeSo_now (s : State) (n : Nat) : (s.closeSo n).now = s.now := rfl
@[simp] theorem State.closeSo_frac (s : State) (n : Nat) : (s.closeSo n).frac = s.frac := rfl
@[simp] theorem State.closeSo_out (s : State) (n : Nat) : (s.closeSo n).out = s.out := rfl
@[simp] theorem State.closeSo_free (s : State) (n : Nat) : (s.closeSo n).free = s.free := rfl
@[simp] theorem State.closeSo_sys (s : State) (n : Nat) : (s.closeSo n).sys = s.sys := rfl
@[simp] theorem State.closeSo_wcp (s : State) (n : Nat) : (s.closeSo n).wcp = s.wcp := rfl
@[simp] theorem State.closeSo_rings (s : State) (n : Nat) : (s.closeSo n).rings = s.rings := rfl
@[simp] theorem State.closeSo_loop (s : State) (n : Nat) : (s.closeSo n).loop = s.loop := rfl
@[simp] theorem State.closeSo_psi (s : State) (n : Nat) : (s.closeSo n).psi = s.psi := rfl
@[simp] theorem State.closeSo_prof (s : State) (n : Nat) : (s.closeSo n).prof = s.prof := rfl
@[simp] theorem State.closeSo_est (s : State) (n : Nat) : (s.closeSo n).est = s.est := rfl
@[simp] theorem State.closeSo_twin (s : State) (n : Nat) : (s.closeSo n).twin = s.twin := rfl
@[simp] theorem State.closeSo_net (s : State) (n : Nat) : (s.closeSo n).net = s.net := rfl
@[simp] theorem State.closeSo_can (s : State) (n : Nat) : (s.closeSo n).can = s.can := rfl
@[simp] theorem State.closeSo_fio (s : State) (n : Nat) : (s.closeSo n).fio = s.fio := rfl
@[simp] theorem State.closeSo_bist (s : State) (n : Nat) : (s.closeSo n).bist = s.bist := rfl
@[simp] theorem State.closeSo_recd (s : State) (n : Nat) : (s.closeSo n).recd = s.recd := rfl
@[simp] theorem State.closeSo_upd (s : State) (n : Nat) : (s.closeSo n).upd = s.upd := rfl
@[simp] theorem State.closeSo_fm (s : State) (n : Nat) : (s.closeSo n).fm = s.fm := rfl

@[simp] theorem State.setSi_pending (s : State) (k : Nat) (x : SiSt) : (s.setSi k x).pending = s.pending := rfl
@[simp] theorem State.setSi_now (s : State) (k : Nat) (x : SiSt) : (s.setSi k x).now = s.now := rfl
@[simp] theorem State.setSi_frac (s : State) (k : Nat) (x : SiSt) : (s.setSi k x).frac = s.frac := rfl
@[simp] theorem State.setSi_out (s : State) (k : Nat) (x : SiSt) : (s.setSi k x).out = s.out := rfl
@[simp] theorem State.setSi_free (s : State) (k : Nat) (x : SiSt) : (s.setSi k x).free = s.free := rfl
@[simp] theorem State.setSi_sys (s : State) (k : Nat) (x : SiSt) : (s.setSi k x).sys = s.sys := rfl
@[simp] theorem State.setSi_wcp (s : State) (k : Nat) (x : SiSt) : (s.setSi k x).wcp = s.wcp := rfl
@[simp] theorem State.setSi_rings (s : State) (k : Nat) (x : SiSt) : (s.setSi k x).rings = s.rings := rfl
@[simp] theorem State.setSi_loop (s : State) (k : Nat) (x : SiSt) : (s.setSi k x).loop = s.loop := rfl
@[simp] theorem State.setSi_psi (s : State) (k : Nat) (x : SiSt) : (s.setSi k x).psi = s.psi := rfl
@[simp] theorem State.setSi_prof (s : State) (k : Nat) (x : SiSt) : (s.setSi k x).prof = s.prof := rfl
@[simp] theorem State.setSi_est (s : State) (k : Nat) (x : SiSt) : (s.setSi k x).est = s.est := rfl
@[simp] theorem State.setSi_twin (s : State) (k : Nat) (x : SiSt) : (s.setSi k x).twin = s.twin := rfl
@[simp] theorem State.setSi_net (s : State) (k : Nat) (x : SiSt) : (s.setSi k x).net = s.net := rfl
@[simp] theorem State.setSi_can (s : State) (k : Nat) (x : SiSt) : (s.setSi k x).can = s.can := rfl
@[simp] theorem State.setSi_fio (s : State) (k : Nat) (x : SiSt) : (s.setSi k x).fio = s.fio := rfl
@[simp] theorem State.setSi_bist (s : State) (k : Nat) (x : SiSt) : (s.setSi k x).bist = s.bist := rfl
@[simp] theorem State.setSi_recd (s : State) (k : Nat) (x : SiSt) : (s.setSi k x).recd = s.recd := rfl
@[simp] theorem State.setSi_upd (s : State) (k : Nat) (x : SiSt) : (s.setSi k x).upd = s.upd := rfl
@[simp] theorem State.setSi_fm (s : State) (k : Nat) (x : SiSt) : (s.setSi k x).fm = s.fm := rfl

@[simp] theorem State.setDi_pending (s : State) (n : Nat) (x : DiSt) : (s.setDi n x).pending = s.pending := rfl
@[simp] theorem State.setDi_now (s : State) (n : Nat) (x : DiSt) : (s.setDi n x).now = s.now := rfl
@[simp] theorem State.setDi_frac (s : State) (n : Nat) (x : DiSt) : (s.setDi n x).frac = s.frac := rfl
@[simp] theorem State.setDi_out (s : State) (n : Nat) (x : DiSt) : (s.setDi n x).out = s.out := rfl
@[simp] theorem State.setDi_free (s : State) (n : Nat) (x : DiSt) : (s.setDi n x).free = s.free := rfl
@[simp] theorem State.setDi_sys (s : State) (n : Nat) (x : DiSt) : (s.setDi n x).sys = s.sys := rfl
@[simp] theorem State.setDi_wcp (s : State) (n : Nat) (x : DiSt) : (s.setDi n x).wcp = s.wcp := rfl
@[simp] theorem State.setDi_rings (s : State) (n : Nat) (x : DiSt) : (s.setDi n x).rings = s.rings := rfl
@[simp] theorem State.setDi_loop (s : State) (n : Nat) (x : DiSt) : (s.setDi n x).loop = s.loop := rfl
@[simp] theorem State.setDi_psi (s : State) (n : Nat) (x : DiSt) : (s.setDi n x).psi = s.psi := rfl
@[simp] theorem State.setDi_prof (s : State) (n : Nat) (x : DiSt) : (s.setDi n x).prof = s.prof := rfl
@[simp] theorem State.setDi_est (s : State) (n : Nat) (x : DiSt) : (s.setDi n x).est = s.est := rfl
@[simp] theorem State.setDi_safe (s : State) (n : Nat) (x : DiSt) : (s.setDi n x).safe = s.safe := rfl
@[simp] theorem State.setDi_twin (s : State) (n : Nat) (x : DiSt) : (s.setDi n x).twin = s.twin := rfl
@[simp] theorem State.setDi_net (s : State) (n : Nat) (x : DiSt) : (s.setDi n x).net = s.net := rfl
@[simp] theorem State.setDi_can (s : State) (n : Nat) (x : DiSt) : (s.setDi n x).can = s.can := rfl
@[simp] theorem State.setDi_bist (s : State) (n : Nat) (x : DiSt) : (s.setDi n x).bist = s.bist := rfl
@[simp] theorem State.setDi_recd (s : State) (n : Nat) (x : DiSt) : (s.setDi n x).recd = s.recd := rfl
@[simp] theorem State.setDi_upd (s : State) (n : Nat) (x : DiSt) : (s.setDi n x).upd = s.upd := rfl
@[simp] theorem State.setDi_fm (s : State) (n : Nat) (x : DiSt) : (s.setDi n x).fm = s.fm := rfl

@[simp] theorem State.setDo_pending (s : State) (n : Nat) (x : DoSt) : (s.setDo n x).pending = s.pending := rfl
@[simp] theorem State.setDo_now (s : State) (n : Nat) (x : DoSt) : (s.setDo n x).now = s.now := rfl
@[simp] theorem State.setDo_frac (s : State) (n : Nat) (x : DoSt) : (s.setDo n x).frac = s.frac := rfl
@[simp] theorem State.setDo_out (s : State) (n : Nat) (x : DoSt) : (s.setDo n x).out = s.out := rfl
@[simp] theorem State.setDo_free (s : State) (n : Nat) (x : DoSt) : (s.setDo n x).free = s.free := rfl
@[simp] theorem State.setDo_sys (s : State) (n : Nat) (x : DoSt) : (s.setDo n x).sys = s.sys := rfl
@[simp] theorem State.setDo_wcp (s : State) (n : Nat) (x : DoSt) : (s.setDo n x).wcp = s.wcp := rfl
@[simp] theorem State.setDo_rings (s : State) (n : Nat) (x : DoSt) : (s.setDo n x).rings = s.rings := rfl
@[simp] theorem State.setDo_loop (s : State) (n : Nat) (x : DoSt) : (s.setDo n x).loop = s.loop := rfl
@[simp] theorem State.setDo_psi (s : State) (n : Nat) (x : DoSt) : (s.setDo n x).psi = s.psi := rfl
@[simp] theorem State.setDo_prof (s : State) (n : Nat) (x : DoSt) : (s.setDo n x).prof = s.prof := rfl
@[simp] theorem State.setDo_est (s : State) (n : Nat) (x : DoSt) : (s.setDo n x).est = s.est := rfl
@[simp] theorem State.setDo_safe (s : State) (n : Nat) (x : DoSt) : (s.setDo n x).safe = s.safe := rfl
@[simp] theorem State.setDo_twin (s : State) (n : Nat) (x : DoSt) : (s.setDo n x).twin = s.twin := rfl
@[simp] theorem State.setDo_net (s : State) (n : Nat) (x : DoSt) : (s.setDo n x).net = s.net := rfl
@[simp] theorem State.setDo_can (s : State) (n : Nat) (x : DoSt) : (s.setDo n x).can = s.can := rfl
@[simp] theorem State.setDo_bist (s : State) (n : Nat) (x : DoSt) : (s.setDo n x).bist = s.bist := rfl
@[simp] theorem State.setDo_recd (s : State) (n : Nat) (x : DoSt) : (s.setDo n x).recd = s.recd := rfl
@[simp] theorem State.setDo_upd (s : State) (n : Nat) (x : DoSt) : (s.setDo n x).upd = s.upd := rfl
@[simp] theorem State.setDo_fm (s : State) (n : Nat) (x : DoSt) : (s.setDo n x).fm = s.fm := rfl

@[simp] theorem State.setStrE_pending (s : State) (r : Nat) (x : StringEst) : (s.setStrE r x).pending = s.pending := rfl
@[simp] theorem State.setStrE_now (s : State) (r : Nat) (x : StringEst) : (s.setStrE r x).now = s.now := rfl
@[simp] theorem State.setStrE_frac (s : State) (r : Nat) (x : StringEst) : (s.setStrE r x).frac = s.frac := rfl
@[simp] theorem State.setStrE_out (s : State) (r : Nat) (x : StringEst) : (s.setStrE r x).out = s.out := rfl
@[simp] theorem State.setStrE_free (s : State) (r : Nat) (x : StringEst) : (s.setStrE r x).free = s.free := rfl
@[simp] theorem State.setStrE_sys (s : State) (r : Nat) (x : StringEst) : (s.setStrE r x).sys = s.sys := rfl
@[simp] theorem State.setStrE_wcp (s : State) (r : Nat) (x : StringEst) : (s.setStrE r x).wcp = s.wcp := rfl
@[simp] theorem State.setStrE_rings (s : State) (r : Nat) (x : StringEst) : (s.setStrE r x).rings = s.rings := rfl
@[simp] theorem State.setStrE_loop (s : State) (r : Nat) (x : StringEst) : (s.setStrE r x).loop = s.loop := rfl
@[simp] theorem State.setStrE_psi (s : State) (r : Nat) (x : StringEst) : (s.setStrE r x).psi = s.psi := rfl
@[simp] theorem State.setStrE_prof (s : State) (r : Nat) (x : StringEst) : (s.setStrE r x).prof = s.prof := rfl
@[simp] theorem State.setStrE_safe (s : State) (r : Nat) (x : StringEst) : (s.setStrE r x).safe = s.safe := rfl
@[simp] theorem State.setStrE_twin (s : State) (r : Nat) (x : StringEst) : (s.setStrE r x).twin = s.twin := rfl
@[simp] theorem State.setStrE_net (s : State) (r : Nat) (x : StringEst) : (s.setStrE r x).net = s.net := rfl
@[simp] theorem State.setStrE_can (s : State) (r : Nat) (x : StringEst) : (s.setStrE r x).can = s.can := rfl
@[simp] theorem State.setStrE_fio (s : State) (r : Nat) (x : StringEst) : (s.setStrE r x).fio = s.fio := rfl
@[simp] theorem State.setStrE_bist (s : State) (r : Nat) (x : StringEst) : (s.setStrE r x).bist = s.bist := rfl
@[simp] theorem State.setStrE_recd (s : State) (r : Nat) (x : StringEst) : (s.setStrE r x).recd = s.recd := rfl
@[simp] theorem State.setStrE_upd (s : State) (r : Nat) (x : StringEst) : (s.setStrE r x).upd = s.upd := rfl
@[simp] theorem State.setStrE_fm (s : State) (r : Nat) (x : StringEst) : (s.setStrE r x).fm = s.fm := rfl

@[simp] theorem State.setCellE_pending (s : State) (k : Nat) (c : CellSt) : (s.setCellE k c).pending = s.pending := rfl
@[simp] theorem State.setCellE_now (s : State) (k : Nat) (c : CellSt) : (s.setCellE k c).now = s.now := rfl
@[simp] theorem State.setCellE_frac (s : State) (k : Nat) (c : CellSt) : (s.setCellE k c).frac = s.frac := rfl
@[simp] theorem State.setCellE_out (s : State) (k : Nat) (c : CellSt) : (s.setCellE k c).out = s.out := rfl
@[simp] theorem State.setCellE_free (s : State) (k : Nat) (c : CellSt) : (s.setCellE k c).free = s.free := rfl
@[simp] theorem State.setCellE_sys (s : State) (k : Nat) (c : CellSt) : (s.setCellE k c).sys = s.sys := rfl
@[simp] theorem State.setCellE_wcp (s : State) (k : Nat) (c : CellSt) : (s.setCellE k c).wcp = s.wcp := rfl
@[simp] theorem State.setCellE_rings (s : State) (k : Nat) (c : CellSt) : (s.setCellE k c).rings = s.rings := rfl
@[simp] theorem State.setCellE_loop (s : State) (k : Nat) (c : CellSt) : (s.setCellE k c).loop = s.loop := rfl
@[simp] theorem State.setCellE_psi (s : State) (k : Nat) (c : CellSt) : (s.setCellE k c).psi = s.psi := rfl
@[simp] theorem State.setCellE_prof (s : State) (k : Nat) (c : CellSt) : (s.setCellE k c).prof = s.prof := rfl
@[simp] theorem State.setCellE_safe (s : State) (k : Nat) (c : CellSt) : (s.setCellE k c).safe = s.safe := rfl
@[simp] theorem State.setCellE_twin (s : State) (k : Nat) (c : CellSt) : (s.setCellE k c).twin = s.twin := rfl
@[simp] theorem State.setCellE_net (s : State) (k : Nat) (c : CellSt) : (s.setCellE k c).net = s.net := rfl
@[simp] theorem State.setCellE_can (s : State) (k : Nat) (c : CellSt) : (s.setCellE k c).can = s.can := rfl
@[simp] theorem State.setCellE_fio (s : State) (k : Nat) (c : CellSt) : (s.setCellE k c).fio = s.fio := rfl
@[simp] theorem State.setCellE_bist (s : State) (k : Nat) (c : CellSt) : (s.setCellE k c).bist = s.bist := rfl
@[simp] theorem State.setCellE_recd (s : State) (k : Nat) (c : CellSt) : (s.setCellE k c).recd = s.recd := rfl
@[simp] theorem State.setCellE_upd (s : State) (k : Nat) (c : CellSt) : (s.setCellE k c).upd = s.upd := rfl
@[simp] theorem State.setCellE_fm (s : State) (k : Nat) (c : CellSt) : (s.setCellE k c).fm = s.fm := rfl

@[simp] theorem State.setImp_pending (s : State) (r : Nat) (x : ImpRing) : (s.setImp r x).pending = s.pending := rfl
@[simp] theorem State.setImp_now (s : State) (r : Nat) (x : ImpRing) : (s.setImp r x).now = s.now := rfl
@[simp] theorem State.setImp_frac (s : State) (r : Nat) (x : ImpRing) : (s.setImp r x).frac = s.frac := rfl
@[simp] theorem State.setImp_out (s : State) (r : Nat) (x : ImpRing) : (s.setImp r x).out = s.out := rfl
@[simp] theorem State.setImp_free (s : State) (r : Nat) (x : ImpRing) : (s.setImp r x).free = s.free := rfl
@[simp] theorem State.setImp_sys (s : State) (r : Nat) (x : ImpRing) : (s.setImp r x).sys = s.sys := rfl
@[simp] theorem State.setImp_wcp (s : State) (r : Nat) (x : ImpRing) : (s.setImp r x).wcp = s.wcp := rfl
@[simp] theorem State.setImp_rings (s : State) (r : Nat) (x : ImpRing) : (s.setImp r x).rings = s.rings := rfl
@[simp] theorem State.setImp_loop (s : State) (r : Nat) (x : ImpRing) : (s.setImp r x).loop = s.loop := rfl
@[simp] theorem State.setImp_psi (s : State) (r : Nat) (x : ImpRing) : (s.setImp r x).psi = s.psi := rfl
@[simp] theorem State.setImp_prof (s : State) (r : Nat) (x : ImpRing) : (s.setImp r x).prof = s.prof := rfl
@[simp] theorem State.setImp_safe (s : State) (r : Nat) (x : ImpRing) : (s.setImp r x).safe = s.safe := rfl
@[simp] theorem State.setImp_twin (s : State) (r : Nat) (x : ImpRing) : (s.setImp r x).twin = s.twin := rfl
@[simp] theorem State.setImp_net (s : State) (r : Nat) (x : ImpRing) : (s.setImp r x).net = s.net := rfl
@[simp] theorem State.setImp_can (s : State) (r : Nat) (x : ImpRing) : (s.setImp r x).can = s.can := rfl
@[simp] theorem State.setImp_fio (s : State) (r : Nat) (x : ImpRing) : (s.setImp r x).fio = s.fio := rfl
@[simp] theorem State.setImp_bist (s : State) (r : Nat) (x : ImpRing) : (s.setImp r x).bist = s.bist := rfl
@[simp] theorem State.setImp_recd (s : State) (r : Nat) (x : ImpRing) : (s.setImp r x).recd = s.recd := rfl
@[simp] theorem State.setImp_upd (s : State) (r : Nat) (x : ImpRing) : (s.setImp r x).upd = s.upd := rfl
@[simp] theorem State.setImp_fm (s : State) (r : Nat) (x : ImpRing) : (s.setImp r x).fm = s.fm := rfl

@[simp] theorem State.setAuth_pending (s : State) (k : Nat) (a : AuthSt) : (s.setAuth k a).pending = s.pending := rfl
@[simp] theorem State.setAuth_now (s : State) (k : Nat) (a : AuthSt) : (s.setAuth k a).now = s.now := rfl
@[simp] theorem State.setAuth_frac (s : State) (k : Nat) (a : AuthSt) : (s.setAuth k a).frac = s.frac := rfl
@[simp] theorem State.setAuth_out (s : State) (k : Nat) (a : AuthSt) : (s.setAuth k a).out = s.out := rfl
@[simp] theorem State.setAuth_free (s : State) (k : Nat) (a : AuthSt) : (s.setAuth k a).free = s.free := rfl
@[simp] theorem State.setAuth_sys (s : State) (k : Nat) (a : AuthSt) : (s.setAuth k a).sys = s.sys := rfl
@[simp] theorem State.setAuth_wcp (s : State) (k : Nat) (a : AuthSt) : (s.setAuth k a).wcp = s.wcp := rfl
@[simp] theorem State.setAuth_rings (s : State) (k : Nat) (a : AuthSt) : (s.setAuth k a).rings = s.rings := rfl
@[simp] theorem State.setAuth_loop (s : State) (k : Nat) (a : AuthSt) : (s.setAuth k a).loop = s.loop := rfl
@[simp] theorem State.setAuth_psi (s : State) (k : Nat) (a : AuthSt) : (s.setAuth k a).psi = s.psi := rfl
@[simp] theorem State.setAuth_prof (s : State) (k : Nat) (a : AuthSt) : (s.setAuth k a).prof = s.prof := rfl
@[simp] theorem State.setAuth_safe (s : State) (k : Nat) (a : AuthSt) : (s.setAuth k a).safe = s.safe := rfl
@[simp] theorem State.setAuth_twin (s : State) (k : Nat) (a : AuthSt) : (s.setAuth k a).twin = s.twin := rfl
@[simp] theorem State.setAuth_net (s : State) (k : Nat) (a : AuthSt) : (s.setAuth k a).net = s.net := rfl
@[simp] theorem State.setAuth_can (s : State) (k : Nat) (a : AuthSt) : (s.setAuth k a).can = s.can := rfl
@[simp] theorem State.setAuth_fio (s : State) (k : Nat) (a : AuthSt) : (s.setAuth k a).fio = s.fio := rfl
@[simp] theorem State.setAuth_bist (s : State) (k : Nat) (a : AuthSt) : (s.setAuth k a).bist = s.bist := rfl
@[simp] theorem State.setAuth_recd (s : State) (k : Nat) (a : AuthSt) : (s.setAuth k a).recd = s.recd := rfl
@[simp] theorem State.setAuth_upd (s : State) (k : Nat) (a : AuthSt) : (s.setAuth k a).upd = s.upd := rfl
@[simp] theorem State.setAuth_fm (s : State) (k : Nat) (a : AuthSt) : (s.setAuth k a).fm = s.fm := rfl

@[simp] theorem State.setAxis_pending (s : State) (a : Nat) (x : AxisSt) : (s.setAxis a x).pending = s.pending := rfl
@[simp] theorem State.setAxis_now (s : State) (a : Nat) (x : AxisSt) : (s.setAxis a x).now = s.now := rfl
@[simp] theorem State.setAxis_frac (s : State) (a : Nat) (x : AxisSt) : (s.setAxis a x).frac = s.frac := rfl
@[simp] theorem State.setAxis_out (s : State) (a : Nat) (x : AxisSt) : (s.setAxis a x).out = s.out := rfl
@[simp] theorem State.setAxis_free (s : State) (a : Nat) (x : AxisSt) : (s.setAxis a x).free = s.free := rfl
@[simp] theorem State.setAxis_sys (s : State) (a : Nat) (x : AxisSt) : (s.setAxis a x).sys = s.sys := rfl
@[simp] theorem State.setAxis_wcp (s : State) (a : Nat) (x : AxisSt) : (s.setAxis a x).wcp = s.wcp := rfl
@[simp] theorem State.setAxis_rings (s : State) (a : Nat) (x : AxisSt) : (s.setAxis a x).rings = s.rings := rfl
@[simp] theorem State.setAxis_loop (s : State) (a : Nat) (x : AxisSt) : (s.setAxis a x).loop = s.loop := rfl
@[simp] theorem State.setAxis_psi (s : State) (a : Nat) (x : AxisSt) : (s.setAxis a x).psi = s.psi := rfl
@[simp] theorem State.setAxis_est (s : State) (a : Nat) (x : AxisSt) : (s.setAxis a x).est = s.est := rfl
@[simp] theorem State.setAxis_safe (s : State) (a : Nat) (x : AxisSt) : (s.setAxis a x).safe = s.safe := rfl
@[simp] theorem State.setAxis_twin (s : State) (a : Nat) (x : AxisSt) : (s.setAxis a x).twin = s.twin := rfl
@[simp] theorem State.setAxis_net (s : State) (a : Nat) (x : AxisSt) : (s.setAxis a x).net = s.net := rfl
@[simp] theorem State.setAxis_can (s : State) (a : Nat) (x : AxisSt) : (s.setAxis a x).can = s.can := rfl
@[simp] theorem State.setAxis_fio (s : State) (a : Nat) (x : AxisSt) : (s.setAxis a x).fio = s.fio := rfl
@[simp] theorem State.setAxis_bist (s : State) (a : Nat) (x : AxisSt) : (s.setAxis a x).bist = s.bist := rfl
@[simp] theorem State.setAxis_recd (s : State) (a : Nat) (x : AxisSt) : (s.setAxis a x).recd = s.recd := rfl
@[simp] theorem State.setAxis_upd (s : State) (a : Nat) (x : AxisSt) : (s.setAxis a x).upd = s.upd := rfl
@[simp] theorem State.setAxis_fm (s : State) (a : Nat) (x : AxisSt) : (s.setAxis a x).fm = s.fm := rfl

@[simp] theorem State.setWsf_pending (s : State) (k : Nat) (c : WsfSt) : (s.setWsf k c).pending = s.pending := rfl
@[simp] theorem State.setWsf_now (s : State) (k : Nat) (c : WsfSt) : (s.setWsf k c).now = s.now := rfl
@[simp] theorem State.setWsf_frac (s : State) (k : Nat) (c : WsfSt) : (s.setWsf k c).frac = s.frac := rfl
@[simp] theorem State.setWsf_out (s : State) (k : Nat) (c : WsfSt) : (s.setWsf k c).out = s.out := rfl
@[simp] theorem State.setWsf_free (s : State) (k : Nat) (c : WsfSt) : (s.setWsf k c).free = s.free := rfl
@[simp] theorem State.setWsf_sys (s : State) (k : Nat) (c : WsfSt) : (s.setWsf k c).sys = s.sys := rfl
@[simp] theorem State.setWsf_wcp (s : State) (k : Nat) (c : WsfSt) : (s.setWsf k c).wcp = s.wcp := rfl
@[simp] theorem State.setWsf_rings (s : State) (k : Nat) (c : WsfSt) : (s.setWsf k c).rings = s.rings := rfl
@[simp] theorem State.setWsf_loop (s : State) (k : Nat) (c : WsfSt) : (s.setWsf k c).loop = s.loop := rfl
@[simp] theorem State.setWsf_psi (s : State) (k : Nat) (c : WsfSt) : (s.setWsf k c).psi = s.psi := rfl
@[simp] theorem State.setWsf_prof (s : State) (k : Nat) (c : WsfSt) : (s.setWsf k c).prof = s.prof := rfl
@[simp] theorem State.setWsf_est (s : State) (k : Nat) (c : WsfSt) : (s.setWsf k c).est = s.est := rfl
@[simp] theorem State.setWsf_twin (s : State) (k : Nat) (c : WsfSt) : (s.setWsf k c).twin = s.twin := rfl
@[simp] theorem State.setWsf_net (s : State) (k : Nat) (c : WsfSt) : (s.setWsf k c).net = s.net := rfl
@[simp] theorem State.setWsf_can (s : State) (k : Nat) (c : WsfSt) : (s.setWsf k c).can = s.can := rfl
@[simp] theorem State.setWsf_fio (s : State) (k : Nat) (c : WsfSt) : (s.setWsf k c).fio = s.fio := rfl
@[simp] theorem State.setWsf_bist (s : State) (k : Nat) (c : WsfSt) : (s.setWsf k c).bist = s.bist := rfl
@[simp] theorem State.setWsf_recd (s : State) (k : Nat) (c : WsfSt) : (s.setWsf k c).recd = s.recd := rfl
@[simp] theorem State.setWsf_upd (s : State) (k : Nat) (c : WsfSt) : (s.setWsf k c).upd = s.upd := rfl
@[simp] theorem State.setWsf_fm (s : State) (k : Nat) (c : WsfSt) : (s.setWsf k c).fm = s.fm := rfl

@[simp] theorem State.updDo_pending (s : State) (n : Nat) (f : DoSt → DoSt) : (s.updDo n f).pending = s.pending := rfl
@[simp] theorem State.updDo_now (s : State) (n : Nat) (f : DoSt → DoSt) : (s.updDo n f).now = s.now := rfl
@[simp] theorem State.updDo_frac (s : State) (n : Nat) (f : DoSt → DoSt) : (s.updDo n f).frac = s.frac := rfl
@[simp] theorem State.updDo_out (s : State) (n : Nat) (f : DoSt → DoSt) : (s.updDo n f).out = s.out := rfl
@[simp] theorem State.updDo_free (s : State) (n : Nat) (f : DoSt → DoSt) : (s.updDo n f).free = s.free := rfl
@[simp] theorem State.updDo_sys (s : State) (n : Nat) (f : DoSt → DoSt) : (s.updDo n f).sys = s.sys := rfl
@[simp] theorem State.updDo_wcp (s : State) (n : Nat) (f : DoSt → DoSt) : (s.updDo n f).wcp = s.wcp := rfl
@[simp] theorem State.updDo_rings (s : State) (n : Nat) (f : DoSt → DoSt) : (s.updDo n f).rings = s.rings := rfl
@[simp] theorem State.updDo_loop (s : State) (n : Nat) (f : DoSt → DoSt) : (s.updDo n f).loop = s.loop := rfl
@[simp] theorem State.updDo_psi (s : State) (n : Nat) (f : DoSt → DoSt) : (s.updDo n f).psi = s.psi := rfl
@[simp] theorem State.updDo_prof (s : State) (n : Nat) (f : DoSt → DoSt) : (s.updDo n f).prof = s.prof := rfl
@[simp] theorem State.updDo_est (s : State) (n : Nat) (f : DoSt → DoSt) : (s.updDo n f).est = s.est := rfl
@[simp] theorem State.updDo_safe (s : State) (n : Nat) (f : DoSt → DoSt) : (s.updDo n f).safe = s.safe := rfl
@[simp] theorem State.updDo_twin (s : State) (n : Nat) (f : DoSt → DoSt) : (s.updDo n f).twin = s.twin := rfl
@[simp] theorem State.updDo_net (s : State) (n : Nat) (f : DoSt → DoSt) : (s.updDo n f).net = s.net := rfl
@[simp] theorem State.updDo_can (s : State) (n : Nat) (f : DoSt → DoSt) : (s.updDo n f).can = s.can := rfl
@[simp] theorem State.updDo_bist (s : State) (n : Nat) (f : DoSt → DoSt) : (s.updDo n f).bist = s.bist := rfl
@[simp] theorem State.updDo_recd (s : State) (n : Nat) (f : DoSt → DoSt) : (s.updDo n f).recd = s.recd := rfl
@[simp] theorem State.updDo_upd (s : State) (n : Nat) (f : DoSt → DoSt) : (s.updDo n f).upd = s.upd := rfl
@[simp] theorem State.updDo_fm (s : State) (n : Nat) (f : DoSt → DoSt) : (s.updDo n f).fm = s.fm := rfl

@[simp] theorem State.setGen_pending (s : State) (g : Nat) (x : GenSt) : (s.setGen g x).pending = s.pending := by
  unfold State.setGen; split <;> rfl
@[simp] theorem State.setGen_now (s : State) (g : Nat) (x : GenSt) : (s.setGen g x).now = s.now := by
  unfold State.setGen; split <;> rfl
@[simp] theorem State.setGen_frac (s : State) (g : Nat) (x : GenSt) : (s.setGen g x).frac = s.frac := by
  unfold State.setGen; split <;> rfl
@[simp] theorem State.setGen_out (s : State) (g : Nat) (x : GenSt) : (s.setGen g x).out = s.out := by
  unfold State.setGen; split <;> rfl
@[simp] theorem State.setGen_free (s : State) (g : Nat) (x : GenSt) : (s.setGen g x).free = s.free := by
  unfold State.setGen; split <;> rfl
@[simp] theorem State.setGen_sys (s : State) (g : Nat) (x : GenSt) : (s.setGen g x).sys = s.sys := by
  unfold State.setGen; split <;> rfl
@[simp] theorem State.setGen_wcp (s : State) (g : Nat) (x : GenSt) : (s.setGen g x).wcp = s.wcp := by
  unfold State.setGen; split <;> rfl
@[simp] theorem State.setGen_rings (s : State) (g : Nat) (x : GenSt) : (s.setGen g x).rings = s.rings := by
  unfold State.setGen; split <;> rfl
@[simp] theorem State.setGen_loop (s : State) (g : Nat) (x : GenSt) : (s.setGen g x).loop = s.loop := by
  unfold State.setGen; split <;> rfl
@[simp] theorem State.setGen_psi (s : State) (g : Nat) (x : GenSt) : (s.setGen g x).psi = s.psi := by
  unfold State.setGen; split <;> rfl
@[simp] theorem State.setGen_est (s : State) (g : Nat) (x : GenSt) : (s.setGen g x).est = s.est := by
  unfold State.setGen; split <;> rfl
@[simp] theorem State.setGen_safe (s : State) (g : Nat) (x : GenSt) : (s.setGen g x).safe = s.safe := by
  unfold State.setGen; split <;> rfl
@[simp] theorem State.setGen_twin (s : State) (g : Nat) (x : GenSt) : (s.setGen g x).twin = s.twin := by
  unfold State.setGen; split <;> rfl
@[simp] theorem State.setGen_net (s : State) (g : Nat) (x : GenSt) : (s.setGen g x).net = s.net := by
  unfold State.setGen; split <;> rfl
@[simp] theorem State.setGen_can (s : State) (g : Nat) (x : GenSt) : (s.setGen g x).can = s.can := by
  unfold State.setGen; split <;> rfl
@[simp] theorem State.setGen_fio (s : State) (g : Nat) (x : GenSt) : (s.setGen g x).fio = s.fio := by
  unfold State.setGen; split <;> rfl
@[simp] theorem State.setGen_bist (s : State) (g : Nat) (x : GenSt) : (s.setGen g x).bist = s.bist := by
  unfold State.setGen; split <;> rfl
@[simp] theorem State.setGen_recd (s : State) (g : Nat) (x : GenSt) : (s.setGen g x).recd = s.recd := by
  unfold State.setGen; split <;> rfl
@[simp] theorem State.setGen_upd (s : State) (g : Nat) (x : GenSt) : (s.setGen g x).upd = s.upd := by
  unfold State.setGen; split <;> rfl
@[simp] theorem State.setGen_fm (s : State) (g : Nat) (x : GenSt) : (s.setGen g x).fm = s.fm := by
  unfold State.setGen; split <;> rfl

@[simp] theorem State.setCtl_pending (s : State) (c : Nat) (x : CanCtl) : (s.setCtl c x).pending = s.pending := by
  unfold State.setCtl; split <;> rfl
@[simp] theorem State.setCtl_now (s : State) (c : Nat) (x : CanCtl) : (s.setCtl c x).now = s.now := by
  unfold State.setCtl; split <;> rfl
@[simp] theorem State.setCtl_frac (s : State) (c : Nat) (x : CanCtl) : (s.setCtl c x).frac = s.frac := by
  unfold State.setCtl; split <;> rfl
@[simp] theorem State.setCtl_out (s : State) (c : Nat) (x : CanCtl) : (s.setCtl c x).out = s.out := by
  unfold State.setCtl; split <;> rfl
@[simp] theorem State.setCtl_free (s : State) (c : Nat) (x : CanCtl) : (s.setCtl c x).free = s.free := by
  unfold State.setCtl; split <;> rfl
@[simp] theorem State.setCtl_sys (s : State) (c : Nat) (x : CanCtl) : (s.setCtl c x).sys = s.sys := by
  unfold State.setCtl; split <;> rfl
@[simp] theorem State.setCtl_wcp (s : State) (c : Nat) (x : CanCtl) : (s.setCtl c x).wcp = s.wcp := by
  unfold State.setCtl; split <;> rfl
@[simp] theorem State.setCtl_rings (s : State) (c : Nat) (x : CanCtl) : (s.setCtl c x).rings = s.rings := by
  unfold State.setCtl; split <;> rfl
@[simp] theorem State.setCtl_loop (s : State) (c : Nat) (x : CanCtl) : (s.setCtl c x).loop = s.loop := by
  unfold State.setCtl; split <;> rfl
@[simp] theorem State.setCtl_psi (s : State) (c : Nat) (x : CanCtl) : (s.setCtl c x).psi = s.psi := by
  unfold State.setCtl; split <;> rfl
@[simp] theorem State.setCtl_prof (s : State) (c : Nat) (x : CanCtl) : (s.setCtl c x).prof = s.prof := by
  unfold State.setCtl; split <;> rfl
@[simp] theorem State.setCtl_est (s : State) (c : Nat) (x : CanCtl) : (s.setCtl c x).est = s.est := by
  unfold State.setCtl; split <;> rfl
@[simp] theorem State.setCtl_safe (s : State) (c : Nat) (x : CanCtl) : (s.setCtl c x).safe = s.safe := by
  unfold State.setCtl; split <;> rfl
@[simp] theorem State.setCtl_twin (s : State) (c : Nat) (x : CanCtl) : (s.setCtl c x).twin = s.twin := by
  unfold State.setCtl; split <;> rfl
@[simp] theorem State.setCtl_net (s : State) (c : Nat) (x : CanCtl) : (s.setCtl c x).net = s.net := by
  unfold State.setCtl; split <;> rfl
@[simp] theorem State.setCtl_fio (s : State) (c : Nat) (x : CanCtl) : (s.setCtl c x).fio = s.fio := by
  unfold State.setCtl; split <;> rfl
@[simp] theorem State.setCtl_bist (s : State) (c : Nat) (x : CanCtl) : (s.setCtl c x).bist = s.bist := by
  unfold State.setCtl; split <;> rfl
@[simp] theorem State.setCtl_recd (s : State) (c : Nat) (x : CanCtl) : (s.setCtl c x).recd = s.recd := by
  unfold State.setCtl; split <;> rfl
@[simp] theorem State.setCtl_upd (s : State) (c : Nat) (x : CanCtl) : (s.setCtl c x).upd = s.upd := by
  unfold State.setCtl; split <;> rfl
@[simp] theorem State.setCtl_fm (s : State) (c : Nat) (x : CanCtl) : (s.setCtl c x).fm = s.fm := by
  unfold State.setCtl; split <;> rfl

@[simp] theorem State.setCluster_pending (s : State) (i : Nat) (c : Cluster) : (s.setCluster i c).pending = s.pending := by
  unfold State.setCluster; split <;> rfl
@[simp] theorem State.setCluster_now (s : State) (i : Nat) (c : Cluster) : (s.setCluster i c).now = s.now := by
  unfold State.setCluster; split <;> rfl
@[simp] theorem State.setCluster_frac (s : State) (i : Nat) (c : Cluster) : (s.setCluster i c).frac = s.frac := by
  unfold State.setCluster; split <;> rfl
@[simp] theorem State.setCluster_out (s : State) (i : Nat) (c : Cluster) : (s.setCluster i c).out = s.out := by
  unfold State.setCluster; split <;> rfl
@[simp] theorem State.setCluster_free (s : State) (i : Nat) (c : Cluster) : (s.setCluster i c).free = s.free := by
  unfold State.setCluster; split <;> rfl
@[simp] theorem State.setCluster_wcp (s : State) (i : Nat) (c : Cluster) : (s.setCluster i c).wcp = s.wcp := by
  unfold State.setCluster; split <;> rfl
@[simp] theorem State.setCluster_rings (s : State) (i : Nat) (c : Cluster) : (s.setCluster i c).rings = s.rings := by
  unfold State.setCluster; split <;> rfl
@[simp] theorem State.setCluster_loop (s : State) (i : Nat) (c : Cluster) : (s.setCluster i c).loop = s.loop := by
  unfold State.setCluster; split <;> rfl
@[simp] theorem State.setCluster_psi (s : State) (i : Nat) (c : Cluster) : (s.setCluster i c).psi = s.psi := by
  unfold State.setCluster; split <;> rfl
@[simp] theorem State.setCluster_prof (s : State) (i : Nat) (c : Cluster) : (s.setCluster i c).prof = s.prof := by
  unfold State.setCluster; split <;> rfl
@[simp] theorem State.setCluster_est (s : State) (i : Nat) (c : Cluster) : (s.setCluster i c).est = s.est := by
  unfold State.setCluster; split <;> rfl
@[simp] theorem State.setCluster_safe (s : State) (i : Nat) (c : Cluster) : (s.setCluster i c).safe = s.safe := by
  unfold State.setCluster; split <;> rfl
@[simp] theorem State.setCluster_twin (s : State) (i : Nat) (c : Cluster) : (s.setCluster i c).twin = s.twin := by
  unfold State.setCluster; split <;> rfl
@[simp] theorem State.setCluster_net (s : State) (i : Nat) (c : Cluster) : (s.setCluster i c).net = s.net := by
  unfold State.setCluster; split <;> rfl
@[simp] theorem State.setCluster_can (s : State) (i : Nat) (c : Cluster) : (s.setCluster i c).can = s.can := by
  unfold State.setCluster; split <;> rfl
@[simp] theorem State.setCluster_fio (s : State) (i : Nat) (c : Cluster) : (s.setCluster i c).fio = s.fio := by
  unfold State.setCluster; split <;> rfl
@[simp] theorem State.setCluster_bist (s : State) (i : Nat) (c : Cluster) : (s.setCluster i c).bist = s.bist := by
  unfold State.setCluster; split <;> rfl
@[simp] theorem State.setCluster_recd (s : State) (i : Nat) (c : Cluster) : (s.setCluster i c).recd = s.recd := by
  unfold State.setCluster; split <;> rfl
@[simp] theorem State.setCluster_upd (s : State) (i : Nat) (c : Cluster) : (s.setCluster i c).upd = s.upd := by
  unfold State.setCluster; split <;> rfl
@[simp] theorem State.setCluster_fm (s : State) (i : Nat) (c : Cluster) : (s.setCluster i c).fm = s.fm := by
  unfold State.setCluster; split <;> rfl

@[simp] theorem State.setEth_pending (s : State) (p : Nat) (x : PortSt) : (s.setEth p x).pending = s.pending := by
  unfold State.setEth; split <;> rfl
@[simp] theorem State.setEth_now (s : State) (p : Nat) (x : PortSt) : (s.setEth p x).now = s.now := by
  unfold State.setEth; split <;> rfl
@[simp] theorem State.setEth_frac (s : State) (p : Nat) (x : PortSt) : (s.setEth p x).frac = s.frac := by
  unfold State.setEth; split <;> rfl
@[simp] theorem State.setEth_out (s : State) (p : Nat) (x : PortSt) : (s.setEth p x).out = s.out := by
  unfold State.setEth; split <;> rfl
@[simp] theorem State.setEth_free (s : State) (p : Nat) (x : PortSt) : (s.setEth p x).free = s.free := by
  unfold State.setEth; split <;> rfl
@[simp] theorem State.setEth_sys (s : State) (p : Nat) (x : PortSt) : (s.setEth p x).sys = s.sys := by
  unfold State.setEth; split <;> rfl
@[simp] theorem State.setEth_wcp (s : State) (p : Nat) (x : PortSt) : (s.setEth p x).wcp = s.wcp := by
  unfold State.setEth; split <;> rfl
@[simp] theorem State.setEth_rings (s : State) (p : Nat) (x : PortSt) : (s.setEth p x).rings = s.rings := by
  unfold State.setEth; split <;> rfl
@[simp] theorem State.setEth_loop (s : State) (p : Nat) (x : PortSt) : (s.setEth p x).loop = s.loop := by
  unfold State.setEth; split <;> rfl
@[simp] theorem State.setEth_psi (s : State) (p : Nat) (x : PortSt) : (s.setEth p x).psi = s.psi := by
  unfold State.setEth; split <;> rfl
@[simp] theorem State.setEth_prof (s : State) (p : Nat) (x : PortSt) : (s.setEth p x).prof = s.prof := by
  unfold State.setEth; split <;> rfl
@[simp] theorem State.setEth_est (s : State) (p : Nat) (x : PortSt) : (s.setEth p x).est = s.est := by
  unfold State.setEth; split <;> rfl
@[simp] theorem State.setEth_safe (s : State) (p : Nat) (x : PortSt) : (s.setEth p x).safe = s.safe := by
  unfold State.setEth; split <;> rfl
@[simp] theorem State.setEth_twin (s : State) (p : Nat) (x : PortSt) : (s.setEth p x).twin = s.twin := by
  unfold State.setEth; split <;> rfl
@[simp] theorem State.setEth_can (s : State) (p : Nat) (x : PortSt) : (s.setEth p x).can = s.can := by
  unfold State.setEth; split <;> rfl
@[simp] theorem State.setEth_fio (s : State) (p : Nat) (x : PortSt) : (s.setEth p x).fio = s.fio := by
  unfold State.setEth; split <;> rfl
@[simp] theorem State.setEth_bist (s : State) (p : Nat) (x : PortSt) : (s.setEth p x).bist = s.bist := by
  unfold State.setEth; split <;> rfl
@[simp] theorem State.setEth_recd (s : State) (p : Nat) (x : PortSt) : (s.setEth p x).recd = s.recd := by
  unfold State.setEth; split <;> rfl
@[simp] theorem State.setEth_upd (s : State) (p : Nat) (x : PortSt) : (s.setEth p x).upd = s.upd := by
  unfold State.setEth; split <;> rfl
@[simp] theorem State.setEth_fm (s : State) (p : Nat) (x : PortSt) : (s.setEth p x).fm = s.fm := by
  unfold State.setEth; split <;> rfl

@[simp] theorem State.updStrE_pending (s : State) (r : Nat) (f : StringEst → StringEst) : (s.updStrE r f).pending = s.pending := rfl
@[simp] theorem State.updStrE_now (s : State) (r : Nat) (f : StringEst → StringEst) : (s.updStrE r f).now = s.now := rfl
@[simp] theorem State.updStrE_frac (s : State) (r : Nat) (f : StringEst → StringEst) : (s.updStrE r f).frac = s.frac := rfl
@[simp] theorem State.updStrE_out (s : State) (r : Nat) (f : StringEst → StringEst) : (s.updStrE r f).out = s.out := rfl
@[simp] theorem State.updStrE_free (s : State) (r : Nat) (f : StringEst → StringEst) : (s.updStrE r f).free = s.free := rfl
@[simp] theorem State.updStrE_sys (s : State) (r : Nat) (f : StringEst → StringEst) : (s.updStrE r f).sys = s.sys := rfl
@[simp] theorem State.updStrE_wcp (s : State) (r : Nat) (f : StringEst → StringEst) : (s.updStrE r f).wcp = s.wcp := rfl
@[simp] theorem State.updStrE_rings (s : State) (r : Nat) (f : StringEst → StringEst) : (s.updStrE r f).rings = s.rings := rfl
@[simp] theorem State.updStrE_loop (s : State) (r : Nat) (f : StringEst → StringEst) : (s.updStrE r f).loop = s.loop := rfl
@[simp] theorem State.updStrE_psi (s : State) (r : Nat) (f : StringEst → StringEst) : (s.updStrE r f).psi = s.psi := rfl
@[simp] theorem State.updStrE_prof (s : State) (r : Nat) (f : StringEst → StringEst) : (s.updStrE r f).prof = s.prof := rfl
@[simp] theorem State.updStrE_safe (s : State) (r : Nat) (f : StringEst → StringEst) : (s.updStrE r f).safe = s.safe := rfl
@[simp] theorem State.updStrE_twin (s : State) (r : Nat) (f : StringEst → StringEst) : (s.updStrE r f).twin = s.twin := rfl
@[simp] theorem State.updStrE_net (s : State) (r : Nat) (f : StringEst → StringEst) : (s.updStrE r f).net = s.net := rfl
@[simp] theorem State.updStrE_can (s : State) (r : Nat) (f : StringEst → StringEst) : (s.updStrE r f).can = s.can := rfl
@[simp] theorem State.updStrE_fio (s : State) (r : Nat) (f : StringEst → StringEst) : (s.updStrE r f).fio = s.fio := rfl
@[simp] theorem State.updStrE_bist (s : State) (r : Nat) (f : StringEst → StringEst) : (s.updStrE r f).bist = s.bist := rfl
@[simp] theorem State.updStrE_recd (s : State) (r : Nat) (f : StringEst → StringEst) : (s.updStrE r f).recd = s.recd := rfl
@[simp] theorem State.updStrE_upd (s : State) (r : Nat) (f : StringEst → StringEst) : (s.updStrE r f).upd = s.upd := rfl
@[simp] theorem State.updStrE_fm (s : State) (r : Nat) (f : StringEst → StringEst) : (s.updStrE r f).fm = s.fm := rfl

@[simp] theorem State.updCellE_pending (s : State) (k : Nat) (f : CellSt → CellSt) : (s.updCellE k f).pending = s.pending := rfl
@[simp] theorem State.updCellE_now (s : State) (k : Nat) (f : CellSt → CellSt) : (s.updCellE k f).now = s.now := rfl
@[simp] theorem State.updCellE_frac (s : State) (k : Nat) (f : CellSt → CellSt) : (s.updCellE k f).frac = s.frac := rfl
@[simp] theorem State.updCellE_out (s : State) (k : Nat) (f : CellSt → CellSt) : (s.updCellE k f).out = s.out := rfl
@[simp] theorem State.updCellE_free (s : State) (k : Nat) (f : CellSt → CellSt) : (s.updCellE k f).free = s.free := rfl
@[simp] theorem State.updCellE_sys (s : State) (k : Nat) (f : CellSt → CellSt) : (s.updCellE k f).sys = s.sys := rfl
@[simp] theorem State.updCellE_wcp (s : State) (k : Nat) (f : CellSt → CellSt) : (s.updCellE k f).wcp = s.wcp := rfl
@[simp] theorem State.updCellE_rings (s : State) (k : Nat) (f : CellSt → CellSt) : (s.updCellE k f).rings = s.rings := rfl
@[simp] theorem State.updCellE_loop (s : State) (k : Nat) (f : CellSt → CellSt) : (s.updCellE k f).loop = s.loop := rfl
@[simp] theorem State.updCellE_psi (s : State) (k : Nat) (f : CellSt → CellSt) : (s.updCellE k f).psi = s.psi := rfl
@[simp] theorem State.updCellE_prof (s : State) (k : Nat) (f : CellSt → CellSt) : (s.updCellE k f).prof = s.prof := rfl
@[simp] theorem State.updCellE_safe (s : State) (k : Nat) (f : CellSt → CellSt) : (s.updCellE k f).safe = s.safe := rfl
@[simp] theorem State.updCellE_twin (s : State) (k : Nat) (f : CellSt → CellSt) : (s.updCellE k f).twin = s.twin := rfl
@[simp] theorem State.updCellE_net (s : State) (k : Nat) (f : CellSt → CellSt) : (s.updCellE k f).net = s.net := rfl
@[simp] theorem State.updCellE_can (s : State) (k : Nat) (f : CellSt → CellSt) : (s.updCellE k f).can = s.can := rfl
@[simp] theorem State.updCellE_fio (s : State) (k : Nat) (f : CellSt → CellSt) : (s.updCellE k f).fio = s.fio := rfl
@[simp] theorem State.updCellE_bist (s : State) (k : Nat) (f : CellSt → CellSt) : (s.updCellE k f).bist = s.bist := rfl
@[simp] theorem State.updCellE_recd (s : State) (k : Nat) (f : CellSt → CellSt) : (s.updCellE k f).recd = s.recd := rfl
@[simp] theorem State.updCellE_upd (s : State) (k : Nat) (f : CellSt → CellSt) : (s.updCellE k f).upd = s.upd := rfl
@[simp] theorem State.updCellE_fm (s : State) (k : Nat) (f : CellSt → CellSt) : (s.updCellE k f).fm = s.fm := rfl

@[simp] theorem State.updImp_pending (s : State) (r : Nat) (f : ImpRing → ImpRing) : (s.updImp r f).pending = s.pending := rfl
@[simp] theorem State.updImp_now (s : State) (r : Nat) (f : ImpRing → ImpRing) : (s.updImp r f).now = s.now := rfl
@[simp] theorem State.updImp_frac (s : State) (r : Nat) (f : ImpRing → ImpRing) : (s.updImp r f).frac = s.frac := rfl
@[simp] theorem State.updImp_out (s : State) (r : Nat) (f : ImpRing → ImpRing) : (s.updImp r f).out = s.out := rfl
@[simp] theorem State.updImp_free (s : State) (r : Nat) (f : ImpRing → ImpRing) : (s.updImp r f).free = s.free := rfl
@[simp] theorem State.updImp_sys (s : State) (r : Nat) (f : ImpRing → ImpRing) : (s.updImp r f).sys = s.sys := rfl
@[simp] theorem State.updImp_wcp (s : State) (r : Nat) (f : ImpRing → ImpRing) : (s.updImp r f).wcp = s.wcp := rfl
@[simp] theorem State.updImp_rings (s : State) (r : Nat) (f : ImpRing → ImpRing) : (s.updImp r f).rings = s.rings := rfl
@[simp] theorem State.updImp_loop (s : State) (r : Nat) (f : ImpRing → ImpRing) : (s.updImp r f).loop = s.loop := rfl
@[simp] theorem State.updImp_psi (s : State) (r : Nat) (f : ImpRing → ImpRing) : (s.updImp r f).psi = s.psi := rfl
@[simp] theorem State.updImp_prof (s : State) (r : Nat) (f : ImpRing → ImpRing) : (s.updImp r f).prof = s.prof := rfl
@[simp] theorem State.updImp_safe (s : State) (r : Nat) (f : ImpRing → ImpRing) : (s.updImp r f).safe = s.safe := rfl
@[simp] theorem State.updImp_twin (s : State) (r : Nat) (f : ImpRing → ImpRing) : (s.updImp r f).twin = s.twin := rfl
@[simp] theorem State.updImp_net (s : State) (r : Nat) (f : ImpRing → ImpRing) : (s.updImp r f).net = s.net := rfl
@[simp] theorem State.updImp_can (s : State) (r : Nat) (f : ImpRing → ImpRing) : (s.updImp r f).can = s.can := rfl
@[simp] theorem State.updImp_fio (s : State) (r : Nat) (f : ImpRing → ImpRing) : (s.updImp r f).fio = s.fio := rfl
@[simp] theorem State.updImp_bist (s : State) (r : Nat) (f : ImpRing → ImpRing) : (s.updImp r f).bist = s.bist := rfl
@[simp] theorem State.updImp_recd (s : State) (r : Nat) (f : ImpRing → ImpRing) : (s.updImp r f).recd = s.recd := rfl
@[simp] theorem State.updImp_upd (s : State) (r : Nat) (f : ImpRing → ImpRing) : (s.updImp r f).upd = s.upd := rfl
@[simp] theorem State.updImp_fm (s : State) (r : Nat) (f : ImpRing → ImpRing) : (s.updImp r f).fm = s.fm := rfl

@[simp] theorem State.updAuth_pending (s : State) (k : Nat) (f : AuthSt → AuthSt) : (s.updAuth k f).pending = s.pending := rfl
@[simp] theorem State.updAuth_now (s : State) (k : Nat) (f : AuthSt → AuthSt) : (s.updAuth k f).now = s.now := rfl
@[simp] theorem State.updAuth_frac (s : State) (k : Nat) (f : AuthSt → AuthSt) : (s.updAuth k f).frac = s.frac := rfl
@[simp] theorem State.updAuth_out (s : State) (k : Nat) (f : AuthSt → AuthSt) : (s.updAuth k f).out = s.out := rfl
@[simp] theorem State.updAuth_free (s : State) (k : Nat) (f : AuthSt → AuthSt) : (s.updAuth k f).free = s.free := rfl
@[simp] theorem State.updAuth_sys (s : State) (k : Nat) (f : AuthSt → AuthSt) : (s.updAuth k f).sys = s.sys := rfl
@[simp] theorem State.updAuth_wcp (s : State) (k : Nat) (f : AuthSt → AuthSt) : (s.updAuth k f).wcp = s.wcp := rfl
@[simp] theorem State.updAuth_rings (s : State) (k : Nat) (f : AuthSt → AuthSt) : (s.updAuth k f).rings = s.rings := rfl
@[simp] theorem State.updAuth_loop (s : State) (k : Nat) (f : AuthSt → AuthSt) : (s.updAuth k f).loop = s.loop := rfl
@[simp] theorem State.updAuth_psi (s : State) (k : Nat) (f : AuthSt → AuthSt) : (s.updAuth k f).psi = s.psi := rfl
@[simp] theorem State.updAuth_prof (s : State) (k : Nat) (f : AuthSt → AuthSt) : (s.updAuth k f).prof = s.prof := rfl
@[simp] theorem State.updAuth_safe (s : State) (k : Nat) (f : AuthSt → AuthSt) : (s.updAuth k f).safe = s.safe := rfl
@[simp] theorem State.updAuth_twin (s : State) (k : Nat) (f : AuthSt → AuthSt) : (s.updAuth k f).twin = s.twin := rfl
@[simp] theorem State.updAuth_net (s : State) (k : Nat) (f : AuthSt → AuthSt) : (s.updAuth k f).net = s.net := rfl
@[simp] theorem State.updAuth_can (s : State) (k : Nat) (f : AuthSt → AuthSt) : (s.updAuth k f).can = s.can := rfl
@[simp] theorem State.updAuth_fio (s : State) (k : Nat) (f : AuthSt → AuthSt) : (s.updAuth k f).fio = s.fio := rfl
@[simp] theorem State.updAuth_bist (s : State) (k : Nat) (f : AuthSt → AuthSt) : (s.updAuth k f).bist = s.bist := rfl
@[simp] theorem State.updAuth_recd (s : State) (k : Nat) (f : AuthSt → AuthSt) : (s.updAuth k f).recd = s.recd := rfl
@[simp] theorem State.updAuth_upd (s : State) (k : Nat) (f : AuthSt → AuthSt) : (s.updAuth k f).upd = s.upd := rfl
@[simp] theorem State.updAuth_fm (s : State) (k : Nat) (f : AuthSt → AuthSt) : (s.updAuth k f).fm = s.fm := rfl

@[simp] theorem State.updAxis_pending (s : State) (a : Nat) (f : AxisSt → AxisSt) : (s.updAxis a f).pending = s.pending := rfl
@[simp] theorem State.updAxis_now (s : State) (a : Nat) (f : AxisSt → AxisSt) : (s.updAxis a f).now = s.now := rfl
@[simp] theorem State.updAxis_frac (s : State) (a : Nat) (f : AxisSt → AxisSt) : (s.updAxis a f).frac = s.frac := rfl
@[simp] theorem State.updAxis_out (s : State) (a : Nat) (f : AxisSt → AxisSt) : (s.updAxis a f).out = s.out := rfl
@[simp] theorem State.updAxis_free (s : State) (a : Nat) (f : AxisSt → AxisSt) : (s.updAxis a f).free = s.free := rfl
@[simp] theorem State.updAxis_sys (s : State) (a : Nat) (f : AxisSt → AxisSt) : (s.updAxis a f).sys = s.sys := rfl
@[simp] theorem State.updAxis_wcp (s : State) (a : Nat) (f : AxisSt → AxisSt) : (s.updAxis a f).wcp = s.wcp := rfl
@[simp] theorem State.updAxis_rings (s : State) (a : Nat) (f : AxisSt → AxisSt) : (s.updAxis a f).rings = s.rings := rfl
@[simp] theorem State.updAxis_loop (s : State) (a : Nat) (f : AxisSt → AxisSt) : (s.updAxis a f).loop = s.loop := rfl
@[simp] theorem State.updAxis_psi (s : State) (a : Nat) (f : AxisSt → AxisSt) : (s.updAxis a f).psi = s.psi := rfl
@[simp] theorem State.updAxis_est (s : State) (a : Nat) (f : AxisSt → AxisSt) : (s.updAxis a f).est = s.est := rfl
@[simp] theorem State.updAxis_safe (s : State) (a : Nat) (f : AxisSt → AxisSt) : (s.updAxis a f).safe = s.safe := rfl
@[simp] theorem State.updAxis_twin (s : State) (a : Nat) (f : AxisSt → AxisSt) : (s.updAxis a f).twin = s.twin := rfl
@[simp] theorem State.updAxis_net (s : State) (a : Nat) (f : AxisSt → AxisSt) : (s.updAxis a f).net = s.net := rfl
@[simp] theorem State.updAxis_can (s : State) (a : Nat) (f : AxisSt → AxisSt) : (s.updAxis a f).can = s.can := rfl
@[simp] theorem State.updAxis_fio (s : State) (a : Nat) (f : AxisSt → AxisSt) : (s.updAxis a f).fio = s.fio := rfl
@[simp] theorem State.updAxis_bist (s : State) (a : Nat) (f : AxisSt → AxisSt) : (s.updAxis a f).bist = s.bist := rfl
@[simp] theorem State.updAxis_recd (s : State) (a : Nat) (f : AxisSt → AxisSt) : (s.updAxis a f).recd = s.recd := rfl
@[simp] theorem State.updAxis_upd (s : State) (a : Nat) (f : AxisSt → AxisSt) : (s.updAxis a f).upd = s.upd := rfl
@[simp] theorem State.updAxis_fm (s : State) (a : Nat) (f : AxisSt → AxisSt) : (s.updAxis a f).fm = s.fm := rfl

@[simp] theorem State.setExch_pending (s : State) (r : Nat) (x : SweepExch) : (s.setExch r x).pending = s.pending := rfl
@[simp] theorem State.setExch_now (s : State) (r : Nat) (x : SweepExch) : (s.setExch r x).now = s.now := rfl
@[simp] theorem State.setExch_frac (s : State) (r : Nat) (x : SweepExch) : (s.setExch r x).frac = s.frac := rfl
@[simp] theorem State.setExch_out (s : State) (r : Nat) (x : SweepExch) : (s.setExch r x).out = s.out := rfl
@[simp] theorem State.setExch_free (s : State) (r : Nat) (x : SweepExch) : (s.setExch r x).free = s.free := rfl
@[simp] theorem State.setExch_sys (s : State) (r : Nat) (x : SweepExch) : (s.setExch r x).sys = s.sys := rfl
@[simp] theorem State.setExch_wcp (s : State) (r : Nat) (x : SweepExch) : (s.setExch r x).wcp = s.wcp := rfl
@[simp] theorem State.setExch_rings (s : State) (r : Nat) (x : SweepExch) : (s.setExch r x).rings = s.rings := rfl
@[simp] theorem State.setExch_loop (s : State) (r : Nat) (x : SweepExch) : (s.setExch r x).loop = s.loop := rfl
@[simp] theorem State.setExch_psi (s : State) (r : Nat) (x : SweepExch) : (s.setExch r x).psi = s.psi := rfl
@[simp] theorem State.setExch_prof (s : State) (r : Nat) (x : SweepExch) : (s.setExch r x).prof = s.prof := rfl
@[simp] theorem State.setExch_est (s : State) (r : Nat) (x : SweepExch) : (s.setExch r x).est = s.est := rfl
@[simp] theorem State.setExch_safe (s : State) (r : Nat) (x : SweepExch) : (s.setExch r x).safe = s.safe := rfl
@[simp] theorem State.setExch_net (s : State) (r : Nat) (x : SweepExch) : (s.setExch r x).net = s.net := rfl
@[simp] theorem State.setExch_can (s : State) (r : Nat) (x : SweepExch) : (s.setExch r x).can = s.can := rfl
@[simp] theorem State.setExch_fio (s : State) (r : Nat) (x : SweepExch) : (s.setExch r x).fio = s.fio := rfl
@[simp] theorem State.setExch_bist (s : State) (r : Nat) (x : SweepExch) : (s.setExch r x).bist = s.bist := rfl
@[simp] theorem State.setExch_recd (s : State) (r : Nat) (x : SweepExch) : (s.setExch r x).recd = s.recd := rfl
@[simp] theorem State.setExch_upd (s : State) (r : Nat) (x : SweepExch) : (s.setExch r x).upd = s.upd := rfl
@[simp] theorem State.setExch_fm (s : State) (r : Nat) (x : SweepExch) : (s.setExch r x).fm = s.fm := rfl

@[simp] theorem State.setPart_pending (s : State) (p : Nat) (x : RecPart) : (s.setPart p x).pending = s.pending := rfl
@[simp] theorem State.setPart_now (s : State) (p : Nat) (x : RecPart) : (s.setPart p x).now = s.now := rfl
@[simp] theorem State.setPart_frac (s : State) (p : Nat) (x : RecPart) : (s.setPart p x).frac = s.frac := rfl
@[simp] theorem State.setPart_out (s : State) (p : Nat) (x : RecPart) : (s.setPart p x).out = s.out := rfl
@[simp] theorem State.setPart_free (s : State) (p : Nat) (x : RecPart) : (s.setPart p x).free = s.free := rfl
@[simp] theorem State.setPart_sys (s : State) (p : Nat) (x : RecPart) : (s.setPart p x).sys = s.sys := rfl
@[simp] theorem State.setPart_wcp (s : State) (p : Nat) (x : RecPart) : (s.setPart p x).wcp = s.wcp := rfl
@[simp] theorem State.setPart_rings (s : State) (p : Nat) (x : RecPart) : (s.setPart p x).rings = s.rings := rfl
@[simp] theorem State.setPart_loop (s : State) (p : Nat) (x : RecPart) : (s.setPart p x).loop = s.loop := rfl
@[simp] theorem State.setPart_psi (s : State) (p : Nat) (x : RecPart) : (s.setPart p x).psi = s.psi := rfl
@[simp] theorem State.setPart_prof (s : State) (p : Nat) (x : RecPart) : (s.setPart p x).prof = s.prof := rfl
@[simp] theorem State.setPart_est (s : State) (p : Nat) (x : RecPart) : (s.setPart p x).est = s.est := rfl
@[simp] theorem State.setPart_safe (s : State) (p : Nat) (x : RecPart) : (s.setPart p x).safe = s.safe := rfl
@[simp] theorem State.setPart_twin (s : State) (p : Nat) (x : RecPart) : (s.setPart p x).twin = s.twin := rfl
@[simp] theorem State.setPart_net (s : State) (p : Nat) (x : RecPart) : (s.setPart p x).net = s.net := rfl
@[simp] theorem State.setPart_can (s : State) (p : Nat) (x : RecPart) : (s.setPart p x).can = s.can := rfl
@[simp] theorem State.setPart_fio (s : State) (p : Nat) (x : RecPart) : (s.setPart p x).fio = s.fio := rfl
@[simp] theorem State.setPart_bist (s : State) (p : Nat) (x : RecPart) : (s.setPart p x).bist = s.bist := rfl
@[simp] theorem State.setPart_upd (s : State) (p : Nat) (x : RecPart) : (s.setPart p x).upd = s.upd := rfl
@[simp] theorem State.setPart_fm (s : State) (p : Nat) (x : RecPart) : (s.setPart p x).fm = s.fm := rfl

@[simp] theorem State.updFb_pending (s : State) (f : FbSt → FbSt) : (s.updFb f).pending = s.pending := rfl
@[simp] theorem State.updFb_now (s : State) (f : FbSt → FbSt) : (s.updFb f).now = s.now := rfl
@[simp] theorem State.updFb_frac (s : State) (f : FbSt → FbSt) : (s.updFb f).frac = s.frac := rfl
@[simp] theorem State.updFb_out (s : State) (f : FbSt → FbSt) : (s.updFb f).out = s.out := rfl
@[simp] theorem State.updFb_free (s : State) (f : FbSt → FbSt) : (s.updFb f).free = s.free := rfl
@[simp] theorem State.updFb_sys (s : State) (f : FbSt → FbSt) : (s.updFb f).sys = s.sys := rfl
@[simp] theorem State.updFb_wcp (s : State) (f : FbSt → FbSt) : (s.updFb f).wcp = s.wcp := rfl
@[simp] theorem State.updFb_rings (s : State) (f : FbSt → FbSt) : (s.updFb f).rings = s.rings := rfl
@[simp] theorem State.updFb_loop (s : State) (f : FbSt → FbSt) : (s.updFb f).loop = s.loop := rfl
@[simp] theorem State.updFb_psi (s : State) (f : FbSt → FbSt) : (s.updFb f).psi = s.psi := rfl
@[simp] theorem State.updFb_prof (s : State) (f : FbSt → FbSt) : (s.updFb f).prof = s.prof := rfl
@[simp] theorem State.updFb_est (s : State) (f : FbSt → FbSt) : (s.updFb f).est = s.est := rfl
@[simp] theorem State.updFb_safe (s : State) (f : FbSt → FbSt) : (s.updFb f).safe = s.safe := rfl
@[simp] theorem State.updFb_twin (s : State) (f : FbSt → FbSt) : (s.updFb f).twin = s.twin := rfl
@[simp] theorem State.updFb_net (s : State) (f : FbSt → FbSt) : (s.updFb f).net = s.net := rfl
@[simp] theorem State.updFb_can (s : State) (f : FbSt → FbSt) : (s.updFb f).can = s.can := rfl
@[simp] theorem State.updFb_fio (s : State) (f : FbSt → FbSt) : (s.updFb f).fio = s.fio := rfl
@[simp] theorem State.updFb_bist (s : State) (f : FbSt → FbSt) : (s.updFb f).bist = s.bist := rfl
@[simp] theorem State.updFb_upd (s : State) (f : FbSt → FbSt) : (s.updFb f).upd = s.upd := rfl
@[simp] theorem State.updFb_fm (s : State) (f : FbSt → FbSt) : (s.updFb f).fm = s.fm := rfl

@[simp] theorem State.setReplay_pending (s : State) (r : Option ReplaySt) : (s.setReplay r).pending = s.pending := rfl
@[simp] theorem State.setReplay_now (s : State) (r : Option ReplaySt) : (s.setReplay r).now = s.now := rfl
@[simp] theorem State.setReplay_frac (s : State) (r : Option ReplaySt) : (s.setReplay r).frac = s.frac := rfl
@[simp] theorem State.setReplay_out (s : State) (r : Option ReplaySt) : (s.setReplay r).out = s.out := rfl
@[simp] theorem State.setReplay_free (s : State) (r : Option ReplaySt) : (s.setReplay r).free = s.free := rfl
@[simp] theorem State.setReplay_sys (s : State) (r : Option ReplaySt) : (s.setReplay r).sys = s.sys := rfl
@[simp] theorem State.setReplay_wcp (s : State) (r : Option ReplaySt) : (s.setReplay r).wcp = s.wcp := rfl
@[simp] theorem State.setReplay_rings (s : State) (r : Option ReplaySt) : (s.setReplay r).rings = s.rings := rfl
@[simp] theorem State.setReplay_loop (s : State) (r : Option ReplaySt) : (s.setReplay r).loop = s.loop := rfl
@[simp] theorem State.setReplay_psi (s : State) (r : Option ReplaySt) : (s.setReplay r).psi = s.psi := rfl
@[simp] theorem State.setReplay_prof (s : State) (r : Option ReplaySt) : (s.setReplay r).prof = s.prof := rfl
@[simp] theorem State.setReplay_est (s : State) (r : Option ReplaySt) : (s.setReplay r).est = s.est := rfl
@[simp] theorem State.setReplay_safe (s : State) (r : Option ReplaySt) : (s.setReplay r).safe = s.safe := rfl
@[simp] theorem State.setReplay_twin (s : State) (r : Option ReplaySt) : (s.setReplay r).twin = s.twin := rfl
@[simp] theorem State.setReplay_net (s : State) (r : Option ReplaySt) : (s.setReplay r).net = s.net := rfl
@[simp] theorem State.setReplay_can (s : State) (r : Option ReplaySt) : (s.setReplay r).can = s.can := rfl
@[simp] theorem State.setReplay_fio (s : State) (r : Option ReplaySt) : (s.setReplay r).fio = s.fio := rfl
@[simp] theorem State.setReplay_bist (s : State) (r : Option ReplaySt) : (s.setReplay r).bist = s.bist := rfl
@[simp] theorem State.setReplay_upd (s : State) (r : Option ReplaySt) : (s.setReplay r).upd = s.upd := rfl
@[simp] theorem State.setReplay_fm (s : State) (r : Option ReplaySt) : (s.setReplay r).fm = s.fm := rfl

end Sys2Proof.Machine
end

