-- ==== Sys2Proof/Laws/Kept.lean ====
section
/-! SUPPORT. What the shared operations of protocol, recorder and fault manager leave alone: everything State.kept holds, and the applied
parameters. One lemma per operation. -/

namespace Sys2Proof.Machine
open Sys2Proof

/-- Two states agree on everything but protocol, recorder, fault manager and output, and on the applied parameters. -/
def Same (t s : State) : Prop := t.kept = s.kept ∧ t.wcp.params = s.wcp.params ∧ t.wcp.generation = s.wcp.generation

theorem Same.rfl' {s : State} : Same s s := ⟨rfl, rfl, rfl⟩

theorem Same.trans {a b c : State} (h : Same a b) (g : Same b c) : Same a c :=
  ⟨h.1.trans g.1, h.2.1.trans g.2.1, h.2.2.trans g.2.2⟩

/-- The fields on which such states agree. -/
theorem Same.fields {t s : State} (h : Same t s) :
    t.pending = s.pending ∧ t.now = s.now ∧ t.frac = s.frac ∧ t.free = s.free ∧ t.sys = s.sys ∧ t.rings = s.rings ∧ t.loop = s.loop
      ∧ t.psi = s.psi ∧ t.prof = s.prof ∧ t.est = s.est ∧ t.safe = s.safe ∧ t.twin = s.twin ∧ t.can = s.can ∧ t.fio = s.fio ∧ t.bist = s.bist
      ∧ t.upd = s.upd := by
  have g : ∀ {β : Type} (f : State → β), f t.kept = f s.kept := fun f => congrArg f h.1
  exact ⟨g State.pending, g State.now, g State.frac, g State.free, g State.sys, g State.rings, g State.loop, g State.psi, g State.prof, g State.est,
    g State.safe, g State.twin, g State.can, g State.fio, g State.bist, g State.upd⟩

/-- Such states hold the same applied values, and the same safety block. -/
theorem Same.par {t s : State} (h : Same t s) (id inst : Nat) : t.par id inst = s.par id inst := by
  obtain ⟨-, -, -, -, hs, -, -, -, -, -, -, -, -, -, -, hu⟩ := h.fields
  unfold State.par
  rw [h.2.1, hs, hu]

theorem Same.blockCrc {t s : State} (h : Same t s) : t.blockCrc = s.blockCrc := by
  unfold State.blockCrc State.blockBytes State.blockValues
  simp only [h.par]

theorem Same.foldl {α : Type} {f : State → α → State} (hf : ∀ s a, Same (f s a) s) (l : List α) (s : State) : Same (l.foldl f s) s := by
  induction l generalizing s with
  | nil => exact Same.rfl'
  | cons a l ih => exact (ih (f s a)).trans (hf s a)

theorem Same.ite {c : Prop} [Decidable c] {a b s : State} (ha : Same a s) (hb : Same b s) : Same (if c then a else b) s := by
  split
  · exact ha
  · exact hb

/-! ### Sending -/

theorem State.incBy_same (s : State) (id inst n : Nat) : Same (s.incBy id inst n) s := ⟨rfl, rfl, rfl⟩
theorem State.inc_same (s : State) (id inst : Nat) : Same (s.inc id inst) s := ⟨rfl, rfl, rfl⟩
theorem State.emit_same (s : State) (o : Out) : Same (s.emit o) s := ⟨rfl, rfl, rfl⟩
theorem State.updSess_same (s : State) (id : Nat) (f : Sess → Sess) : Same (s.updSess id f) s := ⟨rfl, rfl, rfl⟩
theorem State.setSess_same (s : State) (x : Sess) : Same (s.setSess x) s := ⟨rfl, rfl, rfl⟩

theorem State.post_same (s : State) (p : Packet) : Same (s.post p) s := by
  unfold State.post; split <;> exact ⟨rfl, rfl, rfl⟩

theorem State.sendBatch_same (s : State) (id : Nat) (b : Batch) : Same (s.sendBatch id b) s := by
  unfold State.sendBatch
  split
  · exact Same.rfl'
  · exact (State.post_same _ _).trans (State.setSess_same _ _)

theorem State.stepBatch_same (s : State) : Same { s with net := { s.net with stepBatch := false } } s := ⟨rfl, rfl, rfl⟩

theorem State.closeBatch_same (s : State) (id : Nat) : Same (s.closeBatch id) s := by
  unfold State.closeBatch
  split
  · exact Same.rfl'
  · split
    · exact Same.rfl'
    · exact (State.sendBatch_same _ _ _).trans ((State.setSess_same _ _).trans (State.stepBatch_same s))

theorem State.deliver_same (s : State) (e : Event) : Same (s.deliver e) s :=
  Same.trans (Same.foldl (f := fun s (x : Sess) => s.closeBatch x.id) (fun s x => State.closeBatch_same s x.id) _ _) ⟨rfl, rfl, rfl⟩

/-! ### Records, the flight buffer and faults -/

theorem State.enqueueRec_same (s : State) (r : Rec) : Same (s.enqueueRec r) s := by
  unfold State.enqueueRec
  split
  · exact ⟨rfl, rfl, rfl⟩
  · simp only []; split <;> exact ⟨rfl, rfl, rfl⟩

theorem State.recordPlain_same (s : State) (f : FRec) : Same (s.recordPlain f) s :=
  (State.deliver_same _ _).trans ((State.enqueueRec_same _ _).trans ⟨rfl, rfl, rfl⟩)

theorem State.fbPush_same (s : State) (type time : Nat) (payload : Bytes) : Same (s.fbPush type time payload) s := by
  unfold State.fbPush; split <;> exact ⟨rfl, rfl, rfl⟩

theorem State.fbEvent_same (s : State) (kind : Nat) (data : Bytes) : Same (s.fbEvent kind data) s := State.fbPush_same _ _ _ _

theorem State.fbPeriod_same (s : State) (k : Nat) (r : Bytes) : Same (s.fbPeriod k r) s := by
  unfold State.fbPeriod; split <;> exact ⟨rfl, rfl, rfl⟩

theorem State.fbTrigger_same (s : State) (seq code : Nat) : Same (s.fbTrigger seq code) s := by
  unfold State.fbTrigger
  simp only []
  split
  · exact Same.rfl'
  · split
    · exact State.fbEvent_same _ _ _
    · exact Same.trans ⟨rfl, rfl, rfl⟩ (State.fbEvent_same s 5 (u32 seq))

theorem State.record_same (s : State) (f : FRec) : Same (s.record f) s := by
  unfold State.record
  simp only []
  split
  · exact State.recordPlain_same _ _
  · split
    · exact (State.recordPlain_same _ _).trans (Same.trans ⟨rfl, rfl, rfl⟩ (State.recordPlain_same s f))
    · exact (State.fbTrigger_same _ _ _).trans (State.recordPlain_same _ _)

theorem State.raiseWith_same (s : State) (code inst sev : Nat) (data : Bytes) (parent : Option (Nat × Nat)) (strings : Option (BitVec 4)) :
    Same (s.raiseWith code inst sev data parent strings) s := by
  unfold State.raiseWith
  simp only []
  split
  · split
    · exact ⟨rfl, rfl, rfl⟩
    · exact State.record_same _ _
  · exact ⟨rfl, rfl, rfl⟩

theorem State.raise_same (s : State) (code inst sev : Nat) (data : Bytes) : Same (s.raise code inst sev data) s :=
  State.raiseWith_same _ _ _ _ _ _ _

theorem State.complete_same (s : State) (op : OpRef) (status : Nat) (result : Bytes) : Same (s.complete op status result) s :=
  State.raise_same _ _ _ _ _

theorem State.completeWith_same (s : State) (op : OpRef) (status : Nat) (result extra : Bytes) :
    Same (s.completeWith op status result extra) s := State.raise_same _ _ _ _ _

/-- A fault of severity 1 to 3 waits for acceptance as it was raised (20 R524). -/
theorem State.raise_waits (s : State) (code inst sev : Nat) (data : Bytes) (h : sev ≠ 0) : (s.raise code inst sev data).waits code inst sev = true := by
  simp [State.raise, State.raiseWith, State.waits, mkFault, h]

/-! ### Requests -/

theorem State.reply_same (s : State) (op : Nat) (h : Hdr) (status : Nat) (body : Bytes) : Same (s.reply op h status body) s := by
  unfold State.reply
  split
  · exact ⟨rfl, rfl, rfl⟩
  · exact (State.post_same _ _).trans ⟨rfl, rfl, rfl⟩

theorem State.fail_same (s : State) (op : Nat) (h : Hdr) (status detail aux : Nat) : Same (s.fail op h status detail aux) s :=
  State.reply_same _ _ _ _ _

theorem State.failAll_same (s : State) (op : Nat) (h : Hdr) (pl : Bytes) (status detail aux : Nat) : Same (s.failAll op h pl status detail aux) s :=
  State.reply_same _ _ _ _ _

theorem State.forwardReq_same (s : State) (op : Nat) (h : Hdr) (pl : Bytes) : Same (s.forwardReq op h pl) s :=
  (State.emit_same _ _).trans ⟨rfl, rfl, rfl⟩

theorem State.accept_same (s : State) (h : Hdr) : Same (s.accept h) s := State.updSess_same _ _ _
theorem State.dequeue_same (s : State) (op : Nat) (h : Hdr) : Same (s.dequeue op h) s := ⟨rfl, rfl, rfl⟩

theorem State.fbCommand_same (s : State) (op : Nat) (h : Hdr) (pl : Bytes) : Same (s.fbCommand op h pl) s := by
  unfold State.fbCommand
  split
  · exact Same.rfl'
  · exact State.fbPush_same _ _ _ _

theorem State.admitted_same (s : State) (op : Nat) (h : Hdr) (pl : Bytes) : Same (s.admitted op h pl) s :=
  (State.fbCommand_same _ _ _ _).trans ((State.accept_same _ _).trans (State.dequeue_same _ _ _))

theorem State.authFail_same (s : State) : Same s.authFail s :=
  have t1 : ∀ (u : State) (ts : List Nat), Same { u with wcp := { u.wcp with authTimes := ts } } u := fun _ _ => ⟨rfl, rfl, rfl⟩
  have t2 : ∀ (u : State) (a : Option Nat), Same { u with wcp := { u.wcp with authRaised := a } } u := fun _ _ => ⟨rfl, rfl, rfl⟩
  have g := (t1 _ (s.inc 0x34 0).authSeen).trans (State.inc_same s 0x34 0)
  Same.ite ((State.raise_same _ _ _ _ _).trans ((t2 _ _).trans g)) g

theorem State.refuse_same (s : State) (op : Nat) (h : Hdr) (pl : Bytes) (v : Verdict) : Same (s.refuse op h pl v) s := by
  unfold State.refuse
  split
  · exact Same.rfl'
  · exact Same.rfl'
  · split
    · exact State.authFail_same _
    · exact State.inc_same _ _ _
  · exact State.post_same _ _
  · split
    · exact State.post_same _ _
    · exact (State.failAll_same _ _ _ _ _ _ _).trans (State.accept_same _ _)
  · exact (State.forwardReq_same _ _ _ _).trans (State.accept_same s h)

theorem State.enqueue_same (s : State) (w : Waiting) : Same (s.enqueue w) s := ⟨rfl, rfl, rfl⟩

theorem State.await_same (s : State) (op : Nat) (h : Hdr) (pl : Bytes) : Same (s.await op h pl) s := by
  unfold State.await
  split
  · exact Same.rfl'
  · split
    · exact State.enqueue_same _ _
    · exact State.refuse_same _ _ _ _ _

theorem State.guestIn_same (s : State) (op : Nat) (h : Hdr) : Same (s.guestIn op h) s := ⟨rfl, rfl, rfl⟩
theorem State.guestOut_same (s : State) : Same s.guestOut s := ⟨rfl, rfl, rfl⟩

/-- A request either runs its meaning on a state that agrees with s, or leaves such a state. -/
theorem State.wcpRun_cases (s : State) (op : Nat) (h : Hdr) (pl : Bytes) (energise : Bool) (blocks : List Nat) (body : State → State) :
    Same (s.wcpRun op h pl energise blocks body) s
      ∨ ∃ u : State, Same u s ∧ (s.wcpRun op h pl energise blocks body = body u ∨ s.wcpRun op h pl energise blocks body = (body u).guestOut) := by
  unfold State.wcpRun
  split
  · exact .inl Same.rfl'
  split
  · exact .inl (State.await_same _ _ _ _)
  split
  · unfold State.guestRun
    simp only []
    split
    · exact .inr ⟨_, (State.fbCommand_same _ _ _ _).trans ((State.guestIn_same _ _ _).trans (State.dequeue_same _ _ _)), .inr rfl⟩
    · exact .inl ((State.failAll_same _ _ _ _ _ _ _).trans (State.dequeue_same _ _ _))
    · exact .inl (State.dequeue_same _ _ _)
  · simp only []
    split
    · split
      · exact .inr ⟨_, (State.fbCommand_same _ _ _ _).trans ((State.accept_same _ _).trans (State.dequeue_same _ _ _)), .inl rfl⟩
      · exact .inl ((State.refuse_same _ _ _ _ _).trans (State.dequeue_same _ _ _))
    · exact .inl ((State.refuse_same _ _ _ _ _).trans (State.dequeue_same _ _ _))

/-- A request whose meaning leaves the kept part alone does so whatever the checks decide. -/
theorem State.wcpRun_same (s : State) (op : Nat) (h : Hdr) (pl : Bytes) (energise : Bool) (blocks : List Nat) (body : State → State)
    (hb : ∀ u, Same (body u) u) : Same (s.wcpRun op h pl energise blocks body) s := by
  rcases State.wcpRun_cases s op h pl energise blocks body with g | ⟨u, hu, g | g⟩
  · exact g
  · rw [g]; exact (hb u).trans hu
  · rw [g]; exact (State.guestOut_same _).trans ((hb u).trans hu)

/-- A request that passes runs its meaning on the admitted state. -/
theorem State.wcpRun_of_passes (s : State) (op : Nat) (h : Hdr) (pl : Bytes) (energise : Bool) (blocks : List Nat) (body : State → State)
    (hp : s.passes op h energise blocks = true) : s.wcpRun op h pl energise blocks body = body (s.admitted op h pl) := by
  simp only [State.passes, Bool.and_eq_true, Bool.not_eq_true', beq_iff_eq] at hp
  obtain ⟨⟨⟨⟨h1, h0⟩, h2⟩, h3⟩, h4⟩ := hp
  simp [State.wcpRun, State.admitted, h0, h1, h2, h3, h4]

theorem State.wcpReq_of_passes (s : State) (op : Nat) (h : Hdr) (pl : Bytes) (body : State → State)
    (hp : s.passes op h false [] = true) : s.wcpReq op h pl body = body (s.admitted op h pl) :=
  State.wcpRun_of_passes s op h pl false [] body hp

end Sys2Proof.Machine
end

