-- ==== Sys2Proof/Tests/Slice0.lean ====
section
/-! SUPPORT. Own tests: the checks of WellFormed, single steps, and for each statement states and operands that meet its hypotheses. -/

namespace Sys2Proof.Machine
open Sys2Proof

set_option Elab.async false

/-! ### Small states -/

/-- A header from session n: session 4 is on SVC, every other on the plant network; a tag where there is a session. -/
def hdrOf (n : Nat) : Hdr :=
  { transport := if n = 4 then .svc else .plant, peer := 0, crcOk := true, sizeOk := true, version := 2,
    flags := if n = 3 then 24 else if n = 0 then 0 else 16, seq := 1, session := BitVec.ofNat 16 n, target := 0, resv := 0,
    tag := if n = 0 then .absent else .good }

/-- The same with TARGET. -/
def hdrTo (n k : Nat) : Hdr := { hdrOf n with target := BitVec.ofNat 8 k }

/-- A safety-class header from session n. -/
def hdrSafe (n : Nat) : Hdr := { hdrOf n with flags := 24 }

/-- A session of a number and role. -/
def sessOf (n : Nat) (r : Role) : Sess := { id := n, role := r, transport := (hdrOf n).transport, peer := 0 }

/-- An ACTIVE module in P0, slot 1, ready, with a session of every role. -/
def act : State :=
  { State.reset with
    sys := { State.reset.sys with lifecycle := .active, mirror := .active, roleOut := true, mated := true, slot := 1, startPhase := 7,
                                  imageValid := true, imageConfirmed := true, selfTest := .passed },
    wcp := { State.reset.wcp with sessions := [sessOf 1 .operate, sessOf 2 .service, sessOf 3 .safety, sessOf 4 .update, sessOf 5 .view] },
    twin := { State.reset.twin with life := some .standby } }

/-- Its twin in STANDBY. -/
def stb : State :=
  { act with sys := { act.sys with lifecycle := .standby, mirror := .standby, roleOut := false, roleIn := true, slot := 2 },
             twin := { act.twin with life := some .active } }

/-- The module with another lifecycle, without drive. -/
def inLife (l : Lifecycle) : State := { act with sys := { act.sys with lifecycle := l, mirror := l, roleOut := false } }

/-- The active module with one field group replaced. -/
def withSys (f : SysSt → SysSt) : State := { act with sys := f act.sys }
def withWcp (f : WcpSt → WcpSt) : State := { act with wcp := f act.wcp }
def withCh (c : Nat) (f : ChSt → ChSt) : State := act.updCh c f
def withRing (f : RingSt → RingSt) : State := act.updRing 0 f
/-- A frame that came in whole at PRX behind an idle set. -/
def rx : Rx := ⟨false, idleSet, 1, true, 0⟩
/-- Ring 0 enumerated with four nodes, sweeping. -/
def swept : State := withRing fun x => { x with mode := 2, n := 4, enumerated := true, turnipSet := 15, sweeping := true }
def withNode (f : NodeSt → NodeSt) : State := swept.setNode 0 (f {})

/-! ### Ill-formed terms, which the checks refuse -/

/-- A SWEEP_DATA frame of 16 cells at 3.3 V and four temperatures. -/
def frm : SweepPayload :=
  { sweep := 1, v := List.replicate 16 33000, t := List.replicate 4 2500, pairIdx := 0, calId := 0, pairV := 0, calV := 0, balMask := 0,
    status := 0, epoch := 0, dflags := 0 }
def canFrame : CanEntry := { id := 0x123, fmt := 0, dlc := 1, handle := 7, data := [0x55] }
def answerOf (n : Nat) : AuthData :=
  { serial := List.replicate n 0, epoch := 0, nvgen := 0, certId := List.replicate 8 0, histDigest := [], sig := [], cert := [], issuer := [], history := [] }
def sw24 : SwitchLevels := { supply := 24000, idle := 12000, mid := 0, before := 24000, out := 0, after := 24000 }
def finalOf (r : Nat) : SweepFinalMsg := { ring := r, complete := true, sweep := 0, stamp := 0, rxMask := 0, crcs := [] }
def announce : AnnounceData := { identity := [1], prio1 := 128, clockClass := 6, accuracy := 0x21, variance := 0, prio2 := 128, steps := 0,
                                 interval := 1000000000 }
/-- A frame at a port without fault or tag, a PTP message on the domain in use, a Shallot frame with its CRC right. -/
def ethAt (p : Nat) : EthIn := { port := p, fcsOk := true, tags := [], passed := false }
def ptpOf (k : Nat) : PtpHdr := { type := k, domain := act.parN 0x864 0, udp := act.parN 0x863 0 == 1 && act.parN 0x861 0 == 0 }
def lnk : Link := ⟨0, true⟩
def goodLane : LaneTest := ⟨true, 16000, 16000⟩

/-- Each check of WellFormed refuses a term just outside it: rings, nodes and cells. -/
theorem test_ill_formed_rings :
    ([.enumResult 4 0 none false, .delayMeasured 4 0 0, .sweepSync 4, .sweepData 4 1 rx frm, .sweepData 0 1 rx { frm with v := [] },
      .sweepData 0 1 rx { frm with t := [] }, .sweepData 0 1 { rx with idle := [] } frm, .readRetained 4 1 .notHeld, .readRetained 0 0 .notHeld,
      .readRetained 0 29 .notHeld, .readRetained 0 1 (.frame rx { frm with v := [] }), .readRetained 0 1 (.frame { rx with idle := [] } frm),
      .sweepFinalised 4, .linkEvent 4 1 rx 0 0 0, .linkEvent 0 1 { rx with idle := [] } 0 0 0, .linkEvent 0 1 rx 2 0 0, .linkEvent 0 1 rx 0 256 0,
      .nodeReply 4 1 rx 0 [], .nodeReply 0 1 { rx with idle := [] } 0 [], .portStatusTimeout 4 1, .portStatusTimeout 0 0,
      .masterPortLockLoss 4 false, .heartbeatLoss 4 1, .heartbeatLoss 0 29, .osetErrorRate 4 0, .openWireResult 4 1 0 0 0,
      .openWireResult 0 0 0 0 0, .openWireResult 0 1 5 0 0, .cmpTestDue 4 true, .cmpReadback 4 0 0 0, .balancePolicyTick 4] :
      List Instr).all (fun i => !i.wf) = true := by decide +kernel

/-- Channels, axes, strings, safety inputs and outputs. -/
theorem test_ill_formed_drive :
    ([.laneLockstep 4, .powerTransitionAbandoned 4, .slowStaleTrip 4, .dutySaturated 4, .limitActive 4, .stopComplete 4, .stopTimeout 4,
      .dsClockLoss 4, .dsClockRange 4, .dsStuck 4 0, .dsStuck 0 3, .dsFrozen 4 0, .dsFrozen 0 3, .turnipDsStuck 4, .gateDriverFault 4 0,
      .readbackActive 4 [], .readbackShadow 4 [], .overcurrent 4 [], .ocTimeExceeded 4 0, .holdDelayExpiry 4, .loadAngleSample 4 0 true,
      .bridgeOvercurrent 4, .coilOpen 4 0, .coilOpen 0 2, .bridgeHot 3, .sf4Incomplete 4, .crossDemand .fire 16 true, .channelDiscrepancy 4,
      .siDemand 4 true, .siDiscrepancy 4, .siTestPulse 8 none false, .offPulse 8 0 sw24 sw24, .offPulse 0 2 sw24 sw24, .onPulse 8 0 sw24 sw24, .onPulse 0 2 sw24 sw24,
      .soOverload 8, .soOpenLoad 8, .freewheelToClamp 8, .prechargeElapsed 4, .resetInputEdge 16 0 0, .ctTimeExpiry 4, .wsfWatchdog 4,
      .wsfProduce 4] : List Instr).all (fun i => !i.wf) = true := by decide +kernel

/-- Supply, clusters, self-tests, estimator, twin, network, CAN, field, temperatures and updates. -/
theorem test_ill_formed_rest :
    ([.udpDatagram (ethAt 3) 0 47310 0 0 0 false [], .loopbackDue [],
      .matingQualified true false (some []), .correctedError 8, .uncorrectableError 14 0 false, .uncorrectableError 3 8 false,
      .uncorrectableError 11 2 false, .uncorrectableError 12 24 false,
      .selftestSlotEnd 0 [], .selftestSlotEnd 6 [], .impScheduleDue 4, .impWindowEnd 4,
      .impRunEnd 4, .precursorCleared 4, .authChallengeDue 112 [], .authAnswer 112 none, .authAnswer 0 (some (answerOf 15)), .nodeSyncDue 4,
      .shallotKeepalive lnk .boot .p0 0 0 8, .shallotControl lnk (.time ⟨0, 1000000000⟩ 0), .shallotControl lnk (.eligible 3 1 [] []),
      .shallotControl lnk (.eligible 0 3 [] []), .shallotControl lnk (.snapshot 0 ⟨0, 1000000000⟩),
      .shallotControl lnk (.step ⟨0, 1000000000⟩ 0), .shallotControl lnk (.ladder 6), .authAnswer 0 (some { answerOf 16 with certId := [] }),
      .authAnswer 0 (some { answerOf 16 with issuer := List.replicate 1025 0 }), .authAnswer 0 (some { answerOf 16 with cert := List.replicate 1025 0 }),
      .shallotControl lnk (.wantParts 16), .sweepFinal lnk (finalOf 4), .sweepNeed lnk 4 0 0, .sweepFrame lnk 0 0 29 frm,
      .standbyReport lnk 0 0 4 [], .uncomparedRun 4, .ethLinkChange 3 0, .ethLinkChange 0 3, .arpRequest (ethAt 3) 0 (List.replicate 6 0),
      .arpRequest (ethAt 0) 0 [], .icmpEcho (ethAt 3) 0 0 [], .prpFrame (ethAt 2) 0 0 0, .prpFrame (ethAt 0) 0 0 2,
      .ptpAnnounce (ethAt 2) (ptpOf 11) announce, .ptpAnnounceTimeout 2, .ptpSync (ethAt 2) (ptpOf 0) 0 0 0 0 [],
      .ptpDelayResp (ethAt 2) (ptpOf 9) 0 0 0 0, .ptpPdelayReq (ethAt 2) (ptpOf 2) 0, .delayReqDue 2, .launchTime 3 [] 0, .canTx (hdrOf 1) 0 [{ canFrame with dlc := 16 }], .canTxDone 2 .error,
      .canRxFrame 2 canFrame 0 .none, .canRxFrame 0 { canFrame with dlc := 16 } 0 .none, .canBusOff 2, .canRecovered 2,
      .fieldScan { di := [], si := 0, dout := [], frameOk := true, replyOk := true, so := 0 }, .diOpenWire 16 true, .doDiagnostic 8 .overload,
      .thermalEvaluation [[]], .thermalHoldPoll [], .scrubDue 3, .nodeStepComplete true 112, .sproutActivation (some (0, 0)),
      .sproutActivation (some (5, 0)), .sproutActivation (some (1, 2))] : List Instr).all (fun i => !i.wf) = true := by decide +kernel

/-- The last number of each part is well formed. -/
theorem test_well_formed_edges :
    ([.dsStuck 3 2, .heartbeatLoss 3 28, .cmpTestDue 3 true, .uncorrectableError 12 23 true, .coilOpen 3 1, .crossDemand .fire 15 true, .siTestPulse 7 none true,
      .authAnswer 111 (some (answerOf 16)), .sweepData 3 28 rx frm, .openWireResult 3 28 4 0 0, .canRxFrame 1 canFrame 0 .none, .diOpenWire 15 true,
      .sproutActivation (some (4, 1)), .udpDatagram (ethAt 2) 0 47310 0 0 0 false []] : List Instr).all (fun i => i.wf) = true := by decide +kernel

/-! ### States and operands that meet the hypotheses of the statements -/

theorem meets_StepRunsTheFrontCommand : (act.withFront (some .faultAccepted)).pending = .faultAccepted :: [] := by decide +kernel

theorem meets_IdleStepIsOneCycle : act.pending = [] ∧ act.bist.holdAt = none ∧ act.netOn = true ∧ act.sys.aoLost = false
    ∧ act.sys.checkVisit = false ∧ act.est.auth = [] ∧ act.net.servo ≠ 2 := by decide +kernel

theorem meets_RoleLineHeldByEveryStep : act.Inv ∧ act.sys.roleOut = true ∧ step act = .next act.tick := by
  refine ⟨?_, rfl, rfl⟩
  intro _; exact ⟨rfl, rfl, rfl⟩

/-- A session with a batch to send, one to retry and a split request under way. -/
def busy : Sess :=
  { sessOf 1 .operate with collecting := [⟨0, 0x1001, 0, 0, 1, []⟩], unacked := [⟨1, 0, 0, false, [], 0, 0⟩], split := some (0x0101, 2, [], 0),
                           shadow := [⟨0x306, 0, u32 (toF32 1)⟩] }
def busyState : State := withWcp fun w => { w with sessions := [busy, sessOf 5 .view], reasm := [⟨3, [], none, 0⟩] }
def aFault : FRec := mkFault act 0x3103 0 2 [] none none

theorem meets_HousekeepingRequestsComplete :
    (act.passes 0x0000 (hdrOf 0) false [] = true) ∧ (act.passes 0x0003 (hdrOf 0) false [] = true)
    ∧ (act.passes 0x0008 (hdrOf 5) false [] = true ∧ act.fm.cur = none)
    ∧ (({ act with fm := { act.fm with cur := some aFault } } : State).passes 0x0008 (hdrOf 5) false [] = true)
    ∧ ([(⟨0x300, 0, 0⟩ : GetEntry)].map ((act.admitted 0x0100 (hdrOf 5) (getBytes [⟨0x300, 0, 0⟩])).getEntry (hdrOf 5))).any (fun r => r.2.1 == 0) = true
    ∧ ([(⟨0xFFFF, 0, 0⟩ : GetEntry)].map ((act.admitted 0x0100 (hdrOf 5) (getBytes [⟨0xFFFF, 0, 0⟩])).getEntry (hdrOf 5))).all
        (fun r => r.2.1 == 0x0103) = true
    ∧ (act.passes 0x0104 (hdrOf 5) false [] = true ∧ (PRow.find (0x300 : BitVec 16).toNat).isSome = true)
    ∧ (act.passes 0x0105 (hdrOf 5) false [] = true) ∧ (act.passes 0x0100 (hdrOf 5) false [] = true)
    ∧ 1 ≤ ([⟨0x300, 0, 0⟩] : List GetEntry).length ∧ (List.replicate 64 (⟨0x300, 0, 0⟩ : GetEntry)).length ≤ 64
    ∧ (act.passes 0x0005 (hdrOf 5) false [] = true) ∧ (act.passes 0x0006 (hdrOf 5) false [] = true) := by decide +kernel

theorem meets_SessionCommandsComplete :
    (act.passes 0x0001 (hdrOf 0) false [] = true ∧ roleOfCode (0 : Byte).toNat = some .view ∧ act.sessionRoom .view = true
      ∧ roleOfCode (3 : Byte).toNat = some .safety ∧ State.reset.sessionRoom .safety = true)
    ∧ (act.passes 0x0002 (hdrOf 1) false [] = true)
    ∧ (act.sess 1 = some (sessOf 1 .operate) ∧ ¬ (act.updOpen = true ∧ act.upd.session = 1))
    ∧ (busyState.sess 1 = some busy ∧ busy.collecting ≠ [] ∧ busy.unacked ≠ [] ∧ busy.split = some (0x0101, 2, [], 0))
    ∧ (busyState.wcp.reasm.find? (fun r => r.key == 3)).isSome = true := by decide +kernel

/-- A PING on the wire, and a reply waiting on the host link. -/
def pingBytes : Bytes :=
  wirePacket { transport := .host, peer := 0, reply := false, error := false, safety := false, seq := 1, opcode := 0, session := 0, target := 0,
               payload := [], key := none } false []
def pingPacket : Packet := (act.accept (hdrOf 0)).replyPacket 0 (hdrOf 0) 0 [] true

theorem meets_TransportsComplete :
    (pingBytes.length ≤ 4132
      ∧ act.takesPacket ⟨act.parseHdr .host 0 pingBytes, fieldAt pingBytes 6 2, slice pingBytes 16 (fieldAt pingBytes 8 2)⟩ = true)
    ∧ (act.wcp.hostRest = [] ∧ act.wcp.hostOut = [])
    ∧ ((withWcp fun w => { w with hostOut := [pingPacket] }).wcp.hostOut = pingPacket :: [] ∧ (wirePackets pingPacket).length = 1)
    ∧ ((withWcp fun w => { w with hostRest := [[1]] }).wcp.hostRest = [1] :: [])
    ∧ act.takesPacket ⟨act.parseHdr .plant 9 pingBytes, fieldAt pingBytes 6 2, slice pingBytes 16 (fieldAt pingBytes 8 2)⟩ = true
    ∧ (act.wcp.reasm = [] ∧ 0 + pingBytes.length ≤ 4132) := by decide +kernel

/-- A write of LOOP.I_DIS_MAX, and the write-one-to-clear words. -/
def anEntry : SetEntry := ⟨0x306, 0, u32 (toF32 1)⟩
/-- A module off its drive with an OPERATE session that holds a shadow set. -/
def shadowed : State := withWcp fun w => { w with sessions := [{ busy with split := none }, sessOf 2 .service] }

theorem meets_DictionaryWritesComplete :
    (act.passes 0x0101 (hdrOf 2) false [] = true ∧ (act.admitted 0x0101 (hdrOf 2) (setBytes [anEntry])).setStatus (hdrOf 2) [anEntry] anEntry = 0)
    ∧ ((act.admitted 0x0101 (hdrOf 2) (setBytes [⟨0x012, 7, leBytes 4 1⟩])).setStatus (hdrOf 2) [⟨0x012, 7, leBytes 4 1⟩]
        ⟨0x012, 7, leBytes 4 1⟩ = 0)
    ∧ ((withSys fun x => { x with lane := ⟨x.lane.a, x.lane.b, x.lane.c, { x.lane.d with fenced := true, testOk := true }⟩ }).admitted 0x0101
        (hdrOf 2) (setBytes [⟨0x013, 7, [1]⟩])).setStatus (hdrOf 2) [⟨0x013, 7, [1]⟩] ⟨0x013, 7, [1]⟩ = 0
    ∧ (act.admitted 0x0101 (hdrOf 2) (setBytes [⟨0x017, 0, leBytes 2 1⟩])).setStatus (hdrOf 2) [⟨0x017, 0, leBytes 2 1⟩]
        ⟨0x017, 0, leBytes 2 1⟩ = 0
    ∧ (act.passes 0x0106 (hdrOf 2) false [] = true ∧ act.sys.vinWarn = false)
    ∧ (shadowed.passes 0x0102 (hdrOf 1) false [] = true ∧ shadowed.wcp.commit = none
      ∧ (((shadowed.admitted 0x0102 (hdrOf 1) []).sess 1).map fun x => (x.shadow != []
        && (firstBad (shadowed.admitted 0x0102 (hdrOf 1) []).par x.shadow).isNone && x.shadow.all fun v => !inBlock v.id)) = some true)
    ∧ ((withWcp fun w => { w with commit := some ⟨opRef 0x0102 (hdrOf 1), hdrOf 1, [⟨0x11, 0, [1]⟩], [⟨0x11, 0, [1]⟩], 0, false, []⟩ }).wcp.commit.map fun c =>
        c.entries.all Shadow.immediate) = some true
    ∧ (act.passes 0x0103 (hdrOf 1) false [] = true ∧ ((act.admitted 0x0103 (hdrOf 1) []).sess 1).isSome = true) := by decide +kernel

def snapped (latched : Bool) : State := withWcp fun w => { w with snaps := [{ num := 5, instant := 100, session := 5, latched := latched }] }

theorem meets_SnapshotsComplete :
    (act.passes 0x0C00 (hdrOf 5) false [] = true ∧ (hdrOf 5).target = 0 ∧ (20000000 : BitVec 32).toNat < 1000000000 ∧ act.now + 20000000 ≤ t80 ⟨0, 20000000⟩
      ∧ t80 ⟨0, 20000000⟩ ≤ act.now + 60000000000 ∧ t80 ⟨60, 0⟩ ≤ act.now + 60000000000 ∧ act.wcp.snaps.length < 4)
    ∧ ((snapped false).wcp.snaps.find? (fun x => decide (x.num = 5) && !x.latched)).isSome = true
    ∧ ((snapped true).passes 0x0C01 (hdrOf 5) false [] = true
      ∧ (((snapped true).admitted 0x0C01 (hdrOf 5) (leBytes 2 5 ++ [0] ++ leBytes 4 0)).wcp.snaps.find? fun x => decide (x.num = 5) && x.latched).isSome)
    ∧ ((snapped true).passes 0x0C02 (hdrOf 5) false [] = true ∧ ((snapped true).wcp.snaps.any fun x => x.num == 5) = true) := by decide +kernel

theorem meets_SupplyAndResetComplete :
    State.reset.sys.mated = false ∧ (act.sys.mated = true ∧ (50000 : Nat) ≤ 50000) ∧ (act.sys.mated = true ∧ (49999 : Nat) < 50000)
    ∧ act.sys.vinWarn = false ∧ act.sys.vinLow = false ∧ (withSys fun x => { x with vinLow := true }).sys.vinLow = true
    ∧ ((10000 : Nat) ≤ 10000 ∧ act.sys.vinLow = false ∧ act.sys.mated = true ∧ act.twin.storeDue = false) ∧ (act.bist.hold = false ∧ act.sys.lifecycle ≠ .boot)
    ∧ ((inLife .isolated).passes 0x0021 (hdrTo 2 1) false [] = true ∧ (inLife .isolated).sys.lifecycle ≠ .active
      ∧ (inLife .isolated).sys.lifecycle ≠ .selftest) := by decide +kernel

theorem meets_UnitErrorsComplete :
    ((bitsSet 8 ((act.cluster 3).lose 7).unitsOut.toNat).length < 2) ∧ ((act.sys.lane.get 3).fenced = false)
    ∧ ((4 : Nat) ≤ 4 ∧ (4 : Nat) < 8 ∧ (4 : Nat) ≤ 7 ∧ (1 : Nat) < 2)
    ∧ (regionOff .pwm act.sys.power = false ∧ act.regionLost .pwm = false ∧ regionOff .pwm .p2 = true)
    ∧ ((11 : Nat) ∈ [8, 9, 10, 11]) := by decide +kernel

/-- The active module with a channel running, starting or stopping, and with a target power state. -/
def running (c : Nat) : State := withCh c fun x => { x with state := 2 }
def aimed (p t : PState) : State := withSys fun x => { x with power := p, target := some t }

theorem meets_PowerLadderComplete :
    ((aimed .p1 .p1).passes 0x0020 (hdrOf 1) false [] = true ∧ pstateOf (0 : Byte).toNat = some .p0
      ∧ ((aimed .p1 .p1).admitted 0x0020 (hdrOf 1) [0]).judgePower .p0 ((hdrOf 1).target == 0) = 0 ∧ PState.p0 ≠ (aimed .p1 .p1).sys.power
      ∧ ¬ ((aimed .p1 .p1).sys.power = .p0 ∧ (aimed .p1 .p1).sys.lifecycle = .active))
    ∧ (act.passes 0x0020 (hdrOf 1) false [] = true ∧ (act.admitted 0x0020 (hdrOf 1) [4]).judgePower .p4 ((hdrOf 1).target == 0) = 0 ∧ act.sys.power = .p0
      ∧ act.sys.lifecycle = .active)
    ∧ ((aimed .p0 .p4).sys.target = some .p4 ∧ (aimed .p0 .p4).mayDescend = true)
    ∧ ((aimed .p3 .p4).mayDescend = true ∧ deeper (aimed .p3 .p4).sys.power = .p4 ∧ (aimed .p3 .p4).anySoOn = false)
    ∧ (pstateCode .p0 < pstateCode (aimed .p3 .p0).sys.power)
    ∧ (({ running 3 with sys := { act.sys with preparing := true } } : State).sys.preparing = true ∧ act.sys.power = .p0 ∧ ((running 3).ch 3).state ≠ 0)
    ∧ (withSys fun x => { x with awaitP0 := true }).sys.awaitP0 = true ∧ (aimed .p1 .p1).sys.power ≠ .p0
    ∧ (time80Ns (((aimed .p3 .p3).setPar 0x1A 0 (time80Bytes 5000000000)).par 0x1A 0) ≠ 0
      ∧ ((aimed .p3 .p3).setPar 0x1A 0 (time80Bytes 5000000000)).now ≤ time80Ns (((aimed .p3 .p3).setPar 0x1A 0 (time80Bytes 5000000000)).par 0x1A 0))
    ∧ (aimed .p3 .p3).sys.power = .p3 := by decide +kernel

def starting (l : Lifecycle) (f : State → State) : State := f (inLife l)
def lowStart (l : Lifecycle) : State := { inLife l with sys := { (inLife l).sys with startPhase := 4 } }
def negotiating (t : TwinSt → TwinSt) : State := { inLife .negotiate with twin := t act.twin }

theorem meets_StartUpCompletes :
    ((lowStart .boot).sys.lifecycle = .boot ∧ (lowStart .boot).sys.mated = true ∧ (lowStart .boot).sys.vinLow = false
      ∧ (lowStart .boot).bist.hold = false ∧ (lowStart .boot).sys.startPhase ≠ 8 ∧ (lowStart .boot).upd.state = 0 ∧ (lowStart .boot).sys.slot ≠ 0
      ∧ (lowStart .boot).sys.power ≠ .p5)
    ∧ ({ inLife .negotiate with sys := { (inLife .negotiate).sys with roleIn := true } } : State).standbyEligible = true
    ∧ ((inLife .negotiate).noDict = false ∧ ({ inLife .negotiate with twin := { act.twin with dictIn := true } } : State).twin.dictIn = true)
    ∧ ((inLife .negotiate).safe.lockout = false ∧ (inLife .negotiate).sys.roleIn = false ∧ (inLife .negotiate).sys.conflict = false
      ∧ (inLife .negotiate).activeEligible = true ∧ (inLife .negotiate).twin.life = some .standby)
    ∧ ((negotiating fun t => { t with life := some .negotiate, elig := 2, prefer := (act.parN 0x1C 0) }).activeEligible = true
      ∧ (negotiating fun t => { t with life := some .negotiate, elig := 2, prefer := (act.parN 0x1C 0) }).parN 0x1C 0 = act.parN 0x1C 0)
    ∧ ((negotiating fun t => { t with life := none }).twin.life = none ∧ (negotiating fun t => { t with life := none }).activeEligible = true)
    ∧ (4 ≤ (lowStart .active).sys.startPhase ∧ (lowStart .active).sys.startPhase < 7 ∧ (lowStart .active).mayReady = true
      ∧ (lowStart .active).upd.state = 0 ∧ (lowStart .active).upd.from_ = none)
    ∧ ((withSys fun x => { x with roleIn := true }).sys.roleIn = true ∧ act.sys.lifecycle ≠ .standby ∧ act.sys.lifecycle ≠ .update) := by
  decide +kernel

def laneAt (c : Nat) (f : LaneSt → LaneSt) : State := act.updLane c f

theorem meets_ControlPeriodCompletes :
    (act.sys.power = .p0 ∧ act.isActive = true)
    ∧ (({ running 3 with loop := { act.loop with open_ := true } } : State).loop.open_ = true ∧ ((running 3).ch 3).state = 2
      ∧ ((running 3).ch 3).freeze = none)
    ∧ ((laneAt 0 fun l => { l with staleSince := some 0 }).lane 0).staleSince = some 0
    ∧ 5000 ≤ ((laneAt 0 fun l => { l with satRun := 5000 }).lane 0).satRun
    ∧ (let s := laneAt 3 fun l => { l with winner := 7, winRun := 10000 }
       1 ≤ (s.lane 3).winner ∧ (s.lane 3).winner ≤ 7 ∧ 100000000 ≤ (s.lane 3).winRun * s.parN 0x300 0 ∧ (s.lane 3).limitUp ≠ some (s.lane 3).winner)
    ∧ act.passes 0x0340 (hdrOf 5) false [] = true := by decide +kernel

/-- What CH_START asks for: SAFE.STATUS confirmed, string 0 closed, both gates open, the clock and the driver sound. -/
def startableState : State :=
  { act with
    safe := { act.safe with confirmed := true, str := act.safe.str.set 0 { closed := true } },
    psi := { act.psi with ch := act.psi.ch.set 0 { dsb := 32000 } },
    loop := { act.loop with lane := act.loop.lane.set 0 { hStamp := some 0, slowFull := some ⟨0, 0, some (3, 1, 0), some (3, 1, 0), some (25, 1, 0), 16, 4, false⟩ } } }

theorem meets_RunStateCommandsComplete :
    ((act.passes 0x0301 (hdrOf 1) false [] = true) ∧ bitsSet 4 (8 : Byte).toNat = [3] ∧ ((running 3).ch 3).state = 2
      ∧ (running 3).passes 0x0301 (hdrOf 1) false [] = true)
    ∧ (let s := withCh 3 fun x => { x with state := 3, lowRun := 10, zeroAt := some 0 }
       (s.ch 3).state = 3 ∧ 10 ≤ (s.ch 3).lowRun ∧ (s.ch 3).zeroAt = some 0)
    ∧ (let s := withCh 3 fun x => { x with state := 4 }
       s.passes 0x0302 (hdrOf 1) false [] = true ∧ (s.ch 3).state = 4 ∧ (s.ch 3).cause = false ∧ s.closed 3 = false)
    ∧ (stb.passes 0x0303 (hdrTo 2 2) false ((bitsSet 4 (8 : Byte).toNat).map fun c => 0x40 + c) = true ∧ stb.isActive = false
      ∧ stb.psi.loopback = none ∧ stb.isStandby = true)
    ∧ ({ stb with psi := { stb.psi with loopback := some (opRef 0x0303 (hdrOf 2), [3]) } } : State).psi.loopback.isSome = true
    ∧ act.passes 0x0304 (hdrOf 5) false [] = true := by decide +kernel

theorem meets_RunStateCommandsComplete_start :
    startableState.passes 0x0300 (hdrOf 1) true [0x20 + 0, 0x34 + 0, 0x40 + 0] = true ∧ bitsSet 4 (1 : Byte).toNat = [0]
    ∧ (startableState.admitted 0x0300 (hdrOf 1) [1]).startJudge (hdrOf 1) 0 = none := by decide +kernel

theorem meets_DetectorsComplete :
    (3 ≤ ((withCh 3 fun x => { x with clkBad := 3 }).ch 3).clkBad)
    ∧ (let s := withCh 3 fun x => { x with same := [0, 0, 65536] }
       s.parN 0x389 3 ≤ (s.ch 3).same.getD 2 0 ∧ (s.ch 3).frozen.getLsbD 2 = false ∧ (s.ch 3).freeze = none)
    ∧ ((withCh 3 fun x => { x with driven := true }).isActive = true ∧ ((withCh 3 fun x => { x with driven := true }).ch 3).driven = true)
    ∧ (let s := stb.updCh 3 fun x => { x with state := 2 }
       s.isStandby = true ∧ (s.ch 3).state = 2)
    ∧ (act.ocTrips 3 (List.replicate 100 true) = true ∧ act.ocTrips 3 [] = false)
    ∧ (act.parN 0x38D 3 ≤ 1000000 ∧ (0 : Nat) < act.parN 0x38D 3)
    ∧ threeBad [⟨[none], 0⟩, ⟨[], 1⟩, ⟨[some 1000000000], 0⟩] (1000 * act.parN 0x391 3) = true
    ∧ threeBad [⟨[none], 0⟩, ⟨[], 1⟩, ⟨[some 1000000000], 0⟩] (1000 * act.parN 0x391 3 + 2000 * act.parN 0x300 3 / 32768) = true := by decide +kernel

theorem meets_ProfilesComplete :
    (act.passes 0x0400 (hdrOf 1) false [] = true ∧ (act.gen 3).mode ∈ [GenMode.run, .stop] ∧ (act.ch 3).state ≠ 3
      ∧ ((act.admitted 0x0400 (hdrOf 1) ((3 : Byte) :: [0, 0, 0] ++ leBytes 8 0)).targetOf 3 0).isSome = true)
    ∧ (let s := act.updAxis 3 fun x => { x with posValid := true }
       s.passes 0x0400 (hdrOf 1) false [] = true ∧ (s.gen 7).mode ∈ [GenMode.run, .stop] ∧ (s.axis 3).fire = false ∧ (s.axis 3).posValid = true
        ∧ (s.axis 3).home = none ∧ (s.axis 3).cal = none
        ∧ ((s.admitted 0x0400 (hdrOf 1) ((7 : Byte) :: [0, 0, 0] ++ leBytes 8 0)).targetOf 7 0).isSome = true)
    ∧ (let s := act.updGen 7 fun g => { g with atRest := false }
       s.passes 0x0401 (hdrOf 1) false [] = true ∧ bitsSet 8 (128 : Byte).toNat = [7] ∧ (s.axis 3).fire = false ∧ (s.gen 7).atRest = false)
    ∧ act.passes 0x0402 (hdrOf 5) false [] = true := by decide +kernel

/-- Axis 3 energised, its step rate far above the stall threshold's. -/
def energised3 : State := (act.setPar 0x44A 3 [0]).updAxis 3 fun x => { x with energised := true }

theorem meets_AxesComplete :
    (act.passes 0x0403 (hdrOf 1) (decide (bitsSet 4 ((8 : Byte) &&& 8).toNat ≠ [])) [] = true ∧ bitsSet 4 (8 : Byte).toNat = [3]
      ∧ (act.axis 3).fire = false ∧ ((8 : Byte).getLsbD 3 = true → 19000 ≤ act.actMv))
    ∧ (energised3.passes 0x0404 (hdrOf 1) true [] = true ∧ (energised3.axis 3).fire = false ∧ (energised3.axis 3).energised = true
      ∧ (energised3.axis 3).home = none ∧ (energised3.axis 3).cal = none ∧ (energised3.gen 7).mode = .run
      ∧ ¬ ((energised3.admitted 0x0404 (hdrOf 1) [3, 1]).parN 0x44A 3 = 255 ∧ (energised3.admitted 0x0404 (hdrOf 1) [3, 1]).homeSlow 3 = true))
    ∧ (act.passes 0x0405 (hdrOf 2) false [] = true ∧ -(2 ^ 47) ≤ toSigned 64 (2 ^ 64 - 2 ^ 47) ∧ toSigned 64 (2 ^ 47 - 1) < 2 ^ 47
      ∧ (act.gen 7).atRest = true)
    ∧ (energised3.passes 0x0406 (hdrOf 2) true [] = true ∧ (f32Val (toF32 200000)).any (fun v => decide (2 *
        (energised3.admitted 0x0406 (hdrOf 2) ((3 : Byte) :: [0, 0, 0] ++ leBytes 4 (toF32 200000))).parF 0x448 3 ≤ v)) = true
      ∧ (energised3.gen 7).atRest = true ∧ (f32Val (toF32 200000)).isSome = true ∧ (energised3.axis 3).fire = false
      ∧ (energised3.axis 3).energised = true ∧ (energised3.axis 3).home = none ∧ (energised3.axis 3).cal = none)
    ∧ act.passes 0x0407 (hdrOf 5) false [] = true
    ∧ (let s := energised3.updGen 7 fun g => { g with v := 2 ^ 60 }
       s.bridgeOn 3 = true ∧ (s.gen 7).v ≠ 0 ∧ (s.axis 3).cal = none
        ∧ (s.setPar 0x445 3 (u32 (toF32 1))).bridgeOn 3 = true ∧ (s.setPar 0x445 3 (u32 (toF32 1))).stallArmed 3 = true)
    ∧ ((16999 : Nat) < 17000 ∧ act.prof.hot < 2)
    ∧ (let s := ({ act with prof := { act.prof with fireSince := some 0 } } : State).updAxis 3 fun x => { x with fire := true }
       let s := s.updGen 7 fun g => { g with tgt := 1 }
       s.prof.fireSince = some 0 ∧ (s.axis 3).fire = true ∧ (energised3.gen 7).atRest = true ∧ ¬ ((s.gen 7).atRest = true ∧ (s.gen 7).x = (s.gen 7).tgt)) := by decide +kernel

/-- An estimator in the middle of a cycle. -/
def estimating (b : Bool) : State := { swept with est := { swept.est with busy := b } }

theorem meets_EstimatorComplete :
    ((estimating true).estRuns = true ∧ (estimating true).est.busy = true ∧ (estimating true).est.overrun = false)
    ∧ ((estimating false).estRuns = true ∧ (estimating false).est.busy = false ∧ (estimating false).est.skip = false
      ∧ (estimating false).sys.vinWarn = false)
    ∧ (swept.passes 0x0500 (hdrOf 5) false [] = true ∧ swept.nodeOk 0 4 = true) ∧ act.passes 0x0501 (hdrOf 5) false [] = true
    ∧ (swept.passes 0x0502 (hdrOf 2) false [] = true ∧ (4 : Byte).toNat ≠ 255 ∧ (0x8000 : BitVec 16).getLsbD 15 = true) := by decide +kernel

/-- Ring 0 with its channel running, and with an injection run in its second stage. -/
def injectable : State := swept.updCh 0 fun x => { x with state := 2 }
def injecting : State := injectable.updImp 0 fun i => { i with run := 2, reqAt := some 0, win := List.replicate injectable.windowLen ⟨0, 0, []⟩ }
def asked : State := swept.setAuth 0 { challenge := some (0, [1]) }

theorem meets_ImpedanceComplete :
    (injectable.passes 0x0510 (hdrOf 1) false [] = true ∧ bitsSet 4 (1 : Byte).toNat ≠ []
      ∧ (bitsSet 4 (1 : Byte).toNat).all (injectable.admitted 0x0510 (hdrOf 1) [1]).impReady = true)
    ∧ act.passes 0x0511 (hdrOf 1) false [] = true
    ∧ (act.isActive = true ∧ (act.setPar 0x586 3 (u16 1)).isActive = true ∧ (act.setPar 0x586 3 (u16 1)).parN 0x586 3 ≠ 0)
    ∧ ((injecting.imp 0).run = 2 ∧ (injecting.imp 0).reqAt = some 0 ∧ injecting.windowLen ≠ 0
      ∧ injecting.windowLen ≤ (injecting.imp 0).win.length)
    ∧ (injectable.imp 0).win.length < injectable.windowLen
    ∧ (swept.passes 0x0512 (hdrOf 5) false [] = true ∧ swept.nodeOk 0 1 = true ∧ (15 : Byte).toNat < 16)
    ∧ swept.passes 0x0513 (hdrOf 5) false [] = true ∧ swept.passes 0x0520 (hdrOf 5) false [] = true
    ∧ (swept.passes 0x0521 (hdrOf 2) false [] = true ∧ swept.nodeOk 0 4 = true ∧ (4 : Byte).toNat ≠ 255)
    ∧ (act.passes 0x0522 (hdrOf 2) false [] = true ∧ bitsSet 4 (8 : Byte).toNat = [3])
    ∧ (swept.isActive = true ∧ swept.nodeOk (3 / 28) (3 % 28 + 1) = true)
    ∧ ((asked.auth 0).challenge = some (0, [1]) ∧ (asked.auth 0).op = none)
    ∧ (let s := swept.updImp 0 fun i => { i with precursor := [5], cool := [(1, 9)] }
       (s.imp 0).precursor = [5] ∧ (s.imp 0).cool.find (5 / 4) = some 9) := by decide +kernel

/-- The four input pairs as fire, emergency stop of string 0, run stop of channel 0, and fire; output 7 energised, output 6 freewheeling. -/
def wired : State :=
  { act.setPar 0x618 0 ([1, 0, 0, 0, 2, 0, 1, 0, 3, 0, 1, 0, 1, 0, 0, 0]) with
    safe := { act.safe with so := [(6, ⟨false, false, .freewheel⟩), (7, ⟨true, true, .clamp⟩)],
                            str := act.safe.str.set 3 { doubt := some (5, some 0x6011) }, si := act.safe.si.set 3 { apart := some 7 } } }
/-- The levels of a good pulse of switch P of an energised output. -/
def swGood : SwitchLevels := { supply := 24000, idle := 24000, mid := 100, before := 24000, out := 0, after := 24000 }

theorem meets_SafetyDemandsComplete :
    wired.isActive = true ∧ ((wired.siFunc 0).1 = 1 ∧ (wired.siFunc 3).1 = 1 ∧ wired.fieldOn = true ∧ wired.permit = true) ∧ (wired.siFunc 1).1 = 2
    ∧ (wired.siFunc 2).1 = 3 ∧ ((wired.siFunc (7 / 2)).1 ≠ 0 ∧ (wired.siFunc (7 / 2)).2.1.testBit 1 = false)
    ∧ wired.soOn 7 = true ∧ wired.soOn 6 = false ∧ (wired.so 6).opening ≠ .clamp
    ∧ (wired.str 3).doubt = some (5, some 0x6011) ∧ ((wired.siFunc 3).1 ≠ 0 ∧ (wired.si 3).apart = some 7)
    ∧ pulsePass true 0 swGood = true ∧ pulsePass false 1 { sw24 with before := 0 } = true := by decide +kernel

/-- A module whose string 0 may close; one with a reset requested or armed, and one with a commissioning test under way. -/
def closable : State := startableState.updStr 0 fun x => { x with closed := false }
def resetting (armed : Option Nat) : State :=
  { act with safe := { act.safe with str := act.safe.str.set 0 { core := { tripped := true }, turnip := { tripped := true } },
                                     reset := some ⟨opRef 0x0601 (hdrSafe 1), 0, 1, 0, armed⟩ } }
def tested (begun : Option Nat) : State := { act with safe := { act.safe with ct := some ⟨opRef 0x0603 (hdrOf 3), 3, 0, begun⟩ } }

theorem meets_SafetyRequestsComplete :
    (closable.passes 0x0310 (hdrOf 1) true [0x01, 0x02, 0x50] = true ∧ bitsSet 4 (1 : Byte).toNat = [0] ∧ (closable.str 0).closed = false
      ∧ (closable.str 0).closing = 0)
    ∧ ((act.updStr 3 fun x => { x with closing := 1 }).str 3).closing = 1
    ∧ (act.passes 0x0311 (hdrOf 1) false [] = true ∧ ((bitsSet 4 (15 : Byte).toNat).all fun r => (act.ch r).state == 0) = true)
    ∧ (act.passes 0x0600 (hdrSafe 5) false [] = true ∧ act.safe.mismatch = false)
    ∧ (let s := { resetting none with safe := { (resetting none).safe with reset := none } }
       s.passes 0x0601 (hdrSafe 1) false [] = true ∧ (hdrSafe 1).target = 0 ∧ s.nothingLatched 0 1 = false ∧ s.safe.reset = none)
    ∧ (let s := (resetting none).updRing 0 fun x => { x with turnipSet := 1 }
       s.safe.reset.isSome = true ∧ ((s.advanceTo (0 + 2000000000)).firstCause 0 1) = some 1)
    ∧ ((resetting (some 0)).parN 0x61B 0 = (resetting (some 0)).parN 0x61B 0 ∧ (100 : Nat) ≤ 100 ∧ (20 : Nat) ≤ 20
      ∧ ((resetting (some 0)).safe.reset.map (·.armed)) = some (some 0) ∧ (resetting (some 0)).now ≤ 0 + 10000000000)
    ∧ (act.passes 0x0602 (hdrOf 3) false [] = true ∧ act.safe.mismatch = false)
    ∧ (act.passes 0x0603 (hdrOf 3) true [] = true ∧ act.safe.ct = none ∧ act.safe.lockout = false ∧ (act.str 3).locked = false)
    ∧ ((tested none).passes 0x0603 (hdrOf 3) false [] = true ∧ ((tested none).safe.ct.map (·.ch)) = some 3)
    ∧ ((tested (some 0)).safe.ct.map (·.begun)) = some (some 0)
    ∧ (let s := withWcp fun w => { w with commit := some ⟨opRef 0x0102 (hdrOf 2), hdrOf 2, [⟨0x600, 0, [0, 0, 0, 0]⟩], [], 0, false, []⟩ }
       (s.wcp.commit.map fun k => k.entries.any fun v => inBlock v.id) = some true ∧ s.halted 0x600 0 = true) := by decide +kernel

theorem meets_SafetyRequestsComplete_close : (closable.admitted 0x0310 (hdrOf 1) [1]).closeOk 0 = true := by decide +kernel

/-- The CRC of the safety block the request finds, given back as the confirmation's operand. -/
theorem meets_SafetyRequestsComplete_crc :
    ∃ c : BitVec 32, c.toNat = (act.admitted 0x0602 (hdrOf 3) (leBytes 4 c.toNat)).blockCrc := by
  have same : ∀ pl, (act.admitted 0x0602 (hdrOf 3) pl).blockCrc = act.blockCrc := fun pl =>
    (State.admitted_same act 0x0602 (hdrOf 3) pl).blockCrc
  refine ⟨BitVec.ofNat 32 act.blockCrc, ?_⟩
  rw [same, BitVec.toNat_ofNat]
  exact Nat.mod_eq_of_lt (crc32s_lt _)

/-- Connection 0 consumed on Ethernet from peer 1, connection 1 produced every millisecond. -/
def framed : State :=
  act.setPar 0x628 0 (u32 5 ++ [1, 0] ++ u16 1 ++ [0, 0, 0, 1] ++ u16 10 ++ [0, 0] ++ u32 6 ++ [2, 0] ++ u16 1 ++ [0, 0, 0, 1] ++ u16 10 ++ [0, 0]
    ++ List.replicate 32 0)

theorem meets_SafeFramesComplete :
    (framed.isActive = true ∧ 0 ∈ framed.consumed ∧ ((framed.consumed.filter fun k => (framed.wsfEntry k).transport == 0
      && (framed.wsfEntry k).peer == 1).find? fun k => wsfWhole 0 (wsfPdu 5 0 1 10 (u32 0)) && wsfCrcOk (framed.wsfEntry k).id (wsfPdu 5 0 1 10 (u32 0)))
        = some 0)
    ∧ (let s := framed.setWsf 0 { started := true, state := 1 }
       (s.wsfSt 0).started = true ∧ (s.wsfEntry 0).kind = 1 ∧ (s.wsfSt 0).state = 1 ∧ s.isActive = true)
    ∧ (let s := framed.setWsf 1 { startSent := true }
       (s.wsfEntry 1).kind = 2 ∧ (s.wsfEntry 1).period ≠ 0 ∧ (s.wsfSt 1).startSent = true ∧ s.isActive = true) := by decide +kernel

/-- Ring 0 configured with four nodes, stopped; the same while enumerating; and one cell of node 1 under a reader's hand. -/
def ringed : State := act.setPar 0x201 0 [4]
def enumerating (st : Nat) : State := ringed.updRing 0 fun x => { x with mode := 1, enumStage := st }
def collecting (h : SMap SweepPayload) : State := swept.updRing 0 fun x => { x with n := 1, collecting := true, held := h }

theorem meets_RingRequestsComplete :
    (ringed.passes 0x0200 (hdrOf 2) false [] = true
      ∧ ((bitsSet 4 (1 : Byte).toNat).filter fun r => decide (ringed.parN 0x201 r ≠ 0) && !(ringed.ring r).sweeping) = [0]
      ∧ (([0] : List Nat).all fun r => (ringed.ring r).mode == 0 && ringed.contactsOpen r) = true)
    ∧ (swept.passes 0x0201 (hdrOf 2) false [] = true ∧ (bitsSet 4 (15 : Byte).toNat).all swept.contactsOpen = true)
    ∧ (ringed.passes 0x0202 (hdrOf 2) false [] = true ∧ (ringed.ring 0).mode = 0 ∧ ringed.contactsOpen 0 = true ∧ ringed.parN 0x201 0 ≠ 0)
    ∧ (swept.passes 0x0203 (hdrOf 5) false [] = true ∧ swept.nodeOk 0 4 = true ∧ (4 : Byte).toNat ≤ 4 ∧ 2 ≤ (swept.ring 0).mode ∧ swept.canSend 0 true = true
      ∧ swept.canSend 0 ((swept.ring 0).port 4) = true)
    ∧ swept.passes 0x0204 (hdrOf 5) false [] = true := by decide +kernel

theorem meets_EnumerationAndSweepsComplete :
    ((enumerating 1).ring 0).enumStage = 1 ∧ (enumerating 1).parN 0x201 0 = 4 ∧ ((enumerating 2).ring 0).enumStage = 2
    ∧ ((enumerating 2).ring 0).brk = none ∧ ((3 : Nat) < 4 ∧ (3 : Nat) ≠ (enumerating 1).parN 0x201 0)
    ∧ ((0 : Nat) ≤ 200000 ∧ (200000 : Nat) ≤ 0 + 200000 ∧ (0 : Nat) + 200000 < 200001)
    ∧ ((swept.ring 0).sweeping = true ∧ swept.sweepNs 0 ≠ 0 ∧ swept.sys.power = .p0) ∧ (swept.ring 0).mode = 2
    ∧ ((4 : Byte) ≠ 0xFE ∧ swept.nodeOk 0 (4 : Byte).toNat = true)
    ∧ (swept.hears 0 true = true ∧ Rx.ok rx = true ∧ Rx.ok { rx with whole := false } = false ∧ Rx.ok { rx with viol := 1 } = false)
    ∧ (let s := withRing fun x => { x with mode := 1, n := 4, enumerated := true, enumStage := 2, brk := some (1, 2) }
       (s.ring 0).enumStage = 2 ∧ (s.ring 0).brk.isSome = true)
    ∧ ((collecting []).nodeOk 0 1 = true ∧ (collecting []).isActive = true ∧ ((collecting []).ring 0).collecting = true
      ∧ ((collecting []).ring 0).held.find 1 = none ∧ ((collecting []).ring 0).givenUp = [] ∧ ((collecting []).ring 0).attempts = []
      ∧ (collecting []).framesOn = true ∧ (collecting []).ringLine 0 (((collecting []).ring 0).port 1) = some idleSet)
    ∧ (((collecting [(1, frm)]).ring 0).collecting = true ∧ ((collecting [(1, frm)]).ring 0).whole = true)
    ∧ ((collecting []).ring 0).whole = false := by decide +kernel

/-- A ring whose node requests wait for their replies. -/
def asking : State :=
  swept.updRing 0 fun x => { x with asked := [(4, 1)], reqs := [⟨3, 0x1E, 0, true, none, 0⟩, ⟨3, 0x18, 1, true, some (hdrOf 5), 0⟩] }

theorem meets_RingEventsComplete :
    (swept.nodeOk 0 4 = true ∧ 2 ≤ (swept.ring 0).mode)
    ∧ (let s := ({ swept with now := 200000 } : State)
       s.isActive = true ∧ (s.ring 0).txSince + 200000 ≤ s.now ∧ (s.ring 0).mode = 2 ∧ (s.ring 0).lost = [])
    ∧ (swept.hears 0 false = true ∧ Rx.ok rx = true)
    ∧ ((asking.ring 0).asked = [(4, 1)] ∧ (asking.ring 0).mode = 2)
    ∧ ((swept.ring 0).turnipSet.getLsbD (4 - 1) = true ∧ (swept.ring 0).hbLost.getLsbD (4 - 1) = false ∧ swept.sys.power = .p0)
    ∧ ((64 : Nat) < 65 ∧ (64 : Nat) ≤ 64)
    ∧ (let v := asking.arrived 0 rx
       (v.ring 0).reqs.findIdx? (fun q => q.meets 3 rx (v.ring 0).cut.isSome) = some 1
        ∧ (v.ring 0).reqs[1]? = some ⟨3, 0x18, 1, true, some (hdrOf 5), 0⟩)
    ∧ (⟨3, 0x18, 1, true, some (hdrOf 5), 0⟩ : NodeReq).hdr = some (hdrOf 5) ∧ (⟨3, 0x1E, 0, true, none, 0⟩ : NodeReq).type = 0x1E := by decide +kernel

theorem meets_CellCommandsComplete :
    (let s := withNode fun x => { x with last := some frm }
     s.passes 0x0210 (hdrOf 5) false [] = true ∧ s.nodeOk 0 1 = true ∧ (s.node (nodeKey 0 1)).last = some frm)
    ∧ (let pl : Bytes := [2, 0] ++ leBytes 2 5 ++ leBytes 2 0 ++ leBytes 2 600 ++ leBytes 2 0
       let s := swept.setPar 0x280 0 [0]
       s.passes 0x0211 (hdrOf 1) false [] = true ∧ pl.length = 10 ∧ fieldAt pl 0 1 = 2 ∧ fieldAt pl 6 2 = 600 ∧ s.parN 0x280 0 = 0
        ∧ (s.ring 0).sweeping = true ∧ s.canSend 0 ((s.ring 0).port 4) = true ∧ s.nodeOk 0 4 = true)
    ∧ (swept.passes 0x0212 (hdrOf 2) false [] = true ∧ swept.nodeOk 0 4 = true ∧ (16 : Byte).toNat ≤ 16)
    ∧ (let s := withNode fun x => { x with wireFault := 1 <<< 16, owPass := [(16, 5)] }
       s.passes 0x0213 (hdrOf 2) false [] = true ∧ (s.node (nodeKey 0 1)).wireFault.getLsbD 16 = true
        ∧ ((s.node (nodeKey 0 1)).owPass.find 16).isSome = true)
    ∧ (swept.passes 0x0214 (hdrOf 2) false [] = true ∧ (swept.ring 0).cmpTest = none ∧ (swept.node (nodeKey 0 1)).cmpTestable 15 = true
      ∧ (swept.ring 0).sweeping = true)
    ∧ (let s := withNode fun x => { x with ow := some ⟨15, 0, none, 0⟩ }
       s.nodeOk 0 1 = true ∧ (s.node (nodeKey 0 1)).ow = some ⟨15, 0, none, 0⟩ ∧ s.parN 0x297 0 = 300 ∧ s.canSend 0 ((s.ring 0).port 1) = true
        ∧ ((-301 : Int) < -(s.parN 0x297 0 : Int) ∧ (s.parN 0x297 0 : Int) < 301) ∧ |(-60 : Int)| ≤ 60 ∧ 60 ≤ s.parN 0x297 0)
    ∧ (swept.isActive = true ∧ swept.framesOn = true ∧ (swept.ring 0).sweeping = true ∧ swept.rotNext 0 (swept.ring 0).cmpRot = some 0)
    ∧ ((swept.ring 0).n ≠ 0 ∧ swept.canSend 0 ((swept.ring 0).port ((swept.ring 0).cmpNode % (swept.ring 0).n + 1)) = true)
    ∧ (swept.setPar 0x280 0 [1]).parN 0x280 0 = 1
    ∧ (let s := (swept.setPar 0x280 0 [2]).updRing 0 fun x => { x with restSince := some 0 }
       s.parN 0x280 0 = 2 ∧ (s.ring 0).restSince = some 0 ∧ (s.ring 0).sweeping = true) := by decide +kernel

/-- The standby with one ring's sweep open in the exchange. -/
def lateSweep : State := { stb with rings := swept.rings, twin := { stb.twin with estCopyCycle := some 3 } }
def finalOf0 : SweepFinalMsg := { finalOf 0 with stamp := ts32 (lateSweep.sampleAt 0 0), rxMask := 15, crcs := [0, 0, 0, 0] }

theorem meets_ShallotFramesComplete :
    stb.isActive = false ∧ stb.isStandby = true
    ∧ (stb.sys.lifecycle = .standby ∧ stb.twin.life = some .active ∧ stb.upd.tx = none ∧ stb.upd.stage = none ∧ stb.wcp.commit = none)
    ∧ (malformed 0x0104 [0, 0] = none ∧ stb.sys.vinWarn = false ∧ (5 : BitVec 32) ≠ stb.loop.period ∧ stb.loop.period = 0)
    ∧ ((0 : BitVec 4).getLsbD 0 = false) ∧ stb.net.twinSet = false
    ∧ (lateSweep.isStandby = true ∧ finalOf0.ring < 4 ∧ finalOf0.sweep = (lateSweep.ring finalOf0.ring).sweep
      ∧ finalOf0.stamp = ts32 (lateSweep.sampleAt finalOf0.ring finalOf0.sweep) ∧ (lateSweep.heard true lnk).sweepNeed finalOf0 ≠ 0 ∧ lnk.crcOk = true
      ∧ ({ lnk with crcOk := false } : Link).crcOk = false)
    ∧ act.isActive = true
    ∧ (let s := (lateSweep.updRing 0 fun x => { x with collecting := true }).setExch 0 ⟨0, none, 8⟩
       s.isStandby = true ∧ s.exch 0 = some ⟨0, none, 8⟩ ∧ (⟨0, none, 8⟩ : SweepExch).sweep = (s.ring 0).sweep
        ∧ (⟨0, none, 8⟩ : SweepExch).need.testBit (4 - 1) = true ∧ (s.ring 0).collecting = true)
    ∧ lateSweep.twin.estCopyCycle = some 3 ∧ ([(⟨0x300, 0, []⟩ : SetEntry)] ≠ [])
    ∧ ({ stb with wcp := { stb.wcp with forwarded := [(hdrOf 1, 0x0102)] } } : State).wcp.forwarded.find?
        (fun p => p.1.session == (hdrOf 1).session && p.1.seq == (hdrOf 1).seq && p.2 == 0x0102) = some (hdrOf 1, 0x0102)
    ∧ ((0x3103 : Nat) ≠ 0x1071) := by decide +kernel
/-- A module whose twin is ready to take over, and one in arbitration. -/
def pairUp : State := { act with twin := { act.twin with life := some .standby, rstate := 1, linkUp := true } }
def pairReady : State := pairUp.setPar 0x700 0 [1]
def arbiting : State := { stb with twin := { stb.twin with kat := some 0, arb := some ⟨true, 0, none, none⟩ } }

theorem meets_TwinEventsComplete :
    (stb.isStandby = true ∧ stb.twin.arb = none)
    ∧ (arbiting.twin.kat = some 0 ∧ arbiting.twin.arb = some ⟨true, 0, none, none⟩)
    ∧ (stb.twin.silence = none ∧ stb.twin.life = some .active)
    ∧ (let s := ({ stb with twin := { stb.twin with silence := some 0 } } : State)
       s.twin.silence = some 0 ∧ s.isStandby = true ∧ s.sys.roleIn = true ∧ s.twin.ownLanes = 15)
    ∧ ({ act with twin := { act.twin with ahead := true } } : State).twin.ahead = true
    ∧ (let s := ({ act with twin := { act.twin with uncomp := ⟨0, 0, 0, 10000000000⟩ } } : State)
       (3 : Nat) < 4 ∧ s.upd.mixed 2 = false ∧ s.parN 0x705 0 ≤ s.twin.uncomp.get 3)
    ∧ ({ act with twin := { act.twin with suspect := true } } : State).twin.suspect = true
    ∧ (pairReady.isActive = true ∧ pairReady.parN 0x700 0 = 1 ∧ pairReady.twin.swapDue = false
      ∧ (pairReady.advanceTo pairReady.swapInstant).handRefused = false)
    ∧ (let s := ({ pairReady with twin := { pairReady.twin with swapDue := true, life := none } } : State)
       s.isActive = true ∧ s.parN 0x700 0 = 1 ∧ s.twin.swapDue = true ∧ (s.advanceTo (max s.now s.twin.swapTry)).handRefused = true)
    ∧ (let s := ({ act with twin := { act.twin with watch := some 0 } } : State)
       s.twin.watch = some 0 ∧ s.isActive = true ∧ s.twin.watch ≠ none) := by decide +kernel

/-- A copy of the control loop as the standby last received it. -/
def aChan : ChanCopy :=
  { duty := 0, winner := 0, dir := false, injGate := false, injFull := false, ilHeld := false, chState := 0, sweepNo := 0,
    partialSet := false, staleSet := false, estStale := false, estStamp := 0, i1 := 0, i2 := 0, i3 := 0, i5 := 0, iIl := 0,
    x1 := 0, x2 := 0, y1 := 0, y2 := 0, c7 := 0, a6 := 0, phase := [], fade := 0, rearm := 0, staleMs := 0, pgX := 0, pgV := 0,
    pgT := 0, profStatus := 0 }
def aCopy : LoopCopy := { period := 0, stamp := 0, generation := 0, flags := 0, digest := [], ch := ⟨aChan, aChan, aChan, aChan⟩ }

theorem meets_TwinRequestsComplete :
    (act.passes 0x0700 (hdrOf 5) false [] = true ∧ act.twin.copy = none)
    ∧ (let s := ({ act with twin := { act.twin with copy := some (aCopy, 7) } } : State)
       s.passes 0x0700 (hdrOf 5) false [] = true ∧ s.twin.copy = some (aCopy, 7))
    ∧ (pairUp.passes 0x0701 (hdrOf 2) false [] = true ∧ pairUp.isActive = true ∧ (pairUp.admitted 0x0701 (hdrOf 2) []).handRefused = false)
    ∧ (stb.passes 0x0702 (hdrTo 2 2) false [] = true ∧ (2 : Byte).toNat ≠ 0 ∧ (2 : Byte).toNat = stb.sys.slot ∧ (2 : Byte).toNat ≤ 2
      ∧ stb.sys.lifecycle = .standby)
    ∧ (act.passes 0x0702 (hdrOf 2) false [] = true ∧ (2 : Byte).toNat ≠ act.sys.slot)
    ∧ ((inLife .isolated).passes 0x0703 (hdrTo 2 1) false [] = true ∧ (inLife .isolated).sys.lifecycle = .isolated)
    ∧ (let s := ({ act with twin := { act.twin with suspect := true, tested := suspectBlocks } } : State)
       s.passes 0x0704 (hdrOf 2) false [] = true ∧ s.twin.suspect = true ∧ (suspectBlocks.all fun c => s.twin.tested.contains c) = true)
    ∧ (let s := ({ stb with sys := { stb.sys with roleIn := false } } : State)
       s.passes 0x0705 (hdrTo 2 2) false [] = true ∧ s.isStandby = true ∧ s.activeEligible = true ∧ s.sys.roleIn = false) := by decide +kernel

/-- Both plant ports on the wire, a second module's address shared, PRP running. -/
def cabled : State :=
  let s := (((act.setPar 0x802 0 (u32 9)).setPar 0x805 0 (u32 10)).setPar 0x807 0 [1]).setPar 0x808 0 (u16 400)
  let s := ((s.setPar 0x800 0 [1]).setPar 0x800 1 [1]).setPar 0x860 0 [3]
  { s with net := { s.net with eth0 := { s.net.eth0 with link := 1 }, eth1 := { s.net.eth1 with link := 1 } } }

/-- The same with a WSF PDU that waits for its launch at 5 s. -/
def launching (now : Nat) : State :=
  { cabled with now := now, net := { cabled.net with eth1 := { cabled.net.eth1 with queue := [⟨1, none, 5000000000, 9, [1]⟩] } } }

theorem meets_NetworkComplete :
    ((act.eth 1).link = 0 ∧ (cabled.eth 1).link = 1 ∧ (cabled.eth (1 - 1)).link = 1)
    ∧ ((ethAt 1).port < 2 ∧ cabled.portOn (ethAt 1).port = true ∧ (ethAt 1).passed = false ∧ (ethAt 1).fcsOk = true
      ∧ cabled.tagsOk (ethAt 1).tags = true ∧ cabled.forUs (ethAt 1).port 9 = true ∧ cabled.forUs (ethAt 1).port 10 = true)
    ∧ cabled.holdsPair = true
    ∧ ((cabled.net.echoes.filter fun t => cabled.now < t + 1000000000).length < 10)
    ∧ ({ cabled with net := { cabled.net with arps := [0] } } : State).net.arps = 0 :: []
    ∧ (cabled.netOn = true ∧ cabled.parN 0x807 0 ≠ 0 ∧ cabled.net.prpSeen = [] ∧ cabled.parN 0x808 0 ≠ 0)
    ∧ ({ cabled with net := { cabled.net with prpSeen := [(3, [(7, cabled.now)])] } } : State).net.prpSeen = [(3, [(7, cabled.now)])]
    ∧ ((launching 0).portOn 1 = true ∧ ((launching 0).eth 1).link = 1 ∧ ((launching 0).eth 1).queue = [⟨1, none, 5000000000, 9, [1]⟩]
      ∧ (launching 0).now ≤ 5000000000 ∧ 5000000000 + (launching 9000000000).parN 0x80C 0 < (launching 9000000000).now)
    ∧ act.passes 0x0800 (hdrOf 5) false [] = true := by decide +kernel

/-- The PING as a datagram to the module's own address. -/
theorem meets_TransportsComplete_udp :
    cabled.portOn (ethAt 1).port = true ∧ (cabled.inc 0x840 1).forUs (ethAt 1).port 9 = true
    ∧ (cabled.inc 0x840 1).takesPacket ⟨(cabled.inc 0x840 1).parseHdr .plant 9 pingBytes, fieldAt pingBytes 6 2, slice pingBytes 16 (fieldAt pingBytes 8 2)⟩ = true
    ∧ ({ ethAt 1 with passed := true } : EthIn).passed = true ∧ ({ ethAt 1 with fcsOk := false } : EthIn).fcsOk = false
    ∧ cabled.wcp.reasm = [] := by decide +kernel

/-- A clock whose port 1 follows a master; a jump and a step waiting. -/
def following : State := { cabled with net := { cabled.net with port := 1, eth1 := { cabled.net.eth1 with master := some announce, reqAt := some 5, sync := some (0, 0, 0) } } }
def jumping : State := { cabled with net := { cabled.net with jump := some 5, step := some (7, 5) } }

theorem meets_TimeComplete :
    (ptpArrives cabled (ethAt 1) (ptpOf 11) 11 ∧ (cabled.eth 1).master = none ∧ (following.eth 1).master = some announce)
    ∧ (ptpArrives following (ethAt 1) (ptpOf 0) 0 ∧ 1 = following.net.port ∧ announce.identity = [1] ∧ following.isStandby = false
      ∧ following.net.everLocked = false)
    ∧ (ptpArrives following (ethAt 1) (ptpOf 9) 9 ∧ ptpArrives following (ethAt 1) (ptpOf 3) 3 ∧ ptpArrives following (ethAt 1) (ptpOf 2) 2
      ∧ following.p2p = ((ptpOf (if following.p2p then 3 else 9)).type != 9) ∧ (following.eth 1).reqAt = some 5
      ∧ (following.meanPath 1 following.p2p 5 100 200 300 0).isSome = true ∧ (cabled.eth 1).delays = [])
    ∧ (let s := ({ cabled with net := { cabled.net with servo := 3 } } : State)
       s.net.servo = 3 ∧ s.net.holdLong = false)
    ∧ jumping.net.step = some (7, 5) ∧ cabled.netOn = true
    ∧ (jumping.passes 0x0802 (hdrOf 2) false [] = true ∧ (hdrOf 2).target = 0 ∧ jumping.net.jump = some 5)
    ∧ (jumping.passes 0x0803 (hdrOf 2) false [] = true ∧ (hdrOf 2).target = 0 ∧ (cabled.eth 1).master = none) ∧ act.passes 0x0801 (hdrOf 5) false [] = true := by decide +kernel

/-- Controller 1 on the bus with room in its queue; with one frame waiting or on the wire; off the bus. -/
def onBus : State := act.setPar 0x8C0 1 [1]
def ctlIs (f : CanCtl → CanCtl) : State := onBus.setCtl 1 (f (onBus.ctl 1))
def oneFrame (stage : Nat) : CanCtl → CanCtl := fun c => { c with tx := [⟨canFrame, stage, false, false, false⟩] }

theorem meets_CanComplete :
    (onBus.passes 0x0810 (hdrOf 1) false [] = true ∧ (1 : Byte).toNat < 2 ∧ ([canFrame] : List CanEntry).all canOk = true
      ∧ (onBus.ctl 1).tx.length + ([canFrame] : List CanEntry).length ≤ onBus.parN 0x8C8 1 ∧ onBus.parN 0x8C0 1 ≠ 0)
    ∧ (let s := ctlIs (oneFrame 0)
       s.passes 0x0811 (hdrOf 1) false [] = true ∧ (s.ctl 1).tx = ⟨canFrame, 0, false, false, false⟩ :: [] ∧ canFrame.handle = 7
        ∧ (s.ctl 1).results.length < 64)
    ∧ (let s := ctlIs (oneFrame 1)
       s.passes 0x0811 (hdrOf 1) false [] = true ∧ (s.ctl 1).tx = ⟨canFrame, 1, false, false, false⟩ :: [] ∧ (1 : Nat) ≠ 0)
    ∧ onBus.passes 0x0812 (hdrOf 1) false [] = true ∧ onBus.passes 0x0813 (hdrOf 1) false [] = true
    ∧ onBus.passes 0x0814 (hdrOf 1) false [] = true
    ∧ (let s := ctlIs fun c => { c with off := 2 }
       s.passes 0x0815 (hdrOf 1) false [] = true ∧ (s.ctl 1).off = 2)
    ∧ onBus.passes 0x0816 (hdrOf 5) false [] = true
    ∧ (let s := ctlIs (oneFrame 0)
       s.canMonitor 1 = false ∧ (s.ctl 1).off = 0 ∧ (s.ctl 1).wsfTx = none ∧ (s.ctl 1).wsf = [] ∧ (s.ctl 1).tx ≠ [])
    ∧ (let s := ctlIs fun c => { c with wsf := [(0, canFrame)] }
       s.canMonitor 1 = false ∧ (s.ctl 1).off = 0 ∧ (s.ctl 1).wsfTx = none ∧ (s.ctl 1).wsf = (0, canFrame) :: [] ∧ (s.ctl 1).tx = [])
    ∧ (let s := onBus.setPar 0x8CA 1 [1]
       (s.ctl 1).off = 0 ∧ s.canMonitor 1 = false ∧ s.wsfOfCan 1 canFrame.id = none ∧ (s.ctl 1).rec_ < 128 ∧ (s.ctl 1).tec < 128
        ∧ s.canFilter 1 canFrame.id = 1 ∧ (s.ctl 1).rx0.length < 64)
    ∧ ((ctlIs fun c => { c with off := 3 }).ctl 1).off = 3 := by decide +kernel

theorem meets_FieldIoComplete :
    act.fieldOn = true
    ∧ (let s := ({ act with fio := { act.fio with di := [(15, { lowAt := some 4 })] } } : State)
       (s.di 15).isOpen = false ∧ (s.di 15).lowAt = some 4)
    ∧ (let s := ({ act with fio := { act.fio with di := [(15, { isOpen := true, fineAt := some 4 })] } } : State)
       (s.di 15).isOpen = true ∧ (s.di 15).fineAt = some 4)
    ∧ (let s := (act.setPar 0x483 0 [0x80]).updDo 7 fun o => { o with limitAt := some 4, lowAt := some 5 }
       (s.dout 7).limitAt = some 4 ∧ (s.dout 7).ovl = false ∧ (s.dout 7).past = false ∧ bitOf (s.parN 0x483 0) 7 = true
        ∧ (s.dout 7).lowAt = some 5 ∧ (s.dout 7).supplyLow = false)
    ∧ (let s := act.updDo 7 fun o => { o with past := true }
       (s.dout 7).past = true ∧ (s.dout 7).ot = false)
    ∧ ({ act with fio := { act.fio with missed := 3 } } : State).fio.missed = 3
    ∧ (act.fio.wdog = false ∧ fieldAt (act.par 0x485 0) 7 1 = 0)
    ∧ act.passes 0x0420 (hdrOf 5) false [] = true ∧ act.passes 0x0421 (hdrOf 5) false [] = true
    ∧ (act.passes 0x0422 (hdrOf 1) false [] = true ∧ bitsSet 8 (0x80 : Byte).toNat = [7] ∧ (act.dout 7).hot = false) := by decide +kernel
/-- A module in its start-up self-test, at the end of a slot. -/
def testing (slot : Nat) : State := { inLife .selftest with bist := { act.bist with slot := slot } }

theorem meets_SelfTestsComplete :
    ((testing 4).sys.lifecycle = .selftest ∧ 5 = (testing 4).bist.slot + 1 ∧ (([(0, true, 0)] : List (Nat × Bool × Nat)).any fun r => r.1 == 0 && !r.2.1) = false)
    ∧ ((testing 5).bist.slot = 5 ∧ (testing 5).preempted = [] ∧ (testing 5).bist.running = []
      ∧ (testing 5).now < (testing 5).bist.started + 12500000000)
    ∧ (act.passes 0x0A00 (hdrOf 2) false [4, 0x10] = true ∧ [4, 0x10] = (([4, 0x10] : Bytes).map (·.toNat)).dedup
      ∧ ([4, 0x10] : List Nat).all allBlocks.contains = true ∧ ([4, 0x10] : List Nat).all act.mayTest = true)
    ∧ (act.passes 0x0A01 (hdrOf 5) false [] = true ∧ (([0x60] : Bytes).all fun c => allBlocks.contains c.toNat) = true)
    ∧ (let s := ({ act with bist := { act.bist with running := [(4, 9)] } } : State)
       s.bist.running.find? (fun b => b.1 == 4) = some (4, 9) ∧ s.sys.lifecycle ≠ .selftest ∧ (15999 : Nat) < 16000)
    ∧ ((2 : Nat) < 3 ∧ act.sys.power = .p0 ∧ act.bist.rotDue = false)
    ∧ (stb.isStandby = true ∧ stb.twin.kat = none ∧ stb.bist.running = []) := by decide +kernel

/-- A module held for its temperature. -/
def heldHot (polls : Nat) : State := { act with bist := { act.bist with hold := true, polls := polls } }

theorem meets_ThermalComplete_clear : ∀ v, some v ∈ act.bist.sensors → v < 9500 := by
  intro v h; have : v = 0 := by simpa [act, State.reset] using h
  omega

theorem meets_ThermalComplete :
    act.sys.power = .p0 ∧ (act.bist.hold = false ∧ act.bist.holdAt = none)
    ∧ ((heldHot 0).bist.hold = true ∧ (heldHot 0).bist.holdAt = none ∧ (heldHot 0).bist.polls = 0)
    ∧ ((heldHot 1).bist.hold = true ∧ 1 ≤ (heldHot 1).bist.polls
      ∧ ([0, 1, 2, 3, 4, 6].all fun i => match (List.replicate 7 (some (9499 : Int))).getD i none with
          | some v => decide (v < 9500)
          | none => false) = true)
    ∧ act.passes 0x0A10 (hdrOf 5) false [] = true
    ∧ (act.passes 0x0A11 (hdrOf 2) false [] = true ∧ (act.bist.sensors.all fun v => v == some 0) = true) := by decide +kernel

def raisedFault : State := { act with fm := { act.fm with raised := [aFault] } }

theorem meets_FaultHandlingCompletes :
    (nextRaised raisedFault.fm.raised = some aFault ∧ raisedFault.fm.cur = none ∧ raisedFault.fm.queue = [])
    ∧ (let s := ({ raisedFault with fm := { raisedFault.fm with cur := some aFault } } : State)
       nextRaised s.fm.raised = some aFault ∧ s.fm.cur = some aFault ∧ s.fm.queue = [] ∧ aFault.same aFault = true ∧ aFault.begun = false
        ∧ 2 ≤ aFault.sev)
    ∧ (let s := ({ act with fm := { act.fm with cur := some { aFault with begun := true }, queue := [aFault] } } : State)
       s.fm.cur = some { aFault with begun := true } ∧ ({ aFault with begun := true } : FRec).begun = true ∧ s.fm.queue = aFault :: []
        ∧ aFault.begun = false)
    ∧ (let s := ({ act with fm := { act.fm with cur := some aFault } } : State)
       s.late = some aFault ∧ s.fm.cur = some aFault ∧ s.fm.queue = [] ∧ 2 ≤ aFault.sev) := by decide +kernel

/-- A header from the SAFETY session outside the safety class. -/
def hdrPlain : Hdr := { hdrOf 3 with flags := 16 }
def aRec : Rec := { seq := 1, time := 0, quality := 0, source := 0, code := 0x1060, sev := 0, inst := 0, flags := 0, parent := 0, payload := [] }
def withRec (f : RecSt → RecSt) : State := { act with recd := f act.recd }
def aTrig : FbTrig := { seq := 1, code := 0, time := 0, quality := 0, life := 3, generation := 0, periodNs := 10000 }
def aDesc : FbDesc := { trig := aTrig, start := 0, stop := 0, sha := [] }

theorem meets_RecorderComplete :
    (let s := withRec fun x => { x with queue := [aRec] }
     s.recd.queue = aRec :: [] ∧ s.sys.diesLost.getLsbD 4 = false ∧ s.sys.vinWarn = false)
    ∧ (act.passes 0x0900 (hdrOf 5) false [] = true ∧ (4 : Byte).toNat < 5)
    ∧ (act.passes 0x0901 (hdrOf 5) false [] = true ∧ (20 : Byte) ≠ 0 ∧ (20 : Byte).toNat ≤ 20 ∧ (4095 : BitVec 32).toNat < partCap (4 : Byte).toNat)
    ∧ (act.passes 0x0902 (hdrOf 2) false [] = true ∧ (0 : BitVec 32).toNat = (act.part 0).newest ∧ act.sys.vinWarn = false)
    ∧ (act.passes 0x0902 (hdrOf 2) false [] = true ∧ act.anyLatch = false ∧ (0 : BitVec 32).toNat = act.newestSafe ∧ act.recd.arm = none)
    ∧ (let s := withRec fun x => { x with arm := some ⟨opRef 0x0902 (hdrOf 2), 0, 0, []⟩ }
       s.passes 0x0903 hdrPlain false [] = true ∧ s.recd.arm = some ⟨opRef 0x0902 (hdrOf 2), 0, 0, []⟩ ∧ (0 : BitVec 32).toNat = 0
        ∧ s.anyLatch = false ∧ s.sys.vinWarn = false) := by decide +kernel

def aReplay (state : Nat) (file : Option Bytes) (op : Option OpRef) : ReplaySt :=
  { source := 0, length := 300, pieces := [], file := file, state := state, op := op, periods := 0, cycles := 0, div := none }
/-- A module in REPLAY with a file whose only chunk is a whole checkpoint of cycle 7. -/
def chkFile : Bytes :=
  let p : Bytes := leBytes 4 7 ++ leBytes 2 0 ++ leBytes 2 1
  List.replicate 256 0 ++ ([6, 0] ++ leBytes 2 8 ++ List.replicate 8 0 ++ leBytes 4 (crc32c p) ++ p)
def replaying (r : ReplaySt) : State := { inLife .replay with recd := { act.recd with replay := some r } }
def isolatedP0 (d : Option FbDesc) : State :=
  { inLife .isolated with recd := { act.recd with fb := { act.recd.fb with desc := d } } }
def fbWith (f : FbSt → FbSt) : State := withRec fun x => { x with fb := f x.fb }

theorem meets_FlightBufferComplete :
    (act.passes 0x0911 (hdrOf 2) false [] = true ∧ act.recd.fb.desc = none)
    ∧ (let s := fbWith fun b => { b with trig := some aTrig }
       s.recd.fb.trig = some aTrig ∧ s.recd.fb.desc = none ∧ s.sys.vinWarn = false)
    ∧ (let s := fbWith fun b => { b with ckptDue := some 0 }
       s.recd.fb.ckptDue = some 0 ∧ s.sys.power = .p0 ∧ s.fbOn = true)
    ∧ (let s := (fbWith fun b => { b with desc := some aDesc }).setPar 0x903 0 (u16 1)
       s.recd.fb.desc = some aDesc ∧ s.parN 0x903 0 ≠ 0)
    ∧ (act.passes 0x0910 (hdrOf 5) false [] = true ∧ (act.admitted 0x0910 (hdrOf 5) []).recd.fb.desc = none
      ∧ (act.admitted 0x0910 (hdrOf 5) []).recd.fb.trig = none)
    ∧ (let s := fbWith fun b => { b with desc := some aDesc }
       s.passes 0x0910 (hdrOf 5) false [] = true ∧ (s.admitted 0x0910 (hdrOf 5) []).recd.fb.desc = some aDesc
        ∧ s.passes 0x0912 (hdrOf 5) false [] = true
        ∧ (s.admitted 0x0912 (hdrOf 5) (leBytes 4 0 ++ leBytes 2 4000)).recd.fb.desc = some aDesc ∧ (4000 : BitVec 16).toNat ≤ 4000
        ∧ s.passes 0x0913 (hdrOf 2) false [] = true ∧ (s.admitted 0x0913 (hdrOf 2) []).recd.fb.desc = some aDesc)
    ∧ ((isolatedP0 none).passes 0x0920 (hdrTo 2 1) false [] = true ∧ (isolatedP0 none).sys.lifecycle = .isolated
      ∧ (isolatedP0 none).sys.power = .p0 ∧ (isolatedP0 none).recd.fb.desc = none)
    ∧ ((isolatedP0 (some aDesc)).passes 0x0920 (hdrTo 2 1) false [] = true ∧ (isolatedP0 (some aDesc)).recd.fb.desc = some aDesc)
    ∧ (let r := aReplay 0 none none
       (replaying r).passes 0x0921 (hdrTo 2 1) false [] = true ∧ (replaying r).recd.replay = some r ∧ r.source = 0 ∧ r.file = none
        ∧ r.pieces = [] ∧ (299 : BitVec 32).toNat + ([1] : Bytes).length ≤ r.length ∧ (299 : BitVec 32) ≠ 0)
    ∧ (let r := aReplay 0 (some chkFile) none
       (replaying r).passes 0x0922 (hdrTo 2 1) false [] = true ∧ r.file = some chkFile ∧ r.state ≠ 1 ∧ (1 : Byte).toNat < 2 ∧ (999999999 : BitVec 32).toNat < 1000000000
        ∧ (7 : BitVec 32).toNat ∈ wholeCheckpoints ((parseChunks chkFile.length (chkFile.drop 256)).getD []))
    ∧ (let r := aReplay 1 (some chkFile) (some (opRef 0x0922 (hdrOf 2)))
       (replaying r).recd.replay = some r ∧ r.state = 1 ∧ r.op = some (opRef 0x0922 (hdrOf 2)))
    ∧ (let r := aReplay 2 (some chkFile) none
       (replaying r).passes 0x0923 (hdrTo 5 1) false [] = true ∧ (replaying r).passes 0x0924 (hdrTo 2 1) false [] = true
        ∧ (replaying r).recd.replay = some r ∧ r.op = none) := by decide +kernel
/-- A part of a type at version 1, and a bundle of two parts: the module image and the node firmware. -/
def anEntryOf (t : Nat) : PartEntry :=
  { type := t, scope := if t = 4 then 1 else 0, version := 1, offset := 0, length := 0, digest := List.replicate 32 0, compat := [] }
def aBundle : Bytes :=
  List.replicate 6 0 ++ [2, 0] ++ List.replicate 56 0 ++ entryBytes (anEntryOf 1) ++ entryBytes (anEntryOf 4)
def stagedAll : Staging := ⟨aBundle.length, [(0, aBundle)], false⟩
def emptyStage : Staging := ⟨16, [], false⟩
def updating (l : Lifecycle) (state : Nat) (g : Staging) : State :=
  { inLife l with upd := { act.upd with state := state, stage := some g, session := 4, from_ := some .standby } }

theorem meets_UpdateSessionsComplete :
    act.passes 0x0B00 (hdrOf 4) false [] = true
    ∧ (act.passes 0x0B01 (hdrOf 4) false [] = true ∧ (67108864 : BitVec 32) ≠ 0 ∧ (67108864 : BitVec 32).toNat ≤ 67108864 ∧ act.upd.state = 0
      ∧ act.sys.lifecycle = .active ∧ act.sys.vinWarn = false ∧ act.pairOpen = false)
    ∧ (stb.passes 0x0B01 (hdrTo 4 2) false [] = true ∧ stb.upd.state = 0 ∧ stb.sys.lifecycle = .standby ∧ stb.pairOpen = false)
    ∧ (let s := updating .update 1 emptyStage
       s.passes 0x0B02 (hdrTo 4 1) false [] = true ∧ s.upd.stage = some emptyStage ∧ s.upd.state = 1
        ∧ (15 : BitVec 32).toNat + ([1] : Bytes).length ≤ emptyStage.length ∧ s.passes 0x0B03 (hdrTo 4 1) false [] = true
        ∧ s.passes 0x0B06 (hdrTo 4 1) false [] = true ∧ s.updOpen = true ∧ s.sys.bootHold = false)
    ∧ (let s := updating .update 2 emptyStage
       s.upd.stage = some emptyStage ∧ s.upd.state = 2 ∧ emptyStage.forwarded = false)
    ∧ (let s := updating .update 3 stagedAll
       s.passes 0x0B04 (hdrTo 4 1) false [] = true ∧ 0 < (1 : Byte).toNat ∧ (1 : Byte).toNat < 8 ∧ s.upd.state = 3 ∧ s.sys.lifecycle = .update
        ∧ (let ps := (forSlot (bundleParts s.staged) s.sys.slot).filter fun p => (1 : Byte).toNat.testBit (p.type - 1)
           ((bitsSet 3 (1 : Byte).toNat).all fun i => ps.any fun p => p.type == i + 1) = true
            ∧ admissible (replaceParts s.ownModule ps) (s.upd.twinParts.filter fun e => e.type != 4) s.nodeParts = true))
    ∧ (let s := updating .active 3 stagedAll
       s.passes 0x0B04 (hdrOf 4) false [] = true ∧ s.upd.state = 3 ∧ s.isActive = true
        ∧ (bundleParts s.staged).find? (fun p => p.type == 4) = some (anEntryOf 4)
        ∧ ((bitsSet 4 (anEntryOf 4).scope.toNat).all s.nodeStepOk) = true ∧ meet s.ownModule 1 [anEntryOf 4] 4 = true) := by decide +kernel

/-- A transaction over all three module parts. -/
def aTx : UpdTx := { mask := 7, floor := 0, pair := false, safeLayout := false, done := [], new_ := [] }
def withTx (l : Lifecycle) (state : Nat) : State :=
  { inLife l with sys := { (inLife l).sys with startPhase := 7 }, upd := { act.upd with state := state, tx := some aTx } }
def anImage (bundle : Bool) : ImageMsg := { entry := anEntryOf 1, sigBlock := [], payload := [], bundle := bundle }

/-- Node 1 of ring 0 being loaded with an empty image, at one of its commands. -/
def loading (k : Nat) : State := { withTx .active 8 with upd := { (withTx .active 8).upd with loads := [(0, ⟨1, k, 0⟩)] } }

theorem meets_UpdateTrialsComplete :
    ((withTx .boot 4).sys.lifecycle = .boot ∧ (withTx .boot 4).upd.state = 4 ∧ (withTx .boot 4).upd.tx = some aTx
      ∧ (withTx .boot 6).upd.state = 6 ∧ (3 ∈ (bitsSet 3 aTx.mask).map (· + 1)))
    ∧ (let s := withTx .active 5
       s.passes 0x0B05 (hdrOf 4) false [] = true ∧ s.upd.state = 5 ∧ s.sys.startPhase = 7 ∧ s.upd.tx = some aTx ∧ aTx.pair = false)
    ∧ (let s := inLife .isolated
       s.passes 0x0B07 (hdrTo 4 1) false [] = true ∧ 0 < (15 : Byte).toNat ∧ (15 : Byte).toNat < 16 ∧ s.upd.state = 0 ∧ s.isActive = false
        ∧ (∀ i ∈ bitsSet 4 (15 : Byte).toNat, (s.upd.res.get i).valid = true ∧ s.upd.floor.toNat ≤ (s.upd.res.get i).entry.version.toNat)
        ∧ admissible (replaceParts s.ownModule ((bitsSet 3 (15 : Byte).toNat).map fun i => { (s.upd.res.get i).entry with type := i + 1 }))
            (s.upd.twinParts.filter fun e => e.type != 4) s.nodeParts = true
        ∧ s.passes 0x0B08 (hdrTo 4 1) false [] = true ∧ s.twinSource = true ∧ s.sys.lifecycle = .isolated ∧ s.pairOpen = false)
    ∧ ((anImage false).bundle = false ∧ (anImage true).bundle = true ∧ act.upd.state = 0)
    ∧ (let s := withTx .selftest 5
       let s := ({ s with sys := { s.sys with startPhase := 3 }, upd := { s.upd with deadline := some 9 } } : State)
       s.upd.state = 5 ∧ s.sys.startPhase ≠ 7 ∧ s.upd.deadline = some 9)
    ∧ ((withTx .active 8).upd.state = 8 ∧ (withTx .active 8).upd.loads = [] ∧ (withTx .active 8).upd.nodeBad = false)
    ∧ (let s := loading 0
       (s.upd.loads.find? fun p => p.1 == 0) = some (0, ⟨1, 0, 0⟩) ∧ (0 + 1 : Nat) ≠ (s.loaderData (nodeKey 0 1)).length ∧ s.upd.loads ≠ [])
    ∧ (let s := loading 1
       (s.upd.loads.find? fun p => p.1 == 0) = some (0, ⟨1, 1, 0⟩) ∧ (1 + 1 : Nat) = (s.loaderData (nodeKey 0 1)).length)
    ∧ (let s := ({ act with upd := { act.upd with mixedSince := some 4 } } : State)
       s.upd.mixedSince = some 4 ∧ s.upd.mixedLong = false) := by decide +kernel

/-! ### The derived statements -/

theorem meets_ClosedOutputsForbidP4 :
    (let s := act.setSo 7 ⟨true, true, .clamp⟩
     s.passes 0x0020 (hdrOf 2) false [] = true ∧ s.anySoOn = true ∧ s.sys.lifecycle ≠ .safe
      ∧ ∃ t, exec (.powerSet (hdrOf 2) 4) s = .next t)
    ∧ (let s := (inLife .safe).setSo 7 ⟨true, true, .clamp⟩
       s.passes 0x0020 (hdrTo 2 1) false [] = true ∧ s.sys.lifecycle = .safe) :=
  ⟨⟨by decide +kernel, by decide +kernel, by decide +kernel, ⟨_, rfl⟩⟩, by decide +kernel⟩

theorem meets_PhasesKeepTheDeadTime : (0 : Nat) ≤ 128000 ∧ (128000 : Nat) ≤ 128000 ∧ (64000 : Nat) ≤ 128000 := by decide

theorem meets_SmallestOutputWins :
    selectWinner 10 [(1, 7), (2, 4), (3, 9)] = (2, 4) ∧ selectWinner 10 [(1, 10), (2, 10)] = (0, 10)
    ∧ (∀ c ∈ [((1 : Nat), (7 : Int)), (2, 4), (3, 9)], c.2 ≤ 10) ∧ ([((1 : Nat), (7 : Int))] ≠ []) := by decide +kernel

theorem meets_DutiesStayInTheirLimits : act.parI 0x307 3 ≤ act.parI 0x308 3 := by decide +kernel

theorem meets_DetectorsDisableTheirChannelAlone :
    (3 : Nat) < 4 ∧ act.parN 0x38D 3 ≤ 1000000
    ∧ Instr.dsStuck 3 2 ∈ [Instr.dsClockLoss 3, .dsStuck 3 0, .dsStuck 3 1, .dsStuck 3 2, .gateDriverFault 3 1000000, .turnipDsStuck 3] := by
  decide +kernel

theorem meets_OvercurrentTripsItsStringAlone :
    act.ocTrips 3 (List.replicate 100 true) = true ∧ act.ocTrips 3 (List.replicate 100 false) = true ∧ act.safe.ct = none := by decide +kernel

theorem meets_FireOpensEverything : (wired.siFunc 0).1 = 1 ∧ (wired.siFunc 3).1 = 1 ∧ wired.fieldOn = true := by decide +kernel

/-- Channel 3 running at its application instant. -/
def applying : State := { running 3 with loop := { (running 3).loop with lane := (running 3).loop.lane.set 3 { shadow := some 0 } } }

theorem meets_RunningChannelsTakeTheirDuty :
    applying.sys.power = .p0 ∧ applying.isActive = true ∧ (applying.ch 3).state = 2 ∧ (applying.ch 3).freeze = none
    ∧ (applying.ch 3).stopNow = false ∧ (applying.ch 3).hwDisable = false ∧ applying.gateSafe 3 = true ∧ applying.gateTurnip 3 = true
    ∧ (applying.lane 3).shadow = some 0 ∧ applying.twin.hand = none ∧ (applying.sys.lane.get 3).fenced = false ∧ applying.safe.openSoon = [] := by decide +kernel

/-- A channel that begins to be driven at the instant. -/
def quietApplying : State := applying.updCh 3 fun x => { x with driven := false }

theorem meets_OutputsAreEnabledOnlyAtApplicationInstants :
    (quietApplying.ch 3).driven = false
    ∧ (match exec .applicationInstant quietApplying with
       | .next t => (t.ch 3).driven
       | _ => false) = true
    ∧ act.pending = [] := by decide +kernel

theorem meets_ReadsLeaveTheModuleAlone : Instr.reads (.ping (hdrOf 0)) = true ∧ ∃ t, exec (.ping (hdrOf 0)) act = .next t :=
  ⟨by decide +kernel, ⟨_, rfl⟩⟩

theorem meets_RequestsTurnedAwayChangeNothing :
    act.isGuest 0x0020 (hdrOf 5) = false ∧ act.passes 0x0020 (hdrOf 5) false [] = false := by decide +kernel

theorem meets_CommandsKeepToTheirPart :
    (Instr.canTxDone 1 .error).homeOf = some .can ∧ Part.can ∉ [Part.axes, .timedAxes, .stage, .channel, .safe, .loop]
    ∧ (∃ t, exec (.commit (hdrOf 1)) act = .next t) ∧ (∃ t, exec (.crossingTimeout .pwm .read) act = .next t)
    ∧ Instr.canBusOff 1 ∈ [Instr.canTxDone 1 .error, .canBusOff 1, .canRecovered 1] ∧ (∃ t, exec (.canBusOff 1) act = .next t)
    ∧ (0 : Nat) < 2 ∧ (0 : Nat) ≠ 1 :=
  ⟨by decide +kernel, by decide, ⟨_, rfl⟩, ⟨_, rfl⟩, by decide +kernel, ⟨_, rfl⟩, by decide, by decide⟩

theorem meets_DriveCommandsKeepToTheirPart :
    (Instr.bridgeOvercurrent 3).homeOf = some .axes ∧ Part.axes ∈ [Part.axes, .timedAxes, .stage, .channel, .safe, .loop]
    ∧ Instr.coilOpen 3 1 ∈ [Instr.holdDelayExpiry 3, .bridgeOvercurrent 3, .coilOpen 3 1] ∧ (∃ t, exec (.coilOpen 3 1) act = .next t)
    ∧ (2 : Nat) < 4 ∧ (2 : Nat) ≠ 3 :=
  ⟨by decide +kernel, by decide, by decide +kernel, ⟨_, rfl⟩, by decide, by decide⟩

theorem meets_RequestsRunOnce :
    extend 65535 0 = some 65536 ∧ (65536 : Nat) ≤ 65535 + 1024 ∧ (65535 : Nat) < 65536 + 1024
    ∧ ((hdrOf 1).session ≠ 0 ∧ act.sess (hdrOf 1).session.toNat = some (sessOf 1 .operate) ∧ extend (sessOf 1 .operate).hi (hdrOf 1).seq.toNat = some 1
      ∧ act.isGuest 0x0301 (hdrOf 1) = false ∧ act.checkPacket (hdrOf 1) = .pass ∧ act.answers (hdrOf 1) = true)
    ∧ (let t := (act.accept (hdrOf 1)).reply 0x0304 (hdrOf 1) 0 []
       (t.dequeue 0x0304 (hdrOf 1)).checkPacket (hdrOf 1) = .resend ((act.accept (hdrOf 1)).replyPacket 0x0304 (hdrOf 1) 0 [] true)) := by
  decide +kernel

theorem meets_ProducedPdusPassTheirCheck : (List.replicate 255 (0 : Byte)).length ≤ 255 ∧ (14 : Nat) < 15 ∧ (65535 : Nat) < 65536 := by
  decide +kernel

theorem meets_PacketsReadBackFromTheWire :
    (List.replicate 4096 (0 : Byte)).length ≤ 4096
    ∧ act.parseHdr pingPacket.transport pingPacket.peer (wirePacket pingPacket false [])
      = act.parseHdr pingPacket.transport pingPacket.peer (wirePacket pingPacket false []) := ⟨by decide +kernel, rfl⟩
/-! ### Single operations and steps, against the worked examples and tables of the spec -/

/-- 00, the worked example of a gain of 2.5. -/
theorem test_q15x_of_two_and_a_half : q15xOf (5 / 2) = ⟨20480, 2⟩ := by decide +kernel

/-- 04, the worked example of two parameters read: the reply's payload and the slot that executed it. -/
theorem test_parameter_read :
    (let s := { act with wcp := { act.wcp with sessions := [sessOf 3 .view], params := act.wcp.params.set (key 0x31 0) [1] } }
     match exec (.paramGet { hdrOf 3 with flags := 0, tag := .absent, seq := 5 } [⟨0x10, 0, 0⟩, ⟨0x18, 0, 0⟩]) s with
     | .next t => t.out.map fun
       | .wcp p => (p.payload, p.target, p.seq, p.reply)
       | _ => ([], 0, 0, false)
     | _ => [])
      = [([0, 0, 2, 0, 0x10, 0, 0, 0, 0, 0, 1, 0, 4, 0x18, 0, 0, 0, 0, 0, 1, 0, 7], 1, 5, true)] := by decide +kernel

/-- 05 Table 5.3, the CRC-16 check value. -/
theorem test_crc16_check : crc16 [0x31, 0x32, 0x33, 0x34, 0x35, 0x36, 0x37, 0x38, 0x39] = 0x29B1 := by decide +kernel

/-- 07 Table 7.5: the smallest output, L3's, wins. -/
theorem test_l3_wins : selectWinner 26214 [(0, 19661), (1, 19789), (3, 19309), (4, 26214), (5, 19789)] = (3, 19309) := by decide +kernel

/-- 08, the worked example of scaling: 0.4 of 625 A on a full scale of 500 A. -/
theorem test_scaling : toQ15 (Sys2Proof.Machine.mac 0 (q15xOf (5 / 4)) 13107) = 16384 := by decide +kernel

/-- 08, R215 and R216 at 20 µs and a duty of one half plus one unit. -/
theorem test_phases : highSide 128000 64001 = ([(31999, 96000)], [(0, 32001), (96000, 128000)]) := by decide +kernel

/-- 12, the worked example of an overcurrent: 184 counts. -/
theorem test_overcurrent_count : ocCount 16 625 0 450 = 184 := by decide +kernel

/-- 14, the worked example of a stamp. -/
theorem test_stamp : ts32 1760000005120000000 = 98369536 := by decide +kernel

/-- 16, the worked example of a bouncing contact on DI4: accepted at sample 24, not before. -/
def bounce (n : Nat) : State :=
  let s := act.setPar 0x480 4 [20]
  let s := { s with fio := { s.fio with sampled := true } }
  (([true, false, true, true, false] ++ List.replicate 19 true).take n).foldl (fun s b => s.scanDi 4 b) s
theorem test_bouncing_contact : ((bounce 23).di 4).state = false ∧ ((bounce 23).di 4).c = 19 ∧ ((bounce 24).di 4).state = true := by decide +kernel

/-- 04 R79: a safety-class packet enters ahead of one that waits. -/
theorem test_safety_class_first :
    ((act.enqueue ⟨hdrOf 1, 0x0101, []⟩).enqueue ⟨hdrSafe 3, 0x0601, []⟩).wcp.queue.map (·.opcode) = [0x0601, 0x0101] := by decide +kernel

/-- 12 R335: the emergency stop of string 0 opens its outputs and latches the string in both channels. -/
theorem test_emergency_stop :
    (match exec (.siDemand 1 false) (wired.updStr 0 fun x => { x with closed := true }) with
     | .next t => ((t.str 0).closed, (t.str 0).core.tripped, (t.str 0).turnip.tripped, (t.str 1).core.tripped)
     | _ => (true, false, false, true)) = (false, true, true, false) := by decide +kernel

/-- 01 R23, 03 R61: no P4 while an output is closed. -/
theorem test_p4_refused :
    (match exec (.powerSet (hdrOf 2) 4) (act.setSo 7 ⟨true, true, .clamp⟩) with
     | .next t => (t.sys.power, t.out.map fun
        | .wcp p => p.payload.take 2
        | _ => [])
     | _ => (.p4, [])) = (.p0, [[0x05, 0x01]]) := by decide +kernel

/-- The queue gives its front command to exec and keeps the rest; an idle cycle is 8 ns. -/
theorem test_front_command :
    (match step { act with pending := [.dsClockLoss 3, .faultAccepted] } with
     | .next t => (t.pending, (t.ch 3).state)
     | _ => ([], 0)) = ([.faultAccepted], 4) := by decide +kernel
theorem test_idle_cycle :
    (match step act with
     | .next t => t.now
     | _ => 0) = 8 := by decide +kernel

end Sys2Proof.Machine
end

section
/-! SUPPORT. The rules that O13 turns on: what the operations of rings, impedance runs and power stages leave of chapters 1 to 3 (State.sys),
what an error does to a cluster, and what the end of drive and a die's reset leave of the role line. -/

namespace Sys2Proof.Machine
open Sys2Proof

/-! ### Faults and replies leave chapters 1 to 3 and the field I/O alone -/

theorem Same.sys_eq {t s : State} (h : Same t s) : t.sys = s.sys := by
  obtain ⟨-, -, -, -, hsys, -⟩ := h.fields
  exact hsys
theorem Same.fio_eq {t s : State} (h : Same t s) : t.fio = s.fio := by
  obtain ⟨-, -, -, -, -, -, -, -, -, -, -, -, -, hfio, -⟩ := h.fields
  exact hfio

@[simp] theorem State.raise_sys (s : State) (code inst sev : Nat) (data : Bytes) : (s.raise code inst sev data).sys = s.sys :=
  (State.raise_same s code inst sev data).sys_eq
@[simp] theorem State.raise_fio (s : State) (code inst sev : Nat) (data : Bytes) : (s.raise code inst sev data).fio = s.fio :=
  (State.raise_same s code inst sev data).fio_eq
@[simp] theorem State.complete_sys (s : State) (op : OpRef) (status : Nat) (result : Bytes) : (s.complete op status result).sys = s.sys :=
  (State.complete_same s op status result).sys_eq
@[simp] theorem State.reply_sys (s : State) (op : Nat) (h : Hdr) (status : Nat) (body : Bytes) : (s.reply op h status body).sys = s.sys :=
  (State.reply_same s op h status body).sys_eq
@[simp] theorem State.fail_sys (s : State) (op : Nat) (h : Hdr) (status detail aux : Nat) : (s.fail op h status detail aux).sys = s.sys :=
  (State.fail_same s op h status detail aux).sys_eq

/-- A fault of severity 1 to 3 only joins the raised ones (20 R524): nothing of the protocol or the recorder moves before its acceptance. -/
theorem State.raise_wcp (s : State) (code inst : Nat) {sev : Nat} (data : Bytes) (h : sev ≠ 0) : (s.raise code inst sev data).wcp = s.wcp := by
  simp [State.raise, State.raiseWith, h]
theorem State.raise_recd (s : State) (code inst : Nat) {sev : Nat} (data : Bytes) (h : sev ≠ 0) : (s.raise code inst sev data).recd = s.recd := by
  simp [State.raise, State.raiseWith, h]

/-- What every step of a fold leaves of chapters 1 to 3, the fold leaves. -/
theorem foldl_sys {α : Type} {f : State → α → State} (hf : ∀ s a, (f s a).sys = s.sys) (l : List α) (s : State) :
    (l.foldl f s).sys = s.sys := by
  induction l generalizing s with
  | nil => rfl
  | cons a l ih => exact (ih (f s a)).trans (hf s a)

/-! ### Ring commands, impedance runs and channels leave chapters 1 to 3 alone -/

@[simp] theorem State.sendFrame_sys (s : State) (r : Nat) (q : Bool) (type addr tag : Nat) (data : Bytes) :
    (s.sendFrame r q type addr tag data).sys = s.sys := by
  unfold State.sendFrame
  split
  · split <;> rfl
  · rfl

@[simp] theorem State.command_sys (s : State) (r node type : Nat) (data : Bytes) : (s.command r node type data).sys = s.sys := by
  unfold State.command
  simp only []
  split
  · rfl
  · simp

@[simp] theorem State.sendCmd_sys (s : State) (r node type : Nat) (data : Bytes) (h : Option Hdr) (arg : Nat) :
    (s.sendCmd r node type data h arg).sys = s.sys := by
  unfold State.sendCmd
  simp only []
  split
  · rfl
  · simp

@[simp] theorem State.withdraw_sys (s : State) (r : Nat) : (s.withdraw r).sys = s.sys := by simp [State.withdraw]

@[simp] theorem State.runDone_sys (s : State) (q : RingOp) : (s.runDone q).sys = s.sys := by
  unfold State.runDone
  split
  · exact State.complete_sys _ _ _ _
  · rfl

@[simp] theorem State.runEnded_sys (s : State) (r : Nat) (failed : Bool) : (s.runEnded r failed).sys = s.sys :=
  foldl_sys State.runDone_sys _ _

@[simp] theorem State.writeNode_sys (s : State) (r node : Nat) : (s.writeNode r node).sys = s.sys := by
  unfold State.writeNode
  rw [State.sendCmd_sys]
  exact foldl_sys (fun _ _ => State.command_sys _ _ _ _ _) _ _

@[simp] theorem State.syncNext_sys (s : State) (r : Nat) : (s.syncNext r).sys = s.sys := by
  unfold State.syncNext
  split
  · rfl
  split
  · rfl
  split
  · simp only []
    split
    · simp
    · simp
  · exact State.writeNode_sys _ _ _

/-- 11 R333: the end of an impedance run is the estimator's and the rings' matter. -/
@[simp] theorem State.abandonRun_sys (s : State) (r code : Nat) : (s.abandonRun r code).sys = s.sys := by
  unfold State.abandonRun
  split
  · simp
  · rfl

@[simp] theorem State.answerAll_sys (s : State) (op : Nat) (h : Hdr) (l : List (Nat × Nat)) : (s.answerAll op h l).sys = s.sys := by
  unfold State.answerAll
  split
  · exact State.fail_sys _ _ _ _ _ _
  · exact State.reply_sys _ _ _ _ _

@[simp] theorem State.startDone_sys (s : State) (r : StartReq) : (s.startDone r).sys = s.sys := by
  unfold State.startDone
  split
  · exact State.answerAll_sys _ _ _ _
  · rfl

@[simp] theorem State.startStatus_sys (s : State) (c v : Nat) : (s.startStatus c v).sys = s.sys := foldl_sys State.startDone_sys _ _

@[simp] theorem State.stopDone_sys (s : State) (r : StopReq) : (s.stopDone r).sys = s.sys := by
  unfold State.stopDone
  split
  · exact State.complete_sys _ _ _ _
  · rfl

@[simp] theorem State.stopStatus_sys (s : State) (c how : Nat) : (s.stopStatus c how).sys = s.sys := foldl_sys State.stopDone_sys _ _

@[simp] theorem State.zeroGen_sys (s : State) (c : Nat) : (s.zeroGen c).sys = s.sys := State.setGen_sys _ _ _

/-- 08 Table 8.5: the end of a channel is the power stage's, the lane's and the generator's matter. -/
@[simp] theorem State.endChannel_sys (s : State) (c state start stop : Nat) : (s.endChannel c state start stop).sys = s.sys := by
  simp [State.endChannel, apply_ite State.sys]

@[simp] theorem State.faultChannel_sys (s : State) (c : Nat) : (s.faultChannel c).sys = s.sys := State.endChannel_sys _ _ _ _ _

@[simp] theorem State.sweepGates_sys (s : State) : s.sweepGates.sys = s.sys := by
  unfold State.sweepGates
  split
  · rfl
  · exact foldl_sys (fun s c => by rw [apply_ite State.sys, State.faultChannel_sys, ite_self]) _ _

@[simp] theorem State.recordBreak_sys (s : State) (r : Nat) (pair : Nat × Nat) : (s.recordBreak r pair).sys = s.sys := by
  simp [State.recordBreak, apply_ite State.sys]

@[simp] theorem State.masterPortLost_sys (s : State) (r : Nat) (q : Bool) : (s.masterPortLost r q).sys = s.sys := by
  simp [State.masterPortLost, apply_ite State.sys]

/-! ### Clusters (01 R11, R12) -/

theorem State.cluster_congr {t s : State} (h : t.sys = s.sys) (i : Nat) : t.cluster i = s.cluster i := by
  unfold State.cluster; rw [h]

theorem State.cluster_setCluster_same (s : State) {i : Nat} (c : Cluster) (hi : i < 8) : (s.setCluster i c).cluster i = c := by
  unfold State.setCluster State.cluster
  split
  · next h => exact Four.get_set_same _ _ _ h
  · exact Four.get_set_same _ _ _ (by omega)

theorem State.cluster_setCluster_other (s : State) {i j : Nat} (c : Cluster) (hi : i < 8) (hj : j < 8) (h : j ≠ i) :
    (s.setCluster i c).cluster j = s.cluster j := by
  by_cases hi4 : i < 4 <;> by_cases hj4 : j < 4 <;> simp only [State.setCluster, State.cluster, hi4, hj4, if_true, if_false]
  · exact Four.get_set_other _ _ hi4 hj4 h
  · exact Four.get_set_other _ _ (by omega) (by omega) (by omega)

@[simp] theorem State.dropUnit_sys (s : State) (cluster : Nat) (unit : Option Nat) : (s.dropUnit cluster unit).sys = s.sys := by
  unfold State.dropUnit
  split <;> rfl

/-- A loop lane whose SRAM is sound loses the unit and nothing more. -/
theorem State.unitError_lane (s : State) {k : Nat} (unit : Nat) (hk : 4 ≤ k) :
    s.unitError k unit false = s.setCluster k ((s.cluster k).lose unit) := by
  simp [State.unitError, Nat.not_lt.2 hk]

/-- An estimator cluster whose first unit leaves service is not fenced (R12). -/
theorem State.cluster_unitError_est (s : State) {k unit : Nat} (hk : k < 4)
    (hout : (bitsSet 8 ((s.cluster k).lose unit).unitsOut.toNat).length < 2) :
    (s.unitError k unit false).cluster k = (s.cluster k).lose unit := by
  have hd : (s.dropUnit k (some unit)).cluster k = s.cluster k := State.cluster_congr (State.dropUnit_sys _ _ _) k
  have hset : ∀ c, ((s.dropUnit k (some unit)).setCluster k c).cluster k = c :=
    fun c => State.cluster_setCluster_same _ c (by omega)
  simp [State.unitError, hk, hd, hset, Nat.not_le.2 hout]

theorem exec_correctedError (s : State) {k : Nat} (hk : k < 8) :
    exec (.correctedError k) s = .next (s.setCluster k { s.cluster k with corr := min 0xFFFF ((s.cluster k).corr + 1) }) := by
  show execCorrectedError k s = _
  simp only [execCorrectedError, if_neg (Nat.not_le.2 hk)]

/-- R11: every unit's error is a fault, after what it does to its group. -/
theorem exec_uncorrectableError_cluster (s : State) {k unit : Nat} (hk : k < 8) (hu : unit < if k < 4 then 8 else 2) :
    exec (.uncorrectableError k unit false) s = .next ((s.unitError k unit false).raise Config.unitFault k 1 (u8 unit)) := by
  have hbound : ¬ (14 ≤ k ∨ (if k < 4 then 8 else if k < 12 then 2 else 24) ≤ unit) := by split_ifs at hu ⊢ <;> omega
  show execUncorrectableError k unit false s = _
  unfold execUncorrectableError
  rw [if_neg (show k ≠ 13 by omega), if_neg hbound, if_pos hk]

theorem exec_uncorrectableError_transceiver (s : State) {k unit : Nat} (hk : 8 ≤ k ∧ k < 12) (hu : unit < 2) :
    exec (.uncorrectableError k unit false) s = .next ((s.trxError (k - 8) unit).raise Config.unitFault k 1 (u8 unit)) := by
  have hbound : ¬ (14 ≤ k ∨ (if k < 4 then 8 else if k < 12 then 2 else 24) ≤ unit) := by split_ifs <;> omega
  show execUncorrectableError k unit false s = _
  unfold execUncorrectableError
  rw [if_neg (show k ≠ 13 by omega), if_neg hbound, if_neg (show ¬ k < 8 by omega), if_pos hk.2]

theorem exec_uncorrectableError_field (s : State) {unit : Nat} (hu : unit < 24) :
    exec (.uncorrectableError 12 unit false) s = .next ((s.fieldError unit).raise Config.unitFault 12 1 (u8 unit)) := by
  show execUncorrectableError 12 unit false s = _
  simp [execUncorrectableError, Nat.not_le.2 hu]

theorem State.trxError_trxErr (s : State) (r port : Nat) :
    (s.trxError r port).sys.trxErr = s.sys.trxErr ||| BitVec.ofNat 8 (2 ^ (2 * r + port)) := by simp [State.trxError]

theorem State.fieldError_fieldErr (s : State) (n : Nat) :
    (s.fieldError n).sys.fieldErr = s.sys.fieldErr ||| BitVec.ofNat 24 (2 ^ n) := by
  unfold State.fieldError
  simp only []
  split <;> rfl

theorem State.dout_congr {t s : State} (h : t.fio = s.fio) (n : Nat) : t.dout n = s.dout n := by unfold State.dout; rw [h]

@[simp] theorem State.dout_updDo_same (s : State) (n : Nat) (f : DoSt → DoSt) : (s.updDo n f).dout n = f (s.dout n) :=
  SMap.at_set_same _ _ _ _

/-- Table 1.2: an output whose channel leaves service switches off. -/
theorem State.fieldError_output_off (s : State) {n : Nat} (hn : 16 ≤ n) : ((s.fieldError n).dout (n - 16)).cmd = false := by
  simp [State.fieldError, Nat.not_lt.2 hn]

/-- 18 Table 18.5: a GAP takes the place of the lost chunk. -/
theorem State.fbGap_chunks_length (s : State) (i : Nat) : (s.fbGap i).recd.fb.chunks.length = s.recd.fb.chunks.length := by
  unfold State.fbGap
  simp only []
  split
  · rfl
  · exact List.length_set

/-! ### Crossings (01 R19) -/

@[simp] theorem State.count_inc_same (s : State) (id inst : Nat) : (s.inc id inst).count id inst = min 0xFFFFFFFF (s.count id inst + 1) :=
  SMap.at_set_same _ _ _ _

theorem State.count_congr {t s : State} (h : t.wcp = s.wcp) (id inst : Nat) : t.count id inst = s.count id inst := by unfold State.count; rw [h]

@[simp] theorem State.xingDrop_wcp (s : State) (how : XingUse) (counted : Bool) : (s.xingDrop how counted).wcp = s.wcp := by
  cases how with
  | read => rfl
  | write => rfl
  | fifo n => cases counted <;> rfl

theorem exec_crossingTimeout_served (s : State) (far : Region) (how : XingUse) (hoff : regionOff far s.sys.power = false)
    (hlost : s.regionLost far = false) :
    exec (.crossingTimeout far how) s = .next (((s.xingDrop how true).inc 0x14 0).raise 0x1011 0 1) := by
  show execCrossingTimeout far how s = _
  simp [execCrossingTimeout, hoff, hlost]

theorem exec_crossingTimeout_off (s : State) (far : Region) (how : XingUse) (hoff : regionOff far s.sys.power = true) :
    exec (.crossingTimeout far how) s = .next (s.xingDrop how false) := by
  show execCrossingTimeout far how s = _
  simp [execCrossingTimeout, hoff]

/-! ### Lanes, dies and the role line (01 R16, R17, R20, R29) -/

theorem exec_laneLockstep (s : State) {c : Nat} (hc : c < 4) : exec (.laneLockstep c) s = .next (s.fenceLane c) := by
  show execLaneLockstep c s = _
  simp only [execLaneLockstep, if_neg (Nat.not_le.2 hc)]

/-- R16: a lane that was in service raises 0x1030, at severity 3 where a standby twin can take over. -/
theorem State.fenceLane_waits (s : State) (c : Nat) (h : (s.sys.lane.get c).fenced = false) :
    (s.fenceLane c).waits 0x1030 c (if s.twinEligible then 3 else 2) = true := by
  simp only [State.fenceLane, h, Bool.false_eq_true, if_false]
  exact State.raise_waits _ _ _ _ _ (by split <;> decide)

/-- R17, R375: drive ends with the role line low and the end remembered. -/
@[simp] theorem State.endDrive_roleOut (s : State) : s.endDrive.sys.roleOut = false := by simp [State.endDrive]
@[simp] theorem State.endDrive_driveEnded (s : State) : s.endDrive.sys.driveEnded = true := by simp [State.endDrive]

@[simp] theorem State.afterReset_sys (s : State) (failed lost : Bool) : (s.afterReset failed lost).sys = s.sys := by
  simp [State.afterReset, apply_ite State.sys]

/-- R20, R68: the control SoC starts again from what the AO logic keeps, with the cause marked. -/
@[simp] theorem State.resetSoc_sys (s : State) (cause : Nat) : (s.resetSoc cause).sys = s.sys.restart cause := State.afterReset_sys _ _ _

theorem State.dieFault_waits (s : State) (d : Die) : (s.dieFault d).waits 0x1012 (dieCode d) (if d = .nonVolatile then 1 else 3) = true :=
  State.raise_waits _ _ _ _ _ (by split <;> decide)

@[simp] theorem State.dieFault_sys (s : State) (d : Die) : (s.dieFault d).sys = s.sys := State.raise_sys _ _ _ _ _

theorem State.loseDie_diesLost (s : State) (d : Die) : (s.loseDie d).sys.diesLost.getLsbD (dieCode d) = true := by
  cases d <;> simp [State.loseDie, dieCode]

theorem State.loseDie_resetCause (s : State) (d : Die) : (s.loseDie d).sys.resetCause.getLsbD 5 = true := by simp [State.loseDie]

/-- Table 1.6: what a die's reset does to the module before its report. -/
def State.dieGone (s : State) (d : Die) : State :=
  match d with
  | .controlSoc => s.endDrive.resetSoc 5
  | .turnip => ((s.loseDie d).openAll).endDrive
  | .mixedSignal => s.loseDie d
  | .field => (s.loseDie d).loseField
  | .nonVolatile => s.loseDie d
  | .memory => (s.loseDie d).loseMemory

/-- R20: every die's reset is reported by 0x1012. -/
theorem exec_dieReset (s : State) (d : Die) : exec (.dieReset d) s = .next ((s.dieGone d).dieFault d) := by cases d <;> rfl

/-- The arbitration that a conflict starts leaves the raised faults standing (R386). -/
theorem State.arbitration_waits (s : State) (mismatch : Bool) (op cause mask : Nat) (rest : Bytes) (code inst sev : Nat) :
    ((s.startArb mismatch).sendArb op cause mask rest).waits code inst sev = s.waits code inst sev := rfl

theorem State.arbitration_sys (s : State) (mismatch : Bool) (op cause mask : Nat) (rest : Bytes) :
    ((s.startArb mismatch).sendArb op cause mask rest).sys = s.sys := rfl

/-! ### The obligation -/

/-- The die's reset with the role line it leaves and the marks it makes (R20, Table 1.6). -/
theorem dieReset_reports (s : State) (d : Die) : ∃ t, exec (.dieReset d) s = .next t
    ∧ t.waits 0x1012 (dieCode d) (if d = .nonVolatile then 1 else 3) = true
    ∧ (d = .controlSoc → t.sys.lifecycle = .boot ∧ t.sys.resetCause.getLsbD 5 = true ∧ t.sys.roleOut = false)
    ∧ (d = .turnip → t.sys.roleOut = false)
    ∧ (d = .mixedSignal ∨ d = .nonVolatile → t.sys.diesLost.getLsbD (dieCode d) = true ∧ t.sys.resetCause.getLsbD 5 = true) := by
  refine ⟨_, exec_dieReset s d, State.dieFault_waits _ d, ?soc, ?turnip, ?passive⟩
  case soc =>
    rintro rfl
    simp [State.dieGone, SysSt.restart]
  case turnip =>
    rintro rfl
    simp [State.dieGone]
  case passive =>
    rintro (rfl | rfl)
    all_goals exact ⟨State.loseDie_diesLost s _, State.loseDie_resetCause s _⟩

/-- Settles O13: each command's next state is named by its own lemma, and each clause reads off what that state's operations leave. -/
theorem unitErrorsComplete : Obligations.UnitErrorsComplete := by
  unfold Obligations.UnitErrorsComplete
  refine ⟨?corrected, ?lane, ?est, ?lockstep, ?served, exec_crossingTimeout_off, ?transceiver, ?field, ?buffer, dieReset_reports, ?oscillator, ?conflict⟩
  case corrected =>
    intro s k hk
    refine ⟨_, exec_correctedError s hk, State.cluster_setCluster_same s _ hk, fun j hj hjk => ?_⟩
    exact State.cluster_setCluster_other s _ hk hj hjk
  case lane =>
    intro s k u hk hk8 hu
    refine ⟨_, exec_uncorrectableError_cluster s hk8 (by rwa [if_neg (Nat.not_lt.2 hk)]), ?_, fun j hj hjk => ?_⟩
    · rw [State.unitError_lane s u hk, State.cluster_congr (State.raise_sys _ _ _ _ _), State.cluster_setCluster_same s _ hk8]
    · rw [State.unitError_lane s u hk, State.cluster_congr (State.raise_sys _ _ _ _ _), State.cluster_setCluster_other s _ hk8 hj hjk]
  case est =>
    intro s k u hk hu hout
    refine ⟨_, exec_uncorrectableError_cluster s (by omega) (by rwa [if_pos hk]), ?_⟩
    rw [State.cluster_congr (State.raise_sys _ _ _ _ _), State.cluster_unitError_est s hk hout]
  case lockstep =>
    exact fun s c hc hf => ⟨_, exec_laneLockstep s hc, State.fenceLane_waits s c hf⟩
  case served =>
    intro s far how hoff hlost
    refine ⟨_, exec_crossingTimeout_served s far how hoff hlost, ?_, State.raise_waits _ _ _ _ _ (by decide), ?_⟩
    · rw [State.count_congr (State.raise_wcp _ _ _ _ (by decide)), State.count_inc_same, State.count_congr (State.xingDrop_wcp _ _ _)]
    · rintro rfl
      simp [State.xingDrop]
  case transceiver =>
    intro s k u hk hu
    have hrange : 8 ≤ k ∧ k < 12 := by simp only [List.mem_cons, List.not_mem_nil, or_false] at hk; omega
    refine ⟨_, exec_uncorrectableError_transceiver s hrange hu, ?_⟩
    rw [State.raise_sys, State.trxError_trxErr]
  case field =>
    intro s u hu
    refine ⟨_, exec_uncorrectableError_field s hu, ?_, fun h16 => ?_⟩
    · rw [State.raise_sys, State.fieldError_fieldErr]
    · rw [State.dout_congr (State.raise_fio _ _ _ _ _), State.fieldError_output_off s h16]
  case buffer =>
    intro s u
    refine ⟨(s.fbGap u).raise Config.unitFault 13 1 (u8 u), rfl, State.raise_waits _ _ _ _ _ (by decide), ?_⟩
    rw [State.raise_recd _ _ _ _ (by decide), State.fbGap_chunks_length]
  case oscillator =>
    refine fun s => ⟨_, rfl, ?_, ?_, State.raise_waits _ _ _ _ _ (by decide)⟩
    · rw [State.raise_sys, State.endDrive_roleOut]
    · rw [State.raise_sys, State.endDrive_driveEnded]
  case conflict =>
    refine fun s => ⟨_, rfl, ?_, ?_, ?_⟩
    · rw [State.arbitration_sys, State.raise_sys, State.endDrive_roleOut]
    · rw [State.arbitration_sys, State.raise_sys, State.endDrive_driveEnded]
    · rw [State.arbitration_waits]
      exact State.raise_waits _ _ _ _ _ (by decide)

end Sys2Proof.Machine
end

section
/-! SUPPORT. The view of chapters 1 to 3 that the role line's invariant speaks of (SysSt.role), the rules that take it through updates, folds and
checked requests, and Keeps: what a command that keeps the invariant is. -/
namespace Sys2Proof.Machine
open Sys2Proof

/-- What R22 and R38 speak of: the role line, the lifecycle state with its mirror, and the supply. -/
def SysSt.role (x : SysSt) : Bool × Lifecycle × Lifecycle × Bool := (x.roleOut, x.lifecycle, x.mirror, x.vinLow)

/-- The role line is held as State.Inv says. -/
def RoleHeld (r : Bool × Lifecycle × Lifecycle × Bool) : Prop := r.1 = true → r.2.1 = .active ∧ r.2.2.1 = .active ∧ r.2.2.2 = false

@[simp] theorem State.inv_iff {s : State} : s.Inv ↔ RoleHeld s.sys.role := ⟨id, id⟩

theorem State.Inv.role {s : State} (h : s.Inv) : RoleHeld s.sys.role := h

theorem RoleHeld.inv {s : State} (h : RoleHeld s.sys.role) : s.Inv := h

theorem State.Inv.of_role {s t : State} (h : s.Inv) (hrole : t.sys.role = s.sys.role) : t.Inv := by rwa [State.inv_iff, hrole]

/-- An update of any other fields of chapters 1 to 3 leaves the view alone. -/
@[simp] theorem SysSt.role_update (x : SysSt) (power target targetOp aborted alone riseActive preparing prepSince est lane trxErr fieldErr
    xingAnswer xingDropped roleIn conflict driveEnded oscFault diesLost slotId slotIdn slot mated mateOpen vinWarn aoLost carrierId eeprom rtc
    resetCause bootAt startPhase holdReg holdOn checkVisit lastVisit awaitP0 twinP0 leftState imageValid imageConfirmed selfTest notActive judged
    negSince bootHold) :
    SysSt.role ⟨x.lifecycle, x.mirror, power, target, targetOp, aborted, alone, riseActive, preparing, prepSince, est, lane, trxErr, fieldErr,
      xingAnswer, xingDropped, x.roleOut, roleIn, conflict, driveEnded, oscFault, diesLost, slotId, slotIdn, slot, mated, mateOpen, vinWarn,
      x.vinLow, aoLost, carrierId, eeprom, rtc, resetCause, bootAt, startPhase, holdReg, holdOn, checkVisit, lastVisit, awaitP0, twinP0, leftState,
      imageValid, imageConfirmed, selfTest, notActive, judged, negSince, bootHold⟩ = x.role := rfl

@[simp] theorem State.sys_ite (c : Prop) [Decidable c] (t u : State) : (if c then t else u).sys = if c then t.sys else u.sys := apply_ite _ _ _ _
@[simp] theorem SysSt.role_ite (c : Prop) [Decidable c] (x y : SysSt) : (if c then x else y).role = if c then x.role else y.role := apply_ite _ _ _ _

@[simp] theorem roleHeld_ite (c : Prop) [Decidable c] (x y : Bool × Lifecycle × Lifecycle × Bool) :
    RoleHeld (if c then x else y) ↔ if c then RoleHeld x else RoleHeld y := by split <;> rfl

/-- A line that is not asserted is held. -/
@[simp] theorem roleHeld_low (x : Lifecycle × Lifecycle × Bool) : RoleHeld (false, x) := nofun

/-- Two states agree on chapters 1 to 3, or on the view. The conditions of the lemmas on folds and on functions that take a meaning are stated by
these, which `simp` unfolds by the two lemmas that follow. -/
def SysKept (t s : State) : Prop := t.sys = s.sys
def RoleKept (t s : State) : Prop := t.sys.role = s.sys.role

@[simp] theorem sysKept_iff {t s : State} : SysKept t s ↔ t.sys = s.sys := ⟨id, id⟩
@[simp] theorem roleKept_iff {t s : State} : RoleKept t s ↔ t.sys.role = s.sys.role := ⟨id, id⟩

theorem Same.role_eq {t s : State} (h : Same t s) : t.sys.role = s.sys.role := congrArg _ h.sys_eq

@[simp] theorem State.foldl_sys {α : Type} {f : State → α → State} (hf : ∀ s a, SysKept (f s a) s) (l : List α) (s : State) :
    (l.foldl f s).sys = s.sys := Machine.foldl_sys hf l s

@[simp] theorem State.foldl_role {α : Type} {f : State → α → State} (hf : ∀ s a, RoleKept (f s a) s) (l : List α) (s : State) :
    (l.foldl f s).sys.role = s.sys.role := by
  induction l generalizing s with
  | nil => rfl
  | cons a l ih => exact (ih (f s a)).trans (hf s a)

/-- A request whose meaning leaves the view alone does so whatever the checks decide. -/
@[simp] theorem State.wcpRun_role (s : State) (op : Nat) (h : Hdr) (pl : Bytes) (energise : Bool) (blocks : List Nat) (body : State → State)
    (hb : ∀ u, RoleKept (body u) u) : (s.wcpRun op h pl energise blocks body).sys.role = s.sys.role := by
  obtain g | ⟨u, hu, g | g⟩ := State.wcpRun_cases s op h pl energise blocks body
  · exact g.role_eq
  · rw [g]; exact (hb u).trans hu.role_eq
  · rw [g]; exact ((State.guestOut_same _).role_eq.trans (hb u)).trans hu.role_eq

@[simp] theorem State.wcpReq_role (s : State) (op : Nat) (h : Hdr) (pl : Bytes) (body : State → State)
    (hb : ∀ u, RoleKept (body u) u) : (s.wcpReq op h pl body).sys.role = s.sys.role := State.wcpRun_role s op h pl false [] body hb

theorem State.wcpRun_held (s : State) (op : Nat) (h : Hdr) (pl : Bytes) (energise : Bool) (blocks : List Nat) (body : State → State)
    (hb : ∀ u, u.Inv → (body u).Inv) (hs : s.Inv) : (s.wcpRun op h pl energise blocks body).Inv := by
  obtain g | ⟨u, hu, g | g⟩ := State.wcpRun_cases s op h pl energise blocks body
  · exact hs.of_role g.role_eq
  · rw [g]; exact hb u (hs.of_role hu.role_eq)
  · rw [g]; exact (hb u (hs.of_role hu.role_eq)).of_role (State.guestOut_same _).role_eq

theorem State.wcpReq_held (s : State) (op : Nat) (h : Hdr) (pl : Bytes) (body : State → State)
    (hb : ∀ u, u.Inv → (body u).Inv) (hs : s.Inv) : (s.wcpReq op h pl body).Inv :=
  State.wcpRun_held s op h pl false [] body hb hs

theorem RoleHeld.of_low {x : SysSt} (h : x.roleOut = false) : RoleHeld x.role := fun hout => absurd hout (by simp [SysSt.role, h])

theorem State.Inv.of_low {s : State} (h : s.sys.roleOut = false) : s.Inv := RoleHeld.of_low h

theorem RoleHeld.low_of_vinLow {x : SysSt} (h : RoleHeld x.role) (hvin : x.vinLow = true) : x.roleOut = false :=
  Bool.eq_false_iff.2 fun hout => absurd hvin (by simp [show x.vinLow = false from (h hout).2.2])

theorem State.foldl_held {α : Type} {f : State → α → State} (hf : ∀ s a, s.Inv → (f s a).Inv) (l : List α) (s : State)
    (h : s.Inv) : (l.foldl f s).Inv := by
  induction l generalizing s with
  | nil => exact h
  | cons a l ih => exact ih (f s a) (hf s a h)

/-- What a command leaves keeps the invariant of the role line. -/
def Keeps (s : State) (r : Result) : Prop := ∀ t, r = .next t → s.Inv → t.Inv

theorem Keeps.next {s t : State} (h : s.Inv → t.Inv) : Keeps s (.next t) := by
  rintro _ ⟨rfl⟩
  exact h

theorem Keeps.of_role {s t : State} (h : t.sys.role = s.sys.role) : Keeps s (.next t) := .next fun hs => hs.of_role h

end Sys2Proof.Machine
end

section
/-! SUPPORT. What the operations leave of chapters 1 to 3: all of it (the lemmas named _sys), or the view the role line's invariant speaks of (those
named _role). The operations that do write the view stand in the section after this one. In the order of the model's files. -/
namespace Sys2Proof.Machine
open Sys2Proof

/-! ### Shared operations -/

@[simp] theorem State.advanceTo_role (s : State) (t : Nat) : (s.advanceTo t).sys.role = s.sys.role := by simp [State.advanceTo]
@[simp] theorem State.post_sys (s : State) (p : Packet) : (s.post p).sys = s.sys := by simp [State.post]

@[simp] theorem State.sendBatch_sys (s : State) (id : Nat) (b : Batch) : (s.sendBatch id b).sys = s.sys := by
  unfold State.sendBatch
  split <;> simp

@[simp] theorem State.closeBatch_sys (s : State) (id : Nat) : (s.closeBatch id).sys = s.sys := by
  unfold State.closeBatch
  split <;> simp

@[simp] theorem State.deliver_sys (s : State) (e : Event) : (s.deliver e).sys = s.sys := by simp [State.deliver]
@[simp] theorem State.forget_sys (s : State) (seq : Nat) : (s.forget seq).sys = s.sys := by simp [State.forget]
@[simp] theorem State.enqueueRec_sys (s : State) (r : Rec) : (s.enqueueRec r).sys = s.sys := by simp [State.enqueueRec]
@[simp] theorem State.fbPush_sys (s : State) (type time : Nat) (payload : Bytes) : (s.fbPush type time payload).sys = s.sys := by simp [State.fbPush]
@[simp] theorem State.fbEvent_sys (s : State) (kind : Nat) (data : Bytes) : (s.fbEvent kind data).sys = s.sys := by simp [State.fbEvent]
@[simp] theorem State.fbPeriod_sys (s : State) (k : Nat) (r : Bytes) : (s.fbPeriod k r).sys = s.sys := by simp [State.fbPeriod]
@[simp] theorem State.fbTrigger_sys (s : State) (seq code : Nat) : (s.fbTrigger seq code).sys = s.sys := by simp [State.fbTrigger]
@[simp] theorem State.recordPlain_sys (s : State) (f : FRec) : (s.recordPlain f).sys = s.sys := by simp [State.recordPlain]
@[simp] theorem State.record_sys (s : State) (f : FRec) : (s.record f).sys = s.sys := by simp [State.record]
@[simp] theorem State.raiseWith_sys (s : State) (code inst sev : Nat) (data : Bytes) (parent : Option (Nat × Nat)) (strings : Option (BitVec 4)) :
    (s.raiseWith code inst sev data parent strings).sys = s.sys := (State.raiseWith_same s code inst sev data parent strings).sys_eq
@[simp] theorem State.completeWith_sys (s : State) (op : OpRef) (status : Nat) (result extra : Bytes) :
    (s.completeWith op status result extra).sys = s.sys := by simp [State.completeWith]
@[simp] theorem State.bistRunEnd_sys (s : State) (r : BistRun) : (s.bistRunEnd r).sys = s.sys := by simp [State.bistRunEnd]
@[simp] theorem State.bistEnd_sys (s : State) (code outcome count : Nat) (startup preempted : Bool) :
    (s.bistEnd code outcome count startup preempted).sys = s.sys := by simp [State.bistEnd]
@[simp] theorem State.needTest_role (s : State) (code : Nat) : (s.needTest code).sys.role = s.sys.role := by simp [State.needTest]
@[simp] theorem State.passBlock_role (s : State) (code : Nat) : (s.passBlock code).sys.role = s.sys.role := by simp [State.passBlock]
@[simp] theorem State.preempt_role (s : State) : s.preempt.sys.role = s.sys.role := by simp [State.preempt]
@[simp] theorem State.fieldOff_sys (s : State) : s.fieldOff.sys = s.sys := by simp [State.fieldOff]
@[simp] theorem State.canClear_sys (s : State) (c : Nat) : (s.canClear c).sys = s.sys := by simp [State.canClear]

/-! ### Packets -/

@[simp] theorem State.guestIn_sys (s : State) (op : Nat) (h : Hdr) : (s.guestIn op h).sys = s.sys := by simp [State.guestIn]
@[simp] theorem State.guestOut_sys (s : State) : s.guestOut.sys = s.sys := by simp [State.guestOut]
@[simp] theorem State.failAll_sys (s : State) (op : Nat) (h : Hdr) (pl : Bytes) (status detail aux : Nat) :
    (s.failAll op h pl status detail aux).sys = s.sys := by simp [State.failAll]
@[simp] theorem State.accept_sys (s : State) (h : Hdr) : (s.accept h).sys = s.sys := by simp [State.accept]
@[simp] theorem State.authFail_sys (s : State) : s.authFail.sys = s.sys := (State.authFail_same s).sys_eq
@[simp] theorem State.dequeue_sys (s : State) (op : Nat) (h : Hdr) : (s.dequeue op h).sys = s.sys := by simp [State.dequeue]
@[simp] theorem State.forwardReq_sys (s : State) (op : Nat) (h : Hdr) (pl : Bytes) : (s.forwardReq op h pl).sys = s.sys := by simp [State.forwardReq]

@[simp] theorem State.refuse_sys (s : State) (op : Nat) (h : Hdr) (pl : Bytes) (v : Verdict) : (s.refuse op h pl v).sys = s.sys := by
  unfold State.refuse
  split <;> simp

@[simp] theorem State.fbCommand_sys (s : State) (op : Nat) (h : Hdr) (pl : Bytes) : (s.fbCommand op h pl).sys = s.sys := by simp [State.fbCommand]
@[simp] theorem State.enqueue_sys (s : State) (w : Waiting) : (s.enqueue w).sys = s.sys := by simp [State.enqueue]

@[simp] theorem State.await_sys (s : State) (op : Nat) (h : Hdr) (pl : Bytes) : (s.await op h pl).sys = s.sys := by
  simp only [State.await]
  (repeat' split) <;> simp

/-! ### Blocks of parameters -/

@[simp] theorem State.applyValue_sys (s : State) (v : Shadow) : (s.applyValue v).sys = s.sys := by simp [State.applyValue]
@[simp] theorem State.applyCommitted_sys (s : State) (v : Shadow) : (s.applyCommitted v).sys = s.sys := by simp [State.applyCommitted]
@[simp] theorem State.applyWaiting_sys (s : State) (b : Block) : (s.applyWaiting b).sys = s.sys := by simp [State.applyWaiting]
@[simp] theorem State.applyTwin_sys (s : State) (b : Block) : (s.applyTwin b).sys = s.sys := by simp [State.applyTwin]

@[simp] theorem State.boundary_sys (s : State) (b : Block) : (s.boundary b).sys = s.sys := by
  simp only [State.boundary]
  split <;> simp

/-! ### Flags and copies -/

@[simp] theorem State.setCluster_role (s : State) (i : Nat) (c : Cluster) : (s.setCluster i c).sys.role = s.sys.role := by simp [State.setCluster]

@[simp] theorem State.settle_sys (s : State) : s.settle.sys = s.sys := by
  unfold State.settle
  split <;> simp

@[simp] theorem State.settleTwin_sys (s : State) : s.settleTwin.sys = s.sys := by simp [State.settleTwin]

@[simp] theorem State.place_sys (s : State) (k : CopyPart) : (s.place k).sys = s.sys := by
  unfold State.place
  split <;> simp

@[simp] theorem State.copyValues_sys (s : State) : s.copyValues.sys = s.sys := by simp [State.copyValues]

/-! ### Ring traffic -/

@[simp] theorem State.sendBoth_sys (s : State) (r type : Nat) (data : Bytes) : (s.sendBoth r type data).sys = s.sys := by simp [State.sendBoth]
@[simp] theorem State.syncOut_sys (s : State) (r flags fine depart : Nat) : (s.syncOut r flags fine depart).sys = s.sys := by simp [State.syncOut]

@[simp] theorem State.hostCmd_sys (s : State) (r node type : Nat) (data : Bytes) (h : Hdr) (arg : Nat) (refuse : State → State)
    (hr : ∀ u, SysKept (refuse u) u) : (s.hostCmd r node type data h arg refuse).sys = s.sys := by
  unfold State.hostCmd
  split
  · exact State.sendCmd_sys _ _ _ _ _ _ _
  · exact hr s

@[simp] theorem State.broadcast_sys (s : State) (r type : Nat) (data : Bytes) : (s.broadcast r type data).sys = s.sys := by simp [State.broadcast]

/-! ### Parameters -/

@[simp] theorem State.dropWaiting_sys (s : State) (v : Shadow) : (s.dropWaiting v).sys = s.sys := by simp [State.dropWaiting]
@[simp] theorem State.acceptValue_sys (s : State) (v : Shadow) : (s.acceptValue v).sys = s.sys := by simp [State.acceptValue]
@[simp] theorem State.clearUnitErr_role (s : State) (inst : Nat) (v : Nat) : (s.clearUnitErr inst v).sys.role = s.sys.role :=
  by simp [State.clearUnitErr]
@[simp] theorem State.unfence_role (s : State) (inst : Nat) : (s.unfence inst).sys.role = s.sys.role := by simp [State.unfence]
@[simp] theorem State.clearCause_role (s : State) (v : Nat) : (s.clearCause v).sys.role = s.sys.role := by simp [State.clearCause]
@[simp] theorem State.shadowSet_sys (s : State) (sid : Nat) (v : Shadow) : (s.shadowSet sid v).sys = s.sys := by simp [State.shadowSet]
@[simp] theorem State.wrote_sys (s : State) : s.wrote.sys = s.sys := by simp [State.wrote]

@[simp] theorem State.writeEntry_role (s : State) (h : Hdr) (e : SetEntry) : (s.writeEntry h e).sys.role = s.sys.role := by
  simp only [State.writeEntry]
  split <;> simp

@[simp] theorem State.entriesReply_sys (s : State) (op : Nat) (h : Hdr) (status : Nat) (bad : Nat × Nat × Nat) (n : Nat) (body : Bytes) :
    (s.entriesReply op h status bad n body).sys = s.sys := by simp [State.entriesReply]

@[simp] theorem State.setEntries_role (s : State) (h : Hdr) (es : List SetEntry) : (s.setEntries h es).sys.role = s.sys.role := by
  simp only [State.setEntries]
  split <;> simp

@[simp] theorem State.storeParams_sys (s : State) : s.storeParams.sys = s.sys := by simp [State.storeParams]

@[simp] theorem State.beginCommit_sys (s : State) (h : Hdr) : (s.beginCommit h).sys = s.sys := by
  unfold State.beginCommit
  (repeat' split) <;> simp

@[simp] theorem State.nextCommit_sys (s : State) (l : List Hdr) : (s.nextCommit l).sys = s.sys := by
  induction l generalizing s with
  | nil => rfl
  | cons h t ih => simp [State.nextCommit, ih]

@[simp] theorem State.snapRing_sys (s : State) (r slot instant : Nat) (rode : Bool) : (s.snapRing r slot instant rode).sys = s.sys :=
  by simp [State.snapRing]
@[simp] theorem State.sendCounters_sys (s : State) (num : Nat) : (s.sendCounters num).sys = s.sys := by simp [State.sendCounters]

/-! ### Lanes -/

@[simp] theorem State.keepRecords_sys (s : State) : s.keepRecords.sys = s.sys := by simp [State.keepRecords]

/-! ### Profiles and axes -/

@[simp] theorem State.updGen_sys (s : State) (g : Nat) (f : GenSt → GenSt) : (s.updGen g f).sys = s.sys := by simp [State.updGen]
@[simp] theorem State.tickGen_sys (s : State) (g : Nat) (l : Lim) : (s.tickGen g l).sys = s.sys := by simp [State.tickGen]
@[simp] theorem State.retarget_sys (s : State) (g : Nat) (tgt : Int) : (s.retarget g tgt).sys = s.sys := by simp [State.retarget]
@[simp] theorem State.estop_sys (s : State) (g : Nat) : (s.estop g).sys = s.sys := by simp [State.estop]
@[simp] theorem State.tickRef_sys (s : State) (c : Nat) : (s.tickRef c).sys = s.sys := by simp [State.tickRef]
@[simp] theorem State.refTick_sys (s : State) (c : Nat) : (s.refTick c).sys = s.sys := by simp [State.refTick]
@[simp] theorem State.energise_sys (s : State) (a : Nat) : (s.energise a).sys = s.sys := by simp [State.energise]

@[simp] theorem State.endRuns_sys (s : State) (a : Nat) : (s.endRuns a).sys = s.sys := by
  simp only [State.endRuns]
  (repeat' split) <;> simp

@[simp] theorem State.deenergise_sys (s : State) (a : Nat) : (s.deenergise a).sys = s.sys := by simp [State.deenergise]

@[simp] theorem State.stallAct_sys (s : State) (a : Nat) : (s.stallAct a).sys = s.sys := by
  unfold State.stallAct
  split <;> simp

@[simp] theorem State.stall_sys (s : State) (a : Nat) : (s.stall a).sys = s.sys := by
  simp only [State.stall]
  (repeat' split) <;> simp

@[simp] theorem State.homeEvent_sys (s : State) (a : Nat) (r : HomeRun) : (s.homeEvent a r).sys = s.sys := by simp [State.homeEvent]

@[simp] theorem State.reading_sys (s : State) (a : Nat) (ratio : ℚ) : (s.reading a ratio).sys = s.sys := by
  simp only [State.reading]
  (repeat' split) <;> simp

@[simp] theorem State.homeStep_sys (s : State) (a : Nat) : (s.homeStep a).sys = s.sys := by
  unfold State.homeStep
  split <;> simp

@[simp] theorem State.calStep_sys (s : State) (a : Nat) : (s.calStep a).sys = s.sys := by
  unfold State.calStep
  (repeat' split) <;> simp

@[simp] theorem State.fireEnergise_sys (s : State) (a : Nat) : (s.fireEnergise a).sys = s.sys := by simp [State.fireEnergise]
@[simp] theorem State.axisTick_sys (s : State) (a : Nat) : (s.axisTick a).sys = s.sys := by simp [State.axisTick]
@[simp] theorem State.stopAxes_sys (s : State) : s.stopAxes.sys = s.sys := by simp [State.stopAxes]
@[simp] theorem State.fireAxis_sys (s : State) (a : Nat) : (s.fireAxis a).sys = s.sys := by simp [State.fireAxis]
@[simp] theorem State.sf4_sys (s : State) : s.sf4.sys = s.sys := by simp [State.sf4]
@[simp] theorem State.sf4Clear_sys (s : State) : s.sf4Clear.sys = s.sys := by simp [State.sf4Clear]

/-! ### Sessions -/

@[simp] theorem State.takeRequest_sys (s : State) (h : Hdr) (op : Nat) (pl : Bytes) : (s.takeRequest h op pl).sys = s.sys := by
  unfold State.takeRequest
  (repeat' split) <;> simp

@[simp] theorem State.assemble0_sys (s : State) (h : Hdr) (op : Nat) (pl : Bytes) : (s.assemble0 h op pl).sys = s.sys := by
  simp only [State.assemble0]
  split <;> simp

@[simp] theorem State.assemble_sys (s : State) (h : Hdr) (op : Nat) (pl : Bytes) : (s.assemble h op pl).sys = s.sys := by
  unfold State.assemble
  (repeat' split) <;> simp

@[simp] theorem State.receive_sys (s : State) (t : Transport) (peer : Nat) (bs : Bytes) : (s.receive t peer bs).sys = s.sys := by
  simp only [State.receive]
  (repeat' split) <;> simp

@[simp] theorem State.datagram_sys (s : State) (t : Transport) (peer key offset : Nat) (more : Bool) (bytes : Bytes) :
    (s.datagram t peer key offset more bytes).sys = s.sys := by
  simp only [State.datagram]
  (repeat' split) <;> simp

/-! ### Networks and time -/

@[simp] theorem State.ethOut_sys (s : State) (p kind : Nat) (data : Bytes) : (s.ethOut p kind data).sys = s.sys := by simp [State.ethOut]
@[simp] theorem State.dropFrame_sys (s : State) (f : EthIn) : (s.dropFrame f).sys = s.sys := by simp [State.dropFrame]

@[simp] theorem State.ethIn_sys (s : State) (f : EthIn) (act : State → State) (ha : ∀ u, SysKept (act u) u) : (s.ethIn f act).sys = s.sys := by
  have ha : ∀ u, (act u).sys = u.sys := ha
  simp [State.ethIn, ha]

@[simp] theorem State.plantOut_sys (s : State) (kind : Nat) (data : Bytes) : (s.plantOut kind data).sys = s.sys := by simp [State.plantOut]
@[simp] theorem State.wrongLan_sys (s : State) : s.wrongLan.sys = s.sys := by simp [State.wrongLan]
@[simp] theorem State.steer_sys (s : State) (y : ℚ) : (s.steer y).sys = s.sys := by simp [State.steer]
@[simp] theorem State.servoLock_sys (s : State) : s.servoLock.sys = s.sys := by simp [State.servoLock]
@[simp] theorem State.servoHold_sys (s : State) : s.servoHold.sys = s.sys := by simp [State.servoHold]

@[simp] theorem State.ptpIn_sys (s : State) (f : EthIn) (m : PtpHdr) (kinds : List Nat) (act : State → State) (ha : ∀ u, SysKept (act u) u) :
    (s.ptpIn f m kinds act).sys = s.sys := by
  have ha : ∀ u, (act u).sys = u.sys := ha
  simp [State.ptpIn, ha]

@[simp] theorem State.reselect_sys (s : State) : s.reselect.sys = s.sys := by simp [State.reselect]
@[simp] theorem State.lostSync_sys (s : State) : s.lostSync.sys = s.sys := by simp [State.lostSync]
@[simp] theorem State.announceStep_sys (s : State) (d : Int) : (s.announceStep d).sys = s.sys := by simp [State.announceStep]
@[simp] theorem State.servoRun_sys (s : State) (o : Int) (interval : Nat) (good : Nat) : (s.servoRun o interval good).sys = s.sys :=
  by simp [State.servoRun]
@[simp] theorem State.jumpSync_sys (s : State) (o : Int) : (s.jumpSync o).sys = s.sys := by simp [State.jumpSync]

@[simp] theorem State.jumpOver_sys (s : State) : s.jumpOver.sys = s.sys := by
  simp only [State.jumpOver]
  split <;> simp

@[simp] theorem State.servoSync_sys (s : State) (o : Int) (interval good : Nat) : (s.servoSync o interval good).sys = s.sys := by
  simp only [State.servoSync]
  (repeat' split) <;> simp

@[simp] theorem State.portDiff_sys (s : State) (port : Nat) (o : Int) : (s.portDiff port o).sys = s.sys := by
  simp only [State.portDiff]
  (repeat' split) <;> simp

@[simp] theorem State.takeDelay_sys (s : State) (port : Nat) (d : Int) : (s.takeDelay port d).sys = s.sys := by simp [State.takeDelay]
@[simp] theorem State.steerTwin_sys (s : State) (d : Int) : (s.steerTwin d).sys = s.sys := by simp [State.steerTwin]
@[simp] theorem State.servoTakeover_sys (s : State) : s.servoTakeover.sys = s.sys := by simp [State.servoTakeover]
@[simp] theorem State.netOff_sys (s : State) : s.netOff.sys = s.sys := by simp [State.netOff]
@[simp] theorem State.queueLaunch_sys (s : State) (p : Nat) (f : LaunchFrame) : (s.queueLaunch p f).sys = s.sys := by simp [State.queueLaunch]
@[simp] theorem State.sendWaiting_sys (s : State) (p : Nat) : (s.sendWaiting p).sys = s.sys := by simp [State.sendWaiting]

@[simp] theorem State.launchLate_sys (s : State) (port : Nat) : (s.launchLate port).sys = s.sys := by
  simp only [State.launchLate]
  (repeat' split) <;> simp

@[simp] theorem State.shiftTimes_role (s : State) (d : Int) : (s.shiftTimes d).sys.role = s.sys.role := by simp [State.shiftTimes]
@[simp] theorem State.flushPast_sys (s : State) (p : Nat) : (s.flushPast p).sys = s.sys := by simp [State.flushPast]

/-! ### The estimator -/

@[simp] theorem State.pushAt_sys (s : State) (c t : Nat) (x : Int) : (s.pushAt c t x).sys = s.sys := by simp [State.pushAt]
@[simp] theorem State.pushSample_sys (s : State) (c : Nat) (x : Int) : (s.pushSample c x).sys = s.sys := by simp [State.pushSample]
@[simp] theorem State.raiseCell_sys (s : State) (code k sev : Nat) (rest : Bytes) : (s.raiseCell code k sev rest).sys = s.sys :=
  by simp [State.raiseCell]

@[simp] theorem State.cellCycle_sys (s : State) (k u0 u1 : Nat) (qs : ℚ) (sweeps : List SweepRec) (upd : Option SweepRec) :
    (s.cellCycle k u0 u1 qs sweeps upd).sys = s.sys := by
  unfold State.cellCycle
  extract_lets r node e c0 c1 m temp ip seen qbal dtS q cap lost
  have hseen : seen.sys = s.sys := by simp [seen]
  split
  extract_lets
  split
  · simp [lost, hseen]
  · split
    split
    simp +zetaDelta only [State.sys_ite, State.raiseCell_sys, State.inc_sys, ite_self]

@[simp] theorem State.ringCycle_sys (s : State) (r : Nat) : (s.ringCycle r).sys = s.sys := by simp [State.ringCycle]

@[simp] theorem State.takePart_sys (s : State) (r part : Nat) (b : Bytes) : (s.takePart r part b).sys = s.sys := by
  unfold State.takePart
  split <;> simp

@[simp] theorem State.dropExchange_sys (s : State) (r : Nat) : (s.dropExchange r).sys = s.sys := by simp [State.dropExchange]

@[simp] theorem State.takeEstCopy_sys (s : State) : s.takeEstCopy.sys = s.sys := by
  simp only [State.takeEstCopy]
  (repeat' split) <;> simp

@[simp] theorem State.fuse_sys (s : State) (r : Nat) : (s.fuse r).sys = s.sys := by simp [State.fuse]
@[simp] theorem State.stringFigures_sys (s : State) (r : Nat) : (s.stringFigures r).sys = s.sys := by simp [State.stringFigures]
@[simp] theorem State.attributeCell_sys (s : State) (k : Nat) : (s.attributeCell k).sys = s.sys := by simp [State.attributeCell]
@[simp] theorem State.anchorRequest_sys (s : State) (r : Nat) : (s.anchorRequest r).sys = s.sys := by simp [State.anchorRequest]
@[simp] theorem State.healthCell_sys (s : State) (k : Nat) (median : ℚ) : (s.healthCell k median).sys = s.sys := by simp [State.healthCell]
@[simp] theorem State.health_sys (s : State) (r : Nat) : (s.health r).sys = s.sys := by simp [State.health]
@[simp] theorem State.sendCopy_sys (s : State) : s.sendCopy.sys = s.sys := by simp [State.sendCopy]
@[simp] theorem State.becomeSuspect_sys (s : State) : s.becomeSuspect.sys = s.sys := by simp [State.becomeSuspect]
@[simp] theorem State.judgeDigest_sys (s : State) (m : EstDigestMsg) (r : Nat) : (s.judgeDigest m r).sys = s.sys := by simp [State.judgeDigest]

@[simp] theorem State.compareEst_sys (s : State) : s.compareEst.sys = s.sys := by
  unfold State.compareEst
  split <;> simp

@[simp] theorem State.cycleSent_sys (s : State) : s.cycleSent.sys = s.sys := by simp [State.cycleSent]

@[simp] theorem State.compSweep_sys (s : State) (r : Nat) (ip : ℚ) (held : List Nat) : (s.compSweep r ip held).sys = s.sys := by
  unfold State.compSweep
  refine State.foldl_sys (fun s node => State.foldl_sys (fun s j => ?_) _ s) _ _
  simp only [sysKept_iff]
  split <;> simp

@[simp] theorem State.compWarn_sys (s : State) (r : Nat) : (s.compWarn r).sys = s.sys := by
  simp only [State.compWarn]
  split <;> simp

@[simp] theorem State.pushSweep_sys (s : State) (r : Nat) (w : SweepRec) : (s.pushSweep r w).sys = s.sys := by simp [State.pushSweep]
@[simp] theorem State.persistEst_sys (s : State) (bad : Nat) : (s.persistEst bad).sys = s.sys := by simp [State.persistEst]

@[simp] theorem State.restoreRing_sys (s : State) (r : Nat) : (s.restoreRing r).sys = s.sys := by
  simp only [State.restoreRing]
  split <;> simp

@[simp] theorem State.restoreEst_sys (s : State) : s.restoreEst.sys = s.sys := by simp [State.restoreEst]
@[simp] theorem State.stopEst_sys (s : State) : s.stopEst.sys = s.sys := by simp [State.stopEst]

/-! ### Impedance runs and identities -/

@[simp] theorem State.startRun_sys (s : State) (r : Nat) : (s.startRun r).sys = s.sys := by simp [State.startRun]
@[simp] theorem State.abandonRuns_sys (s : State) (code : Nat) : (s.abandonRuns code).sys = s.sys := by simp [State.abandonRuns]
@[simp] theorem State.impClusters_sys (s : State) : s.impClusters.sys = s.sys := by simp [State.impClusters]
@[simp] theorem State.impDue_sys (s : State) (r : Nat) : (s.impDue r).sys = s.sys := by simp [State.impDue]
@[simp] theorem State.followTables_sys (s : State) : s.followTables.sys = s.sys := by simp [State.followTables]
@[simp] theorem State.rotStart_sys (s : State) : s.rotStart.sys = s.sys := by simp [State.rotStart]
@[simp] theorem State.impFull_sys (s : State) (r : Nat) (full : Bool) : (s.impFull r full).sys = s.sys := by simp [State.impFull]
@[simp] theorem State.impBoundary_sys (s : State) (r : Nat) : (s.impBoundary r).sys = s.sys := by simp [State.impBoundary]

@[simp] theorem State.joinWindow_sys (s : State) (r : Nat) (w : List WinSweep) (i : Option (List ℚ)) (k : Nat) : (s.joinWindow r w i k).sys = s.sys :=
  by
    unfold State.joinWindow
    split <;> simp

@[simp] theorem State.foldRun_sys (s : State) (k : Nat) (c : RunCell) (high : Nat) : (s.foldRun k c high).sys = s.sys := by simp [State.foldRun]
@[simp] theorem State.trackCell_sys (s : State) (k : Nat) (c : RunCell) (high : Nat) : (s.trackCell k c high).sys = s.sys := by simp [State.trackCell]
@[simp] theorem State.precursorCell_sys (s : State) (k : Nat) (rate : ℚ) : (s.precursorCell k rate).sys = s.sys := by simp [State.precursorCell]
@[simp] theorem State.precursorSensor_sys (s : State) (nk sensor : Nat) (rate : ℚ) : (s.precursorSensor nk sensor rate).sys = s.sys :=
  by simp [State.precursorSensor]

@[simp] theorem State.cellResult_sys (s : State) (k : Nat) (high : Nat) (complete : Bool) : (s.cellResult k high complete).sys = s.sys := by
  simp only [State.cellResult]
  (repeat' split) <;> simp

@[simp] theorem State.loadHistory_sys (s : State) (nk : Nat) (b : Bytes) : (s.loadHistory nk b).sys = s.sys := by simp [State.loadHistory]

@[simp] theorem State.syncStart_sys (s : State) (r : Nat) (op : Option OpRef) : (s.syncStart r op).sys = s.sys := by
  simp only [State.syncStart]
  split <;> simp

@[simp] theorem State.dropSync_sys (s : State) (r : Nat) : (s.dropSync r).sys = s.sys := by
  simp only [State.dropSync]
  split <;> simp

@[simp] theorem State.syncReply_sys (s : State) (r node : Nat) (good : Bool) (nvgen : BitVec 32) : (s.syncReply r node good nvgen).sys = s.sys := by
  unfold State.syncReply
  split <;> simp

@[simp] theorem State.challengeWith_sys (s : State) (nk : Nat) (nonce : Bytes) : (s.challengeWith nk nonce).sys = s.sys :=
  by simp [State.challengeWith]
@[simp] theorem State.challenge_sys (s : State) (nk : Nat) : (s.challenge nk).sys = s.sys := by simp [State.challenge]
@[simp] theorem State.pollAuth_sys (s : State) (nk : Nat) : (s.pollAuth nk).sys = s.sys := by simp [State.pollAuth]
@[simp] theorem State.readChain_sys (s : State) (nk : Nat) (d : AuthData) : (s.readChain nk d).sys = s.sys := by simp [State.readChain]
@[simp] theorem State.readHistory_sys (s : State) (nk : Nat) : (s.readHistory nk).sys = s.sys := by simp [State.readHistory]
@[simp] theorem State.resetNodeCells_sys (s : State) (nk : Nat) (hist : Nat → Option (ℚ × ℚ)) : (s.resetNodeCells nk hist).sys = s.sys :=
  by simp [State.resetNodeCells]
@[simp] theorem State.authRecover_sys (s : State) (nk : Nat) (b : Bytes) : (s.authRecover nk b).sys = s.sys := by simp [State.authRecover]

@[simp] theorem State.authReject_sys (s : State) (nk : Nat) (absent invalid : Bool) : (s.authReject nk absent invalid).sys = s.sys := by
  unfold State.authReject
  rw [State.raise_sys, State.foldl_sys fun _ _ => State.updCellE_sys _ _ _, State.resetNodeCells_sys]
  rfl

@[simp] theorem State.authAccept_sys (s : State) (nk : Nat) (d : AuthData) : (s.authAccept nk d).sys = s.sys := by
  simp -implicitDefEqProofs only [State.authAccept, State.sys_ite, State.raise_sys, State.updAuth_sys, State.authReject_sys,
    State.readHistory_sys, State.authRecover_sys, State.resetNodeCells_sys, State.loadHistory_sys, State.setAuth_sys, ite_self]

@[simp] theorem State.estBoundary_sys (s : State) : s.estBoundary.sys = s.sys := by simp [State.estBoundary]

/-! ### Power-stage channels -/

@[simp] theorem State.placeEdges_sys (s : State) (c next : Nat) : (s.placeEdges c next).sys = s.sys := by simp [State.placeEdges]
@[simp] theorem State.stopChannel_sys (s : State) (c : Nat) : (s.stopChannel c).sys = s.sys := by simp [State.stopChannel]
@[simp] theorem State.stopAll_sys (s : State) : s.stopAll.sys = s.sys := by simp [State.stopAll]
@[simp] theorem State.disable_sys (s : State) (c : Nat) (f : ChSt → ChSt) : (s.disable c f).sys = s.sys := by simp [State.disable]
@[simp] theorem State.backPass_role (s : State) (code : Nat) : (s.backPass code).sys.role = s.sys.role := by simp [State.backPass]
@[simp] theorem State.loopbackResult_role (s : State) (c : Nat) (ok : Bool) : (s.loopbackResult c ok).sys.role = s.sys.role :=
  by simp [State.loopbackResult]
@[simp] theorem State.noteLoopback_role (s : State) (c : Nat) (ok : Bool) : (s.noteLoopback c ok).sys.role = s.sys.role :=
  by simp [State.noteLoopback]
@[simp] theorem State.beginStart_sys (s : State) (c : Nat) : (s.beginStart c).sys = s.sys := by simp [State.beginStart]
@[simp] theorem State.dropStart_sys (s : State) (c : Nat) : (s.dropStart c).sys = s.sys := by simp [State.dropStart]
@[simp] theorem State.rampStop_sys (s : State) (c : Nat) : (s.rampStop c).sys = s.sys := by simp [State.rampStop]

@[simp] theorem State.clearFault_sys (s : State) (c : Nat) : (s.clearFault c).2.sys = s.sys := by
  simp only [State.clearFault]
  split
  · rfl
  · split <;> rfl

/-! ### Cell temperatures -/

@[simp] theorem State.pushTemp_sys (s : State) (key t : Nat) (v : Int) : (s.pushTemp key t v).sys = s.sys := by simp [State.pushTemp]
@[simp] theorem State.dropTemps_sys (s : State) (nk : Nat) : (s.dropTemps nk).sys = s.sys := by simp [State.dropTemps]

@[simp] theorem State.cellWarnings_sys (s : State) (key : Nat) (temp : ℚ) (rate : Option ℚ) : (s.cellWarnings key temp rate).sys = s.sys := by
  unfold State.cellWarnings
  split <;> simp

@[simp] theorem State.takeRow_sys (s : State) (t : Nat) (row : List (Option Int)) : (s.takeRow t row).sys = s.sys := by simp [State.takeRow]
@[simp] theorem State.judgeRates_sys (s : State) : s.judgeRates.sys = s.sys := by simp [State.judgeRates]

/-! ### Latches and trips -/

@[simp] theorem State.openSo_role (s : State) (how : Opening) (n : Nat) : (s.openSo how n).sys.role = s.sys.role := by simp [State.openSo]
@[simp] theorem State.openOuts_role (s : State) (r : Nat) (how : Opening) : (s.openOuts r how).sys.role = s.sys.role := by simp [State.openOuts]
@[simp] theorem State.closeDone_sys (s : State) (q : CloseReq) : (s.closeDone q).sys = s.sys := by simp [State.closeDone]
@[simp] theorem State.closeEnd_sys (s : State) (r : Nat) (abandoned : Option Nat) : (s.closeEnd r abandoned).sys = s.sys := by simp [State.closeEnd]
@[simp] theorem State.abandonClose_sys (s : State) (r status : Nat) : (s.abandonClose r status).sys = s.sys := by simp [State.abandonClose]
@[simp] theorem State.openString_role (s : State) (r : Nat) (how : Opening) (status : Nat) : (s.openString r how status).sys.role = s.sys.role :=
  by simp [State.openString]
@[simp] theorem State.openEvery_role (s : State) (how : Opening) (status : Nat) : (s.openEvery how status).sys.role = s.sys.role :=
  by simp [State.openEvery]
@[simp] theorem State.openAll_role (s : State) : s.openAll.sys.role = s.sys.role := by simp [State.openAll]

@[simp] theorem State.lapseArm_sys (s : State) : s.lapseArm.sys = s.sys := by
  unfold State.lapseArm
  split <;> simp

@[simp] theorem State.endCt_role (s : State) : s.endCt.sys.role = s.sys.role := by
  unfold State.endCt
  split
  · rfl
  · split
    · exact congrArg _ (State.complete_sys _ _ _ _)
    · rw [State.raise_sys, State.openString_role]
      simp only [State.sys_ite, State.stopChannel_sys, State.updCh_sys, ite_self]

@[simp] theorem State.shutGates_sys (s : State) (c : Nat) : (s.shutGates c).sys = s.sys := by simp [State.shutGates]
@[simp] theorem State.stopEnds_role (s : State) : s.stopEnds.sys.role = s.sys.role := by simp [State.stopEnds]
@[simp] theorem State.demandEnds_role (s : State) : s.demandEnds.sys.role = s.sys.role := by simp [State.demandEnds]
@[simp] theorem State.safeOpen_role (s : State) (r : Nat) : (s.safeOpen r).sys.role = s.sys.role := by simp [State.safeOpen]
@[simp] theorem State.trip_role (s : State) (r cause : Nat) : (s.trip r cause).sys.role = s.sys.role := by simp [State.trip]
@[simp] theorem State.tellTrip_sys (s : State) (r by_ : Nat) : (s.tellTrip r by_).sys = s.sys := by simp [State.tellTrip]
@[simp] theorem State.sf1_role (s : State) (r : Nat) : (s.sf1 r).sys.role = s.sys.role := by simp [State.sf1]
@[simp] theorem State.tripFault_role (s : State) (code inst : Nat) (strings : List Nat) (data : Bytes) :
    (s.tripFault code inst strings data).sys.role = s.sys.role := by simp [State.tripFault]
@[simp] theorem State.lockString_role (s : State) (r cause : Nat) : (s.lockString r cause).sys.role = s.sys.role := by simp [State.lockString]
@[simp] theorem State.lockFault_role (s : State) (code inst : Nat) (strings : List Nat) (data : Bytes) :
    (s.lockFault code inst strings data).sys.role = s.sys.role := by simp [State.lockFault]
@[simp] theorem State.sf2_role (s : State) (c : Nat) : (s.sf2 c).sys.role = s.sys.role := by simp [State.sf2]

@[simp] theorem State.dropTarget_role (s : State) (status : Nat) : (s.dropTarget status).sys.role = s.sys.role := by
  unfold State.dropTarget
  split <;> simp

@[simp] theorem State.wake_role (s : State) : s.wake.sys.role = s.sys.role := by simp [State.wake]
@[simp] theorem State.startSf4_sys (s : State) : s.startSf4.sys = s.sys := by simp [State.startSf4]
@[simp] theorem State.sf3_role (s : State) : s.sf3.sys.role = s.sys.role := by simp [State.sf3]

/-! ### Lifecycle and role -/

@[simp] theorem State.dropSess_role (s : State) (id : Nat) : (s.dropSess id).sys.role = s.sys.role := by
  simp only [State.dropSess]
  (repeat' split) <;> simp

@[simp] theorem State.dropStage_sys (s : State) : s.dropStage.sys = s.sys := by simp [State.dropStage]
@[simp] theorem State.checkPower_role (s : State) : s.checkPower.sys.role = s.sys.role := by simp [State.checkPower]
@[simp] theorem State.leaveStandby_role (s : State) : s.leaveStandby.sys.role = s.sys.role := by simp [State.leaveStandby]
@[simp] theorem State.enterStandby_sys (s : State) : s.enterStandby.sys = s.sys := by simp [State.enterStandby]
@[simp] theorem State.endSessions_role (s : State) : s.endSessions.sys.role = s.sys.role := by simp [State.endSessions]
@[simp] theorem State.estLife_sys (s : State) (old new : Lifecycle) : (s.estLife old new).sys = s.sys := by simp [State.estLife]
@[simp] theorem State.heard_sys (s : State) (bulk : Bool) (f : Link) : (s.heard bulk f).sys = s.sys := by simp [State.heard]
@[simp] theorem State.badLink_sys (s : State) : s.badLink.sys = s.sys := by simp [State.badLink]

@[simp] theorem State.onLink_role (s : State) (bulk : Bool) (f : Link) (act : State → State) (ha : ∀ u, RoleKept (act u) u) :
    (s.onLink bulk f act).sys.role = s.sys.role := by
  have ha : ∀ u, (act u).sys.role = u.sys.role := ha
  simp [State.onLink, ha]

theorem State.onLink_held (s : State) (bulk : Bool) (f : Link) (act : State → State)
    (ha : ∀ u, u.Inv → (act u).Inv) (h : s.Inv) : (s.onLink bulk f act).Inv := by
  unfold State.onLink
  split
  · exact ha _ (by simpa using h)
  · simpa using h

@[simp] theorem State.resumeStrings_sys (s : State) : s.resumeStrings.sys = s.sys := by simp [State.resumeStrings]
@[simp] theorem State.resumeChannels_sys (s : State) : s.resumeChannels.sys = s.sys := by simp [State.resumeChannels]
@[simp] theorem State.handedBack_role (s : State) (code : Nat) : (s.handedBack code).sys.role = s.sys.role := by simp [State.handedBack]

/-! ### The safety function -/

@[simp] theorem State.markFaulty_sys (s : State) (code inst : Nat) : (s.markFaulty code inst).sys = s.sys := by simp [State.markFaulty]
@[simp] theorem State.clearFaulty_sys (s : State) (code inst : Nat) : (s.clearFaulty code inst).sys = s.sys := by simp [State.clearFaulty]

@[simp] theorem State.tryArm_sys (s : State) : s.tryArm.sys = s.sys := by
  unfold State.tryArm
  split <;> simp

@[simp] theorem State.reopenGates_sys (s : State) (c : Nat) : (s.reopenGates c).sys = s.sys := by simp [State.reopenGates]
@[simp] theorem State.wsfResume_sys (s : State) (k : Nat) : (s.wsfResume k).sys = s.sys := by simp [State.wsfResume]
@[simp] theorem State.wsfReset_sys (s : State) : s.wsfReset.sys = s.sys := by simp [State.wsfReset]
@[simp] theorem State.clearScope_role (s : State) (scope mask : Nat) : (s.clearScope scope mask).sys.role = s.sys.role := by simp [State.clearScope]
@[simp] theorem State.clearTrips_sys (s : State) (rs : List Nat) : (s.clearTrips rs).sys = s.sys := by simp [State.clearTrips]
@[simp] theorem State.retestNodes_sys (s : State) (rs : List Nat) : (s.retestNodes rs).sys = s.sys := by simp [State.retestNodes]
@[simp] theorem State.retest_sys (s : State) (scope mask : Nat) : (s.retest scope mask).sys = s.sys := by simp [State.retest]

@[simp] theorem State.beginCt_sys (s : State) : s.beginCt.sys = s.sys := by
  unfold State.beginCt
  split <;> simp

@[simp] theorem State.siSample_sys (s : State) (levels : Byte) (k : Nat) : (s.siSample levels k).sys = s.sys := by simp [State.siSample]
@[simp] theorem State.siScan_sys (s : State) (levels : Byte) : (s.siScan levels).sys = s.sys := by simp [State.siScan]
@[simp] theorem State.latchOne_role (s : State) (fromTurnip : Bool) (r cause : Nat) (f : Latch → Latch) (outs : Bool) :
    (s.latchOne fromTurnip r cause f outs).sys.role = s.sys.role := by simp [State.latchOne]
@[simp] theorem State.turnipTrip_role (s : State) (r code inst : Nat) : (s.turnipTrip r code inst).sys.role = s.sys.role := by simp [State.turnipTrip]
@[simp] theorem State.coresLatch_role (s : State) : s.coresLatch.sys.role = s.sys.role := by simp [State.coresLatch]
@[simp] theorem State.beginClose_sys (s : State) (r : Nat) : (s.beginClose r).sys = s.sys := by simp [State.beginClose]
@[simp] theorem State.openRunning_role (s : State) (r : Nat) : (s.openRunning r).sys.role = s.sys.role := by simp [State.openRunning]
@[simp] theorem State.writeThresholds_sys (s : State) (r : Nat) : (s.writeThresholds r).sys = s.sys := by simp [State.writeThresholds]
@[simp] theorem State.wsfSeqErr_sys (s : State) (k : Nat) : (s.wsfSeqErr k).sys = s.sys := by simp [State.wsfSeqErr]
@[simp] theorem State.wsfSend_sys (s : State) (k type : Nat) (data : Bytes) : (s.wsfSend k type data).sys = s.sys := by simp [State.wsfSend]
@[simp] theorem State.sendSafety_sys (s : State) : s.sendSafety.sys = s.sys := by simp [State.sendSafety]

/-! ### CAN controllers -/

@[simp] theorem State.canResult_sys (s : State) (c : Nat) (t : TxFrame) (result : Nat) (tooLate : Bool) (stamp : BitVec 32) :
    (s.canResult c t result tooLate stamp).sys = s.sys := by simp [State.canResult]
@[simp] theorem State.canLeave_sys (s : State) (c : Nat) (t : TxFrame) (result : Nat) (tooLate : Bool) (stamp : BitVec 32) :
    (s.canLeave c t result tooLate stamp).sys = s.sys := by simp [State.canLeave]

@[simp] theorem State.goBusOff_sys (s : State) (c : Nat) : (s.goBusOff c).sys = s.sys := by
  simp only [State.goBusOff]
  split <;> simp

@[simp] theorem State.canCount_sys (s : State) (c : Nat) (f : CanCtl → CanCtl) : (s.canCount c f).sys = s.sys := by simp [State.canCount]
@[simp] theorem State.canSent_sys (s : State) (c : Nat) (f : CanEntry) : (s.canSent c f).sys = s.sys := by simp [State.canSent]
@[simp] theorem State.keepDelay_sys (s : State) (c : Nat) (f : CanEntry) (clocks : Nat) : (s.keepDelay c f clocks).sys = s.sys :=
  by simp [State.keepDelay]
@[simp] theorem State.headSent_sys (s : State) (c : Nat) (t : TxFrame) (stamp : BitVec 32) (clocks : Nat) :
    (s.headSent c t stamp clocks).sys = s.sys := by simp [State.headSent]
@[simp] theorem State.headFailed_sys (s : State) (c : Nat) (t : TxFrame) : (s.headFailed c t).sys = s.sys := by simp [State.headFailed]
@[simp] theorem State.txError_sys (s : State) (c : Nat) (noAck : Bool) : (s.txError c noAck).sys = s.sys := by simp [State.txError]
@[simp] theorem State.tdcRange_sys (s : State) (c clocks : Nat) : (s.tdcRange c clocks).sys = s.sys := by simp [State.tdcRange]

@[simp] theorem State.wsfOutcome_sys (s : State) (c conn : Nat) (f : CanEntry) (o : CanOutcome) : (s.wsfOutcome c conn f o).sys = s.sys := by
  unfold State.wsfOutcome
  split <;> simp

@[simp] theorem State.headError_sys (s : State) (c : Nat) (t : TxFrame) (noAck : Bool) : (s.headError c t noAck).sys = s.sys :=
  by simp [State.headError]

@[simp] theorem State.headOutcome_sys (s : State) (c : Nat) (t : TxFrame) (o : CanOutcome) : (s.headOutcome c t o).sys = s.sys := by
  unfold State.headOutcome
  split <;> simp

@[simp] theorem State.canOverflow_sys (s : State) (c : Nat) : (s.canOverflow c).sys = s.sys := by
  simp only [State.canOverflow]
  (repeat' split) <;> simp

@[simp] theorem State.canStore_sys (s : State) (c : Nat) (f : CanEntry) (sof : BitVec 32) : (s.canStore c f sof).sys = s.sys := by
  unfold State.canStore
  split <;> simp

@[simp] theorem State.rxError_sys (s : State) (c : Nat) : (s.rxError c).sys = s.sys := by simp [State.rxError]

/-! ### Field inputs and outputs -/

@[simp] theorem State.stampEdge_sys (s : State) (n : Nat) (v : Bool) : (s.stampEdge n v).sys = s.sys := by
  simp only [State.stampEdge]
  (repeat' split) <;> simp

@[simp] theorem State.scanDi_sys (s : State) (n : Nat) (high : Bool) : (s.scanDi n high).sys = s.sys := by simp [State.scanDi]
@[simp] theorem State.sampleDi_sys (s : State) (n : Nat) (d : DiIn) : (s.sampleDi n d).sys = s.sys := by simp [State.sampleDi]
@[simp] theorem State.scanDo_sys (s : State) (d : ScanData) (n : Nat) : (s.scanDo d n).sys = s.sys := by simp [State.scanDo]
@[simp] theorem State.doOverTemp_sys (s : State) (n : Nat) : (s.doOverTemp n).sys = s.sys := by simp [State.doOverTemp]
@[simp] theorem State.doOverload_role (s : State) (n t : Nat) : (s.doOverload n t).sys.role = s.sys.role := by simp [State.doOverload]
@[simp] theorem State.fieldReset_role (s : State) : s.fieldReset.sys.role = s.sys.role := by simp [State.fieldReset]
@[simp] theorem State.clearDo_sys (s : State) (n : Nat) : (s.clearDo n).sys = s.sys := by simp [State.clearDo]

/-! ### Period boundaries -/

@[simp] theorem State.latch_sys (s : State) (c : Nat) (d : DsSample) : (s.latch c d).sys = s.sys := by simp [State.latch]
@[simp] theorem State.streamIn_sys (s : State) (before : State) (d : Four DsSample) : (s.streamIn before d).sys = s.sys := by simp [State.streamIn]
@[simp] theorem State.ocProcessor_role (s : State) (c : Nat) : (s.ocProcessor c).sys.role = s.sys.role := by simp [State.ocProcessor]
@[simp] theorem State.shadowCh_sys (s : State) (c : Nat) (st : Nat) : (s.shadowCh c st).sys = s.sys := by simp [State.shadowCh]
@[simp] theorem State.loadCh_sys (s : State) (c : Nat) (r : ChanCopy) : (s.loadCh c r).sys = s.sys := by simp [State.loadCh]
@[simp] theorem State.missedCopy_sys (s : State) : s.missedCopy.sys = s.sys := by simp [State.missedCopy]
@[simp] theorem State.runAhead_sys (s : State) : s.runAhead.sys = s.sys := by simp [State.runAhead]

@[simp] theorem State.shadowStart_sys (s : State) : s.shadowStart.sys = s.sys := by
  unfold State.shadowStart
  split <;> simp

@[simp] theorem State.laneReports_sys (s : State) (c : Nat) (o : LaneOut) : (s.laneReports c o).sys = s.sys := by
  simp [State.laneReports]
  split <;> simp

@[simp] theorem State.stopWatch_sys (s : State) (c : Nat) : (s.stopWatch c).sys = s.sys := by simp [State.stopWatch]
@[simp] theorem State.runLane_sys (s : State) (c : Nat) : (s.runLane c).sys = s.sys := by simp [State.runLane]
@[simp] theorem State.toBoundary_role (s : State) : s.toBoundary.sys.role = s.sys.role := by simp [State.toBoundary]
@[simp] theorem State.missRelease_sys (s : State) (c : Nat) : (s.missRelease c).sys = s.sys := by simp [State.missRelease]
@[simp] theorem State.releaseLane_sys (s : State) (c : Nat) : (s.releaseLane c).sys = s.sys := by simp [State.releaseLane]
@[simp] theorem State.sendCopies_sys (s : State) : s.sendCopies.sys = s.sys := by simp [State.sendCopies]

@[simp] theorem State.freezeEnd_sys (s : State) (c : Nat) : (s.freezeEnd c).sys = s.sys := by
  unfold State.freezeEnd
  split <;> simp

@[simp] theorem State.startApply_sys (s : State) (c : Nat) : (s.startApply c).sys = s.sys := by simp [State.startApply]

@[simp] theorem State.applyDuty_sys (s : State) (c : Nat) : (s.applyDuty c).sys = s.sys := by
  simp only [State.applyDuty]
  (repeat' split) <;> simp

@[simp] theorem State.applyCh_sys (s : State) (c : Nat) : (s.applyCh c).sys = s.sys := by simp [State.applyCh]
@[simp] theorem State.openWaiting_role (s : State) : s.openWaiting.sys.role = s.sys.role := by simp [State.openWaiting]

/-! ### The recorder -/

@[simp] theorem State.copySafe_sys (s : State) (b : Bytes) : (s.copySafe b).sys = s.sys := by simp [State.copySafe]

@[simp] theorem State.copyParent_sys (s : State) (parent : Nat) : (s.copyParent parent).sys = s.sys := by
  simp only [State.copyParent]
  (repeat' split) <;> simp

@[simp] theorem State.retire_sys (s : State) (r : Rec) : (s.retire r).sys = s.sys := by
  simp only [State.retire]
  (repeat' split) <;> simp

@[simp] theorem State.writeRec_sys (s : State) (r : Rec) (good : Bool) : (s.writeRec r good).sys = s.sys := by simp [State.writeRec]
@[simp] theorem State.drain_sys (s : State) : s.drain.sys = s.sys := by simp [State.drain]

@[simp] theorem State.writeAudit_sys (s : State) : s.writeAudit.sys = s.sys := by
  unfold State.writeAudit
  split <;> simp

@[simp] theorem State.clearParts_sys (s : State) (ps : List Nat) (users : Bytes) : (s.clearParts ps users).sys = s.sys := by simp [State.clearParts]

@[simp] theorem State.dropClear_sys (s : State) : s.dropClear.sys = s.sys := by
  unfold State.dropClear
  split <;> simp

@[simp] theorem State.fbRelease_sys (s : State) : s.fbRelease.sys = s.sys := by simp [State.fbRelease]
@[simp] theorem State.replayRec_sys (s : State) (b : Bytes) : (s.replayRec b).sys = s.sys := by simp [State.replayRec]

/-! ### Evaluation of cell frames -/

@[simp] theorem State.calNode_sys (s : State) (r node : Nat) (p : Option SweepPayload) : (s.calNode r node p).sys = s.sys := by simp [State.calNode]

@[simp] theorem State.evalFrame_role (s : State) (r node : Nat) (p : SweepPayload) : (s.evalFrame r node p).sys.role = s.sys.role := by
  unfold State.evalFrame
  refine State.foldl_role (fun s q => ?_) _ _
  split <;> simp

@[simp] theorem State.cellAnomaly_sys (s : State) (r node j : Nat) : (s.cellAnomaly r node j).sys = s.sys := by
  simp only [State.cellAnomaly]
  split <;> simp

@[simp] theorem State.askWire_sys (s : State) (nk tap row : Nat) : (s.askWire nk tap row).sys = s.sys := by simp [State.askWire]

@[simp] theorem State.judge3_sys (s : State) (r node j : Nat) : (s.judge3 r node j).sys = s.sys := by
  simp only [State.judge3]
  split <;> simp

@[simp] theorem State.rowAction_sys (s : State) (r node j row : Nat) : (s.rowAction r node j row).sys = s.sys := by
  unfold State.rowAction
  split <;> simp

@[simp] theorem State.pairJudge_sys (s : State) (r node : Nat) (p : SweepPayload) (v : NodeVals) (ip : ℚ) (t : Nat) :
    (s.pairJudge r node p v ip t).2.sys = s.sys := by
  simp only [State.pairJudge]
  split <;> rfl

@[simp] theorem State.pairVisit_sys (s : State) (r node : Nat) (p : SweepPayload) (v : NodeVals) (ip : ℚ) (t : Nat) :
    (s.pairVisit r node p v ip t).sys = s.sys := by
  simp only [State.pairVisit]
  (repeat' split) <;> simp

/-! ### Cell monitoring and balancing -/

@[simp] theorem State.owStart_sys (s : State) (nk : Nat) : (s.owStart nk).sys = s.sys := by
  simp only [State.owStart]
  split <;> simp

@[simp] theorem State.owStartAll_sys (s : State) (r : Nat) : (s.owStartAll r).sys = s.sys := by simp [State.owStartAll]

@[simp] theorem State.owDone_sys (s : State) (t : OwTest) (result : Nat) : (s.owDone t result).sys = s.sys := by
  unfold State.owDone
  split <;> simp

@[simp] theorem State.sendPairMask_sys (s : State) (nk : Nat) : (s.sendPairMask nk).sys = s.sys := by simp [State.sendPairMask]
@[simp] theorem State.wireOpen_sys (s : State) (r node tap : Nat) : (s.wireOpen r node tap).sys = s.sys := by simp [State.wireOpen]
@[simp] theorem State.wirePass_sys (s : State) (r node : Nat) (t : OwTest) : (s.wirePass r node t).sys = s.sys := by simp [State.wirePass]
@[simp] theorem State.owJudge_sys (s : State) (r node : Nat) (t : OwTest) (below above : Int) : (s.owJudge r node t below above).sys = s.sys :=
  by simp [State.owJudge]
@[simp] theorem State.writeThreshold_sys (s : State) (r node : Nat) : (s.writeThreshold r node).sys = s.sys := by simp [State.writeThreshold]
@[simp] theorem State.readThreshold_sys (s : State) (r node : Nat) : (s.readThreshold r node).sys = s.sys := by simp [State.readThreshold]
@[simp] theorem State.judgeThresholds_role (s : State) (r node : Nat) (v : Nat × Nat × Nat) : (s.judgeThresholds r node v).sys.role = s.sys.role :=
  by simp [State.judgeThresholds]
@[simp] theorem State.calReply_sys (s : State) (r node : Nat) (status : Byte) : (s.calReply r node status).sys = s.sys := by simp [State.calReply]
@[simp] theorem State.cmpOutcome_role (s : State) (r node cell : Nat) (uv fired : Bool) : (s.cmpOutcome r node cell uv fired).sys.role = s.sys.role :=
  by simp [State.cmpOutcome]

@[simp] theorem State.cmpNext_sys (s : State) (r : Nat) : (s.cmpNext r).sys = s.sys := by
  unfold State.cmpNext
  (repeat' split) <;> simp

@[simp] theorem State.cmpResult_role (s : State) (r : Nat) (fired : Bool) : (s.cmpResult r fired).sys.role = s.sys.role := by
  unfold State.cmpResult
  split <;> simp

@[simp] theorem State.sendBalance_sys (s : State) (r node mode mask target duration check : Nat) (h : Option Hdr) :
    (s.sendBalance r node mode mask target duration check h).sys = s.sys := by simp [State.sendBalance]
@[simp] theorem State.balBySoc_sys (s : State) (r : Nat) : (s.balBySoc r).sys = s.sys := by simp [State.balBySoc]
@[simp] theorem State.balByVolt_sys (s : State) (r : Nat) : (s.balByVolt r).sys = s.sys := by simp [State.balByVolt]
@[simp] theorem State.sendSleepTargets_sys (s : State) (r : Nat) : (s.sendSleepTargets r).sys = s.sys := by simp [State.sendSleepTargets]

@[simp] theorem State.sleepOutcome_sys (s : State) (r node : Nat) (p : SweepPayload) : (s.sleepOutcome r node p).sys = s.sys := by
  simp only [State.sleepOutcome]
  split <;> simp

/-! ### Rings and nodes -/

@[simp] theorem State.dropWire_sys (s : State) (nk : Nat) : (s.dropWire nk).sys = s.sys := by simp [State.dropWire]

@[simp] theorem State.dropCmp_sys (s : State) (r : Nat) : (s.dropCmp r).sys = s.sys := by
  unfold State.dropCmp
  split <;> simp

@[simp] theorem State.clearNodes_sys (s : State) (r : Nat) : (s.clearNodes r).sys = s.sys := by simp [State.clearNodes]
@[simp] theorem State.beginEnum_sys (s : State) (r : Nat) : (s.beginEnum r).sys = s.sys := by simp [State.beginEnum]

@[simp] theorem State.sendProbes_sys (s : State) (r : Nat) : (s.sendProbes r).sys = s.sys := by
  unfold State.sendProbes
  split <;> simp

@[simp] theorem State.ringOpDone_sys (s : State) (q : RingOp) : (s.ringOpDone q).sys = s.sys := by simp [State.ringOpDone]
@[simp] theorem State.enumEnded_sys (s : State) (r : Nat) (failed abandoned : Bool) : (s.enumEnded r failed abandoned).sys = s.sys :=
  by simp [State.enumEnded]
@[simp] theorem State.dropWires_sys (s : State) (r : Nat) : (s.dropWires r).sys = s.sys := by simp [State.dropWires]
@[simp] theorem State.stopRing_sys (s : State) (r : Nat) : (s.stopRing r).sys = s.sys := by simp [State.stopRing]
@[simp] theorem State.sendTable_sys (s : State) (r : Nat) : (s.sendTable r).sys = s.sys := by simp [State.sendTable]
@[simp] theorem State.serviceNodes_sys (s : State) (r : Nat) : (s.serviceNodes r).sys = s.sys := by simp [State.serviceNodes]
@[simp] theorem State.failRing_sys (s : State) (r code : Nat) (data : Bytes) : (s.failRing r code data).sys = s.sys := by simp [State.failRing]

@[simp] theorem State.epochSeen_sys (s : State) (r node : Nat) (e : Byte) : (s.epochSeen r node e).sys = s.sys := by
  simp only [State.epochSeen]
  split <;> simp

@[simp] theorem State.statusSeen_sys (s : State) (r node : Nat) (w : BitVec 16) : (s.statusSeen r node w).sys = s.sys := by simp [State.statusSeen]
@[simp] theorem State.idleSeen_sys (s : State) (r : Nat) (idle : Bytes) : (s.idleSeen r idle).sys = s.sys := by simp [State.idleSeen]
@[simp] theorem State.arrived_sys (s : State) (r : Nat) (rx : Rx) : (s.arrived r rx).sys = s.sys := by simp [State.arrived]

@[simp] theorem State.onFrame_role (s : State) (r : Nat) (addr : Byte) (rx : Rx) (f : State → State) (hf : ∀ u, RoleKept (f u) u) :
    (s.onFrame r addr rx f).sys.role = s.sys.role := by
  have hf : ∀ u, (f u).sys.role = u.sys.role := hf
  simp [State.onFrame, hf]

@[simp] theorem State.tempsSeen_sys (s : State) (r node : Nat) (p : SweepPayload) : (s.tempsSeen r node p).sys = s.sys := by simp [State.tempsSeen]
@[simp] theorem State.storeFrame_sys (s : State) (r node : Nat) (p : SweepPayload) : (s.storeFrame r node p).sys = s.sys := by simp [State.storeFrame]
@[simp] theorem State.frameIn_role (s : State) (r node : Nat) (p : SweepPayload) : (s.frameIn r node p).sys.role = s.sys.role :=
  by simp [State.frameIn]
@[simp] theorem State.noFrame_sys (s : State) (r node attempt : Nat) : (s.noFrame r node attempt).sys = s.sys := by simp [State.noFrame]
@[simp] theorem State.deriveNode_sys (s : State) (r node t : Nat) (ip : ℚ) (p : SweepPayload) : (s.deriveNode r node t ip p).sys = s.sys :=
  by simp [State.deriveNode]
@[simp] theorem State.pairRoom_sys (s : State) (r nk j : Nat) : (s.pairRoom r nk j).sys = s.sys := by simp [State.pairRoom]
@[simp] theorem State.publish_sys (s : State) (r t : Nat) (whole : Bool) : (s.publish r t whole).sys = s.sys := by simp [State.publish]

@[simp] theorem State.tempWatch_sys (s : State) (r node : Nat) (p : SweepPayload) : (s.tempWatch r node p).sys = s.sys := by
  unfold State.tempWatch
  refine State.foldl_sys (fun s q => ?_) _ _
  simp only [sysKept_iff]
  split <;> simp

@[simp] theorem State.sweepChunk_sys (s : State) (r t : Nat) (whole : Bool) : (s.sweepChunk r t whole).sys = s.sys := by simp [State.sweepChunk]
@[simp] theorem State.sendFinal_sys (s : State) (r t : Nat) (whole : Bool) : (s.sendFinal r t whole).sys = s.sys := by simp [State.sendFinal]
@[simp] theorem State.sendAck_sys (s : State) (r : Nat) : (s.sendAck r).sys = s.sys := by simp [State.sendAck]
@[simp] theorem State.countSweep_sys (s : State) (r : Nat) (whole : Bool) : (s.countSweep r whole).sys = s.sys := by simp [State.countSweep]
@[simp] theorem State.restWatch_sys (s : State) (r : Nat) (ip : ℚ) : (s.restWatch r ip).sys = s.sys := by simp [State.restWatch]
@[simp] theorem State.openExchange_sys (s : State) (r : Nat) : (s.openExchange r).sys = s.sys := by simp [State.openExchange]
@[simp] theorem State.windowSweep_sys (s : State) (r t : Nat) (ip : ℚ) : (s.windowSweep r t ip).sys = s.sys := by simp [State.windowSweep]
@[simp] theorem State.finalise_sys (s : State) (r : Nat) : (s.finalise r).sys = s.sys := by simp [State.finalise]
@[simp] theorem State.toNormal_sys (s : State) (r : Nat) : (s.toNormal r).sys = s.sys := by simp [State.toNormal]
@[simp] theorem State.rateAtSync_sys (s : State) (r : Nat) : (s.rateAtSync r).sys = s.sys := by simp [State.rateAtSync]

@[simp] theorem State.ringBoundary_sys (s : State) (r : Nat) : (s.ringBoundary r).sys = s.sys := by
  simp only [State.ringBoundary]
  (repeat' split) <;> simp

@[simp] theorem State.sendSync_sys (s : State) (r : Nat) : (s.sendSync r).sys = s.sys := by
  simp only [State.sendSync]
  split <;> simp

@[simp] theorem State.startSweep_sys (s : State) (r : Nat) : (s.startSweep r).sys = s.sys := by simp [State.startSweep]
@[simp] theorem State.missSyncs_sys (s : State) (from_ : Nat) : (s.missSyncs from_).sys = s.sys := by simp [State.missSyncs]
@[simp] theorem State.sendMissed_sys (s : State) : s.sendMissed.sys = s.sys := by simp [State.sendMissed]
@[simp] theorem State.lockLost_sys (s : State) (r node port : Nat) : (s.lockLost r node port).sys = s.sys := by simp [State.lockLost]

@[simp] theorem State.lockStable_sys (s : State) (r node port : Nat) : (s.lockStable r node port).sys = s.sys := by
  simp only [State.lockStable]
  split <;> simp

@[simp] theorem State.dropHold_role (s : State) (r : Nat) : (s.dropHold r).sys.role = s.sys.role := by simp [State.dropHold]

@[simp] theorem State.unwrapReply_sys (s : State) (r node : Nat) (w : BitVec 16) : (s.unwrapReply r node w).sys = s.sys := by
  simp only [State.unwrapReply]
  (repeat' split) <;> simp

@[simp] theorem State.portReply_sys (s : State) (r : Nat) (q : NodeReq) (status : Byte) (data : Bytes) : (s.portReply r q status data).sys = s.sys :=
  by
    simp only [State.portReply]
    split <;> simp

@[simp] theorem State.counterReply_sys (s : State) (r : Nat) (q : NodeReq) (status : Byte) (data : Bytes) :
    (s.counterReply r q status data).sys = s.sys := by
  unfold State.counterReply
  split <;> simp

@[simp] theorem State.tripsSeen_sys (s : State) (nk : Nat) (ov uv : BitVec 16) : (s.tripsSeen nk ov uv).sys = s.sys := by simp [State.tripsSeen]
@[simp] theorem State.cmpAgain_sys (s : State) (nk i : Nat) (fired : Bool) : (s.cmpAgain nk i fired).sys = s.sys := by simp [State.cmpAgain]

@[simp] theorem State.cmpReply_role (s : State) (r : Nat) (q : NodeReq) (status : Byte) (data : Bytes) :
    (s.cmpReply r q status data).sys.role = s.sys.role := by
  simp only [State.cmpReply]
  (repeat' split) <;> simp

@[simp] theorem State.balReply_sys (s : State) (r : Nat) (q : NodeReq) (status : Byte) (data : Bytes) : (s.balReply r q status data).sys = s.sys := by
  simp only [State.balReply]
  split <;> simp

@[simp] theorem State.versionReply_sys (s : State) (r node : Nat) (status : Byte) (data : Bytes) : (s.versionReply r node status data).sys = s.sys :=
  by simp [State.versionReply]
@[simp] theorem State.loadFrom_sys (s : State) (r : Nat) (l : LoadSt) : (s.loadFrom r l).sys = s.sys := by simp [State.loadFrom]
@[simp] theorem State.loadNext_sys (s : State) (r node : Nat) : (s.loadNext r node).sys = s.sys := by simp [State.loadNext]
@[simp] theorem State.loadRings_sys (s : State) (rs : List Nat) : (s.loadRings rs).sys = s.sys := by simp [State.loadRings]
@[simp] theorem State.nodeFailed_sys (s : State) (r node : Nat) : (s.nodeFailed r node).sys = s.sys := by simp [State.nodeFailed]

@[simp] theorem State.loaderReply_sys (s : State) (r : Nat) (q : NodeReq) (status : Byte) : (s.loaderReply r q status).sys = s.sys := by
  unfold State.loaderReply
  split <;> simp

@[simp] theorem State.nodeAnswer_role (s : State) (r : Nat) (q : NodeReq) (status : Byte) (data : Bytes) :
    (s.nodeAnswer r q status data).sys.role = s.sys.role := by
  unfold State.nodeAnswer
  split <;> simp

/-! ### Units, clusters and dies -/

@[simp] theorem State.fenceEst_role (s : State) (k : Nat) : (s.fenceEst k).sys.role = s.sys.role := by simp [State.fenceEst]
@[simp] theorem State.fenceLane_role (s : State) (c : Nat) : (s.fenceLane c).sys.role = s.sys.role := by simp [State.fenceLane]
@[simp] theorem State.unitError_role (s : State) (cluster unit : Nat) (sram : Bool) : (s.unitError cluster unit sram).sys.role = s.sys.role :=
  by simp [State.unitError]
@[simp] theorem State.trxError_role (s : State) (r port : Nat) : (s.trxError r port).sys.role = s.sys.role := by simp [State.trxError]
@[simp] theorem State.fieldError_role (s : State) (n : Nat) : (s.fieldError n).sys.role = s.sys.role := by simp [State.fieldError]

@[simp] theorem State.fbGap_sys (s : State) (i : Nat) : (s.fbGap i).sys = s.sys := by
  simp only [State.fbGap]
  split <;> simp

@[simp] theorem State.sendArb_sys (s : State) (op cause mask : Nat) (rest : Bytes) : (s.sendArb op cause mask rest).sys = s.sys :=
  by simp [State.sendArb]
@[simp] theorem State.startArb_sys (s : State) (mismatch : Bool) : (s.startArb mismatch).sys = s.sys := by simp [State.startArb]

@[simp] theorem State.xingDrop_role (s : State) (how : XingUse) (counted : Bool) : (s.xingDrop how counted).sys.role = s.sys.role := by
  unfold State.xingDrop
  split <;> simp

@[simp] theorem State.loseDie_role (s : State) (die : Die) : (s.loseDie die).sys.role = s.sys.role := by simp [State.loseDie]
@[simp] theorem State.loseField_role (s : State) : s.loseField.sys.role = s.sys.role := by simp [State.loseField]
@[simp] theorem State.loseMemory_role (s : State) : s.loseMemory.sys.role = s.sys.role := by simp [State.loseMemory]

/-! ### The twin -/

@[simp] theorem State.sendDict_sys (s : State) : s.sendDict.sys = s.sys := by simp [State.sendDict]
@[simp] theorem State.sendState_sys (s : State) : s.sendState.sys = s.sys := by simp [State.sendState]
@[simp] theorem State.joinTwin_sys (s : State) : s.joinTwin.sys = s.sys := by simp [State.joinTwin]
@[simp] theorem State.followTwin_role (s : State) : s.followTwin.sys.role = s.sys.role := by simp [State.followTwin]
@[simp] theorem State.endArb_role (s : State) : s.endArb.sys.role = s.sys.role := by simp [State.endArb]
@[simp] theorem State.standbyFails_role (s : State) : s.standbyFails.sys.role = s.sys.role := by simp [State.standbyFails]
@[simp] theorem State.divergence_sys (s : State) : s.divergence.sys = s.sys := by simp [State.divergence]
@[simp] theorem State.katEvent_sys (s : State) (t : Nat) : (s.katEvent t).sys = s.sys := by simp [State.katEvent]
@[simp] theorem State.compareLoop_sys (s : State) (m : LoopCopy) : (s.compareLoop m).sys = s.sys := by simp [State.compareLoop]

@[simp] theorem State.takeCommit_role (s : State) (digest : Bytes) : (s.takeCommit digest).sys.role = s.sys.role := by
  simp only [State.takeCommit]
  split <;> simp

@[simp] theorem State.steerBy_sys (s : State) (d : Int) : (s.steerBy d).sys = s.sys := by simp [State.steerBy]
@[simp] theorem State.takeAxis_sys (s : State) (a : Nat) (r : AxisRec) : (s.takeAxis a r).sys = s.sys := by simp [State.takeAxis]
@[simp] theorem State.adoptSweep_sys (s : State) (r mask : Nat) (stamp : BitVec 32) : (s.adoptSweep r mask stamp).sys = s.sys :=
  by simp [State.adoptSweep]

@[simp] theorem State.closeExch_sys (s : State) (r : Nat) : (s.closeExch r).sys = s.sys := by
  unfold State.closeExch
  (repeat' split) <;> simp

@[simp] theorem State.mirrorEntry_sys (s : State) (session : Nat) (e : SetEntry) : (s.mirrorEntry session e).sys = s.sys := by
  simp only [State.mirrorEntry]
  split <;> simp

@[simp] theorem State.takeTable_sys (s : State) (b : Bytes) : (s.takeTable b).sys = s.sys := by simp [State.takeTable]
@[simp] theorem State.takeIdentity_sys (s : State) (b : Bytes) : (s.takeIdentity b).sys = s.sys := by simp [State.takeIdentity]
@[simp] theorem State.takeHistory_sys (s : State) (b : Bytes) : (s.takeHistory b).sys = s.sys := by simp [State.takeHistory]
@[simp] theorem State.takeBlock_sys (s : State) (b : Bytes) : (s.takeBlock b).sys = s.sys := by simp [State.takeBlock]
@[simp] theorem State.clearSuspect_sys (s : State) : s.clearSuspect.sys = s.sys := by simp [State.clearSuspect]

/-! ### Self-tests -/

@[simp] theorem State.beginTests_sys (s : State) (l : List (Nat × Nat)) : (s.beginTests l).sys = s.sys := by simp [State.beginTests]
@[simp] theorem State.startupFail_role (s : State) (code : Nat) : (s.startupFail code).sys.role = s.sys.role := by simp [State.startupFail]
@[simp] theorem State.startupEnd_role (s : State) (code outcome count : Nat) : (s.startupEnd code outcome count).sys.role = s.sys.role :=
  by simp [State.startupEnd]

@[simp] theorem State.endSlot_role (s : State) (slot : Nat) (results : List (Nat × Bool × Nat × Nat)) :
    (s.endSlot slot results).sys.role = s.sys.role := by
  unfold State.endSlot
  refine State.foldl_role (fun s b => ?_) _ _
  simp only [roleKept_iff]
  split
  · rfl
  · split <;> simp

@[simp] theorem State.idleLanes_sys (s : State) (codes : List Nat) : (s.idleLanes codes).sys = s.sys := by simp [State.idleLanes]
@[simp] theorem State.estTested_role (s : State) (k outcome : Nat) : (s.estTested k outcome).sys.role = s.sys.role := by simp [State.estTested]
@[simp] theorem State.laneTested_role (s : State) (c outcome : Nat) : (s.laneTested c outcome).sys.role = s.sys.role := by simp [State.laneTested]

@[simp] theorem State.coresTested_sys (s : State) (code : Nat) : (s.coresTested code).sys = s.sys := by
  simp only [State.coresTested]
  (repeat' split) <;> simp

@[simp] theorem State.tested_role (s : State) (code outcome : Nat) : (s.tested code outcome).sys.role = s.sys.role := by simp [State.tested]

/-! ### Updates -/

@[simp] theorem State.sendImage_sys (s : State) (kind part : Nat) (b : Bytes) : (s.sendImage kind part b).sys = s.sys := by simp [State.sendImage]

@[simp] theorem State.updDone_sys (s : State) (status : Nat) (result : Bytes) : (s.updDone status result).sys = s.sys := by
  unfold State.updDone
  split <;> simp

@[simp] theorem State.nodeStep_sys (s : State) (e : PartEntry) : (s.nodeStep e).sys = s.sys := by simp [State.nodeStep]

@[simp] theorem State.writePart_sys (s : State) (p : Nat) : (s.writePart p).sys = s.sys := by
  unfold State.writePart
  split <;> simp

@[simp] theorem State.askTwin_sys (s : State) (mask : Nat) (restore : Bool) : (s.askTwin mask restore).sys = s.sys := by simp [State.askTwin]
@[simp] theorem State.halt_role (s : State) : s.halt.sys.role = s.sys.role := by simp [State.halt]
@[simp] theorem State.repair_role (s : State) : s.repair.sys.role = s.sys.role := by simp [State.repair]
@[simp] theorem State.interrupted_sys (s : State) (p : Nat) (running : Bool) : (s.interrupted p running).sys = s.sys := by simp [State.interrupted]
@[simp] theorem State.rolledBack_sys (s : State) : s.rolledBack.sys = s.sys := by simp [State.rolledBack]
@[simp] theorem State.onTrial_sys (s : State) : s.onTrial.sys = s.sys := by simp [State.onTrial]

@[simp] theorem State.txFinish_sys (s : State) : s.txFinish.sys = s.sys := by
  unfold State.txFinish
  split <;> simp

@[simp] theorem State.repeatRestore_sys (s : State) : s.repeatRestore.sys = s.sys := by simp [State.repeatRestore]
@[simp] theorem State.giveParts_sys (s : State) (mask : Nat) : (s.giveParts mask).sys = s.sys := by simp [State.giveParts]

@[simp] theorem State.stepX_sys (s : State) (t : UpdTx) : (s.stepX t).sys = s.sys := by
  simp only [State.stepX]
  (repeat' split) <;> simp

@[simp] theorem State.judgeMixed_sys (s : State) : s.judgeMixed.sys = s.sys := by simp [State.judgeMixed]
@[simp] theorem State.judgeSerial_sys (s : State) (serial : Bytes) : (s.judgeSerial serial).sys = s.sys := by simp [State.judgeSerial]
@[simp] theorem State.sendElig_sys (s : State) : s.sendElig.sys = s.sys := by simp [State.sendElig]

/-! ### The fault manager -/

@[simp] theorem State.placeFault_sys (s : State) (f : FRec) : (s.placeFault f).sys = s.sys := by
  unfold State.placeFault
  split <;> simp

@[simp] theorem State.openStrings_role (s : State) (f : FRec) (seq : Nat) : (s.openStrings f seq).sys.role = s.sys.role := by simp [State.openStrings]
@[simp] theorem State.barBlocks_role (s : State) (code inst : Nat) : (s.barBlocks code inst).sys.role = s.sys.role := by simp [State.barBlocks]
@[simp] theorem State.faultRunning_sys (s : State) : s.faultRunning.sys = s.sys := by simp [State.faultRunning]
@[simp] theorem State.reportTwin_sys (s : State) (f : FRec) : (s.reportTwin f).sys = s.sys := by simp [State.reportTwin]
@[simp] theorem State.recordChildren_sys (s : State) (f : FRec) : (s.recordChildren f).sys = s.sys := by simp [State.recordChildren]
@[simp] theorem State.merge_sys (s : State) (f : FRec) : (s.merge f).sys = s.sys := by simp [State.merge]

/-! ### Power and start-up -/

@[simp] theorem State.readSlot_role (s : State) : s.readSlot.sys.role = s.sys.role := by
  simp only [State.readSlot]
  (repeat' split) <;> simp

@[simp] theorem State.dramLost_sys (s : State) : s.dramLost.sys = s.sys := by
  simp only [State.dramLost]
  split <;> simp

@[simp] theorem State.checkFrozen_sys (s : State) : s.checkFrozen.sys = s.sys := by
  unfold State.checkFrozen
  split <;> simp

@[simp] theorem State.startRings_sys (s : State) : s.startRings.sys = s.sys := by simp [State.startRings]
@[simp] theorem State.enterP2_sys (s : State) : s.enterP2.sys = s.sys := by simp [State.enterP2]
@[simp] theorem State.latchHold_role (s : State) : s.latchHold.sys.role = s.sys.role := by simp [State.latchHold]
@[simp] theorem State.holdP3_role (s : State) : s.holdP3.sys.role = s.sys.role := by simp [State.holdP3]
@[simp] theorem State.enterP3_role (s : State) : s.enterP3.sys.role = s.sys.role := by simp [State.enterP3]
@[simp] theorem State.endVisit_role (s : State) : s.endVisit.sys.role = s.sys.role := by simp [State.endVisit]
@[simp] theorem State.visitOver_role (s : State) : s.visitOver.sys.role = s.sys.role := by simp [State.visitOver]
@[simp] theorem State.enterP4_role (s : State) : s.enterP4.sys.role = s.sys.role := by simp [State.enterP4]
@[simp] theorem State.wakeNodes_sys (s : State) : s.wakeNodes.sys = s.sys := by simp [State.wakeNodes]
@[simp] theorem State.resumeFrom_role (s : State) (old : PState) : (s.resumeFrom old).sys.role = s.sys.role := by simp [State.resumeFrom]
@[simp] theorem State.endTransition_role (s : State) : s.endTransition.sys.role = s.sys.role := by simp [State.endTransition]
@[simp] theorem State.giveUp_role (s : State) : s.giveUp.sys.role = s.sys.role := by simp [State.giveUp]
@[simp] theorem State.prepareStages_role (s : State) : s.prepareStages.sys.role = s.sys.role := by simp [State.prepareStages]
@[simp] theorem State.keepHistories_sys (s : State) : s.keepHistories.sys = s.sys := by simp [State.keepHistories]
@[simp] theorem State.aim_role (s : State) (p : PState) (op : Option OpRef) (alone : Bool) : (s.aim p op alone).sys.role = s.sys.role :=
  by simp [State.aim]
@[simp] theorem State.loadDict_sys (s : State) (dict : BitVec 2) : (s.loadDict dict).sys = s.sys := by simp [State.loadDict]
@[simp] theorem State.dictDefaults_sys (s : State) : s.dictDefaults.sys = s.sys := by simp [State.dictDefaults]

/-! ### The tick -/

@[simp] theorem State.cycle_role (s : State) : s.cycle.sys.role = s.sys.role := by simp [State.cycle]
@[simp] theorem State.pollNodes_sys (s : State) : s.pollNodes.sys = s.sys := by simp [State.pollNodes]

end Sys2Proof.Machine
end

section
/-! SUPPORT. The operations that write the role line, the lifecycle state, its mirror or the supply keep the invariant (the lemmas named _held), and
so does every command (those named _keeps). Two facts carry it: only assertRole takes the line up, in ACTIVE under an ACTIVE mirror and a standing
supply (R38), and every change of the lifecycle leaves the line low, since the line is dropped on the way out of ACTIVE (R22, R375) and a module in
another state did not assert it (setLifecycle_role). In the order of the model's files. -/
namespace Sys2Proof.Machine
open Sys2Proof

/-! ### Parameters -/

theorem execParamSet_keeps (h : Hdr) (entries : List SetEntry) (s : State) : Keeps s (execParamSet h entries s) := .of_role <| by simp
theorem execClusterStatusW1c_keeps (h : Hdr) (inst : Byte) (value : BitVec 32) (s : State) : Keeps s (execClusterStatusW1c h inst value s) :=
  .of_role <| by simp
theorem execClusterUnfence_keeps (h : Hdr) (inst value : Byte) (s : State) : Keeps s (execClusterUnfence h inst value s) := .of_role <| by simp
theorem execResetCauseW1c_keeps (h : Hdr) (value : BitVec 16) (s : State) : Keeps s (execResetCauseW1c h value s) := .of_role <| by simp
theorem execParamDescribe_keeps (h : Hdr) (id : BitVec 16) (s : State) : Keeps s (execParamDescribe h id s) := .of_role <| by
  split <;> simp
theorem execParamList_keeps (h : Hdr) (subsystem start : Byte) (s : State) : Keeps s (execParamList h subsystem start s) := .of_role <| by simp
theorem execParamStore_keeps (h : Hdr) (s : State) : Keeps s (execParamStore h s) := .of_role <| by simp
theorem execCommit_keeps (h : Hdr) (s : State) : Keeps s (execCommit h s) := .of_role <| by simp
theorem execCommitApplied_keeps (s : State) : Keeps s (execCommitApplied s) := .of_role <| by
  split <;> simp
theorem execSnapshotAt_keeps (h : Hdr) (instant : Time80) (s : State) : Keeps s (execSnapshotAt h instant s) := .of_role <| by simp

theorem execSnapshotInstant_keeps (num : Nat) (s : State) : Keeps s (execSnapshotInstant num s) := by
  unfold execSnapshotInstant
  refine .of_role ?_
  split
  · rfl
  · simp only []
    split
    · rw [State.foldl_sys fun _ _ => State.snapRing_sys _ _ _ _ _]
      exact State.advanceTo_role _ _
    split
    · exact (congrArg _ (State.sendCounters_sys _ _)).trans (State.advanceTo_role _ _)
    · exact State.advanceTo_role _ _

theorem execSnapshotRead_keeps (h : Hdr) (num : BitVec 16) (source : Byte) (offset : BitVec 32) (s : State) :
    Keeps s (execSnapshotRead h num source offset s) := .of_role <| State.wcpReq_role _ _ _ _ _ fun s => by
  simp only [roleKept_iff]
  split <;> simp

theorem execSnapshotRelease_keeps (h : Hdr) (num : BitVec 16) (s : State) : Keeps s (execSnapshotRelease h num s) := .of_role <| by simp

/-! ### Lanes -/

theorem execLoopStatus_keeps (h : Hdr) (mask : Byte) (s : State) : Keeps s (execLoopStatus h mask s) := .of_role <| by simp
theorem execDutySaturated_keeps (ch : Nat) (s : State) : Keeps s (execDutySaturated ch s) := .of_role <| by simp
theorem execLimitActive_keeps (ch : Nat) (s : State) : Keeps s (execLimitActive ch s) := .of_role <| by simp
theorem execSlowStaleTrip_keeps (ch : Nat) (s : State) : Keeps s (execSlowStaleTrip ch s) := .of_role <| by
  split <;> simp

/-! ### Profiles and axes -/

theorem execLoadAngleSample_keeps (axis : Nat) (emf : Int) (settled : Bool) (s : State) : Keeps s (execLoadAngleSample axis emf settled s) :=
  .of_role <| by
    simp only []
    (repeat' split) <;> simp

theorem execPositionTick_keeps (s : State) : Keeps s (execPositionTick s) := .of_role <| by simp
theorem execHoldDelayExpiry_keeps (axis : Nat) (s : State) : Keeps s (execHoldDelayExpiry axis s) := .of_role <| by simp
theorem execBridgeOvercurrent_keeps (axis : Nat) (s : State) : Keeps s (execBridgeOvercurrent axis s) := .of_role <| by simp
theorem execCoilOpen_keeps (axis phase : Nat) (s : State) : Keeps s (execCoilOpen axis phase s) := .of_role <| by simp
theorem execActSupplyLow_keeps (mv : Nat) (s : State) : Keeps s (execActSupplyLow mv s) := .of_role <| by simp
theorem execBridgeHot_keeps (level : Nat) (s : State) : Keeps s (execBridgeHot level s) := .of_role <| by simp
theorem execSf4Incomplete_keeps (axis : Nat) (s : State) : Keeps s (execSf4Incomplete axis s) := .of_role <| by
  split <;> simp

theorem execProfTarget_keeps (h : Hdr) (gen : Byte) (target : BitVec 64) (s : State) : Keeps s (execProfTarget h gen target s) :=
  .of_role <| State.wcpReq_role _ _ _ _ _ fun s => by
    simp only [roleKept_iff]
    (repeat' split) <;> simp

theorem execProfEstop_keeps (h : Hdr) (mask : Byte) (s : State) : Keeps s (execProfEstop h mask s) := .of_role <| by simp
theorem execProfStatus_keeps (h : Hdr) (mask : Byte) (s : State) : Keeps s (execProfStatus h mask s) := .of_role <| by simp
theorem execAxisEnable_keeps (h : Hdr) (mask enable : Byte) (s : State) : Keeps s (execAxisEnable h mask enable s) := .of_role <| by simp
theorem execAxisHome_keeps (h : Hdr) (axis dir : Byte) (s : State) : Keeps s (execAxisHome h axis dir s) := .of_role <| by simp
theorem execAxisSetPos_keeps (h : Hdr) (axis : Byte) (pos : BitVec 64) (s : State) : Keeps s (execAxisSetPos h axis pos s) := .of_role <| by simp
theorem execAxisCalibrate_keeps (h : Hdr) (axis : Byte) (speed : BitVec 32) (s : State) : Keeps s (execAxisCalibrate h axis speed s) := .of_role <| by
  split <;> simp
theorem execAxisStatus_keeps (h : Hdr) (mask : Byte) (s : State) : Keeps s (execAxisStatus h mask s) := .of_role <| by simp

/-! ### Sessions -/

theorem execPing_keeps (h : Hdr) (s : State) : Keeps s (execPing h s) := .of_role <| by simp

theorem execSessionOpen_keeps (h : Hdr) (req : OpenReq) (s : State) : Keeps s (execSessionOpen h req s) :=
  .of_role <| State.wcpReq_role _ _ _ _ _ fun s => by
    simp only [State.draw, roleKept_iff]
    split
    · simp
    split
    · simp
    split
    · simp
    split
    · simp
    split <;> simp

theorem execEventSubscribe_keeps (h : Hdr) (mask : BitVec 32) (minSev : Byte) (s : State) : Keeps s (execEventSubscribe h mask minSev s) :=
  .of_role <| by simp
theorem execEventAck_keeps (h : Hdr) (batch : BitVec 32) (s : State) : Keeps s (execEventAck h batch s) := .of_role <| by simp
theorem execFaultStatus_keeps (h : Hdr) (s : State) : Keeps s (execFaultStatus h s) := .of_role <| by simp
theorem execDiscard_keeps (h : Hdr) (s : State) : Keeps s (execDiscard h s) := .of_role <| by simp
theorem execHostLinkWrite_keeps (cmd : Byte) (bytes : Bytes) (cut : Bool) (s : State) : Keeps s (execHostLinkWrite cmd bytes cut s) :=
  .of_role <| by simp
theorem execHostLinkRead_keeps (cut : Bool) (s : State) : Keeps s (execHostLinkRead cut s) := .of_role <| by
  (repeat' split) <;> simp
theorem execReassemblyTimeout_keeps (key : Nat) (s : State) : Keeps s (execReassemblyTimeout key s) := .of_role <| by
  split <;> simp
theorem execSplitRequestTimeout_keeps (session : Nat) (s : State) : Keeps s (execSplitRequestTimeout session s) := .of_role <| by
  (repeat' split) <;> simp
theorem execEventBatch_keeps (session : Nat) (s : State) : Keeps s (execEventBatch session s) := .of_role <| by
  split <;> simp
theorem execEventBatchRetry_keeps (session : Nat) (s : State) : Keeps s (execEventBatchRetry session s) := .of_role <| by
  (repeat' split) <;> simp

/-! ### Networks and time -/

theorem execArpRequest_keeps (f : EthIn) (ip : BitVec 32) (mac : Bytes) (s : State) : Keeps s (execArpRequest f ip mac s) := .of_role <| by simp
theorem execIcmpEcho_keeps (f : EthIn) (dst src : BitVec 32) (data : Bytes) (s : State) : Keeps s (execIcmpEcho f dst src data s) :=
  .of_role <| by simp
theorem execUdpDatagram_keeps (f : EthIn) (dst : BitVec 32) (dport peer key offset : Nat) (more : Bool) (bytes : Bytes) (s : State) :
    Keeps s (execUdpDatagram f dst dport peer key offset more bytes s) := .of_role <| by simp

theorem execGratuitousArp_keeps (s : State) : Keeps s (execGratuitousArp s) := .of_role <| by
  simp only []
  (repeat' split) <;> simp

theorem execPrpSupervision_keeps (s : State) : Keeps s (execPrpSupervision s) := .of_role <| by simp
theorem execPrpFrame_keeps (f : EthIn) (src : Nat) (seq : BitVec 16) (lan : Nat) (s : State) : Keeps s (execPrpFrame f src seq lan s) :=
  .of_role <| by simp
theorem execPtpAnnounce_keeps (f : EthIn) (m : PtpHdr) (a : AnnounceData) (s : State) : Keeps s (execPtpAnnounce f m a s) := .of_role <| by simp
theorem execPtpAnnounceTimeout_keeps (port : Nat) (s : State) : Keeps s (execPtpAnnounceTimeout port s) := .of_role <| by
  split <;> simp
theorem execPtpSync_keeps (f : EthIn) (m : PtpHdr) (t1 t2 : Nat) (corr : Int) (interval : Nat) (master : Bytes) (s : State) :
    Keeps s (execPtpSync f m t1 t2 corr interval master s) := .of_role <| by simp

theorem execPtpDelayResp_keeps (f : EthIn) (m : PtpHdr) (t2 t3 t4 : Nat) (corr : Int) (s : State) :
    Keeps s (execPtpDelayResp f m t2 t3 t4 corr s) :=
  .of_role <| congrArg _ <| State.ptpIn_sys _ _ _ _ _ fun s => by
    simp only [sysKept_iff]
    split
    · rfl
    split
    · rfl
    split <;> simp

theorem execPtpPdelayReq_keeps (f : EthIn) (m : PtpHdr) (rx : Nat) (s : State) : Keeps s (execPtpPdelayReq f m rx s) := .of_role <| by simp
theorem execDelayReqDue_keeps (port : Nat) (s : State) : Keeps s (execDelayReqDue port s) := .of_role <| by simp
theorem execHoldoverLong_keeps (s : State) : Keeps s (execHoldoverLong s) := .of_role <| by simp
theorem execEthLinkChange_keeps (port link : Nat) (s : State) : Keeps s (execEthLinkChange port link s) := .of_role <| by simp

theorem execLaunchTime_keeps (port : Nat) (frame : Bytes) (launch : Nat) (s : State) : Keeps s (execLaunchTime port frame launch s) := .of_role <| by
  simp only []
  split <;> simp

theorem execWholeSecond_keeps (s : State) : Keeps s (execWholeSecond s) := .of_role <| by simp
theorem execTimeStep_keeps (s : State) : Keeps s (execTimeStep s) := .of_role <| by
  split <;> simp
theorem execTimeJumpAccept_keeps (h : Hdr) (s : State) : Keeps s (execTimeJumpAccept h s) := .of_role <| by simp

theorem execTimeJumpReject_keeps (h : Hdr) (s : State) : Keeps s (execTimeJumpReject h s) := .of_role <| State.wcpReq_role _ _ _ _ _ fun s => by
  simp only [roleKept_iff]
  (repeat' split) <;> simp

theorem execNetStatus_keeps (h : Hdr) (s : State) : Keeps s (execNetStatus h s) := .of_role <| by simp
theorem execPtpStatus_keeps (h : Hdr) (s : State) : Keeps s (execPtpStatus h s) := .of_role <| by simp

/-! ### The estimator -/

theorem execEstCycleComplete_keeps (late : Bool) (s : State) : Keeps s (execEstCycleComplete late s) := .of_role <| by
  split
  · rfl
  extract_lets est kept ups fused cells old cycled counted figured judged
  have hkept : kept.sys = s.sys := by simp [kept]
  have hfigured : figured.sys = s.sys := by simp [figured, counted, cycled, fused, hkept]
  have hjudged : judged.sys = figured.sys := State.foldl_sys (fun s r => by
    change (ite _ (State.raise _ _ _ _ _) _).sys = s.sys
    simp) _ _
  simp [hjudged, hfigured]

theorem execEstimatorPersist_keeps (bad : BitVec 4) (s : State) : Keeps s (execEstimatorPersist bad s) := .of_role <| by simp
theorem execEstCells_keeps (h : Hdr) (ring node : Byte) (s : State) : Keeps s (execEstCells h ring node s) := .of_role <| by simp
theorem execEstString_keeps (h : Hdr) (mask : Byte) (s : State) : Keeps s (execEstString h mask s) := .of_role <| by simp
theorem execEstReset_keeps (h : Hdr) (ring node : Byte) (mask : BitVec 16) (s : State) : Keeps s (execEstReset h ring node mask s) :=
  .of_role <| by simp

/-! ### Impedance runs and identities -/

theorem execImpRun_keeps (h : Hdr) (mask : Byte) (s : State) : Keeps s (execImpRun h mask s) := .of_role <| by simp
theorem execImpStop_keeps (h : Hdr) (mask : Byte) (s : State) : Keeps s (execImpStop h mask s) := .of_role <| by simp
theorem execImpScheduleDue_keeps (ring : Nat) (s : State) : Keeps s (execImpScheduleDue ring s) := .of_role <| by simp
theorem execImpWindowEnd_keeps (ring : Nat) (s : State) : Keeps s (execImpWindowEnd ring s) := .of_role <| by simp

theorem execPrecursorCleared_keeps (ring : Nat) (s : State) : Keeps s (execPrecursorCleared ring s) := .of_role <| by
  simp only []
  split <;> simp

theorem execNodeSyncDue_keeps (ring : Nat) (s : State) : Keeps s (execNodeSyncDue ring s) := .of_role <| by simp

theorem execImpNodeSync_keeps (h : Hdr) (mask : Byte) (s : State) : Keeps s (execImpNodeSync h mask s) :=
  .of_role <| State.wcpReq_role _ _ _ _ _ fun s => by
    simp only [roleKept_iff]
    split
    · simp
    · rw [State.syncStart_sys, State.foldl_sys fun _ _ => State.syncStart_sys _ _ _, State.reply_sys]

theorem execImpRunEnd_keeps (ring : Nat) (s : State) : Keeps s (execImpRunEnd ring s) := .of_role <| by
  simp only []
  split <;> simp

theorem execAuthChallengeDue_keeps (node : Nat) (nonce : Bytes) (s : State) : Keeps s (execAuthChallengeDue node nonce s) := .of_role <| by simp

theorem execAuthAnswer_keeps (node : Nat) (answer : Option AuthData) (s : State) : Keeps s (execAuthAnswer node answer s) := by
  unfold execAuthAnswer
  refine .of_role ?_
  split
  · rfl
  extract_lets waited op taken judged
  have hwaited : waited.sys.role = s.sys.role := by
    cases answer with
    | none => exact State.advanceTo_role _ _
    | some d => rfl
  have hjudged : judged.sys = waited.sys := by
    cases answer with
    | none => exact State.authReject_sys _ _ _ _
    | some d => simp -implicitDefEqProofs [judged, taken]
  clear_value judged op
  split
  · rw [State.sys_ite, State.complete_sys, ite_self, hjudged, hwaited]
  · rw [hjudged, hwaited]

theorem execNodeReauth_keeps (h : Hdr) (ring node : Byte) (s : State) : Keeps s (execNodeReauth h ring node s) := .of_role <| by simp
theorem execImpTable_keeps (h : Hdr) (ring node cell : Byte) (s : State) : Keeps s (execImpTable h ring node cell s) := .of_role <| by simp
theorem execImpHealth_keeps (h : Hdr) (ring node : Byte) (s : State) : Keeps s (execImpHealth h ring node s) := .of_role <| by simp
theorem execNodeIdentity_keeps (h : Hdr) (ring node : Byte) (s : State) : Keeps s (execNodeIdentity h ring node s) := .of_role <| by simp

theorem execEstimatorCycle_keeps (s : State) : Keeps s (execEstimatorCycle s) := .of_role <| by
  simp only []
  (repeat' split) <;> simp

/-! ### Power-stage channels -/

theorem execDsClockLoss_keeps (ch : Nat) (s : State) : Keeps s (execDsClockLoss ch s) := .of_role <| by simp
theorem execDsClockRange_keeps (ch : Nat) (s : State) : Keeps s (execDsClockRange ch s) := .of_role <| by simp
theorem execDsStuck_keeps (ch line : Nat) (s : State) : Keeps s (execDsStuck ch line s) := .of_role <| by simp
theorem execDsFrozen_keeps (ch line : Nat) (s : State) : Keeps s (execDsFrozen ch line s) := .of_role <| by simp
theorem execTurnipDsStuck_keeps (ch : Nat) (s : State) : Keeps s (execTurnipDsStuck ch s) := .of_role <| by simp
theorem execGateDriverFault_keeps (ch lowNs : Nat) (s : State) : Keeps s (execGateDriverFault ch lowNs s) := .of_role <| by simp
theorem execReadbackActive_keeps (ch : Nat) (rb : List Readback) (s : State) : Keeps s (execReadbackActive ch rb s) := .of_role <| by simp
theorem execReadbackShadow_keeps (ch : Nat) (rb : List Readback) (s : State) : Keeps s (execReadbackShadow ch rb s) := .of_role <| by simp
theorem execLoopbackRun_keeps (h : Hdr) (mask : Byte) (s : State) : Keeps s (execLoopbackRun h mask s) := .of_role <| by simp
theorem execLoopbackDue_keeps (edges : List (List (Option Int))) (s : State) : Keeps s (execLoopbackDue edges s) := .of_role <| by
  split <;> simp
theorem execChStart_keeps (h : Hdr) (mask : Byte) (s : State) : Keeps s (execChStart h mask s) := .of_role <| by simp
theorem execChStopRamp_keeps (h : Hdr) (mask : Byte) (s : State) : Keeps s (execChStopRamp h mask s) := .of_role <| by simp
theorem execChStopImmediate_keeps (h : Hdr) (mask : Byte) (s : State) : Keeps s (execChStopImmediate h mask s) := .of_role <| by simp
theorem execStopComplete_keeps (ch : Nat) (s : State) : Keeps s (execStopComplete ch s) := .of_role <| by simp
theorem execStopTimeout_keeps (ch : Nat) (s : State) : Keeps s (execStopTimeout ch s) := .of_role <| by
  split <;> simp
theorem execPsiFaultClear_keeps (h : Hdr) (mask : Byte) (s : State) : Keeps s (execPsiFaultClear h mask s) := .of_role <| by simp
theorem execPsiStatus_keeps (h : Hdr) (mask : Byte) (s : State) : Keeps s (execPsiStatus h mask s) := .of_role <| by simp

/-! ### Cell temperatures -/

theorem execThermalEvaluation_keeps (rows : List (List (Option Int))) (s : State) : Keeps s (execThermalEvaluation rows s) := .of_role <| by simp
theorem execThermStatus_keeps (h : Hdr) (s : State) : Keeps s (execThermStatus h s) := .of_role <| by simp

/-! ### Lifecycle and role -/

@[simp] theorem State.endDrive_held (s : State) : RoleHeld s.endDrive.sys.role := .of_low (State.endDrive_roleOut s)
/-- R375: no later step of leaving ACTIVE takes the line up again. -/
theorem State.leaveActive_roleOut (s : State) (next : Lifecycle) : (s.leaveActive next).sys.roleOut = false := by simp [State.leaveActive]

/-- The view after a change of lifecycle (R22): the line is low, since a module that was not ACTIVE did not assert it. -/
theorem State.setLifecycle_role (s : State) {new : Lifecycle} (hnew : s.sys.lifecycle ≠ new) (h : s.Inv) :
    ∃ v, (s.setLifecycle new).sys.role = (false, new, new, v) := by
  unfold State.setLifecycle
  extract_lets old left before changed since negotiating standing ended
  have hleft : left.sys.roleOut = false := by
    by_cases hactive : old = .active
    · simp only [left, if_pos hactive, State.leaveActive_roleOut]
    · have hlow : s.sys.roleOut = false := Bool.eq_false_iff.2 fun hout => hactive (h hout).1
      have hrole : left.sys.role = s.sys.role := by simp [left, hactive]
      exact (congrArg Prod.fst hrole).trans hlow
  have hchanged : changed.sys.role = (false, new, new, left.sys.vinLow) := by rw [← hleft]; rfl
  have hended : ended.sys.role = changed.sys.role := by simp [ended, standing, negotiating, since]
  refine ⟨left.sys.vinLow, ?_⟩
  rw [if_neg hnew, State.fbEvent_sys, State.estLife_sys, State.checkPower_role, State.endCt_role, hended, hchanged]

@[simp] theorem State.setLifecycle_held (s : State) (new : Lifecycle) (h : s.Inv) : RoleHeld (s.setLifecycle new).sys.role := by
  by_cases hnew : s.sys.lifecycle = new
  · rwa [State.setLifecycle, if_pos hnew]
  · obtain ⟨v, hv⟩ := s.setLifecycle_role hnew h
    rw [hv]
    exact roleHeld_low _

@[simp] theorem State.setLifecycle_lifecycle (s : State) (new : Lifecycle) (h : s.Inv) : (s.setLifecycle new).sys.lifecycle = new := by
  by_cases hnew : s.sys.lifecycle = new
  · rwa [State.setLifecycle, if_pos hnew]
  · obtain ⟨v, hv⟩ := s.setLifecycle_role hnew h
    exact congrArg (·.2.1) hv

/-- R38: the line is asserted only under an ACTIVE mirror and a standing supply; the lifecycle is the caller's. -/
theorem State.assertRole_held (s : State) (hlife : s.sys.lifecycle = .active) (h : s.Inv) : RoleHeld s.assertRole.sys.role := by
  unfold State.assertRole
  split
  · next hmay =>
    obtain ⟨hmirror, -, -, -, -, -, hvin⟩ := hmay
    have hvin : s.sys.vinLow = false := by simpa using hvin
    exact fun _ => ⟨hlife, hmirror, hvin⟩
  · exact h

@[simp] theorem State.goActive_held (s : State) (h : s.Inv) : RoleHeld s.goActive.sys.role := by
  have hset := State.assertRole_held (({ s with sys := { s.sys with driveEnded := false } } : State).setLifecycle .active)
    (State.setLifecycle_lifecycle _ _ (by simpa using h)) (State.setLifecycle_held _ _ (by simpa using h))
  simpa [State.goActive] using hset

@[simp] theorem State.takeover_held (s : State) (planned drill : Bool) (cause : Nat) (h : s.Inv) :
    RoleHeld (s.takeover planned drill cause).sys.role := by simp [State.takeover, h.role]
@[simp] theorem State.activeOpen_held (s : State) (h : s.Inv) : RoleHeld s.activeOpen.sys.role := by simp [State.activeOpen, h.role]
@[simp] theorem State.notReady_held (s : State) (h : s.Inv) : RoleHeld s.notReady.sys.role := by simp [State.notReady, h.role]
@[simp] theorem State.moduleLock_held (s : State) (code inst : Nat) (data : Bytes) : RoleHeld (s.moduleLock code inst data).sys.role :=
  by simp [State.moduleLock]
/-- R40, R68: a reset leaves the line low. -/
@[simp] theorem State.restart_held (s : State) (cause : Nat) : RoleHeld (s.restart cause).sys.role := roleHeld_low _
@[simp] theorem State.restartSoc_held (s : State) (cause : Nat) : RoleHeld (s.restartSoc cause).sys.role := roleHeld_low _

@[simp] theorem State.resetModule_sys (s : State) (cause : Nat) : (s.resetModule cause).sys = s.sys.restart cause := State.afterReset_sys _ _ _

@[simp] theorem SysSt.restart_held (x : SysSt) (cause : Nat) : RoleHeld (x.restart cause).role := roleHeld_low _

@[simp] theorem State.leaveUpdate_held (s : State) (h : s.Inv) : RoleHeld s.leaveUpdate.sys.role := by simp [State.leaveUpdate, h.role]
@[simp] theorem State.endSession_held (s : State) (id : Nat) (h : s.Inv) : RoleHeld (s.endSession id).sys.role := by simp [State.endSession, h.role]
theorem execSessionClose_keeps (h : Hdr) (s : State) : Keeps s (execSessionClose h s) :=
  .next <| State.wcpReq_held _ _ _ _ _ fun s hs => by simp [hs.role]

theorem execSessionIdleTimeout_keeps (session : Nat) (s : State) : Keeps s (execSessionIdleTimeout session s) := by
  unfold execSessionIdleTimeout
  cases s.sess session with
  | none => exact .next id
  | some x => exact .next fun h => by simp [h.role]

/-! ### The safety function -/

@[simp] theorem State.completeReset_held (s : State) (h : s.Inv) : RoleHeld s.completeReset.sys.role := by
  simp only [State.completeReset]
  split
  · exact h.role
  split
  · exact h.role
  split
  · exact State.setLifecycle_held _ _ (h.of_role (by simp))
  · simp [h.role]

theorem execSafetyReset_keeps (h : Hdr) (scope mask : Byte) (s : State) : Keeps s (execSafetyReset h scope mask s) :=
  .of_role <| State.wcpReq_role _ _ _ _ _ fun s => by
    simp only [roleKept_iff]
    (repeat' split) <;> simp

theorem execResetArmTimeout_keeps (s : State) : Keeps s (execResetArmTimeout s) := .of_role <| by
  simp only []
  (repeat' split) <;> simp

theorem execResetInputEdge_keeps (input lowMs skewMs : Nat) (s : State) : Keeps s (execResetInputEdge input lowMs skewMs s) :=
  .next fun h => by simp [h.role]
theorem execResetLapsed_keeps (s : State) : Keeps s (execResetLapsed s) := .of_role <| by
  (repeat' split) <;> simp

theorem execSiDemand_keeps (pair : Nat) (turnip : Bool) (s : State) : Keeps s (execSiDemand pair turnip s) := .of_role <| by
  simp only []
  (repeat' split) <;> simp

theorem execSiDiscrepancy_keeps (pair : Nat) (s : State) : Keeps s (execSiDiscrepancy pair s) := .of_role <| by
  split <;> simp
theorem execSiTestPulse_keeps (input : Nat) (lowUs : Option Nat) (moved : Bool) (s : State) : Keeps s (execSiTestPulse input lowUs moved s) :=
  .of_role <| by simp
@[simp] theorem State.pulse_held (s : State) (out sw : Nat) (good : Bool) (h : s.Inv) : RoleHeld (s.pulse out sw good).sys.role :=
  by simp [State.pulse, h.role]
theorem execOffPulse_keeps (out sw : Nat) (core turnip : SwitchLevels) (s : State) : Keeps s (execOffPulse out sw core turnip s) :=
  .next fun h => by simp [h.role]
theorem execOnPulse_keeps (out sw : Nat) (core turnip : SwitchLevels) (s : State) : Keeps s (execOnPulse out sw core turnip s) :=
  .next fun h => by simp [h.role]
theorem execSoOverload_keeps (out : Nat) (s : State) : Keeps s (execSoOverload out s) := .of_role <| by simp
theorem execSoOpenLoad_keeps (out : Nat) (s : State) : Keeps s (execSoOpenLoad out s) := .of_role <| by simp
theorem execOvercurrent_keeps (ch : Nat) (bits : List Bool) (s : State) : Keeps s (execOvercurrent ch bits s) := .of_role <| by simp
theorem execOcTimeExceeded_keeps (ch hz : Nat) (s : State) : Keeps s (execOcTimeExceeded ch hz s) := .of_role <| by simp
theorem execSafetyHeartbeatLoss_keeps (s : State) : Keeps s (execSafetyHeartbeatLoss s) := .next fun _ => by simp
theorem execSafetyLockstep_keeps (s : State) : Keeps s (execSafetyLockstep s) := .next fun _ => by simp

theorem execCrossDemand_keeps (kind : DemandKind) (strings : Nat) (fromTurnip : Bool) (s : State) :
    Keeps s (execCrossDemand kind strings fromTurnip s) := .next fun h => by
  split <;> simp [h.role]

theorem execCrossDemandTimeout_keeps (s : State) : Keeps s (execCrossDemandTimeout s) := .next fun _ => by simp
theorem execChannelDiscrepancy_keeps (string : Nat) (s : State) : Keeps s (execChannelDiscrepancy string s) := .of_role <| by
  split <;> simp
theorem execFreewheelToClamp_keeps (out : Nat) (s : State) : Keeps s (execFreewheelToClamp out s) := .of_role <| by simp
theorem execSafetySwitchFrameLoss_keeps (sw : Bool) (s : State) : Keeps s (execSafetySwitchFrameLoss sw s) := .of_role <| by simp
theorem execStringClose_keeps (h : Hdr) (mask : Byte) (s : State) : Keeps s (execStringClose h mask s) := .of_role <| by simp
theorem execPrechargeElapsed_keeps (string : Nat) (s : State) : Keeps s (execPrechargeElapsed string s) := .of_role <| by simp
theorem execStringOpenStopped_keeps (h : Hdr) (mask : Byte) (s : State) : Keeps s (execStringOpenStopped h mask s) := .of_role <| by simp
theorem execStringOpenRunning_keeps (h : Hdr) (mask : Byte) (s : State) : Keeps s (execStringOpenRunning h mask s) := .of_role <| by simp
theorem execSafetyStatus_keeps (h : Hdr) (s : State) : Keeps s (execSafetyStatus h s) := .of_role <| by simp
theorem execConfirmSafetyConfig_keeps (h : Hdr) (crc : BitVec 32) (s : State) : Keeps s (execConfirmSafetyConfig h crc s) := .of_role <| by simp
theorem execCommissioningTestStart_keeps (h : Hdr) (ch : Byte) (s : State) : Keeps s (execCommissioningTestStart h ch s) := .of_role <| by simp

theorem execCommissioningTestStop_keeps (h : Hdr) (ch : Byte) (s : State) : Keeps s (execCommissioningTestStop h ch s) :=
  .of_role <| State.wcpReq_role _ _ _ _ _ fun s => by
    simp only [roleKept_iff]
    split <;> simp

theorem execCtTimeExpiry_keeps (ch : Nat) (s : State) : Keeps s (execCtTimeExpiry ch s) := .of_role <| by
  (repeat' split) <;> simp
theorem execSafeBlockApply_keeps (s : State) : Keeps s (execSafeBlockApply s) := .of_role <| by simp
@[simp] theorem State.useData_held (s : State) (k : Nat) (d : BitVec 32) (h : s.Inv) : RoleHeld (s.useData k d).sys.role :=
  by simp [State.useData, h.role]

@[simp] theorem State.wsfCrcFail_held (s : State) (k : Nat) (h : s.Inv) : RoleHeld (s.wsfCrcFail k).sys.role := by
  simp only [State.wsfCrcFail]
  split
  · simp [h.role]
  · split <;> simp [h.role]

@[simp] theorem State.wsfJudge_held (s : State) (k : Nat) (b : Bytes) (h : s.Inv) : RoleHeld (s.wsfJudge k b).sys.role := by
  simp only [State.wsfJudge]
  repeat' split
  all_goals simp [h.role]

@[simp] theorem State.wsfReceive_held (s : State) (transport peer : Nat) (b : Bytes) (h : s.Inv) :
    RoleHeld (s.wsfReceive transport peer b).sys.role := by
  unfold State.wsfReceive
  extract_lets ks
  split
  · exact h.role
  split
  · exact State.wsfJudge_held s _ _ h
  · exact (State.foldl_held (fun s k h => (State.wsfCrcFail_held s k h).inv) ks s h).role

theorem execWsfPdu_keeps (transport peer : Nat) (bytes : Bytes) (s : State) : Keeps s (execWsfPdu transport peer bytes s) :=
  .next fun h => by simp [h.role]
theorem execWsfWatchdog_keeps (conn : Nat) (s : State) : Keeps s (execWsfWatchdog conn s) := .next fun h => by simp [h.role]
theorem execWsfProduce_keeps (conn : Nat) (s : State) : Keeps s (execWsfProduce conn s) := .of_role <| by simp
theorem execSafetyCopy_keeps (f : Link) (m : SafetyCopyMsg) (s : State) : Keeps s (execSafetyCopy f m s) := .of_role <| by simp

/-! ### CAN controllers -/

theorem execCanTx_keeps (h : Hdr) (ctl : Byte) (entries : List CanEntry) (s : State) : Keeps s (execCanTx h ctl entries s) := .of_role <| by simp

theorem execCanTxAbort_keeps (h : Hdr) (ctl : Byte) (handle : BitVec 16) (s : State) : Keeps s (execCanTxAbort h ctl handle s) :=
  .of_role <| State.wcpReq_role _ _ _ _ _ fun s => by
    simp only [roleKept_iff]
    split <;> simp

theorem execCanTxFlush_keeps (h : Hdr) (ctl : Byte) (s : State) : Keeps s (execCanTxFlush h ctl s) := .of_role <| by simp
theorem execCanTxResults_keeps (h : Hdr) (ctl max : Byte) (s : State) : Keeps s (execCanTxResults h ctl max s) := .of_role <| by simp
theorem execCanRxRead_keeps (h : Hdr) (ctl fifo max : Byte) (s : State) : Keeps s (execCanRxRead h ctl fifo max s) := .of_role <| by simp
theorem execCanRecover_keeps (h : Hdr) (ctl : Byte) (s : State) : Keeps s (execCanRecover h ctl s) := .of_role <| by simp
theorem execCanStatus_keeps (h : Hdr) (ctl : Byte) (s : State) : Keeps s (execCanStatus h ctl s) := .of_role <| by simp

theorem execCanTxDone_keeps (ctl : Nat) (outcome : CanOutcome) (s : State) : Keeps s (execCanTxDone ctl outcome s) := .of_role <| by
  simp only []
  (repeat' split) <;> simp

theorem execCanRxFrame_keeps (ctl : Nat) (f : CanEntry) (sof : BitVec 32) (flaw : CanFlaw) (s : State) : Keeps s (execCanRxFrame ctl f sof flaw s) :=
  .next fun h => by
    simp only []
    (repeat' split) <;> simp [h.role]

theorem execCanBusOff_keeps (ctl : Nat) (s : State) : Keeps s (execCanBusOff ctl s) := .of_role <| by simp
theorem execCanRecovered_keeps (ctl : Nat) (s : State) : Keeps s (execCanRecovered ctl s) := .of_role <| by simp

/-! ### Field inputs and outputs -/

theorem execFieldScan_keeps (d : ScanData) (s : State) : Keeps s (execFieldScan d s) := .of_role <| by simp

theorem execDiOpenWire_keeps (n : Nat) (isOpen : Bool) (s : State) : Keeps s (execDiOpenWire n isOpen s) := .of_role <| by
  simp only []
  (repeat' split) <;> simp

theorem execDoDiagnostic_keeps (n : Nat) (d : DoDiag) (s : State) : Keeps s (execDoDiagnostic n d s) := .of_role <| by
  simp only []
  (repeat' split) <;> simp

theorem execFieldWatchdog_keeps (s : State) : Keeps s (execFieldWatchdog s) := .of_role <| by simp
theorem execBarrierLinkLost_keeps (s : State) : Keeps s (execBarrierLinkLost s) := .of_role <| by simp
theorem execFieldSupplyLow_keeps (s : State) : Keeps s (execFieldSupplyLow s) := .of_role <| by simp
theorem execFioStatus_keeps (h : Hdr) (s : State) : Keeps s (execFioStatus h s) := .of_role <| by simp
theorem execFioEdges_keeps (h : Hdr) (max : Byte) (s : State) : Keeps s (execFioEdges h max s) := .of_role <| by simp
theorem execFioDoClear_keeps (h : Hdr) (mask : Byte) (s : State) : Keeps s (execFioDoClear h mask s) := .of_role <| by simp

/-! ### Period boundaries -/

theorem execControlBoundary_keeps (samples : Four DsSample) (s : State) : Keeps s (execControlBoundary samples s) := .of_role <| by simp
theorem execReleaseInstant_keeps (late : Nat) (s : State) : Keeps s (execReleaseInstant late s) := .of_role <| by simp

@[simp] theorem State.handAt_held (s : State) (h : s.Inv) : RoleHeld s.handAt.sys.role := by
  unfold State.handAt
  (repeat' split) <;> simp [h.role]

theorem execApplicationInstant_keeps (s : State) : Keeps s (execApplicationInstant s) := .next fun h => by simp [h.role]

/-! ### The recorder -/

theorem execRecordWrite_keeps (good : Bool) (s : State) : Keeps s (execRecordWrite good s) := .of_role <| by
  split <;> simp
theorem execRecInfo_keeps (h : Hdr) (part : Byte) (s : State) : Keeps s (execRecInfo h part s) := .of_role <| by simp
theorem execRecRead_keeps (h : Hdr) (part count : Byte) (slot : BitVec 32) (s : State) : Keeps s (execRecRead h part count slot s) :=
  .of_role <| by simp
theorem execRecClearGeneral_keeps (h : Hdr) (seq : BitVec 32) (s : State) : Keeps s (execRecClearGeneral h seq s) := .of_role <| by simp
theorem execRecClearSafety_keeps (h : Hdr) (seq : BitVec 32) (s : State) : Keeps s (execRecClearSafety h seq s) := .of_role <| by simp

theorem execRecClearConfirm_keeps (h : Hdr) (seq : BitVec 32) (s : State) : Keeps s (execRecClearConfirm h seq s) :=
  .of_role <| State.wcpReq_role _ _ _ _ _ fun s => by
    simp only [roleKept_iff]
    split <;> simp

theorem execClearLapsed_keeps (s : State) : Keeps s (execClearLapsed s) := .of_role <| by
  split <;> simp
theorem execFbTrigger_keeps (h : Hdr) (s : State) : Keeps s (execFbTrigger h s) := .of_role <| by simp
theorem execFbFrozen_keeps (s : State) : Keeps s (execFbFrozen s) := .of_role <| by
  split <;> simp

theorem execFbCheckpoint_keeps (s : State) : Keeps s (execFbCheckpoint s) := by
  unfold execFbCheckpoint
  refine .of_role ?_
  split
  · rfl
  · exact congrArg _ ((State.updFb_sys _ _).trans (State.foldl_sys (fun _ _ => State.fbPush_sys _ _ _ _) _ s))

theorem execFbRelease_keeps (h : Hdr) (s : State) : Keeps s (execFbRelease h s) := .of_role <| by simp
theorem execFbAutoRelease_keeps (s : State) : Keeps s (execFbAutoRelease s) := .of_role <| by
  split <;> simp
theorem execFbStatus_keeps (h : Hdr) (s : State) : Keeps s (execFbStatus h s) := .of_role <| by simp

theorem execFbExport_keeps (h : Hdr) (offset : BitVec 32) (length : BitVec 16) (s : State) : Keeps s (execFbExport h offset length s) :=
  .of_role <| State.wcpReq_role _ _ _ _ _ fun s => by
    simp only [roleKept_iff]
    split <;> simp

theorem execReplayOpen_keeps (hd : Hdr) (source : Byte) (length : BitVec 32) (s : State) : Keeps s (execReplayOpen hd source length s) :=
  .next <| State.wcpReq_held _ _ _ _ _ fun s h => by
    simp only []
    split
    · simp [h.role]
    split
    · simp [h.role]
    split <;> simp [h.role]

theorem execReplayLoad_keeps (h : Hdr) (offset : BitVec 32) (bytes : Bytes) (s : State) : Keeps s (execReplayLoad h offset bytes s) :=
  .of_role <| State.wcpReq_role _ _ _ _ _ fun s => by
    simp only [roleKept_iff]
    (repeat' split) <;> simp

theorem execReplayStart_keeps (h : Hdr) (cp : BitVec 32) (end_ : Time80) (mode : Byte) (s : State) : Keeps s (execReplayStart h cp end_ mode s) :=
  .of_role <| State.wcpReq_role _ _ _ _ _ fun s => by
    simp only [roleKept_iff]
    (repeat' split) <;> simp

theorem execReplayStatus_keeps (h : Hdr) (s : State) : Keeps s (execReplayStatus h s) := .of_role <| State.wcpReq_role _ _ _ _ _ fun s => by
  simp only [roleKept_iff]
  split <;> simp

theorem execReplayClose_keeps (hd : Hdr) (s : State) : Keeps s (execReplayClose hd s) :=
  .next <| State.wcpReq_held _ _ _ _ _ fun s h => by
    split
    · simp [h.role]
    · simp only [State.inv_iff, State.reply_sys]
      refine State.setLifecycle_held _ _ ?_
      simp only [State.inv_iff, State.setReplay_sys]
      split <;> simp [h.role]

/-! ### Cell monitoring and balancing -/

theorem execOpenWireRun_keeps (h : Hdr) (ring node tap : Byte) (s : State) : Keeps s (execOpenWireRun h ring node tap s) := .of_role <| by simp

theorem execOpenWireResult_keeps (ring node result : Nat) (below above : Int) (s : State) :
    Keeps s (execOpenWireResult ring node result below above s) := .of_role <| by
  simp only []
  split <;> simp

theorem execWireFaultClear_keeps (h : Hdr) (ring node tap : Byte) (s : State) : Keeps s (execWireFaultClear h ring node tap s) := .of_role <| by simp
theorem execCmpReadback_keeps (ring ov uv hyst : Nat) (s : State) : Keeps s (execCmpReadback ring ov uv hyst s) := .of_role <| by simp

theorem execCmpTestDue_keeps (ring : Nat) (fired : Bool) (s : State) : Keeps s (execCmpTestDue ring fired s) := .of_role <| by
  simp only []
  (repeat' split) <;> simp

theorem execCmpTestRun_keeps (h : Hdr) (ring node cell : Byte) (s : State) : Keeps s (execCmpTestRun h ring node cell s) := .of_role <| by simp
theorem execBalanceManual_keeps (h : Hdr) (ring node : Byte) (payload : Bytes) (s : State) : Keeps s (execBalanceManual h ring node payload s) :=
  .of_role <| by simp

theorem execBalancePolicyTick_keeps (ring : Nat) (s : State) : Keeps s (execBalancePolicyTick ring s) := .of_role <| by
  (repeat' split) <;> simp

theorem execCellValues_keeps (h : Hdr) (ring node : Byte) (s : State) : Keeps s (execCellValues h ring node s) :=
  .of_role <| State.wcpReq_role _ _ _ _ _ fun s => by
    simp only [roleKept_iff]
    (repeat' split) <;> simp

/-! ### Rings and nodes -/

theorem execRingStart_keeps (h : Hdr) (mask : Byte) (s : State) : Keeps s (execRingStart h mask s) := .of_role <| by simp
theorem execRingStop_keeps (h : Hdr) (mask : Byte) (s : State) : Keeps s (execRingStop h mask s) := .of_role <| by simp
theorem execRingEnumerate_keeps (h : Hdr) (ring : Byte) (s : State) : Keeps s (execRingEnumerate h ring s) := .of_role <| by simp
theorem execEnumResult_keeps (ring fromP : Nat) (fromQ : Option Nat) (unaddressed : Bool) (s : State) :
    Keeps s (execEnumResult ring fromP fromQ unaddressed s) := .of_role <| by simp
theorem execDelayMeasured_keeps (ring lps lps2 : Nat) (s : State) : Keeps s (execDelayMeasured ring lps lps2 s) := .of_role <| by simp
theorem execNodeCounters_keeps (h : Hdr) (ring node source : Byte) (s : State) : Keeps s (execNodeCounters h ring node source s) :=
  .of_role <| by simp
theorem execNodePorts_keeps (h : Hdr) (ring node : Byte) (s : State) : Keeps s (execNodePorts h ring node s) := .of_role <| by simp
theorem execSweepData_keeps (ring : Nat) (addr : Byte) (rx : Rx) (p : SweepPayload) (s : State) : Keeps s (execSweepData ring addr rx p s) :=
  .of_role <| by simp
theorem execReadRetained_keeps (ring node : Nat) (answer : ReadBack) (s : State) : Keeps s (execReadRetained ring node answer s) := .of_role <| by
  split <;> simp
theorem execSweepSync_keeps (ring : Nat) (s : State) : Keeps s (execSweepSync ring s) := .of_role <| by simp
theorem execLinkEvent_keeps (ring : Nat) (addr : Byte) (rx : Rx) (port event : Nat) (status : BitVec 16) (s : State) :
    Keeps s (execLinkEvent ring addr rx port event status s) := .of_role <| by simp
theorem execPortStatusTimeout_keeps (ring node : Nat) (s : State) : Keeps s (execPortStatusTimeout ring node s) := .of_role <| by simp
theorem execMasterPortLockLoss_keeps (ring : Nat) (q : Bool) (s : State) : Keeps s (execMasterPortLockLoss ring q s) := .of_role <| by simp
theorem execHeartbeatLoss_keeps (ring node : Nat) (s : State) : Keeps s (execHeartbeatLoss ring node s) := .of_role <| by simp

theorem execOsetErrorRate_keeps (ring errors : Nat) (s : State) : Keeps s (execOsetErrorRate ring errors s) := .of_role <| by
  simp only []
  (repeat' split) <;> simp

theorem execNodeReply_keeps (ring : Nat) (addr : Byte) (rx : Rx) (status : Byte) (data : Bytes) (s : State) :
    Keeps s (execNodeReply ring addr rx status data s) := .of_role <| State.onFrame_role _ _ _ _ _ fun s => by
  simp only [roleKept_iff]
  split <;> simp

/-! ### Units, clusters and dies -/

theorem execCorrectedError_keeps (cluster : Nat) (s : State) : Keeps s (execCorrectedError cluster s) := .of_role <| by simp
theorem execUncorrectableError_keeps (group unit : Nat) (sram : Bool) (s : State) : Keeps s (execUncorrectableError group unit sram s) :=
  .of_role <| by simp
theorem execLaneLockstep_keeps (ch : Nat) (s : State) : Keeps s (execLaneLockstep ch s) := .of_role <| by simp
theorem execCrossingTimeout_keeps (far : Region) (how : XingUse) (s : State) : Keeps s (execCrossingTimeout far how s) := .of_role <| by simp
theorem execDieReset_keeps (die : Die) (s : State) : Keeps s (execDieReset die s) := .next fun h => by
  split <;> simp [h.role]
theorem execOscillatorFault_keeps (s : State) : Keeps s (execOscillatorFault s) := .next fun _ => by simp
theorem execRoleConflict_keeps (s : State) : Keeps s (execRoleConflict s) := .next fun _ => by simp

/-! ### The twin -/

theorem execShallotKeepalive_keeps (f : Link) (lifecycle : Lifecycle) (power : PState) (state _ts : BitVec 32) (timeState : Nat) (s : State) :
    Keeps s (execShallotKeepalive f lifecycle power state _ts timeState s) := .of_role <| by simp
theorem execShallotLockLoss_keeps (s : State) : Keeps s (execShallotLockLoss s) := .of_role <| by simp
theorem execShallotSendWatch_keeps (s : State) : Keeps s (execShallotSendWatch s) := .next fun h => by simp [h.role]
@[simp] theorem State.decideMismatch_held (s : State) (own twin : Nat) (h : s.Inv) : RoleHeld (s.decideMismatch own twin).sys.role :=
  by simp [State.decideMismatch, h.role]
@[simp] theorem State.decideSilence_held (s : State) (own : Nat) (h : s.Inv) : RoleHeld (s.decideSilence own).sys.role :=
  by simp [State.decideSilence, h.role]

@[simp] theorem State.outcomeNow_held (s : State) (h : s.Inv) : RoleHeld s.outcomeNow.sys.role := by
  unfold State.outcomeNow
  (repeat' split) <;> simp [h.role]

@[simp] theorem State.outcome_held (s : State) (h : s.Inv) : RoleHeld s.outcome.sys.role := by simp [State.outcome, h.role]
theorem execArbStart_keeps (f : Link) (_cause : Byte) (s : State) : Keeps s (execArbStart f _cause s) := .of_role <| by simp
theorem execArbResult_keeps (f : Link) (mask : Byte) (s : State) : Keeps s (execArbResult f mask s) :=
  .next <| State.onLink_held _ _ _ _ fun s h => by simp [h.role]
theorem execKatComplete_keeps (lanes : Four LaneTest) (s : State) : Keeps s (execKatComplete lanes s) := .next fun h => by
  split <;> simp [h.role]
theorem execShallotSilence_keeps (s : State) : Keeps s (execShallotSilence s) := .of_role <| by simp
theorem execSilenceRoleHeld_keeps (s : State) : Keeps s (execSilenceRoleHeld s) := .of_role <| by
  split <;> simp
theorem execAheadTimeout_keeps (s : State) : Keeps s (execAheadTimeout s) := .of_role <| by simp
theorem execLoopCopy_keeps (f : Link) (c : LoopCopy) (s : State) : Keeps s (execLoopCopy f c s) := .of_role <| by simp
theorem execUncomparedRun_keeps (ch : Nat) (s : State) : Keeps s (execUncomparedRun ch s) := .of_role <| by simp
theorem execAxisCopy_keeps (f : Link) (recs : Four AxisRec) (s : State) : Keeps s (execAxisCopy f recs s) := .of_role <| by simp
theorem execSweepFinal_keeps (f : Link) (m : SweepFinalMsg) (s : State) : Keeps s (execSweepFinal f m s) := .of_role <| by simp
theorem execSweepNeed_keeps (f : Link) (ring : Nat) (sweep : BitVec 16) (need : BitVec 32) (s : State) :
    Keeps s (execSweepNeed f ring sweep need s) := .of_role <| by simp

theorem execSweepFrame_keeps (f : Link) (ring : Nat) (sweep : BitVec 16) (node : Nat) (p : SweepPayload) (s : State) :
    Keeps s (execSweepFrame f ring sweep node p s) := .of_role <| State.onLink_role _ _ _ _ fun s => by
  simp only [roleKept_iff]
  split <;> simp

theorem execEstCopy_keeps (f : Link) (block : Nat) (data : Bytes) (s : State) : Keeps s (execEstCopy f block data s) := .of_role <| by simp
theorem execEstDigest_keeps (f : Link) (m : EstDigestMsg) (s : State) : Keeps s (execEstDigest f m s) := .of_role <| by simp
theorem execParamMirror_keeps (f : Link) (session : Nat) (entries : List SetEntry) (s : State) : Keeps s (execParamMirror f session entries s) :=
  .of_role <| by simp

theorem execDictCopy_keeps (f : Link) (index : Nat) (last : Bool) (values : List SetEntry) (digestOk : Bool) (s : State) :
    Keeps s (execDictCopy f index last values digestOk s) :=
  .of_role <| State.onLink_role _ _ _ _ fun s => by
    rw [roleKept_iff]
    split
    · rfl
    extract_lets vs all twin gathered take applied sys flags twin' marked wcp stamped twin''
    have happlied : applied.sys = s.sys := State.foldl_sys (fun s v => State.applyCommitted_sys s v) take gathered
    have hmarked : marked.sys.role = s.sys.role := by rw [← happlied]; rfl
    have hstamped : stamped.sys = marked.sys := by
      simp only [stamped]
      split <;> rfl
    clear_value stamped
    split
    · rfl
    · simp only [State.sys_ite, State.storeParams_sys, ite_self, hstamped, hmarked]

theorem execStateXfer_keeps (f : Link) (kind : Nat) (data : Bytes) (last : Bool) (s : State) : Keeps s (execStateXfer f kind data last s) :=
  .of_role <| by
    split <;> simp

theorem execStandbyReport_keeps (f : Link) (code inst sev : Nat) (data : Bytes) (s : State) : Keeps s (execStandbyReport f code inst sev data s) :=
  .of_role <| by simp

theorem execWcpFwd_keeps (f : Link) (reply : Bool) (h : Hdr) (role : Role) (opcode : Nat) (payload : Bytes) (s : State) :
    Keeps s (execWcpFwd f reply h role opcode payload s) := .of_role <| State.onLink_role _ _ _ _ fun s => by
  simp only [roleKept_iff]
  (repeat' split) <;> simp

@[simp] theorem State.beginHand_held (s : State) (why : HandWhy) (op : Option OpRef) (h : s.Inv) : RoleHeld (s.beginHand why op).sys.role :=
  by simp [State.beginHand, h.role]
theorem execArbHandover_keeps (f : Link) (period : BitVec 32) (drill : Bool) (s : State) : Keeps s (execArbHandover f period drill s) :=
  .of_role <| by simp
theorem execTwinHandover_keeps (h : Hdr) (s : State) : Keeps s (execTwinHandover h s) :=
  .next <| State.wcpReq_held _ _ _ _ _ fun s h => by simp [h.role]
theorem execSwapDrillDue_keeps (s : State) : Keeps s (execSwapDrillDue s) := .next fun h => by simp [h.role]
theorem execSwapWatchEnd_keeps (s : State) : Keeps s (execSwapWatchEnd s) := .of_role <| by
  split <;> simp
theorem execSwapHandedBack_keeps (code : Nat) (s : State) : Keeps s (execSwapHandedBack code s) := .next fun h => by simp [h.role]
theorem execTwinStatus_keeps (h : Hdr) (s : State) : Keeps s (execTwinStatus h s) := .of_role <| by simp

@[simp] theorem State.isolateSelf_held (s : State) (hd : Hdr) (h : s.Inv) : RoleHeld (s.isolateSelf hd).sys.role := by
  unfold State.isolateSelf
  split <;> simp [h.role]

theorem execTwinIsolate_keeps (h : Hdr) (slot : Byte) (s : State) : Keeps s (execTwinIsolate h slot s) :=
  .next <| State.wcpReq_held _ _ _ _ _ fun s h => by simp [h.role]
theorem execTwinJoin_keeps (h : Hdr) (s : State) : Keeps s (execTwinJoin h s) := .next <| State.wcpReq_held _ _ _ _ _ fun s h => by simp [h.role]
theorem execSuspectClear_keeps (s : State) : Keeps s (execSuspectClear s) := .of_role <| by simp
theorem execTwinClearSuspect_keeps (h : Hdr) (s : State) : Keeps s (execTwinClearSuspect h s) := .of_role <| by simp
theorem execTwinPromote_keeps (h : Hdr) (s : State) : Keeps s (execTwinPromote h s) :=
  .next <| State.wcpReq_held _ _ _ _ _ fun s h => by simp [h.role]

/-! ### Self-tests -/

@[simp] theorem State.startSelftest_held (s : State) (h : s.Inv) : RoleHeld s.startSelftest.sys.role := by
  have hset := State.setLifecycle_held s .selftest h
  simpa [State.startSelftest] using hset

theorem execSelftestSlotEnd_keeps (slot : Nat) (results : List (Nat × Bool × Nat × Nat)) (s : State) : Keeps s (execSelftestSlotEnd slot results s) :=
  .of_role <| by simp
@[simp] theorem State.endSelftest_held (s : State) (h : s.Inv) : RoleHeld s.endSelftest.sys.role := by simp [State.endSelftest, h.role]
theorem execSelftestComplete_keeps (s : State) : Keeps s (execSelftestComplete s) := .next fun h => by simp [h.role]
theorem execBistRun_keeps (h : Hdr) (codes : Bytes) (s : State) : Keeps s (execBistRun h codes s) := .of_role <| by simp
theorem execBistStatus_keeps (h : Hdr) (codes : Bytes) (s : State) : Keeps s (execBistStatus h codes s) := .of_role <| by simp

theorem execBistComplete_keeps (code : Nat) (sigOk : Bool) (count expected : Nat) (s : State) :
    Keeps s (execBistComplete code sigOk count expected s) := .of_role <| by
  split <;> simp

theorem execScrubDue_keeps (kind : Nat) (s : State) : Keeps s (execScrubDue kind s) := .of_role <| by simp
theorem execClusterRotationDue_keeps (s : State) : Keeps s (execClusterRotationDue s) := .of_role <| by simp
theorem execStandbyKatDue_keeps (lanes : Four LaneTest) (s : State) : Keeps s (execStandbyKatDue lanes s) := .of_role <| by simp
theorem execThermalShutdown_keeps (s : State) : Keeps s (execThermalShutdown s) := .next fun h => by simp [h.role]
@[simp] theorem State.enterHold_held (s : State) : RoleHeld s.enterHold.sys.role := by simp [State.enterHold]
@[simp] theorem State.leaveHold_held (s : State) : RoleHeld s.leaveHold.sys.role := by simp [State.leaveHold]
theorem execThermalHoldPoll_keeps (readings : List (Option Int)) (s : State) : Keeps s (execThermalHoldPoll readings s) :=
  .next fun h => by simp [h.role]
theorem execThermClear_keeps (h : Hdr) (s : State) : Keeps s (execThermClear h s) := .of_role <| by simp

/-! ### Updates -/

theorem execUpdStatus_keeps (h : Hdr) (s : State) : Keeps s (execUpdStatus h s) := .of_role <| by simp
@[simp] theorem State.enterUpdate_held (s : State) (h : s.Inv) : RoleHeld s.enterUpdate.sys.role := by simp [State.enterUpdate, h.role]
theorem execUpdBegin_keeps (h : Hdr) (length : BitVec 32) (s : State) : Keeps s (execUpdBegin h length s) :=
  .next <| State.wcpReq_held _ _ _ _ _ fun s h => by simp [h.role]

theorem execUpdData_keeps (h : Hdr) (offset : BitVec 32) (bytes : Bytes) (s : State) : Keeps s (execUpdData h offset bytes s) :=
  .of_role <| State.wcpReq_role _ _ _ _ _ fun s => by
    simp only [roleKept_iff]
    split <;> simp

theorem execUpdVerify_keeps (h : Hdr) (s : State) : Keeps s (execUpdVerify h s) := .of_role <| State.wcpReq_role _ _ _ _ _ fun s => by
  simp only [roleKept_iff]
  (repeat' split) <;> simp

theorem execUpdVerifyDone_keeps (s : State) : Keeps s (execUpdVerifyDone s) := .of_role <| by
  split <;> simp
theorem execUpdAbort_keeps (h : Hdr) (s : State) : Keeps s (execUpdAbort h s) := .next <| State.wcpReq_held _ _ _ _ _ fun s h => by simp [h.role]
@[simp] theorem State.intoSprout_held (s : State) : RoleHeld s.intoSprout.sys.role := by simp [State.intoSprout]
@[simp] theorem State.activate_held (s : State) (mask : Nat) : RoleHeld (s.activate mask).sys.role := by simp [State.activate]

theorem execUpdActivate_keeps (hd : Hdr) (mask : Byte) (s : State) : Keeps s (execUpdActivate hd mask s) :=
  .next <| State.wcpReq_held _ _ _ _ _ fun s h => by
    simp only []
    split
    · simp [h.role]
    split
    · simp [h.role]
    split
    · simp [h.role]
    split
    · split
      · simp [h.role]
      split <;> simp [h.role]
    split
    · simp [h.role]
    · simp [h.role]

theorem execSproutActivation_keeps (cut : Option (Nat × Nat)) (s : State) : Keeps s (execSproutActivation cut s) := .next fun h => by
  simp only []
  (repeat' split) <;> simp [h.role]

theorem execUpdConfirm_keeps (h : Hdr) (s : State) : Keeps s (execUpdConfirm h s) := .of_role <| by simp
@[simp] theorem State.startRollback_held (s : State) : RoleHeld s.startRollback.sys.role := by simp [State.startRollback]
theorem execConfirmExpired_keeps (s : State) : Keeps s (execConfirmExpired s) := .next fun h => by
  split <;> simp [h.role]
theorem execTrialReadyTimeout_keeps (s : State) : Keeps s (execTrialReadyTimeout s) := .next fun h => by simp [h.role]
theorem execUpdRollback_keeps (h : Hdr) (mask : Byte) (s : State) : Keeps s (execUpdRollback h mask s) :=
  .next <| State.wcpReq_held _ _ _ _ _ fun s h => by simp [h.role]
theorem execUpdFromTwin_keeps (h : Hdr) (mask : Byte) (s : State) : Keeps s (execUpdFromTwin h mask s) :=
  .next <| State.wcpReq_held _ _ _ _ _ fun s h => by simp [h.role]
@[simp] theorem State.gotParts_held (s : State) (mask : Nat) (h : s.Inv) : RoleHeld (s.gotParts mask).sys.role := by simp [State.gotParts, h.role]
@[simp] theorem State.takeImage_held (s : State) (m : ImageMsg) (h : s.Inv) : RoleHeld (s.takeImage m).sys.role := by simp [State.takeImage, h.role]
theorem execShallotImage_keeps (f : Link) (m : ImageMsg) (s : State) : Keeps s (execShallotImage f m s) :=
  .next <| State.onLink_held _ _ _ _ fun s h => by simp [h.role]
@[simp] theorem State.stepHand_held (s : State) (h : s.Inv) : RoleHeld s.stepHand.sys.role := by simp [State.stepHand, h.role]

@[simp] theorem State.pairStep_held (s : State) (h : s.Inv) : RoleHeld s.pairStep.sys.role := by
  unfold State.pairStep
  (repeat' split) <;> simp [h.role]

@[simp] theorem State.undoPair_held (s : State) (h : s.Inv) : RoleHeld s.undoPair.sys.role := by
  simp only [State.undoPair]
  (repeat' split) <;> simp [h.role]

theorem execMixedPairLong_keeps (s : State) : Keeps s (execMixedPairLong s) := .of_role <| by
  split <;> simp
@[simp] theorem State.nodeStepEnd_held (s : State) (ok : Bool) (h : s.Inv) : RoleHeld (s.nodeStepEnd ok).sys.role :=
  by simp [State.nodeStepEnd, h.role]
theorem execNodeStepComplete_keeps (good : Bool) (node : Nat) (s : State) : Keeps s (execNodeStepComplete good node s) :=
  .next fun h => by simp [h.role]
theorem execKeepaliveDue_keeps (s : State) : Keeps s (execKeepaliveDue s) := .of_role <| by simp

/-! ### The fault manager -/

@[simp] theorem State.tripModule_held (s : State) (f : FRec) (h : s.Inv) : RoleHeld (s.tripModule f).sys.role := by simp [State.tripModule, h.role]
@[simp] theorem State.act_held (s : State) (f : FRec) (seq : Nat) (h : s.Inv) : RoleHeld (s.act f seq).sys.role := by simp [State.act, h.role]
@[simp] theorem State.begin_held (s : State) (f : FRec) (h : s.Inv) : RoleHeld (s.begin_ f).sys.role := by simp [State.begin_, h.role]
@[simp] theorem State.escalate_held (s : State) (f : FRec) (h : s.Inv) : RoleHeld (s.escalate f).sys.role := by simp [State.escalate, h.role]
theorem execFaultAccepted_keeps (s : State) : Keeps s (execFaultAccepted s) := .next fun h => by
  split <;> simp [h.role]

theorem execFaultHandling_keeps (s : State) : Keeps s (execFaultHandling s) := by
  unfold execFaultHandling
  extract_lets done fm ended fm' next
  refine .next fun h => ?_
  have hended : ended.sys = s.sys := by simp [ended]
  have hnext : next.Inv := by
    have : next.sys = s.sys := by
      simp only [next]
      split <;> exact hended
    simpa [this] using h
  clear_value next
  split
  · simp [hnext.role]
  · exact hnext

theorem execHandlerDeadline_keeps (s : State) : Keeps s (execHandlerDeadline s) := .next fun h => by
  split <;> simp [h.role]

/-! ### Power and start-up -/

theorem execMatingQualified_keeps (slotId slotIdn : Bool) (eeprom : Option Bytes) (s : State) :
    Keeps s (execMatingQualified slotId slotIdn eeprom s) := .of_role <| by simp
theorem execMateDetectOpen_keeps (ns : Nat) (s : State) : Keeps s (execMateDetectOpen ns s) := .next fun h => by simp [h.role]
theorem execPowerFailWarning_keeps (s : State) : Keeps s (execPowerFailWarning s) := .of_role <| by simp
theorem execPowerFailWarningClear_keeps (s : State) : Keeps s (execPowerFailWarningClear s) := .of_role <| by simp

/-- R40: the mirror that a brown-out keeps stands beside a low line. -/
theorem execBrownout_keeps (s : State) : Keeps s (execBrownout s) := by
  refine .next fun h => ?_
  split
  · exact h
  · exact .of_low (by simp [SysSt.restart])

/-- R40: VIN was below the brown-out threshold before, so the line is low. -/
theorem execAoPowerLoss_keeps (s : State) : Keeps s (execAoPowerLoss s) := by
  refine .next fun h => ?_
  split
  · exact h
  · next hlow => exact .of_low (h.role.low_of_vinLow (by simpa using hlow))

/-- R40: VIN was below the brown-out threshold before, so the line is low where the mirror starts again at BOOT. -/
theorem execVinRestart_keeps (s : State) : Keeps s (execVinRestart s) := by
  refine .next fun h => ?_
  split
  · exact h
  · next hlow =>
    have hout : s.sys.roleOut = false := h.role.low_of_vinLow (by simpa using hlow)
    exact .of_low (by simp [hout])

theorem execNrstIn_keeps (ns : Nat) (s : State) : Keeps s (execNrstIn ns s) := by
  refine .next fun h => ?_
  split
  · exact h
  split
  · simp
  · by_cases hreset : Config.freeBool s.free = true <;> simp [State.draw, hreset, h.role]

theorem execAppWdogExpiry_keeps (s : State) : Keeps s (execAppWdogExpiry s) := .next fun h => by simp [h.role]
theorem execReset_keeps (h : Hdr) (s : State) : Keeps s (execReset h s) := .next <| State.wcpReq_held _ _ _ _ _ fun s h => by
  split <;> simp [h.role]
theorem execSweepFinalised_keeps (ring : Nat) (s : State) : Keeps s (execSweepFinalised ring s) := .of_role <| by simp
@[simp] theorem State.enterP5_held (s : State) : RoleHeld s.enterP5.sys.role := roleHeld_low _

@[simp] theorem State.enterPower_held (s : State) (p : PState) (h : s.Inv) : RoleHeld (s.enterPower p).sys.role := by
  simp only [State.enterPower]
  split <;> simp [h.role]

@[simp] theorem State.riseDone_held (s : State) (h : s.Inv) : RoleHeld s.riseDone.sys.role := by
  unfold State.riseDone
  split
  · simp only []
    split
    · exact State.activeOpen_held _ (by simpa using h)
    · simpa using h
  · exact h.role

@[simp] theorem State.leavePower_held (s : State) (t : PState) (h : s.Inv) : RoleHeld (s.leavePower t).sys.role := by simp [State.leavePower, h.role]
theorem execPowerStepDone_keeps (s : State) : Keeps s (execPowerStepDone s) := .next fun h => by
  split <;> simp [h.role]
theorem execPowerSet_keeps (h : Hdr) (target : Byte) (s : State) : Keeps s (execPowerSet h target s) := .of_role <| by
  split <;> simp
theorem execPowerTransitionAbandoned_keeps (ch : Nat) (s : State) : Keeps s (execPowerTransitionAbandoned ch s) := .of_role <| by simp
theorem execStandbyP0Timeout_keeps (s : State) : Keeps s (execStandbyP0Timeout s) := .of_role <| by simp
theorem execWakeIn_keeps (s : State) : Keeps s (execWakeIn s) := .of_role <| by simp

theorem execRtcAlarm_keeps (s : State) : Keeps s (execRtcAlarm s) := by
  unfold execRtcAlarm
  extract_lets t
  refine .of_role ?_
  split
  · rfl
  · rw [State.wake_role, State.advanceTo_role]

theorem execCheckVisit_keeps (s : State) : Keeps s (execCheckVisit s) := .of_role <| by simp
theorem execImageVerified_keeps (valid confirmed : Bool) (dict : BitVec 2) (s : State) : Keeps s (execImageVerified valid confirmed dict s) :=
  .next fun h => by simp [h.role]
@[simp] theorem State.startActive_held (s : State) (h : s.Inv) : RoleHeld s.startActive.sys.role := by simp [State.startActive, h.role]

@[simp] theorem State.startStandby_held (s : State) (h : s.Inv) : RoleHeld s.startStandby.sys.role := by
  have hset := State.setLifecycle_held s .standby h
  unfold State.startStandby
  split
  · simp [h.role]
  · simpa using hset

theorem execNegotiateRole_keeps (s : State) : Keeps s (execNegotiateRole s) := .next fun h => by
  simp [h.role]
  split <;> simp [h.role]

theorem execNegotiateSilence_keeps (s : State) : Keeps s (execNegotiateSilence s) := .next fun h => by simp [h.role]
theorem execStartReady_keeps (s : State) : Keeps s (execStartReady s) := .next fun h => by simp [h.role]
@[simp] theorem State.roleFell_held (s : State) (h : s.Inv) : RoleHeld s.roleFell.sys.role := by simp [State.roleFell, h.role]

theorem execRoleInLow_keeps (s : State) : Keeps s (execRoleInLow s) := by
  unfold execRoleInLow
  refine .next fun h => ?_
  split
  · exact h
  extract_lets t later before low
  have hlow : low.Inv := h
  clear_value low
  split
  · simp [hlow.role]
  · split
    · have hset := State.setLifecycle_held low.dropStage .negotiate (by simpa using hlow)
      simpa using hset
    · exact hlow
  · next hlife => exact (State.assertRole_held low hlife hlow).inv
  · exact hlow

theorem execShallotControl_keeps (f : Link) (m : CtlMsg) (s : State) : Keeps s (execShallotControl f m s) :=
  .next <| State.onLink_held _ _ _ _ fun s h => by
    (repeat' split) <;> simp [h.role]

/-! ### Reads -/

theorem execParamGet_keeps (h : Hdr) (entries : List GetEntry) (s : State) : Keeps s (execParamGet h entries s) := .of_role <| by simp
theorem execGetIdentity_keeps (h : Hdr) (s : State) : Keeps s (execGetIdentity h s) := .of_role <| by simp

/-! ### Replays -/

theorem execReplayEnd_keeps (s : State) : Keeps s (execReplayEnd s) := .of_role <| by
  simp only []
  (repeat' split) <;> simp

/-! ### The tick -/

/-- The tick is unfolded as a function: the kernel would otherwise compare its last match by evaluating the cycle before it. -/
theorem State.tick_inv (s : State) (h : s.Inv) : s.tick.Inv := by
  rw [show State.tick = _ from by delta State.tick; rfl]
  extract_lets passed visited
  have hpassed : passed.Inv := h.of_role (by rw [State.lostSync_sys, State.pollNodes_sys, State.cycle_role])
  clear_value passed
  have hvisited : visited.Inv := by simp [visited, hpassed.role]
  clear_value visited
  split
  · simp [hvisited.role]
  · exact hvisited

end Sys2Proof.Machine
end

section
/-! SUPPORT. O6: the invariant over every command and the idle step. -/
namespace Sys2Proof.Machine
open Sys2Proof

/-- Every command keeps the invariant of the role line. -/
theorem exec_keeps (c : Instr) (s : State) : Keeps s (exec c s) := by
  cases c with
  | ping h => exact execPing_keeps h s
  | sessionOpen h req => exact execSessionOpen_keeps h req s
  | sessionClose h => exact execSessionClose_keeps h s
  | getIdentity h => exact execGetIdentity_keeps h s
  | eventSubscribe h mask minSev => exact execEventSubscribe_keeps h mask minSev s
  | eventAck h batch => exact execEventAck_keeps h batch s
  | faultStatus h => exact execFaultStatus_keeps h s
  | powerSet h target => exact execPowerSet_keeps h target s
  | reset h => exact execReset_keeps h s
  | paramGet h entries => exact execParamGet_keeps h entries s
  | paramSet h entries => exact execParamSet_keeps h entries s
  | clusterStatusW1c h inst value => exact execClusterStatusW1c_keeps h inst value s
  | clusterUnfence h inst value => exact execClusterUnfence_keeps h inst value s
  | resetCauseW1c h value => exact execResetCauseW1c_keeps h value s
  | commit h => exact execCommit_keeps h s
  | commitApplied => exact execCommitApplied_keeps s
  | discard h => exact execDiscard_keeps h s
  | paramDescribe h id => exact execParamDescribe_keeps h id s
  | paramList h subsystem start => exact execParamList_keeps h subsystem start s
  | paramStore h => exact execParamStore_keeps h s
  | snapshotAt h instant => exact execSnapshotAt_keeps h instant s
  | snapshotInstant num => exact execSnapshotInstant_keeps num s
  | snapshotRead h num source offset => exact execSnapshotRead_keeps h num source offset s
  | snapshotRelease h num => exact execSnapshotRelease_keeps h num s
  | hostLinkWrite cmd bytes cut => exact execHostLinkWrite_keeps cmd bytes cut s
  | hostLinkRead cut => exact execHostLinkRead_keeps cut s
  | udpDatagram f dst dport peer key offset more bytes => exact execUdpDatagram_keeps f dst dport peer key offset more bytes s
  | reassemblyTimeout key => exact execReassemblyTimeout_keeps key s
  | splitRequestTimeout session => exact execSplitRequestTimeout_keeps session s
  | sessionIdleTimeout session => exact execSessionIdleTimeout_keeps session s
  | eventBatch session => exact execEventBatch_keeps session s
  | eventBatchRetry session => exact execEventBatchRetry_keeps session s
  | matingQualified slotId slotIdn eeprom => exact execMatingQualified_keeps slotId slotIdn eeprom s
  | mateDetectOpen ns => exact execMateDetectOpen_keeps ns s
  | powerFailWarning => exact execPowerFailWarning_keeps s
  | powerFailWarningClear => exact execPowerFailWarningClear_keeps s
  | brownout => exact execBrownout_keeps s
  | aoPowerLoss => exact execAoPowerLoss_keeps s
  | vinRestart => exact execVinRestart_keeps s
  | nrstIn ns => exact execNrstIn_keeps ns s
  | appWdogExpiry => exact execAppWdogExpiry_keeps s
  | dieReset die => exact execDieReset_keeps die s
  | oscillatorFault => exact execOscillatorFault_keeps s
  | crossingTimeout far how => exact execCrossingTimeout_keeps far how s
  | correctedError cluster => exact execCorrectedError_keeps cluster s
  | uncorrectableError cluster unit sram => exact execUncorrectableError_keeps cluster unit sram s
  | laneLockstep ch => exact execLaneLockstep_keeps ch s
  | roleConflict => exact execRoleConflict_keeps s
  | roleInLow => exact execRoleInLow_keeps s
  | wakeIn => exact execWakeIn_keeps s
  | rtcAlarm => exact execRtcAlarm_keeps s
  | powerStepDone => exact execPowerStepDone_keeps s
  | powerTransitionAbandoned ch => exact execPowerTransitionAbandoned_keeps ch s
  | standbyP0Timeout => exact execStandbyP0Timeout_keeps s
  | checkVisit => exact execCheckVisit_keeps s
  | imageVerified valid confirmed dict => exact execImageVerified_keeps valid confirmed dict s
  | selftestSlotEnd slot results => exact execSelftestSlotEnd_keeps slot results s
  | selftestComplete => exact execSelftestComplete_keeps s
  | negotiateRole => exact execNegotiateRole_keeps s
  | negotiateSilence => exact execNegotiateSilence_keeps s
  | startReady => exact execStartReady_keeps s
  | ringStart h mask => exact execRingStart_keeps h mask s
  | ringStop h mask => exact execRingStop_keeps h mask s
  | ringEnumerate h ring => exact execRingEnumerate_keeps h ring s
  | nodeCounters h ring node source => exact execNodeCounters_keeps h ring node source s
  | nodePorts h ring node => exact execNodePorts_keeps h ring node s
  | enumResult ring fromP fromQ unaddressed => exact execEnumResult_keeps ring fromP fromQ unaddressed s
  | delayMeasured ring lps lps2 => exact execDelayMeasured_keeps ring lps lps2 s
  | sweepSync ring => exact execSweepSync_keeps ring s
  | sweepData ring addr rx p => exact execSweepData_keeps ring addr rx p s
  | readRetained ring node answer => exact execReadRetained_keeps ring node answer s
  | sweepFinalised ring => exact execSweepFinalised_keeps ring s
  | linkEvent ring addr rx port event status => exact execLinkEvent_keeps ring addr rx port event status s
  | nodeReply ring addr rx status data => exact execNodeReply_keeps ring addr rx status data s
  | portStatusTimeout ring node => exact execPortStatusTimeout_keeps ring node s
  | masterPortLockLoss ring q => exact execMasterPortLockLoss_keeps ring q s
  | heartbeatLoss ring node => exact execHeartbeatLoss_keeps ring node s
  | osetErrorRate ring errors => exact execOsetErrorRate_keeps ring errors s
  | cellValues h ring node => exact execCellValues_keeps h ring node s
  | balanceManual h ring node payload => exact execBalanceManual_keeps h ring node payload s
  | openWireRun h ring node tap => exact execOpenWireRun_keeps h ring node tap s
  | openWireResult ring node result below above => exact execOpenWireResult_keeps ring node result below above s
  | wireFaultClear h ring node tap => exact execWireFaultClear_keeps h ring node tap s
  | cmpTestRun h ring node cell => exact execCmpTestRun_keeps h ring node cell s
  | cmpTestDue ring fired => exact execCmpTestDue_keeps ring fired s
  | cmpReadback ring ov uv hyst => exact execCmpReadback_keeps ring ov uv hyst s
  | balancePolicyTick ring => exact execBalancePolicyTick_keeps ring s
  | controlBoundary samples => exact execControlBoundary_keeps samples s
  | releaseInstant late => exact execReleaseInstant_keeps late s
  | applicationInstant => exact execApplicationInstant_keeps s
  | slowStaleTrip ch => exact execSlowStaleTrip_keeps ch s
  | dutySaturated ch => exact execDutySaturated_keeps ch s
  | limitActive ch => exact execLimitActive_keeps ch s
  | loopStatus h mask => exact execLoopStatus_keeps h mask s
  | chStart h mask => exact execChStart_keeps h mask s
  | chStopRamp h mask => exact execChStopRamp_keeps h mask s
  | chStopImmediate h mask => exact execChStopImmediate_keeps h mask s
  | stopComplete ch => exact execStopComplete_keeps ch s
  | stopTimeout ch => exact execStopTimeout_keeps ch s
  | psiFaultClear h mask => exact execPsiFaultClear_keeps h mask s
  | loopbackRun h mask => exact execLoopbackRun_keeps h mask s
  | loopbackDue edges => exact execLoopbackDue_keeps edges s
  | psiStatus h mask => exact execPsiStatus_keeps h mask s
  | dsClockLoss ch => exact execDsClockLoss_keeps ch s
  | dsClockRange ch => exact execDsClockRange_keeps ch s
  | dsStuck ch line => exact execDsStuck_keeps ch line s
  | dsFrozen ch line => exact execDsFrozen_keeps ch line s
  | turnipDsStuck ch => exact execTurnipDsStuck_keeps ch s
  | gateDriverFault ch lowNs => exact execGateDriverFault_keeps ch lowNs s
  | readbackActive ch rb => exact execReadbackActive_keeps ch rb s
  | readbackShadow ch rb => exact execReadbackShadow_keeps ch rb s
  | overcurrent ch bits => exact execOvercurrent_keeps ch bits s
  | ocTimeExceeded ch hz => exact execOcTimeExceeded_keeps ch hz s
  | profTarget h gen target => exact execProfTarget_keeps h gen target s
  | profEstop h mask => exact execProfEstop_keeps h mask s
  | profStatus h mask => exact execProfStatus_keeps h mask s
  | positionTick => exact execPositionTick_keeps s
  | axisEnable h mask enable => exact execAxisEnable_keeps h mask enable s
  | axisHome h axis dir => exact execAxisHome_keeps h axis dir s
  | axisSetPos h axis pos => exact execAxisSetPos_keeps h axis pos s
  | axisCalibrate h axis speed => exact execAxisCalibrate_keeps h axis speed s
  | axisStatus h mask => exact execAxisStatus_keeps h mask s
  | holdDelayExpiry axis => exact execHoldDelayExpiry_keeps axis s
  | loadAngleSample axis emf settled => exact execLoadAngleSample_keeps axis emf settled s
  | bridgeOvercurrent axis => exact execBridgeOvercurrent_keeps axis s
  | coilOpen axis phase => exact execCoilOpen_keeps axis phase s
  | actSupplyLow mv => exact execActSupplyLow_keeps mv s
  | bridgeHot level => exact execBridgeHot_keeps level s
  | sf4Incomplete axis => exact execSf4Incomplete_keeps axis s
  | estimatorCycle => exact execEstimatorCycle_keeps s
  | estCycleComplete late => exact execEstCycleComplete_keeps late s
  | estimatorPersist bad => exact execEstimatorPersist_keeps bad s
  | estCells h ring node => exact execEstCells_keeps h ring node s
  | estString h mask => exact execEstString_keeps h mask s
  | estReset h ring node mask => exact execEstReset_keeps h ring node mask s
  | impRun h mask => exact execImpRun_keeps h mask s
  | impStop h mask => exact execImpStop_keeps h mask s
  | impScheduleDue ring => exact execImpScheduleDue_keeps ring s
  | impWindowEnd ring => exact execImpWindowEnd_keeps ring s
  | impRunEnd ring => exact execImpRunEnd_keeps ring s
  | precursorCleared ring => exact execPrecursorCleared_keeps ring s
  | impTable h ring node cell => exact execImpTable_keeps h ring node cell s
  | impHealth h ring node => exact execImpHealth_keeps h ring node s
  | nodeIdentity h ring node => exact execNodeIdentity_keeps h ring node s
  | nodeReauth h ring node => exact execNodeReauth_keeps h ring node s
  | impNodeSync h mask => exact execImpNodeSync_keeps h mask s
  | authChallengeDue node nonce => exact execAuthChallengeDue_keeps node nonce s
  | authAnswer node answer => exact execAuthAnswer_keeps node answer s
  | nodeSyncDue ring => exact execNodeSyncDue_keeps ring s
  | safetyHeartbeatLoss => exact execSafetyHeartbeatLoss_keeps s
  | safetyLockstep => exact execSafetyLockstep_keeps s
  | crossDemand kind strings fromTurnip => exact execCrossDemand_keeps kind strings fromTurnip s
  | crossDemandTimeout => exact execCrossDemandTimeout_keeps s
  | channelDiscrepancy string => exact execChannelDiscrepancy_keeps string s
  | siDemand pair turnip => exact execSiDemand_keeps pair turnip s
  | siDiscrepancy pair => exact execSiDiscrepancy_keeps pair s
  | siTestPulse input lowUs moved => exact execSiTestPulse_keeps input lowUs moved s
  | offPulse out sw core turnip => exact execOffPulse_keeps out sw core turnip s
  | onPulse out sw core turnip => exact execOnPulse_keeps out sw core turnip s
  | soOverload out => exact execSoOverload_keeps out s
  | soOpenLoad out => exact execSoOpenLoad_keeps out s
  | stringClose h mask => exact execStringClose_keeps h mask s
  | prechargeElapsed string => exact execPrechargeElapsed_keeps string s
  | stringOpenStopped h mask => exact execStringOpenStopped_keeps h mask s
  | stringOpenRunning h mask => exact execStringOpenRunning_keeps h mask s
  | safetyStatus h => exact execSafetyStatus_keeps h s
  | safetyReset h scope mask => exact execSafetyReset_keeps h scope mask s
  | resetArmTimeout => exact execResetArmTimeout_keeps s
  | resetInputEdge input lowMs skewMs => exact execResetInputEdge_keeps input lowMs skewMs s
  | resetLapsed => exact execResetLapsed_keeps s
  | confirmSafetyConfig h crc => exact execConfirmSafetyConfig_keeps h crc s
  | commissioningTestStart h ch => exact execCommissioningTestStart_keeps h ch s
  | commissioningTestStop h ch => exact execCommissioningTestStop_keeps h ch s
  | ctTimeExpiry ch => exact execCtTimeExpiry_keeps ch s
  | safeBlockApply => exact execSafeBlockApply_keeps s
  | wsfPdu transport peer bytes => exact execWsfPdu_keeps transport peer bytes s
  | wsfWatchdog conn => exact execWsfWatchdog_keeps conn s
  | wsfProduce conn => exact execWsfProduce_keeps conn s
  | shallotKeepalive f lifecycle power state ts timeState => exact execShallotKeepalive_keeps f lifecycle power state ts timeState s
  | keepaliveDue => exact execKeepaliveDue_keeps s
  | loopCopy f c => exact execLoopCopy_keeps f c s
  | axisCopy f recs => exact execAxisCopy_keeps f recs s
  | arbStart f cause => exact execArbStart_keeps f cause s
  | arbResult f mask => exact execArbResult_keeps f mask s
  | arbHandover f period drill => exact execArbHandover_keeps f period drill s
  | katComplete lanes => exact execKatComplete_keeps lanes s
  | safetyCopy f m => exact execSafetyCopy_keeps f m s
  | shallotControl f m => exact execShallotControl_keeps f m s
  | sweepFinal f m => exact execSweepFinal_keeps f m s
  | sweepNeed f ring sweep need => exact execSweepNeed_keeps f ring sweep need s
  | sweepFrame f ring sweep node p => exact execSweepFrame_keeps f ring sweep node p s
  | estCopy f block data => exact execEstCopy_keeps f block data s
  | estDigest f m => exact execEstDigest_keeps f m s
  | paramMirror f session entries => exact execParamMirror_keeps f session entries s
  | dictCopy f index last values digestOk => exact execDictCopy_keeps f index last values digestOk s
  | wcpFwd f reply h role opcode payload => exact execWcpFwd_keeps f reply h role opcode payload s
  | stateXfer f kind data last => exact execStateXfer_keeps f kind data last s
  | standbyReport f code inst sev data => exact execStandbyReport_keeps f code inst sev data s
  | shallotSendWatch => exact execShallotSendWatch_keeps s
  | shallotSilence => exact execShallotSilence_keeps s
  | shallotLockLoss => exact execShallotLockLoss_keeps s
  | silenceRoleHeld => exact execSilenceRoleHeld_keeps s
  | aheadTimeout => exact execAheadTimeout_keeps s
  | uncomparedRun ch => exact execUncomparedRun_keeps ch s
  | suspectClear => exact execSuspectClear_keeps s
  | twinStatus h => exact execTwinStatus_keeps h s
  | twinHandover h => exact execTwinHandover_keeps h s
  | twinIsolate h slot => exact execTwinIsolate_keeps h slot s
  | twinJoin h => exact execTwinJoin_keeps h s
  | twinClearSuspect h => exact execTwinClearSuspect_keeps h s
  | twinPromote h => exact execTwinPromote_keeps h s
  | swapDrillDue => exact execSwapDrillDue_keeps s
  | swapWatchEnd => exact execSwapWatchEnd_keeps s
  | swapHandedBack code => exact execSwapHandedBack_keeps code s
  | ethLinkChange port link => exact execEthLinkChange_keeps port link s
  | arpRequest f ip mac => exact execArpRequest_keeps f ip mac s
  | icmpEcho f dst src data => exact execIcmpEcho_keeps f dst src data s
  | gratuitousArp => exact execGratuitousArp_keeps s
  | prpSupervision => exact execPrpSupervision_keeps s
  | prpFrame f src seq lan => exact execPrpFrame_keeps f src seq lan s
  | ptpAnnounce f m a => exact execPtpAnnounce_keeps f m a s
  | ptpAnnounceTimeout port => exact execPtpAnnounceTimeout_keeps port s
  | ptpSync f m t1 t2 corr interval master => exact execPtpSync_keeps f m t1 t2 corr interval master s
  | ptpDelayResp f m t2 t3 t4 corr => exact execPtpDelayResp_keeps f m t2 t3 t4 corr s
  | ptpPdelayReq f m rx => exact execPtpPdelayReq_keeps f m rx s
  | delayReqDue port => exact execDelayReqDue_keeps port s
  | holdoverLong => exact execHoldoverLong_keeps s
  | timeStep => exact execTimeStep_keeps s
  | wholeSecond => exact execWholeSecond_keeps s
  | timeJumpAccept h => exact execTimeJumpAccept_keeps h s
  | timeJumpReject h => exact execTimeJumpReject_keeps h s
  | netStatus h => exact execNetStatus_keeps h s
  | ptpStatus h => exact execPtpStatus_keeps h s
  | launchTime port frame launch => exact execLaunchTime_keeps port frame launch s
  | canTx h ctl entries => exact execCanTx_keeps h ctl entries s
  | canTxAbort h ctl handle => exact execCanTxAbort_keeps h ctl handle s
  | canTxFlush h ctl => exact execCanTxFlush_keeps h ctl s
  | canTxResults h ctl max => exact execCanTxResults_keeps h ctl max s
  | canRxRead h ctl fifo max => exact execCanRxRead_keeps h ctl fifo max s
  | canRecover h ctl => exact execCanRecover_keeps h ctl s
  | canStatus h ctl => exact execCanStatus_keeps h ctl s
  | canTxDone ctl outcome => exact execCanTxDone_keeps ctl outcome s
  | canRxFrame ctl f sof flaw => exact execCanRxFrame_keeps ctl f sof flaw s
  | canBusOff ctl => exact execCanBusOff_keeps ctl s
  | canRecovered ctl => exact execCanRecovered_keeps ctl s
  | fieldScan d => exact execFieldScan_keeps d s
  | diOpenWire n isOpen => exact execDiOpenWire_keeps n isOpen s
  | doDiagnostic n d => exact execDoDiagnostic_keeps n d s
  | fieldWatchdog => exact execFieldWatchdog_keeps s
  | barrierLinkLost => exact execBarrierLinkLost_keeps s
  | fieldSupplyLow => exact execFieldSupplyLow_keeps s
  | fioStatus h => exact execFioStatus_keeps h s
  | fioEdges h max => exact execFioEdges_keeps h max s
  | fioDoClear h mask => exact execFioDoClear_keeps h mask s
  | thermalEvaluation rows => exact execThermalEvaluation_keeps rows s
  | thermalShutdown => exact execThermalShutdown_keeps s
  | thermalHoldPoll readings => exact execThermalHoldPoll_keeps readings s
  | thermStatus h => exact execThermStatus_keeps h s
  | thermClear h => exact execThermClear_keeps h s
  | bistRun h codes => exact execBistRun_keeps h codes s
  | bistStatus h codes => exact execBistStatus_keeps h codes s
  | bistComplete code sigOk count expected => exact execBistComplete_keeps code sigOk count expected s
  | scrubDue kind => exact execScrubDue_keeps kind s
  | clusterRotationDue => exact execClusterRotationDue_keeps s
  | standbyKatDue lanes => exact execStandbyKatDue_keeps lanes s
  | faultAccepted => exact execFaultAccepted_keeps s
  | faultHandling => exact execFaultHandling_keeps s
  | handlerDeadline => exact execHandlerDeadline_keeps s
  | recordWrite good => exact execRecordWrite_keeps good s
  | recInfo h part => exact execRecInfo_keeps h part s
  | recRead h part count slot => exact execRecRead_keeps h part count slot s
  | recClearGeneral h seq => exact execRecClearGeneral_keeps h seq s
  | recClearSafety h seq => exact execRecClearSafety_keeps h seq s
  | recClearConfirm h seq => exact execRecClearConfirm_keeps h seq s
  | clearLapsed => exact execClearLapsed_keeps s
  | fbTrigger h => exact execFbTrigger_keeps h s
  | fbFrozen => exact execFbFrozen_keeps s
  | fbCheckpoint => exact execFbCheckpoint_keeps s
  | fbAutoRelease => exact execFbAutoRelease_keeps s
  | fbStatus h => exact execFbStatus_keeps h s
  | fbExport h offset length => exact execFbExport_keeps h offset length s
  | fbRelease h => exact execFbRelease_keeps h s
  | replayOpen h source length => exact execReplayOpen_keeps h source length s
  | replayLoad h offset bytes => exact execReplayLoad_keeps h offset bytes s
  | replayStart h cp end_ mode => exact execReplayStart_keeps h cp end_ mode s
  | replayEnd => exact execReplayEnd_keeps s
  | replayStatus h => exact execReplayStatus_keeps h s
  | replayClose h => exact execReplayClose_keeps h s
  | updStatus h => exact execUpdStatus_keeps h s
  | updBegin h length => exact execUpdBegin_keeps h length s
  | updData h offset bytes => exact execUpdData_keeps h offset bytes s
  | updVerify h => exact execUpdVerify_keeps h s
  | updVerifyDone => exact execUpdVerifyDone_keeps s
  | updActivate h mask => exact execUpdActivate_keeps h mask s
  | sproutActivation cut => exact execSproutActivation_keeps cut s
  | updConfirm h => exact execUpdConfirm_keeps h s
  | updAbort h => exact execUpdAbort_keeps h s
  | updRollback h mask => exact execUpdRollback_keeps h mask s
  | updFromTwin h mask => exact execUpdFromTwin_keeps h mask s
  | shallotImage f m => exact execShallotImage_keeps f m s
  | trialReadyTimeout => exact execTrialReadyTimeout_keeps s
  | confirmExpired => exact execConfirmExpired_keeps s
  | nodeStepComplete good node => exact execNodeStepComplete_keeps good node s
  | mixedPairLong => exact execMixedPairLong_keeps s
  | safetySwitchFrameLoss sw => exact execSafetySwitchFrameLoss_keeps sw s
  | freewheelToClamp out => exact execFreewheelToClamp_keeps out s

/-- Settles O6: an idle step by `State.tick_inv`, any other by `exec_keeps` for the command at the front of the queue. That the line stands only
under a standing supply is R38 as assumption log entry 43 reads it. -/
theorem roleLineHeldByEveryStep : Obligations.RoleLineHeldByEveryStep := by
  intro s t hs hstep
  unfold step at hstep
  split at hstep
  case h_1 =>
    obtain ⟨rfl⟩ := hstep
    exact s.tick_inv hs
  case h_2 c rest _ => exact exec_keeps c { s with pending := rest } t hstep hs

end Sys2Proof.Machine
end

section
/-! SUPPORT. The rules that O12 turns on: what a reset leaves of the sessions and of chapters 1 to 3, what the reading of the slot leaves, and the
next state of each command of mating, supply and reset where it acts. -/
namespace Sys2Proof.Machine
open Sys2Proof

/-! ### Faults and records -/

theorem Same.now_eq {t s : State} (h : Same t s) : t.now = s.now := by
  obtain ⟨-, hnow, -⟩ := h.fields
  exact hnow

/-- A module without a session is left without one by what it records: deliver adds no session (05 R102). -/
theorem State.deliver_sessions {s : State} (h : s.wcp.sessions = []) (e : Event) : (s.deliver e).wcp.sessions = [] := by
  simp [State.deliver, h]

@[simp] theorem State.enqueueRec_sessions (s : State) (r : Rec) : (s.enqueueRec r).wcp.sessions = s.wcp.sessions := by
  simp only [State.enqueueRec]
  (repeat' split) <;> rfl

theorem State.recordPlain_sessions {s : State} (h : s.wcp.sessions = []) (f : FRec) : (s.recordPlain f).wcp.sessions = [] :=
  State.deliver_sessions (by simpa using h) _

@[simp] theorem State.fbEvent_sessions (s : State) (kind : Nat) (data : Bytes) : (s.fbEvent kind data).wcp.sessions = s.wcp.sessions := by
  simp only [State.fbEvent, State.fbPush]
  (repeat' split) <;> rfl

@[simp] theorem State.fbTrigger_sessions (s : State) (seq code : Nat) : (s.fbTrigger seq code).wcp.sessions = s.wcp.sessions := by
  simp only [State.fbTrigger]
  split
  · rfl
  split
  · exact State.fbEvent_sessions _ _ _
  · exact State.fbEvent_sessions _ _ _

theorem State.record_sessions {s : State} (h : s.wcp.sessions = []) (f : FRec) : (s.record f).wcp.sessions = [] := by
  have hplain := State.recordPlain_sessions h f
  simp only [State.record]
  split
  · exact hplain
  split
  · exact State.recordPlain_sessions (s := (s.recordPlain f).inc 0x925 0) hplain _
  · rw [State.fbTrigger_sessions, hplain]

theorem State.raise_sessions {s : State} (h : s.wcp.sessions = []) (code inst sev : Nat) (data : Bytes) :
    (s.raise code inst sev data).wcp.sessions = [] := by
  simp only [State.raise, State.raiseWith]
  split
  · split
    · exact h
    · exact State.record_sessions h _
  · exact h

/-! ### Resets (02 R51, 03 R67 to R69) -/

theorem State.afterReset_sessions {s : State} (h : s.wcp.sessions = []) (failed lost : Bool) : (s.afterReset failed lost).wcp.sessions = [] := by
  unfold State.afterReset
  extract_lets reported pair answered updated timed
  have hreported : reported.wcp.sessions = [] := by
    simp only [reported]
    split
    · exact State.raise_sessions h _ _ _ _
    · exact h
  have htimed : timed.wcp.sessions = [] := by
    simp only [timed, answered]
    split <;> exact hreported
  clear_value timed
  split
  · exact State.raise_sessions (by exact htimed) _ _ _ _
  · exact htimed

/-- Every reset closes the sessions: the protocol state after it holds none. -/
@[simp] theorem State.resetModule_sessions (s : State) (cause : Nat) : (s.resetModule cause).wcp.sessions = [] :=
  State.afterReset_sessions rfl _ _

theorem SysSt.restart_lifecycle (x : SysSt) (cause : Nat) : (x.restart cause).lifecycle = .boot := rfl
theorem SysSt.restart_roleOut (x : SysSt) (cause : Nat) : (x.restart cause).roleOut = false := rfl
theorem SysSt.restart_slot (x : SysSt) (cause : Nat) : (x.restart cause).slot = 0 := rfl
theorem SysSt.restart_resetCause (x : SysSt) (cause : Nat) : (x.restart cause).resetCause = x.resetCause ||| BitVec.ofNat 16 (2 ^ cause) := rfl

/-- 02 R51: a reset sets the bit of its cause and keeps those that stand. -/
theorem SysSt.restart_cause (x : SysSt) {cause : Nat} (h : cause < 16) : (x.restart cause).resetCause.getLsbD cause = true := by
  rw [SysSt.restart_resetCause, BitVec.getLsbD_or, BitVec.getLsbD_ofNat, Nat.testBit_two_pow_self]
  simp [h]

/-- What a reset of the module leaves: BOOT, the role line low, the bit of its cause, no slot. -/
theorem State.resetModule_leaves (s : State) {cause : Nat} (h : cause < 16) :
    (s.resetModule cause).sys.lifecycle = .boot ∧ (s.resetModule cause).sys.roleOut = false
      ∧ (s.resetModule cause).sys.resetCause.getLsbD cause = true ∧ (s.resetModule cause).sys.slot = 0 := by
  rw [State.resetModule_sys]
  exact ⟨SysSt.restart_lifecycle _ _, SysSt.restart_roleOut _ _, SysSt.restart_cause _ h, SysSt.restart_slot _ _⟩

/-! ### Mating and supply (02 R37, R40, R52) -/

/-- Reading the slot takes no time, and names the slot by the contacts. -/
theorem State.readSlot_leaves (s : State) :
    s.readSlot.now = s.now ∧ s.readSlot.sys.mated = s.sys.mated ∧ s.readSlot.sys.slot = slotOf s.sys.slotId s.sys.slotIdn := by
  simp only [State.readSlot]
  (repeat' split) <;> simp [(State.raise_same _ _ _ _ _).now_eq]

theorem State.readSlot_lifecycle (s : State) : s.readSlot.sys.lifecycle = s.sys.lifecycle := congrArg (·.2.1) s.readSlot_role
theorem State.readSlot_roleOut (s : State) : s.readSlot.sys.roleOut = s.sys.roleOut := congrArg (·.1) s.readSlot_role

/-- The contacts as mating leaves them (02 R37). -/
def State.mate (s : State) (slotId slotIdn : Bool) (eeprom : Option Bytes) : State :=
  { s with sys := { s.sys with mated := true, mateOpen := false, slotId := slotId, slotIdn := slotIdn, eeprom := eeprom, bootAt := s.now } }

/-- The supply is back (03 R67): the module boots at the always-on clock's time, with the cause POR where that clock was lost. -/
def State.supplied (s : State) : State :=
  { s with now := s.sys.rtc, sys := { s.sys with vinLow := false, aoLost := false, vinWarn := false, mirror := .boot, bootAt := s.sys.rtc,
                                                  resetCause := if s.sys.aoLost then 1 else s.sys.resetCause } }

/-- A self-test that the loss of supply broke off holds the module after its return. -/
def State.holdBist (s : State) : State :=
  if s.bist.flag then { s with bist := { s.bist with hold := true, polls := 0, pollAt := s.now } } else s

theorem State.holdBist_sys (s : State) : s.holdBist.sys = s.sys := by unfold State.holdBist; split <;> rfl
theorem State.holdBist_upd (s : State) : s.holdBist.upd = s.upd := by unfold State.holdBist; split <;> rfl

/-! ### The commands, where they act -/

theorem exec_matingQualified (s : State) (a b : Bool) (e : Option Bytes) (h : s.sys.mated = false) :
    exec (.matingQualified a b e) s = .next ((s.advanceTo (s.now + 100000000)).mate a b e).readSlot := by
  simp [exec, execMatingQualified, h, State.mate]

theorem exec_mateDetectOpen_long (s : State) {ns : Nat} (h : s.sys.mated = true) (hns : 50000 ≤ ns) :
    exec (.mateDetectOpen ns) s = .next (({ s with sys := { s.sys with mateOpen := true } } : State).endDrive.raise 0x1051 0 3) := by
  simp [exec, execMateDetectOpen, h, Nat.not_lt.2 hns]

theorem exec_powerFailWarning (s : State) (h : s.sys.vinWarn = false) :
    exec .powerFailWarning s = .next (({ s with sys := { s.sys with vinWarn := true } } : State).raise 0x1052 0 1) := by
  simp [exec, execPowerFailWarning, h]

theorem exec_brownout (s : State) (h : s.sys.vinLow = false) :
    exec .brownout s = .next { s.resetModule 1 with sys := { (s.resetModule 1).sys with mirror := s.sys.mirror, vinLow := true } } := by
  simp only [exec, execBrownout, h, Bool.false_eq_true, if_false]

theorem exec_aoPowerLoss (s : State) (h : s.sys.vinLow = true) :
    exec .aoPowerLoss s = .next { s with sys := { s.sys with aoLost := true, resetCause := 0, rtc := 0, mirror := .boot, mated := false } } := by
  simp [exec, execAoPowerLoss, h]

theorem exec_vinRestart (s : State) (h : s.sys.vinLow = true) : exec .vinRestart s = .next s.supplied.dramLost.holdBist := by
  simp only [exec, execVinRestart, h, Bool.not_true, Bool.false_eq_true, if_false]
  rfl

theorem exec_nrstIn (s : State) {ns : Nat} (hns : 10000 ≤ ns) (hvin : s.sys.vinLow = false) (hmated : s.sys.mated = true) :
    exec (.nrstIn ns) s = .next (s.resetModule 2) := by
  have hlong : ¬ ns < 1000 := by omega
  simp [exec, execNrstIn, hlong, hvin, hmated, hns]

theorem exec_appWdogExpiry (s : State) (hvin : s.sys.vinLow = false) (hmated : s.sys.mated = true) (hhold : s.bist.hold = false)
    (hlife : s.sys.lifecycle ≠ .boot) : exec .appWdogExpiry s = .next (s.resetModule 3) := by
  simp [exec, execAppWdogExpiry, hvin, hmated, hhold, hlife]

/-- A RESET that passes resets the module once its reply and the fault queue are written; only the packets for the host stay. -/
theorem exec_reset (s : State) (h : Hdr) (hpass : s.passes 0x0021 h false [] = true) (hactive : s.sys.lifecycle ≠ .active)
    (htest : s.sys.lifecycle ≠ .selftest) :
    ∃ u : State, ∃ out rest, exec (.reset h) s =
      .next { u.resetModule 6 with wcp := { (u.resetModule 6).wcp with hostOut := out, hostRest := rest } } := by
  have hsys := (s.admitted_same 0x0021 h []).sys_eq
  simp only [exec, execReset, State.wcpReq_of_passes s _ h _ _ hpass]
  split
  · next hlife => exact absurd (hsys ▸ hlife) hactive
  · next hlife => exact absurd (hsys ▸ hlife) htest
  · exact ⟨_, _, _, rfl⟩

end Sys2Proof.Machine
end

section
/-! SUPPORT. O4, O5 and O12: the state after reset, and mating, supply and resets. -/
namespace Sys2Proof.Machine
open Sys2Proof

/-- Settles O4, by evaluation of the reset state. -/
theorem resetLeaves : Obligations.ResetLeaves := by
  refine ⟨rfl, rfl, rfl, rfl, rfl, rfl, rfl, rfl, rfl, rfl, ?channels⟩
  case channels => decide

/-- Settles O5: the role line is low at reset. -/
theorem roleLineHeldAtReset : Obligations.RoleLineHeldAtReset := .of_low rfl

/-- Settles O12: each clause reads off what a reset, a fault or the reading of the slot leaves. The mirror that a brownout keeps and the
clock that a loss of the always-on supply clears are the model's readings of assumption log entries 41 and 42. -/
theorem supplyAndResetComplete : Obligations.SupplyAndResetComplete := by
  unfold Obligations.SupplyAndResetComplete
  refine ⟨?mating, ?opened, ?glitch, ?warning, ?cleared, ?brownout, ?aoLoss, ?vinBack, ?contact, ?watchdog, ?request⟩
  case mating =>
    intro s a b e hmated
    refine ⟨_, exec_matingQualified s a b e hmated, ?_⟩
    obtain ⟨hnow, hkept, hslot⟩ := ((s.advanceTo (s.now + 100000000)).mate a b e).readSlot_leaves
    rw [hnow, hkept, hslot, State.readSlot_lifecycle, State.readSlot_roleOut]
    exact ⟨rfl, rfl, Nat.max_eq_right (Nat.le_add_right _ _), rfl, rfl⟩
  case opened =>
    intro s ns hmated hns
    refine ⟨_, exec_mateDetectOpen_long s hmated hns, ?_, ?_, State.raise_waits _ _ _ _ _ (by decide)⟩
    · rw [State.raise_sys, State.endDrive_roleOut]
    · rw [State.raise_sys, State.endDrive_driveEnded]
  case glitch =>
    intro s ns hmated hns
    simp [exec, execMateDetectOpen, hmated, hns]
  case warning =>
    intro s hwarn
    refine ⟨_, exec_powerFailWarning s hwarn, ?_, State.raise_waits _ _ _ _ _ (by decide)⟩
    rw [State.raise_sys]
  case cleared =>
    intro s hdue
    exact ⟨{ s with sys := { s.sys with vinWarn := false } }, by simp [exec, execPowerFailWarningClear, hdue], rfl, rfl, rfl⟩
  case brownout =>
    intro s hvin
    obtain ⟨hlife, hrole, hcause, -⟩ := s.resetModule_leaves (cause := 1) (by decide)
    exact ⟨_, exec_brownout s hvin, rfl, rfl, hlife, hrole, hcause, s.resetModule_sessions 1⟩
  case aoLoss =>
    intro s hvin
    exact ⟨_, exec_aoPowerLoss s hvin, rfl, rfl, rfl, rfl⟩
  case vinBack =>
    intro s hvin
    refine ⟨_, exec_vinRestart s hvin, ?_⟩
    rw [State.holdBist_sys, State.holdBist_upd, State.dramLost_sys]
    exact ⟨rfl, rfl, rfl, rfl, rfl⟩
  case contact =>
    intro s ns hns hvin hmated
    obtain ⟨hlife, hrole, hcause, hslot⟩ := s.resetModule_leaves (cause := 2) (by decide)
    exact ⟨_, exec_nrstIn s hns hvin hmated, hlife, hrole, hcause, hslot⟩
  case watchdog =>
    intro s hvin hmated hhold hlife
    obtain ⟨hboot, hrole, hcause, -⟩ := s.resetModule_leaves (cause := 3) (by decide)
    exact ⟨_, exec_appWdogExpiry s hvin hmated hhold hlife, hboot, hrole, hcause⟩
  case request =>
    intro s h hpass hactive htest
    obtain ⟨u, out, rest, hu⟩ := exec_reset s h hpass hactive htest
    obtain ⟨hlife, hrole, hcause, -⟩ := u.resetModule_leaves (cause := 6) (by decide)
    exact ⟨_, hu, hlife, hcause, u.resetModule_sessions 6, hrole⟩

end Sys2Proof.Machine
end

section
/-! SUPPORT. The rules that O14, O15 and O45 turn on: what POWER_SET answers where the ladder forbids its target, what a fall of ROLE_IN leaves
outside STANDBY and UPDATE, and what the sweeps of a check visit leave. -/
namespace Sys2Proof.Machine
open Sys2Proof

/-! ### POWER_SET to P4 (03 R61, R62) -/

theorem Same.anySoOn_eq {t s : State} (h : Same t s) : t.anySoOn = s.anySoOn := by
  obtain ⟨-, -, -, -, -, -, -, -, -, -, hsafe, -⟩ := h.fields
  have hon : t.soOn = s.soOn := by
    funext n
    simp only [State.soOn, State.so, hsafe]
  rw [State.anySoOn, State.anySoOn, hon]

/-- SAFE holds no state below P1, and its own status comes before that of a closed output (01 R23, assumption log entry 46). -/
theorem State.judgePower_p4_of_safe (s : State) (pair : Bool) (h : s.sys.lifecycle = .safe) : s.judgePower .p4 pair = 0x0109 := by
  simp [State.judgePower, h, legal]

/-- A closed output has the status of a state that its lifecycle does not hold, outside SAFE. -/
theorem State.judgePower_p4_of_anySoOn (s : State) (pair : Bool) (hon : s.anySoOn = true) (hlife : s.sys.lifecycle ≠ .safe) :
    s.judgePower .p4 pair = 0x0105 := by
  cases hlegal : legal s.sys.lifecycle .p4 <;> simp [State.judgePower, hlegal, hon, hlife, pstateCode]

/-- A request for a state that the ladder forbids is refused with the status that says why. -/
theorem exec_powerSet_forbidden (s : State) (h : Hdr) (b : Byte) {p : PState} {c : Nat} (hpass : s.passes 0x0020 h false [] = true)
    (hp : pstateOf b.toNat = some p) (hjudge : (s.admitted 0x0020 h [b]).judgePower p (h.target == 0) = c) (hc : c ≠ 0) :
    exec (.powerSet h b) s = .next ((s.admitted 0x0020 h [b]).fail 0x0020 h c) := by
  simp only [exec, execPowerSet, State.wcpReq_of_passes s _ h _ _ hpass, hp, hjudge, if_pos hc]

theorem exec_powerSet_p4_of_safe (s : State) (h : Hdr) (hpass : s.passes 0x0020 h false [] = true) (hlife : s.sys.lifecycle = .safe) :
    exec (.powerSet h 4) s = .next ((s.admitted 0x0020 h [4]).fail 0x0020 h 0x0109) := by
  have hsys := (s.admitted_same 0x0020 h [4]).sys_eq
  exact exec_powerSet_forbidden s h 4 hpass rfl (State.judgePower_p4_of_safe _ _ (hsys ▸ hlife)) (by decide)

theorem exec_powerSet_p4_of_anySoOn (s : State) (h : Hdr) (hpass : s.passes 0x0020 h false [] = true) (hon : s.anySoOn = true)
    (hlife : s.sys.lifecycle ≠ .safe) : exec (.powerSet h 4) s = .next ((s.admitted 0x0020 h [4]).fail 0x0020 h 0x0105) := by
  have hsame := s.admitted_same 0x0020 h [4]
  exact exec_powerSet_forbidden s h 4 hpass rfl
    (State.judgePower_p4_of_anySoOn _ _ (hsame.anySoOn_eq.trans hon) (hsame.sys_eq ▸ hlife)) (by decide)

/-! ### ROLE_IN falls (13 R389) -/

/-- The role line of the twin is low, 500 ns after its edge. -/
def State.roleInGone (s : State) : State :=
  { s.advanceTo (s.now + 500) with sys := { (s.advanceTo (s.now + 500)).sys with roleIn := false } }

theorem State.roleInGone_now (s : State) : s.roleInGone.now = s.now + 500 := Nat.max_eq_right (Nat.le_add_right _ _)

theorem State.assertRole_leaves (s : State) :
    s.assertRole.sys.roleIn = s.sys.roleIn ∧ s.assertRole.now = s.now ∧ s.assertRole.sys.lifecycle = s.sys.lifecycle := by
  unfold State.assertRole
  split <;> exact ⟨rfl, rfl, rfl⟩

/-- Where nothing holds it back, the line of an ACTIVE mirror rises (02 R38). -/
theorem State.assertRole_asserts (s : State) (hin : s.sys.roleIn = false) (hmirror : s.sys.mirror = .active) (hmate : s.sys.mateOpen = false)
    (hosc : s.sys.oscFault = false) (hconf : s.sys.conflict = false) (hdrive : s.sys.driveEnded = false) (hvin : s.sys.vinLow = false) :
    s.assertRole.sys.roleOut = true := by
  simp [State.assertRole, hin, hmirror, hmate, hosc, hconf, hdrive, hvin]

theorem exec_roleInLow_active (s : State) (hin : s.sys.roleIn = true) (hlife : s.sys.lifecycle = .active) :
    exec .roleInLow s = .next s.roleInGone.assertRole := by
  simp only [exec, execRoleInLow, hin, Bool.not_true, Bool.false_eq_true, if_false]
  split
  case h_1 hother => exact absurd (hlife.symm.trans hother) (by decide)
  case h_2 hother => exact absurd (hlife.symm.trans hother) (by decide)
  case h_3 => rfl
  case h_4 hother => exact absurd hlife hother

theorem exec_roleInLow_other (s : State) (hin : s.sys.roleIn = true) (hstandby : s.sys.lifecycle ≠ .standby)
    (hupdate : s.sys.lifecycle ≠ .update) (hactive : s.sys.lifecycle ≠ .active) : exec .roleInLow s = .next s.roleInGone := by
  simp only [exec, execRoleInLow, hin, Bool.not_true, Bool.false_eq_true, if_false]
  split
  case h_1 hlife => exact absurd hlife hstandby
  case h_2 hlife => exact absurd hlife hupdate
  case h_3 hlife => exact absurd hlife hactive
  case h_4 => rfl

/-! ### The sweeps of a check visit (03 R60) -/

theorem State.ring_updRing_same (s : State) {r : Nat} (f : RingSt → RingSt) (hr : r < 4) : (s.updRing r f).ring r = f (s.ring r) :=
  Four.get_set_same _ _ _ hr

theorem State.syncOut_rings (s : State) (r flags fine depart : Nat) : (s.syncOut r flags fine depart).rings = s.rings := by
  simp only [State.syncOut]
  split <;> rfl

theorem State.sendSync_rings (s : State) (r : Nat) : (s.sendSync r).rings = s.rings := by
  simp only [State.sendSync]
  split
  · exact State.syncOut_rings _ _ _ _ _
  · exact State.syncOut_rings _ _ _ _ _

/-- A ring whose sweep started collects its answers. -/
theorem State.startSweep_collecting (s : State) {r : Nat} (hr : r < 4) : ((s.startSweep r).ring r).collecting = true := by
  unfold State.startSweep
  extract_lets final normal swept
  have hswept : (swept.ring r).collecting = true := by rw [State.ring_updRing_same _ _ hr]
  split
  · simpa only [State.ring, State.sendSync_rings] using hswept
  · exact hswept

/-- The one sweep that a check visit starts on a ring that sweeps. -/
def State.visitSweep (s : State) (r : Nat) : State := if (s.ring r).sweeping then s.startSweep r else s

/-- The clause of O14 on check visits names the state u that sweeps: what the visit leaves is u's sweeps. -/
theorem exec_checkVisit_sweeps {s t u : State} (h : exec .checkVisit s = .next t)
    (hu : exec .checkVisit s = .next ([0, 1, 2, 3].foldl (fun v r => if (v.ring r).sweeping then v.startSweep r else v) u.wakeNodes)) :
    t = [0, 1, 2, 3].foldl State.visitSweep u.wakeNodes := by
  obtain ⟨rfl⟩ := h.symm.trans hu
  rfl

/-- A ring that does not collect after its turn in the visit shows that its sweep did not start. -/
theorem State.visitSweep_of_idle (s : State) {r : Nat} (hr : r < 4) (hidle : ((s.visitSweep r).ring r).collecting = false) :
    s.visitSweep r = s := by
  unfold State.visitSweep at hidle ⊢
  split at hidle
  · exact absurd (s.startSweep_collecting hr) (by simp [hidle])
  · next hrest => rw [if_neg hrest]

/-- Sweeps that leave no ring collecting were none: from the last ring back, whatever a sweep does to the other rings. -/
theorem State.foldl_visitSweep_of_idle (s : State) (l : List Nat) (hl : ∀ r ∈ l, r < 4)
    (hidle : ∀ r ∈ l, ((l.foldl State.visitSweep s).ring r).collecting = false) : l.foldl State.visitSweep s = s := by
  induction l using List.reverseRecOn with
  | nil => rfl
  | append_singleton l r ih =>
    rw [List.foldl_append, List.foldl_cons, List.foldl_nil] at hidle ⊢
    have hlast := State.visitSweep_of_idle _ (hl r (by simp)) (hidle r (by simp))
    rw [hlast] at hidle ⊢
    exact ih (fun q hq => hl q (by simp [hq])) (fun q hq => hidle q (by simp [hq]))

/-- An ACTIVE module in P3 in which Turnip has just opened string 0 for a lost node: its own channel is TRIPPED, that of the cores, which rest in
P3, is not yet (03 R59). -/
def trippedInWatch : State :=
  ({ State.reset with sys := { State.reset.sys with mated := true, slot := 1, startPhase := 7, lifecycle := .active, mirror := .active,
                                                    power := .p3 } } : State).turnipTrip 0 0x2030 (nodeKey 0 1)

/-- The state its check visit leaves: the cores latch the trip, and that ends the visit. -/
def trippedInWatchVisited : State :=
  match exec .checkVisit trippedInWatch with
  | .next t => t
  | _ => trippedInWatch

theorem exec_checkVisit_trippedInWatch : exec .checkVisit trippedInWatch = .next trippedInWatchVisited := rfl
theorem trippedInWatchVisited_checkVisit : trippedInWatchVisited.sys.checkVisit = false := by decide +kernel
theorem trippedInWatchVisited_idle : ∀ r ∈ [0, 1, 2, 3], (trippedInWatchVisited.ring r).collecting = false := by decide +kernel

end Sys2Proof.Machine
end

section
/-! SUPPORT. O14, O15 and O45: the power ladder, start-up, and P4 under a closed output. -/
namespace Sys2Proof.Machine
open Sys2Proof

/-- Refutes O14 by its last clause, which lets every check visit go on (checkVisit = true). Where Turnip alone holds a string TRIPPED, the cores
latch that trip as they resume, and a trigger found ends the visit, as R60 says ("handled exactly as in P2"). No ring of the counterexample sweeps,
so no other state can stand for the one the clause asks for. -/
theorem not_powerLadderComplete : ¬ Obligations.PowerLadderComplete := by
  unfold Obligations.PowerLadderComplete
  rintro ⟨-, -, -, -, -, -, -, -, hvisit⟩
  obtain ⟨u, hu, -, hopen, -, -⟩ := hvisit trippedInWatch rfl
  have heq := exec_checkVisit_sweeps exec_checkVisit_trippedInWatch hu
  have hidle := trippedInWatchVisited_idle
  rw [heq] at hidle
  have hsame : trippedInWatchVisited = u.wakeNodes := heq.trans (State.foldl_visitSweep_of_idle _ _ (by decide) hidle)
  have hclosed := trippedInWatchVisited_checkVisit
  rw [hsame, State.wakeNodes_sys, hopen] at hclosed
  contradiction

/-- Settles O15: each clause picks the row of Table 3.6, or the step of Table 3.5, that its hypotheses name. -/
theorem startUpCompletes : Obligations.StartUpCompletes := by
  unfold Obligations.StartUpCompletes
  refine ⟨?image, ?standby, ?active, ?both, ?silence, ?ready, ?roleLow⟩
  case image =>
    intro s c hlife hmated hvin hhold hphase hupd hslot hpower d
    simp [exec, execImageVerified, State.deadlinePast, hlife, hmated, hvin, hhold, hphase, hupd, hslot, hpower]
  case standby =>
    intro s hlife hlock hin hconf helig hdict
    rcases hdict with hdict | hdict <;> simp [exec, execNegotiateRole, hlife, hlock, hin, hconf, helig, hdict]
  case active =>
    intro s hlife hlock hin hconf helig hdict htwin
    rcases hdict with hdict | hdict <;> simp [exec, execNegotiateRole, hlife, hlock, hin, hconf, helig, hdict, htwin]
  case both =>
    intro s hlife hin hconf hlock helig htwin hrank hdict hprefer
    rcases hdict with hdict | hdict <;> simp [exec, execNegotiateRole, hlife, hlock, hin, hconf, helig, hdict, htwin, hrank, hprefer]
  case silence =>
    intro s hlife hin hconf htwin hlock helig
    simp [exec, execNegotiateSilence, hlife, hin, hconf, htwin, hlock, helig]
  case ready =>
    intro s hfrom hto hmay hupd hback
    refine ⟨_, rfl, ?_⟩
    simp [hfrom, hto, hmay, hupd, hback]
  case roleLow =>
    intro s hin hstandby hupdate
    by_cases hactive : s.sys.lifecycle = .active
    · obtain ⟨hline, hnow, hlife⟩ := s.roleInGone.assertRole_leaves
      rw [s.roleInGone_now] at hnow
      exact ⟨_, exec_roleInLow_active s hin hactive, hline, hnow, hlife, fun _ => State.assertRole_asserts s.roleInGone rfl⟩
    · exact ⟨_, exec_roleInLow_other s hin hstandby hupdate hactive, rfl, s.roleInGone_now, rfl, fun h => absurd h hactive⟩

/-- Settles O45: outside SAFE a closed output, and in SAFE the lifecycle, refuses P4, and a refusal only answers. That SAFE answers 0x0109 even
where an output is closed is assumption log entry 46. -/
theorem closedOutputsForbidP4 : Obligations.ClosedOutputsForbidP4 := by
  refine ⟨?closed, ?safe, ?unmoved⟩
  case closed =>
    rintro s h _ hpass rfl hon hlife
    exact exec_powerSet_p4_of_anySoOn s h hpass hon hlife
  case safe =>
    rintro s h _ hpass rfl hlife
    exact exec_powerSet_p4_of_safe s h hpass hlife
  case unmoved =>
    intro s h t hpass hon hexec
    have hkept : ∀ c, ((s.admitted 0x0020 h [4]).fail 0x0020 h c).kept = s.kept := fun c =>
      ((State.fail_same _ _ _ _ _ _).trans (s.admitted_same _ _ _)).1
    by_cases hlife : s.sys.lifecycle = .safe
    · rw [exec_powerSet_p4_of_safe s h hpass hlife] at hexec
      obtain ⟨rfl⟩ := hexec
      exact hkept _
    · rw [exec_powerSet_p4_of_anySoOn s h hpass hon hlife] at hexec
      obtain ⟨rfl⟩ := hexec
      exact hkept _

end Sys2Proof.Machine
end

section
/-! SUPPORT. The rules that O60 turns on: parts of byte strings, the length of a digest, the parts of a packet on the wire, and what reception
reads in each of their places (04 R77, R78, Table 4.2). -/
namespace Sys2Proof.Machine
open Sys2Proof

/-! ### Slices and fields -/

/-- A part in the middle of a string is read whole. -/
theorem slice_middle (a b c : Bytes) : slice (a ++ b ++ c) a.length b.length = b := by simp [slice]

/-- What lies in the first part of a string is read there. -/
theorem slice_append_left (a b : Bytes) {k n : Nat} (h : k + n ≤ a.length) : slice (a ++ b) k n = slice a k n := by
  have hn : n - (a.length - k) = 0 := by omega
  simp [slice, List.drop_append, List.take_append, hn]

/-! ### Digests have 32 bytes -/

/-- Each history holds four words. -/
def HashRegs.full (r : HashRegs) : Prop := r.up.length = 4 ∧ r.low.length = 4

theorem HashRegs.rounds_full (ks w : List (BitVec 32)) {r : HashRegs} (h : r.full) : (HashRegs.rounds ks w r).full := by
  induction ks generalizing w r with
  | nil => exact h
  | cons k ks ih => exact ih _ ⟨rfl, rfl⟩

theorem HashRegs.absorb_full {r : HashRegs} (h : r.full) (blk : Bytes) : (r.absorb blk).full := by
  obtain ⟨hup, hlow⟩ := h
  obtain ⟨hup', hlow'⟩ := HashRegs.rounds_full hashConsts
    ((List.range 16).map fun i => BitVec.ofNat 32 (ofBe (slice blk (4 * i) 4))) ⟨hup, hlow⟩
  exact ⟨by simp [HashRegs.absorb, hup, hup'], by simp [HashRegs.absorb, hlow, hlow']⟩

theorem HashRegs.absorbAll_full (n : Nat) (m : Bytes) {r : HashRegs} (h : r.full) : (HashRegs.absorbAll n m r).full := by
  induction n generalizing m r with
  | zero => exact h
  | succ n ih => exact ih _ (HashRegs.absorb_full h _)

theorem hashStart_full : hashStart.full := by
  have h : hashPrimes.length = 64 := by decide +kernel
  simp [HashRegs.full, hashStart, h]

theorem HashRegs.full.bytes_length {r : HashRegs} (h : r.full) : ((r.up ++ r.low).flatMap fun w => beBytes 4 w.toNat).length = 32 := by
  obtain ⟨hup, hlow⟩ := h
  simp [beBytes, List.length_flatMap, hup, hlow]

theorem sha256_length (m : Bytes) : (sha256 m).length = 32 := (HashRegs.absorbAll_full _ _ hashStart_full).bytes_length

theorem hmac_length (key m : Bytes) : (hmac key m).length = 32 := sha256_length _

/-! ### The parts of a packet on the wire (Table 4.2) -/

/-- The flag byte. -/
def wireFlags (reply error more safety tagged : Bool) : Nat :=
  (if reply then 1 else 0) + (if error then 2 else 0) + (if more then 4 else 0) + (if safety then 8 else 0) + if tagged then 16 else 0

/-- The 16 bytes before the payload. -/
def Packet.head (p : Packet) (more : Bool) (len : Nat) : Bytes :=
  [0x57, 0x43, 0x02] ++ u8 (wireFlags p.reply p.error more p.safety p.key.isSome) ++ u16 p.seq ++ u16 p.opcode ++ u16 len ++ u16 p.session
    ++ u8 p.target ++ [0, 0, 0]

/-- The tag behind the payload, where the packet has a key (R78). -/
def Packet.tag (p : Packet) (more : Bool) (payload : Bytes) : Bytes :=
  match p.key with
  | some k => (hmac k (u32 p.seq ++ p.head more payload.length ++ payload)).take 16
  | none => []

/-- What the CRC covers (R77). -/
def Packet.body (p : Packet) (more : Bool) (payload : Bytes) : Bytes := p.head more payload.length ++ payload ++ p.tag more payload

theorem wirePacket_eq (p : Packet) (more : Bool) (payload : Bytes) :
    wirePacket p more payload = p.body more payload ++ u32 (crc32c (p.body more payload)) := rfl

@[simp] theorem Packet.head_length (p : Packet) (more : Bool) (len : Nat) : (p.head more len).length = 16 := rfl

theorem Packet.tag_length (p : Packet) (more : Bool) (payload : Bytes) : (p.tag more payload).length = if p.key.isSome then 16 else 0 := by
  unfold Packet.tag
  split <;> simp [*, hmac_length]

theorem wirePacket_length (p : Packet) (more : Bool) (payload : Bytes) :
    (wirePacket p more payload).length = 16 + payload.length + (if p.key.isSome then 16 else 0) + 4 := by
  simp [wirePacket_eq, Packet.body, Packet.tag_length, u32, Nat.add_assoc]

/-! ### What reception reads of it -/

/-- Bytes before the payload are read in the head. -/
theorem slice_wirePacket_head (p : Packet) (more : Bool) (payload : Bytes) {k n : Nat} (h : k + n ≤ 16) :
    slice (wirePacket p more payload) k n = slice (p.head more payload.length) k n := by
  rw [wirePacket_eq, Packet.body, List.append_assoc, List.append_assoc, slice_append_left _ _ h]

/-- A field of the head holds the number written there. -/
theorem fieldAt_wirePacket {p : Packet} {more : Bool} {payload : Bytes} {k n v : Nat} (h : k + n ≤ 16)
    (hv : slice (p.head more payload.length) k n = leBytes n v) : fieldAt (wirePacket p more payload) k n = v % 256 ^ n := by
  rw [fieldAt, slice_wirePacket_head p more payload h, hv, ofLe_leBytes]

section
variable (p : Packet) (more : Bool) (payload : Bytes)

theorem wirePacket_magic : slice (wirePacket p more payload) 0 2 = [0x57, 0x43] := slice_wirePacket_head p more payload (by decide)

theorem wirePacket_version : fieldAt (wirePacket p more payload) 2 1 = 2 := fieldAt_wirePacket (v := 2) (by decide) rfl

theorem wirePacket_flags : fieldAt (wirePacket p more payload) 3 1 = wireFlags p.reply p.error more p.safety p.key.isSome % 256 :=
  fieldAt_wirePacket (by decide) rfl

theorem wirePacket_seq : fieldAt (wirePacket p more payload) 4 2 = p.seq % 65536 := fieldAt_wirePacket (by decide) rfl

theorem wirePacket_opcode : fieldAt (wirePacket p more payload) 6 2 = p.opcode % 65536 := fieldAt_wirePacket (by decide) rfl

theorem wirePacket_session : fieldAt (wirePacket p more payload) 10 2 = p.session % 65536 := fieldAt_wirePacket (by decide) rfl

theorem wirePacket_target : fieldAt (wirePacket p more payload) 12 1 = p.target % 256 := fieldAt_wirePacket (by decide) rfl

theorem wirePacket_resv : fieldAt (wirePacket p more payload) 13 3 = 0 := fieldAt_wirePacket (v := 0) (by decide) rfl

theorem wirePacket_len (h : payload.length ≤ 4096) : fieldAt (wirePacket p more payload) 8 2 = payload.length :=
  (fieldAt_wirePacket (by decide) rfl).trans (Nat.mod_eq_of_lt (by omega))

theorem wirePacket_payload : slice (wirePacket p more payload) 16 payload.length = payload := by
  have h := slice_middle (p.head more payload.length) payload (p.tag more payload ++ u32 (crc32c (p.body more payload)))
  rwa [Packet.head_length, ← List.append_assoc] at h

theorem wirePacket_signed : slice (wirePacket p more payload) 0 (16 + payload.length) = p.head more payload.length ++ payload := by
  rw [wirePacket_eq, Packet.body, List.append_assoc, slice_append_left _ _ (by simp)]
  simp [slice, List.take_of_length_le]

theorem wirePacket_tag {k : Bytes} (h : p.key = some k) :
    slice (wirePacket p more payload) (16 + payload.length) 16 = (hmac k (u32 p.seq ++ (p.head more payload.length ++ payload))).take 16 := by
  have htag : p.tag more payload = (hmac k (u32 p.seq ++ (p.head more payload.length ++ payload))).take 16 := by
    simp [Packet.tag, h, List.append_assoc]
  have hslice := slice_middle (p.head more payload.length ++ payload) (p.tag more payload) (u32 (crc32c (p.body more payload)))
  rw [List.length_append, Packet.head_length, Packet.tag_length, h, Option.isSome_some, if_pos rfl] at hslice
  exact hslice.trans htag

/-- The last four bytes are the CRC-32C of all before them (R77). -/
theorem wirePacket_crc : fieldAt (wirePacket p more payload) ((wirePacket p more payload).length - 4) 4
    = crc32c ((wirePacket p more payload).take ((wirePacket p more payload).length - 4)) := by
  have hlen : (wirePacket p more payload).length - 4 = (p.body more payload).length := by simp [wirePacket_eq, u32]
  have hslice := slice_middle (p.body more payload) (u32 (crc32c (p.body more payload))) []
  rw [List.append_nil, ← wirePacket_eq] at hslice
  rw [hlen, fieldAt, show (4 : Nat) = (u32 (crc32c (p.body more payload))).length from rfl, hslice, wirePacket_eq, List.take_left]
  exact (ofLe_leBytes 4 _).trans (Nat.mod_eq_of_lt (crc32c_lt _))

end

/-! ### The header that reception finds -/

theorem wireFlags_bits (reply error more safety tagged : Bool) :
    let f := wireFlags reply error more safety tagged % 256
    (BitVec.ofNat 8 f).getLsbD 0 = reply ∧ (BitVec.ofNat 8 f).getLsbD 1 = error ∧ (BitVec.ofNat 8 f).getLsbD 2 = more
      ∧ (BitVec.ofNat 8 f).getLsbD 3 = safety ∧ (BitVec.ofNat 8 f).getLsbD 4 = tagged ∧ bitOf f 4 = tagged := by
  revert reply error more safety tagged
  decide

theorem bitOf_wirePacket_flags (p : Packet) (more : Bool) (payload : Bytes) :
    bitOf (fieldAt (wirePacket p more payload) 3 1) 4 = p.key.isSome := by
  obtain ⟨-, -, -, -, -, htagged⟩ := wireFlags_bits p.reply p.error more p.safety p.key.isSome
  rw [wirePacket_flags, htagged]

theorem State.parseHdr_flags (s : State) (t : Transport) (peer : Nat) (p : Packet) (more : Bool) (payload : Bytes) :
    (s.parseHdr t peer (wirePacket p more payload)).flags = BitVec.ofNat 8 (wireFlags p.reply p.error more p.safety p.key.isSome % 256) := by
  rw [← wirePacket_flags p more payload, State.parseHdr]

theorem State.tagOf_absent (s : State) (p : Packet) (more : Bool) (payload : Bytes) (len : Nat) (h : p.key = none) :
    s.tagOf (wirePacket p more payload) len = .absent := by
  simp [State.tagOf, bitOf_wirePacket_flags, h]

/-- The sender's key over the sender's extended sequence gives the tag that came (R78). -/
theorem State.tagOf_good (s : State) (p : Packet) (more : Bool) (payload : Bytes) {x : Sess} (hsess : s.sess (p.session % 65536) = some x)
    (hkey : p.key = some x.keyIn) (hseq : extend x.hi (p.seq % 65536) = some p.seq) :
    s.tagOf (wirePacket p more payload) payload.length = .good := by
  simp [State.tagOf, bitOf_wirePacket_flags, hkey, wirePacket_session, hsess, wirePacket_seq, hseq, wirePacket_signed, wirePacket_tag _ _ _ hkey]

end Sys2Proof.Machine
end

section
/-! SUPPORT. O60: packets on the wire. -/
namespace Sys2Proof.Machine
open Sys2Proof

/-- Settles O60: each field of the header reads back by the lemma on its place, and the tag by State.tagOf_good. -/
theorem packetsReadBackFromTheWire : Obligations.PacketsReadBackFromTheWire := by
  rintro s p more payload h hlen rfl
  obtain ⟨hreply, herror, hmore, hsafety, htagged, -⟩ := wireFlags_bits p.reply p.error more p.safety p.key.isSome
  have hbytes := wirePacket_length p more payload
  rw [State.parseHdr_flags]
  refine ⟨?crc, ?size, ?version, ?resv, rfl, rfl, ?seq, ?session, ?target, hreply, herror, hmore, hsafety, htagged, wirePacket_opcode _ _ _,
    wirePacket_len _ _ _ hlen, wirePacket_payload _ _ _, ?absent, ?good⟩
  case crc =>
    have h20 : 20 ≤ (wirePacket p more payload).length := by omega
    simp only [State.parseHdr, wirePacket_magic, wirePacket_crc, h20, and_self, decide_true]
  case size => simp [State.parseHdr, wirePacket_len _ _ _ hlen, bitOf_wirePacket_flags, hlen, hbytes]
  case version => simp [State.parseHdr, wirePacket_version]
  case resv => simp [State.parseHdr, wirePacket_resv]
  case seq => simp [State.parseHdr, wirePacket_seq]
  case session => simp [State.parseHdr, wirePacket_session]
  case target => simp [State.parseHdr, wirePacket_target]
  case absent =>
    intro hkey
    simp only [State.parseHdr, State.tagOf_absent s p more payload _ hkey]
  case good =>
    intro x hsess hkey hseq
    simp only [State.parseHdr, wirePacket_len _ _ _ hlen, State.tagOf_good s p more payload hsess hkey hseq]

end Sys2Proof.Machine
end

section
/-! SUPPORT. The rules that O44, O55 and O58 turn on: where a packet joins the execution queue (04 R79), the window of extended sequences (R80), and
what acceptance and the reply leave in the session. -/
namespace Sys2Proof.Machine
open Sys2Proof

/-! ### The execution queue (R79) -/

/-- SAFETY_CLASS of a waiting packet. -/
def Waiting.safe (w : Waiting) : Bool := w.hdr.flags.getLsbD 3

theorem State.enqueue_queue_of_safe (s : State) {w : Waiting} (h : w.safe = true) :
    (s.enqueue w).wcp.queue = s.wcp.queue.filter Waiting.safe ++ w :: s.wcp.queue.filter fun x => !x.safe := by
  have h' : w.hdr.flags.getLsbD 3 = true := h
  simp only [State.enqueue, h', if_true, List.append_assoc, List.singleton_append]
  rfl

theorem State.enqueue_queue_of_unsafe (s : State) {w : Waiting} (h : w.safe = false) : (s.enqueue w).wcp.queue = s.wcp.queue ++ [w] := by
  have h' : w.hdr.flags.getLsbD 3 = false := h
  simp only [State.enqueue, h', Bool.false_eq_true, if_false]

/-- The packets of a class keep their order of arrival. -/
theorem State.enqueue_queue_filter_safe (s : State) (w : Waiting) :
    (s.enqueue w).wcp.queue.filter Waiting.safe = (s.wcp.queue ++ [w]).filter Waiting.safe := by
  cases h : w.safe with
  | true => simp [State.enqueue_queue_of_safe s h, h]
  | false => rw [State.enqueue_queue_of_unsafe s h]

theorem State.enqueue_queue_filter_unsafe (s : State) (w : Waiting) :
    (s.enqueue w).wcp.queue.filter (fun x => !x.safe) = (s.wcp.queue ++ [w]).filter fun x => !x.safe := by
  cases h : w.safe with
  | true => simp [State.enqueue_queue_of_safe s h, h]
  | false => rw [State.enqueue_queue_of_unsafe s h]

/-! ### The window of extended sequences (R80) -/

theorem extend_eq_some {hi seq e : Nat} (h : extend hi seq = some e) : e % 65536 = seq % 65536 ∧ e ≤ hi + 1024 ∧ hi < e + 1024 ∧ 0 < e := by
  simp only [extend] at h
  split at h
  · simp only [Option.some.injEq] at h
    omega
  · cases h

theorem extend_mod_of_window {hi e : Nat} (hpos : 0 < e) (hle : e ≤ hi + 1024) (hlt : hi < e + 1024) : extend hi (e % 65536) = some e := by
  have hback : ((hi + 1024) % 65536 + 65536 - e % 65536 % 65536) % 65536 = hi + 1024 - e := by omega
  simp only [extend, hback]
  rw [if_pos (by omega), Option.some.injEq]
  omega

/-- A sequence number means the same once its request is accepted. -/
theorem extend_max {hi seq e : Nat} (h : extend hi seq = some e) : extend (max hi e) seq = some e := by
  obtain ⟨hmod, hle, hlt, hpos⟩ := extend_eq_some h
  rw [show extend (max hi e) seq = extend (max hi e) (e % 65536) by simp only [extend, hmod, Nat.mod_mod]]
  exact extend_mod_of_window hpos (by omega) (by omega)

/-! ### Sessions under updates -/

/-- A session keeps its number where an update keeps numbers, and the update is what is found of it. -/
theorem State.sess_updSess_same (s : State) (id : Nat) {f : Sess → Sess} (hf : ∀ x, (f x).id = x.id) :
    (s.updSess id f).sess id = (s.sess id).map f := by
  have key : ∀ l : List Sess, (l.map fun y => if y.id = id then f y else y).find? (fun x => x.id == id) = (l.find? fun x => x.id == id).map f := by
    intro l
    induction l with
    | nil => rfl
    | cons x l ih =>
      by_cases hx : x.id = id
      · simp [hx, hf]
      · simpa [hx] using ih
  exact key s.wcp.sessions

theorem State.sess_id {s : State} {id : Nat} {x : Sess} (h : s.sess id = some x) : x.id = id := by
  simpa using List.find?_some h

theorem State.post_sess (s : State) (p : Packet) (id : Nat) : (s.post p).sess id = s.sess id := by unfold State.post; split <;> rfl

theorem State.reply_sess_of_host {s : State} {op : Nat} {h : Hdr} (hg : s.isGuest op h = false) (st : Nat) (body : Bytes) :
    (s.reply op h st body).sess h.session.toNat
      = (s.sess h.session.toNat).map fun x => x.remember (s.replyPacket op h st body true).seq (s.replyPacket op h st body true) := by
  rw [State.reply, if_neg (by simp [hg]), State.post_sess]
  exact State.sess_updSess_same _ _ fun _ => rfl

theorem State.accept_sess (s : State) (h : Hdr) :
    (s.accept h).sess h.session.toNat = (s.sess h.session.toNat).map fun x => x.accept ((extend x.hi h.seq.toNat).getD x.hi) s.now :=
  State.sess_updSess_same s _ fun _ => rfl

/-! ### Checks 1 to 6 (Table 4.4) -/

/-- Checks 1 to 3 hold. -/
def HeaderSound (h : Hdr) : Prop := h.crcOk = true ∧ h.sizeOk = true ∧ h.resv = 0 ∧ h.flags.toNat < 32 ∧ h.version = 2

/-- Check 6 of a request in a session, and the answer to a repeat (R80). -/
def Sess.checkSeq (x : Sess) (e : Nat) : Verdict :=
  if e > x.hi ∨ (e + 1024 > x.hi ∧ e ∉ x.seen) then .pass
  else if e ∈ x.seen.take 8 then
    match x.cache.find? fun c => c.1 == e with
    | some c => .resend c.2
    | none => .drop none
  else .drop (some 0x35)

theorem State.checkPacket_of_session {s : State} {h : Hdr} {x : Sess} {e : Nat} (hsound : HeaderSound h) (hne : h.session ≠ 0)
    (hsess : s.sess h.session.toNat = some x) (htag : s.tagOk x h = true) (hext : extend x.hi h.seq.toNat = some e) :
    s.checkPacket h = x.checkSeq e := by
  obtain ⟨hcrc, hsize, hresv, hflags, hversion⟩ := hsound
  have hflags' : ¬ h.flags.toNat ≥ 32 := by omega
  simp only [State.checkPacket, hcrc, hsize, hresv, hflags', hversion, hne, hsess, htag, hext, Sess.checkSeq]
  rfl

/-- A request in a session that passes has a sound header, a session, a good tag, and a sequence in the window. -/
theorem State.checkPacket_pass {s : State} {h : Hdr} (hp : s.checkPacket h = .pass) (hne : h.session ≠ 0) :
    HeaderSound h ∧ ∃ x e, s.sess h.session.toNat = some x ∧ s.tagOk x h = true ∧ extend x.hi h.seq.toNat = some e ∧ x.checkSeq e = .pass := by
  have hp' := hp
  simp only [State.checkPacket] at hp'
  split at hp'; · cases hp'
  next hcrc =>
  split at hp'; · cases hp'
  next hform =>
  split at hp'; · cases hp'
  next hversion =>
  split at hp'; · cases hp'
  next x hsess =>
  split at hp'; · cases hp'
  next htag =>
  split at hp'; · cases hp'
  next e hext =>
  have hsound : HeaderSound h := by
    simp only [Bool.not_eq_true', Bool.not_eq_false, not_or, not_not, ne_eq, not_le, ge_iff_le] at hcrc hform hversion
    obtain ⟨hsize, hresv, hflags⟩ := hform
    exact ⟨hcrc, hsize, hresv, hflags, hversion⟩
  have htag : s.tagOk x h = true := by simpa using htag
  exact ⟨hsound, x, e, hsess, htag, hext, (State.checkPacket_of_session hsound hne hsess htag hext).symm.trans hp⟩

/-! ### Acceptance and the reply in the session (R80) -/

theorem Sess.mem_accept_seen_take {x : Sess} {e now : Nat} (hlt : x.hi < e + 1024) : e ∈ (x.accept e now).seen.take 8 := by
  simp [Sess.accept, hlt]

theorem Sess.mem_accept_seen {x : Sess} {e now : Nat} (hlt : x.hi < e + 1024) : e ∈ (x.accept e now).seen :=
  List.mem_of_mem_take (Sess.mem_accept_seen_take hlt)

theorem Sess.accept_checkSeq_ne_pass {x : Sess} {e now : Nat} (hlt : x.hi < e + 1024) : (x.accept e now).checkSeq e ≠ .pass := by
  have hin := Sess.mem_accept_seen (now := now) hlt
  have hfirst := Sess.mem_accept_seen_take (now := now) hlt
  have hle : ¬ e > (x.accept e now).hi := Nat.not_lt.2 (Nat.le_max_right x.hi e)
  simp only [Sess.checkSeq, hin, hle, hfirst, not_true_eq_false, and_false, or_self, if_false, if_true]
  split <;> exact nofun

/-- The reply to an accepted request is the answer to its repeat. -/
theorem Sess.remember_checkSeq {x : Sess} {e now : Nat} (hlt : x.hi < e + 1024) (p : Packet) :
    ((x.accept e now).remember e p).checkSeq e = .resend p := by
  have hin : e ∈ ((x.accept e now).remember e p).seen := Sess.mem_accept_seen (now := now) hlt
  have hfirst : e ∈ ((x.accept e now).remember e p).seen.take 8 := Sess.mem_accept_seen_take (now := now) hlt
  have hle : ¬ e > ((x.accept e now).remember e p).hi := Nat.not_lt.2 (Nat.le_max_right x.hi e)
  have hcache : ((x.accept e now).remember e p).cache.find? (fun c => c.1 == e) = some (e, p) := by simp [Sess.remember]
  simp only [Sess.checkSeq, hin, hle, hfirst, hcache, not_true_eq_false, and_false, or_self, if_false, if_true]

theorem State.accept_sess_of_extend {s : State} {h : Hdr} {x : Sess} {e : Nat} (hsess : s.sess h.session.toNat = some x)
    (hext : extend x.hi h.seq.toNat = some e) : (s.accept h).sess h.session.toNat = some (x.accept e s.now) := by
  rw [State.accept_sess, hsess, Option.map_some, hext, Option.getD_some]

theorem State.accept_checkPacket_ne_pass {s : State} {h : Hdr} {x : Sess} {e : Nat} (hne : h.session ≠ 0)
    (hsess : s.sess h.session.toNat = some x) (hext : extend x.hi h.seq.toNat = some e) : (s.accept h).checkPacket h ≠ .pass := by
  intro hp
  obtain ⟨-, y, e', hsess', -, hext', hpass⟩ := State.checkPacket_pass hp hne
  obtain rfl : x.accept e s.now = y := Option.some.inj ((State.accept_sess_of_extend hsess hext).symm.trans hsess')
  obtain rfl : e = e' := Option.some.inj ((extend_max hext).symm.trans hext')
  obtain ⟨-, -, hlt, -⟩ := extend_eq_some hext
  exact Sess.accept_checkSeq_ne_pass hlt hpass

theorem Same.tagOk {t s : State} (g : Same t s) {x y : Sess} (hrole : y.role = x.role) (h : Hdr) : t.tagOk y h = s.tagOk x h := by
  simp only [State.tagOk, State.parN, g.par, hrole]

/-- A request that was answered gets its reply again. -/
theorem State.reply_checkPacket {s : State} {h : Hdr} (op st : Nat) (body : Bytes) (hne : h.session ≠ 0) (hg : s.isGuest op h = false)
    (hp : s.checkPacket h = .pass) :
    ((s.accept h).reply op h st body).checkPacket h = .resend ((s.accept h).replyPacket op h st body true) := by
  obtain ⟨hsound, x, e, hsess, htag, hext, -⟩ := State.checkPacket_pass hp hne
  obtain ⟨-, -, hlt, -⟩ := extend_eq_some hext
  have hacc := State.accept_sess_of_extend hsess hext
  have hseq : ((s.accept h).replyPacket op h st body true).seq = e := by
    have hmax : extend (x.accept e s.now).hi h.seq.toNat = some e := extend_max hext
    simp [State.replyPacket, hacc, hmax]
  have hrep := State.reply_sess_of_host (s := s.accept h) (op := op) hg st body
  rw [hacc, Option.map_some, hseq] at hrep
  have hsame := (State.reply_same (s.accept h) op h st body).trans (State.accept_same s h)
  rw [State.checkPacket_of_session hsound hne hrep ((hsame.tagOk rfl h).trans htag) (extend_max hext), Sess.remember_checkSeq hlt]

/-! ### The course of a request (R79, R83) -/

theorem State.wcpRun_of_silent (s : State) (op : Nat) (h : Hdr) (pl : Bytes) (energise : Bool) (blocks : List Nat) (body : State → State)
    (ha : s.answers h op = false) : s.wcpRun op h pl energise blocks body = s := by simp [State.wcpRun, ha]

/-- A request of the module's own hosts that does not pass waits or is refused: nothing kept moves. -/
theorem State.wcpRun_same_of_not_passes (s : State) (op : Nat) (h : Hdr) (pl : Bytes) (energise : Bool) (blocks : List Nat)
    (body : State → State) (hg : s.isGuest op h = false) (hp : s.passes op h energise blocks = false) :
    Same (s.wcpRun op h pl energise blocks body) s := by
  have hrefuse := fun v => (State.refuse_same (s.dequeue op h) op h pl v).trans (State.dequeue_same s op h)
  simp only [State.wcpRun]
  split
  · exact Same.rfl'
  next ha =>
  split
  · exact State.await_same s op h pl
  next hturn =>
  rw [if_neg (by simp [hg])]
  split
  next hpacket =>
    split
    next hop => simp_all [State.passes]
    · exact hrefuse _
  · exact hrefuse _

theorem State.wcpRun_of_resend {s : State} {op : Nat} {h : Hdr} {p : Packet} (pl : Bytes) (energise : Bool) (blocks : List Nat)
    (body : State → State) (ha : s.answers h op = true) (hturn : s.turn op h = true) (hg : s.isGuest op h = false)
    (hp : (s.dequeue op h).checkPacket h = .resend p) : s.wcpRun op h pl energise blocks body = (s.dequeue op h).post p := by
  simp [State.wcpRun, ha, hturn, hg, hp, State.refuse]

end Sys2Proof.Machine
end

section
/-! SUPPORT. O44, O55 and O58: the execution queue, requests turned away, and requests that run once. -/
namespace Sys2Proof.Machine
open Sys2Proof

/-- Settles O44: a packet of the safety class goes between those of its class and the others, any other to the end. -/
theorem safetyClassRunsAhead : Obligations.SafetyClassRunsAhead := by
  intro s w
  refine ⟨State.enqueue_queue_filter_safe s w, State.enqueue_queue_filter_unsafe s w, fun hsafe => ?_, State.enqueue_queue_of_unsafe s, rfl⟩
  refine ⟨_, _, State.enqueue_queue_of_safe s hsafe, fun x hx => ?_, fun x hx => ?_⟩
  · exact (List.mem_filter.1 hx).2
  · simpa [Waiting.safe] using (List.mem_filter.1 hx).2

/-- Settles O55: what a check turns away is refused or waits. -/
theorem requestsTurnedAwayChangeNothing : Obligations.RequestsTurnedAwayChangeNothing := by
  intro s op h pl energise blocks body hguest hpass
  obtain ⟨hkept, hparams, -⟩ := State.wcpRun_same_of_not_passes s op h pl energise blocks body hguest hpass
  exact ⟨hkept, hparams, State.wcpRun_of_silent s op h pl energise blocks body⟩

/-- Settles O58: the window gives one extended sequence, acceptance puts it among those seen, and the reply among those kept. -/
theorem requestsRunOnce : Obligations.RequestsRunOnce := by
  refine ⟨fun hi seq e => extend_eq_some, fun hi e => extend_mod_of_window, fun s h x e => State.accept_checkPacket_ne_pass,
    fun s op h st body => State.reply_checkPacket op st body, ?_⟩
  exact fun s op h pl energise blocks body p ha hturn hguest => State.wcpRun_of_resend pl energise blocks body ha hturn hguest

end Sys2Proof.Machine
end

section
/-! SUPPORT. The rule that O54 turns on: a request that reads only answers. -/
namespace Sys2Proof.Machine
open Sys2Proof

/-- A command answers a next state that agrees with s. -/
def Harmless (s : State) (r : Result) : Prop := ∃ u, r = .next u ∧ Same u s

theorem Harmless.of_req {s : State} {op : Nat} {h : Hdr} {pl : Bytes} {body : State → State} (hb : ∀ u, Same (body u) u) :
    Harmless s (.next (s.wcpReq op h pl body)) := ⟨_, rfl, State.wcpRun_same s op h pl false [] body hb⟩

/-- A request whose meaning is one reply. -/
theorem Harmless.of_reply {s : State} {op : Nat} {h : Hdr} {pl : Bytes} {st : State → Nat} {out : State → Bytes} :
    Harmless s (.next (s.wcpReq op h pl fun u => u.reply op h (st u) (out u))) := .of_req fun u => u.reply_same op h (st u) (out u)

/-- A request whose meaning is a refusal or one reply. -/
theorem Harmless.of_check {s : State} {op : Nat} {h : Hdr} {pl : Bytes} {c : State → Prop} [∀ u, Decidable (c u)] {st : Nat} {out : State → Bytes} :
    Harmless s (.next (s.wcpReq op h pl fun u => if c u then u.fail op h st else u.reply op h 0 (out u))) :=
  .of_req fun u => Same.ite (u.fail_same _ _ _ _ _) (u.reply_same _ _ _ _)

theorem State.entriesReply_same (s : State) (op : Nat) (h : Hdr) (status : Nat) (bad : Nat × Nat × Nat) (n : Nat) (body : Bytes) :
    Same (s.entriesReply op h status bad n body) s := State.reply_same _ _ _ _ _

theorem execParamGet_harmless (h : Hdr) (es : List GetEntry) (s : State) : Harmless s (execParamGet h es s) :=
  .of_req fun u => Same.ite (u.failAll_same _ _ _ _ _ _) (u.entriesReply_same _ _ _ _ _ _)

theorem execParamDescribe_harmless (h : Hdr) (id : BitVec 16) (s : State) : Harmless s (execParamDescribe h id s) :=
  .of_req fun u => by
    split
    · exact u.fail_same _ _ _ _ _
    · exact u.reply_same _ _ _ _

theorem execEventSubscribe_harmless (h : Hdr) (mask : BitVec 32) (minSev : Byte) (s : State) : Harmless s (execEventSubscribe h mask minSev s) :=
  .of_req fun u => (State.reply_same _ _ _ _ _).trans (u.updSess_same _ _)

theorem execEventAck_harmless (h : Hdr) (batch : BitVec 32) (s : State) : Harmless s (execEventAck h batch s) :=
  .of_req fun u => (State.reply_same _ _ _ _ _).trans (u.updSess_same _ _)

theorem execSnapshotRead_harmless (h : Hdr) (num : BitVec 16) (source : Byte) (offset : BitVec 32) (s : State) :
    Harmless s (execSnapshotRead h num source offset s) :=
  .of_req fun u => by
    split
    · exact u.fail_same _ _ _ _ _
    · exact Same.ite (u.fail_same _ _ _ _ _) (Same.ite (u.reply_same _ _ _ _) (u.reply_same _ _ _ _))

theorem execSnapshotRelease_harmless (h : Hdr) (num : BitVec 16) (s : State) : Harmless s (execSnapshotRelease h num s) :=
  .of_req fun u => Same.ite ((State.reply_same _ _ _ _ _).trans ⟨rfl, rfl, rfl⟩) (u.fail_same _ _ _ _ _)

theorem execCellValues_harmless (h : Hdr) (ring node : Byte) (s : State) : Harmless s (execCellValues h ring node s) :=
  .of_req fun u => Same.ite (u.fail_same _ _ _ _ _) <| by
    simp only []
    split
    · exact u.fail_same _ _ _ _ _
    · exact u.reply_same _ _ _ _

theorem execFbExport_harmless (h : Hdr) (offset : BitVec 32) (length : BitVec 16) (s : State) : Harmless s (execFbExport h offset length s) :=
  .of_req fun u => by
    split
    · exact u.fail_same _ _ _ _ _
    · exact Same.ite (u.fail_same _ _ _ _ _) (u.reply_same _ _ _ _)

theorem execReplayStatus_harmless (h : Hdr) (s : State) : Harmless s (execReplayStatus h s) :=
  .of_req fun u => by
    split
    · exact u.fail_same _ _ _ _ _
    · exact u.reply_same _ _ _ _

theorem execDiscard_harmless (h : Hdr) (s : State) : Harmless s (execDiscard h s) :=
  .of_req fun u => by
    have hdrop := u.updSess_same h.session.toNat fun x => { x with shadow := [] }
    exact (State.reply_same _ _ _ _ _).trans (Same.ite ((State.emit_same _ _).trans hdrop) hdrop)

/-- Whatever the checks decide about a request that reads, it leaves a state that agrees with the one before. -/
theorem exec_reads_harmless {c : Instr} (s : State) (hc : c.reads = true) : Harmless s (exec c s) := by
  unfold Instr.reads at hc
  split at hc
  · exact Harmless.of_reply  -- PING
  · exact Harmless.of_reply  -- GET_IDENTITY
  · exact Harmless.of_reply  -- FAULT_STATUS
  · exact execParamGet_harmless _ _ s  -- PARAM_GET
  · exact execParamDescribe_harmless _ _ s  -- PARAM_DESCRIBE
  · exact Harmless.of_reply  -- PARAM_LIST
  · exact execEventSubscribe_harmless _ _ _ s  -- EVENT_SUBSCRIBE
  · exact execEventAck_harmless _ _ s  -- EVENT_ACK
  · exact execSnapshotRead_harmless _ _ _ _ s  -- SNAPSHOT_READ
  · exact execSnapshotRelease_harmless _ _ s  -- SNAPSHOT_RELEASE
  · exact execCellValues_harmless _ _ _ s  -- CELL_VALUES
  · exact Harmless.of_reply  -- LOOP_STATUS
  · exact Harmless.of_reply  -- PSI_STATUS
  · exact Harmless.of_reply  -- PROF_STATUS
  · exact Harmless.of_reply  -- AXIS_STATUS
  · exact Harmless.of_check  -- EST_CELLS
  · exact Harmless.of_reply  -- EST_STRING
  · exact Harmless.of_check  -- IMP_TABLE
  · exact Harmless.of_check  -- IMP_HEALTH
  · exact Harmless.of_check  -- NODE_IDENTITY
  · exact Harmless.of_reply  -- TWIN_STATUS
  · exact Harmless.of_reply  -- NET_STATUS
  · exact Harmless.of_reply  -- PTP_STATUS
  · exact Harmless.of_check  -- CAN_STATUS
  · exact Harmless.of_reply  -- FIO_STATUS
  · exact Harmless.of_reply  -- THERM_STATUS
  · exact Harmless.of_check  -- BIST_STATUS
  · exact Harmless.of_check  -- REC_INFO
  · exact Harmless.of_check  -- REC_READ
  · exact Harmless.of_reply  -- FB_STATUS
  · exact execFbExport_harmless _ _ _ s  -- FB_EXPORT
  · exact execReplayStatus_harmless _ s  -- REPLAY_STATUS
  · exact Harmless.of_reply  -- UPD_STATUS
  · exact execDiscard_harmless _ s  -- DISCARD
  · cases hc  -- no other command reads

end Sys2Proof.Machine
end

section
/-! SUPPORT. O54: requests that read. -/
namespace Sys2Proof.Machine
open Sys2Proof

/-- Settles O54: a read only answers. -/
theorem readsLeaveTheModuleAlone : Obligations.ReadsLeaveTheModuleAlone := by
  intro c s t hreads hexec
  obtain ⟨u, hu, hsame⟩ := exec_reads_harmless s hreads
  obtain ⟨rfl⟩ := hu.symm.trans hexec
  exact hsame

end Sys2Proof.Machine
end

section
/-! SUPPORT. The rules that O7 to O11 share: what an admitted request finds of the state. -/
namespace Sys2Proof.Machine
open Sys2Proof

/-! ### The admitted state (R79, R80) -/

@[simp] theorem State.fbPush_wcp (s : State) (type time : Nat) (payload : Bytes) : (s.fbPush type time payload).wcp = s.wcp := by
  unfold State.fbPush; split <;> rfl

@[simp] theorem State.fbPush_fm (s : State) (type time : Nat) (payload : Bytes) : (s.fbPush type time payload).fm = s.fm := by
  unfold State.fbPush; split <;> rfl

@[simp] theorem State.fbCommand_wcp (s : State) (op : Nat) (h : Hdr) (pl : Bytes) : (s.fbCommand op h pl).wcp = s.wcp := by
  unfold State.fbCommand
  split
  · rfl
  · exact State.fbPush_wcp _ _ _ _

@[simp] theorem State.fbCommand_fm (s : State) (op : Nat) (h : Hdr) (pl : Bytes) : (s.fbCommand op h pl).fm = s.fm := by
  unfold State.fbCommand
  split
  · rfl
  · exact State.fbPush_fm _ _ _ _

section
variable (s : State) (op : Nat) (h : Hdr) (pl : Bytes)

theorem State.admitted_wcp : (s.admitted op h pl).wcp = ((s.dequeue op h).accept h).wcp := State.fbCommand_wcp _ _ _ _

@[simp] theorem State.admitted_fm : (s.admitted op h pl).fm = s.fm := State.fbCommand_fm _ _ _ _

@[simp] theorem State.admitted_now : (s.admitted op h pl).now = s.now := (s.admitted_same op h pl).now_eq

@[simp] theorem State.admitted_sys : (s.admitted op h pl).sys = s.sys := (s.admitted_same op h pl).sys_eq

theorem Same.upd_eq {t s : State} (g : Same t s) : t.upd = s.upd := by
  obtain ⟨-, -, -, -, -, -, -, -, -, -, -, -, -, -, -, hupd⟩ := g.fields
  exact hupd

@[simp] theorem State.admitted_upd : (s.admitted op h pl).upd = s.upd := (s.admitted_same op h pl).upd_eq

end
end Sys2Proof.Machine
end

section
/-! SUPPORT. O7: housekeeping and dictionary reads. -/
namespace Sys2Proof.Machine
open Sys2Proof

/-- PARAM_GET over 1 to 64 entries replies with the status of the whole and its entries (R96). -/
theorem exec_paramGet (s : State) (h : Hdr) (es : List GetEntry) (hpass : s.passes 0x0100 h false [] = true) (h1 : 1 ≤ es.length)
    (h64 : es.length ≤ 64) {u : State} (hu : u = s.admitted 0x0100 h (getBytes es)) {rs : List (Nat × Nat × Bytes)}
    (hrs : rs = es.map (u.getEntry h)) :
    exec (.paramGet h es) s = .next (u.entriesReply 0x0100 h (if rs.all (fun r => r.2.1 != 0) then ((rs.head?).map (·.2.1)).getD 0 else 0)
      (0, ((es.head?).getD ⟨0, 0, 0⟩).id.toNat, ((es.head?).getD ⟨0, 0, 0⟩).inst.toNat) es.length
      ((es.zip rs).flatMap fun p => leBytes 2 p.1.id.toNat ++ [p.1.inst] ++ u8 p.2.1 ++ u16 p.2.2.1 ++ u16 p.2.2.2.length ++ p.2.2.2)) := by
  subst hu hrs
  show execParamGet h es s = _
  rw [execParamGet, State.wcpReq_of_passes _ _ _ _ _ hpass, if_neg (by omega)]

/-- Settles O7: each request runs its meaning on the admitted state, whose time, chapters and faults are those before. -/
theorem housekeepingRequestsComplete : Obligations.HousekeepingRequestsComplete := by
  unfold Obligations.HousekeepingRequestsComplete
  refine ⟨?ping, ?identity, ?fault, ?noFault, ?describe, ?list, ?get, ?getFails, ?subscribe, ?ack⟩
  case ping =>
    intro s h hpass
    show execPing h s = _
    rw [execPing, State.wcpReq_of_passes _ _ _ _ _ hpass, State.admitted_now, State.admitted_sys]
  case identity =>
    intro s h hpass
    show execGetIdentity h s = _
    rw [execGetIdentity, State.wcpReq_of_passes _ _ _ _ _ hpass, State.admitted_sys, State.admitted_upd]
  case fault =>
    intro s h f hpass hcur
    show execFaultStatus h s = _
    simp only [execFaultStatus, State.wcpReq_of_passes _ _ _ _ _ hpass, State.admitted_fm, hcur]
  case noFault =>
    intro s h hpass hcur
    show execFaultStatus h s = _
    simp only [execFaultStatus, State.wcpReq_of_passes _ _ _ _ _ hpass, State.admitted_fm, hcur]
  case describe =>
    intro s h id r hpass hrow
    show execParamDescribe h id s = _
    simp only [execParamDescribe, State.wcpReq_of_passes _ _ _ _ _ hpass, hrow]
  case list =>
    intro s h sub start hpass
    refine ⟨_, ?_, rfl⟩
    show execParamList h sub start s = _
    rw [execParamList, State.wcpReq_of_passes _ _ _ _ _ hpass]
  case get =>
    intro s h es u rs hpass h1 h64 hu hrs hany
    have hall : rs.all (fun r => r.2.1 != 0) = false := by
      obtain ⟨r, hr, hzero⟩ := List.any_eq_true.1 hany
      exact List.all_eq_false.2 ⟨r, hr, by simpa using hzero⟩
    rw [exec_paramGet s h es hpass h1 h64 hu hrs, hall]
    rfl
  case getFails =>
    intro s h e es u rs hpass h64 hu hrs hall
    have hne : rs.all (fun r => r.2.1 != 0) = true := by
      refine List.all_eq_true.2 fun r hr => ?_
      have h103 := List.all_eq_true.1 hall r hr
      simp only [beq_iff_eq] at h103
      simp [h103]
    have hhead : ((rs.head?).map (·.2.1)).getD 0 = 0x0103 := by
      rw [hrs, List.map_cons] at hall ⊢
      simpa using (List.all_eq_true.1 hall _ (List.mem_cons_self ..))
    rw [exec_paramGet s h (e :: es) hpass (by simp) h64 hu hrs, hne, if_pos rfl, hhead]
    rfl
  case subscribe =>
    intro s h mask sev hpass
    show execEventSubscribe h mask sev s = _
    rw [execEventSubscribe, State.wcpReq_of_passes _ _ _ _ _ hpass]
  case ack =>
    intro s h b hpass
    show execEventAck h b s = _
    rw [execEventAck, State.wcpReq_of_passes _ _ _ _ _ hpass]

end Sys2Proof.Machine
end

section
/-! SUPPORT. What stands in the protocol whatever is sent, answered or recorded: one lemma per operation. -/
namespace Sys2Proof.Machine
open Sys2Proof

/-- Module time, updates, the numbers of the sessions, and the protocol without what a packet that leaves, a reply and a record may change: the
sessions' own contents, the packets on the host link, the counters, and the twin's requests that wait for an answer. -/
def State.standing (s : State) : Nat × UpdSt × List Nat × WcpSt :=
  (s.now, s.upd, s.wcp.sessions.map Sess.id, { s.wcp with sessions := [], hostOut := [], counters := [], guests := [] })

theorem State.standing_now {t s : State} (g : t.standing = s.standing) : t.now = s.now := congrArg Prod.fst g
theorem State.standing_upd {t s : State} (g : t.standing = s.standing) : t.upd = s.upd := congrArg (·.2.1) g
theorem State.standing_ids {t s : State} (g : t.standing = s.standing) : t.wcp.sessions.map Sess.id = s.wcp.sessions.map Sess.id :=
  congrArg (·.2.2.1) g
theorem State.standing_commit {t s : State} (g : t.standing = s.standing) : t.wcp.commit = s.wcp.commit := congrArg (·.2.2.2.commit) g
theorem State.standing_commitWait {t s : State} (g : t.standing = s.standing) : t.wcp.commitWait = s.wcp.commitWait :=
  congrArg (·.2.2.2.commitWait) g
theorem State.standing_generation {t s : State} (g : t.standing = s.standing) : t.wcp.generation = s.wcp.generation :=
  congrArg (·.2.2.2.generation) g
theorem State.standing_stored {t s : State} (g : t.standing = s.standing) : t.wcp.stored = s.wcp.stored := congrArg (·.2.2.2.stored) g
theorem State.standing_snaps {t s : State} (g : t.standing = s.standing) : t.wcp.snaps = s.wcp.snaps := congrArg (·.2.2.2.snaps) g
theorem State.standing_lastSnap {t s : State} (g : t.standing = s.standing) : t.wcp.lastSnap = s.wcp.lastSnap :=
  congrArg (·.2.2.2.lastSnap) g

/-- A session is there where its number is. -/
theorem State.sess_eq_none_iff (s : State) (id : Nat) : s.sess id = none ↔ id ∉ s.wcp.sessions.map Sess.id := by
  simp only [State.sess, List.find?_eq_none, beq_iff_eq, List.mem_map, not_exists, not_and]

theorem State.standing_sess {t s : State} (g : t.standing = s.standing) (id : Nat) : t.sess id = none ↔ s.sess id = none := by
  rw [State.sess_eq_none_iff, State.sess_eq_none_iff, State.standing_ids g]

@[simp] theorem State.foldl_standing {α : Type} {f : State → α → State} (hf : ∀ s a, (f s a).standing = s.standing) (l : List α) (s : State) :
    (l.foldl f s).standing = s.standing := by
  induction l generalizing s with
  | nil => rfl
  | cons a l ih => exact (ih (f s a)).trans (hf s a)

@[simp] theorem State.standing_ite (c : Prop) [Decidable c] (t u : State) :
    (if c then t else u).standing = if c then t.standing else u.standing := apply_ite _ _ _ _

/-! ### Sending (R75, R76, R102) -/

@[simp] theorem State.inc_standing (s : State) (id inst : Nat) : (s.inc id inst).standing = s.standing := rfl
@[simp] theorem State.emit_standing (s : State) (o : Out) : (s.emit o).standing = s.standing := rfl

@[simp] theorem State.post_standing (s : State) (p : Packet) : (s.post p).standing = s.standing := by
  unfold State.post; split <;> rfl

theorem State.updSess_standing (s : State) (id : Nat) {f : Sess → Sess} (hf : ∀ x, (f x).id = x.id) : (s.updSess id f).standing = s.standing := by
  have hids : (s.updSess id f).wcp.sessions.map Sess.id = s.wcp.sessions.map Sess.id := by
    simp only [State.updSess, List.map_map, List.map_inj_left, Function.comp_apply]
    intro x _
    split
    · exact hf x
    · rfl
  simp only [State.standing, hids]
  rfl

@[simp] theorem State.setSess_standing (s : State) (x : Sess) : (s.setSess x).standing = s.standing := by
  have hids : (s.setSess x).wcp.sessions.map Sess.id = s.wcp.sessions.map Sess.id := by
    simp only [State.setSess, List.map_map, List.map_inj_left, Function.comp_apply]
    intro y _
    split
    next h => exact h.symm
    · rfl
  simp only [State.standing, hids]
  rfl

@[simp] theorem State.sendBatch_standing (s : State) (id : Nat) (b : Batch) : (s.sendBatch id b).standing = s.standing := by
  unfold State.sendBatch
  split
  · rfl
  · simp

@[simp] theorem State.closeBatch_standing (s : State) (id : Nat) : (s.closeBatch id).standing = s.standing := by
  unfold State.closeBatch
  split
  · rfl
  split
  · rfl
  · rw [State.sendBatch_standing, State.setSess_standing]
    rfl

@[simp] theorem State.deliver_standing (s : State) (e : Event) : (s.deliver e).standing = s.standing := by
  have hids : (s.wcp.sessions.map fun x => if x.admits e then x.collect e s.now else x).map Sess.id = s.wcp.sessions.map Sess.id := by
    simp only [List.map_map, List.map_inj_left, Function.comp_apply]
    intro x _
    split <;> rfl
  unfold State.deliver
  rw [State.foldl_standing fun _ _ => State.closeBatch_standing _ _]
  simp only [State.standing, hids]

/-! ### Records and faults (R479, R489, R524) -/

@[simp] theorem State.enqueueRec_standing (s : State) (r : Rec) : (s.enqueueRec r).standing = s.standing := by
  simp only [State.enqueueRec]
  split
  · rfl
  · split <;> rfl

@[simp] theorem State.recordPlain_standing (s : State) (f : FRec) : (s.recordPlain f).standing = s.standing := by
  unfold State.recordPlain
  rw [State.deliver_standing, State.enqueueRec_standing]
  rfl

@[simp] theorem State.fbPush_standing (s : State) (type time : Nat) (payload : Bytes) : (s.fbPush type time payload).standing = s.standing := by
  unfold State.fbPush; split <;> rfl

@[simp] theorem State.fbTrigger_standing (s : State) (seq code : Nat) : (s.fbTrigger seq code).standing = s.standing := by
  simp only [State.fbTrigger]
  split
  · rfl
  split
  · exact State.fbPush_standing _ _ _ _
  · exact State.fbPush_standing s _ _ _

@[simp] theorem State.record_standing (s : State) (f : FRec) : (s.record f).standing = s.standing := by
  simp [State.record]

@[simp] theorem State.raiseWith_standing (s : State) (code inst sev : Nat) (data : Bytes) (parent : Option (Nat × Nat))
    (strings : Option (BitVec 4)) : (s.raiseWith code inst sev data parent strings).standing = s.standing := by
  simp only [State.raiseWith]
  split
  · split
    · rfl
    · exact State.record_standing _ _
  · rfl

@[simp] theorem State.raise_standing (s : State) (code inst sev : Nat) (data : Bytes) : (s.raise code inst sev data).standing = s.standing :=
  State.raiseWith_standing _ _ _ _ _ _ _

@[simp] theorem State.complete_standing (s : State) (op : OpRef) (status : Nat) (result : Bytes) :
    (s.complete op status result).standing = s.standing := State.raise_standing _ _ _ _ _

/-! ### Replies (R80, R85) -/

@[simp] theorem State.reply_standing (s : State) (op : Nat) (h : Hdr) (st : Nat) (body : Bytes) : (s.reply op h st body).standing = s.standing := by
  unfold State.reply
  split
  · rfl
  · rw [State.post_standing]
    exact State.updSess_standing _ _ fun _ => rfl

@[simp] theorem State.fail_standing (s : State) (op : Nat) (h : Hdr) (st detail aux : Nat) : (s.fail op h st detail aux).standing = s.standing :=
  State.reply_standing _ _ _ _ _

/-! ### Rings, runs and channels -/

@[simp] theorem State.sendFrame_standing (s : State) (r : Nat) (q : Bool) (type addr tag : Nat) (data : Bytes) :
    (s.sendFrame r q type addr tag data).standing = s.standing := by
  unfold State.sendFrame
  split
  · split <;> rfl
  · rfl

@[simp] theorem State.syncOut_standing (s : State) (r flags fine depart : Nat) : (s.syncOut r flags fine depart).standing = s.standing := by
  simp [State.syncOut]

@[simp] theorem State.command_standing (s : State) (r node type : Nat) (data : Bytes) : (s.command r node type data).standing = s.standing := by
  simp only [State.command]
  split
  · rfl
  · rw [State.sendFrame_standing]
    rfl

@[simp] theorem State.sendCmd_standing (s : State) (r node type : Nat) (data : Bytes) (h : Option Hdr) (arg : Nat) :
    (s.sendCmd r node type data h arg).standing = s.standing := by
  simp only [State.sendCmd]
  split
  · rfl
  · exact State.command_standing s r node type data

@[simp] theorem State.runEnded_standing (s : State) (r : Nat) (failed : Bool) : (s.runEnded r failed).standing = s.standing := by
  refine State.foldl_standing (fun s q => ?_) _ _
  unfold State.runDone
  split
  · exact State.complete_standing _ _ _ _
  · rfl

@[simp] theorem State.writeNode_standing (s : State) (r node : Nat) : (s.writeNode r node).standing = s.standing := by
  unfold State.writeNode
  rw [State.sendCmd_standing]
  exact State.foldl_standing (fun _ _ => State.command_standing _ _ _ _ _) _ _

@[simp] theorem State.syncNext_standing (s : State) (r : Nat) : (s.syncNext r).standing = s.standing := by
  unfold State.syncNext
  split
  · rfl
  split
  · rfl
  split
  · simp only []
    split
    · rw [State.complete_standing]
      rfl
    · rfl
  · exact State.writeNode_standing _ _ _

@[simp] theorem State.abandonRun_standing (s : State) (r code : Nat) : (s.abandonRun r code).standing = s.standing := by
  unfold State.abandonRun
  split
  · rw [State.syncNext_standing, State.runEnded_standing, State.raise_standing]
    rfl
  · rfl

@[simp] theorem State.startStatus_standing (s : State) (c v : Nat) : (s.startStatus c v).standing = s.standing := by
  refine State.foldl_standing (fun s r => ?_) _ _
  unfold State.startDone State.answerAll
  split
  · split
    · exact State.fail_standing _ _ _ _ _ _
    · exact State.reply_standing _ _ _ _ _
  · rfl

@[simp] theorem State.stopStatus_standing (s : State) (c how : Nat) : (s.stopStatus c how).standing = s.standing := by
  refine State.foldl_standing (fun s r => ?_) _ _
  unfold State.stopDone
  split
  · exact State.complete_standing _ _ _ _
  · rfl

@[simp] theorem State.updCh_standing (s : State) (c : Nat) (f : ChSt → ChSt) : (s.updCh c f).standing = s.standing := rfl
@[simp] theorem State.updLane_standing (s : State) (c : Nat) (f : LaneSt → LaneSt) : (s.updLane c f).standing = s.standing := rfl

@[simp] theorem State.zeroGen_standing (s : State) (c : Nat) : (s.zeroGen c).standing = s.standing := by
  simp only [State.zeroGen, State.updGen, State.setGen]
  split <;> rfl

@[simp] theorem State.endChannel_standing (s : State) (c state start stop : Nat) : (s.endChannel c state start stop).standing = s.standing := by
  simp [State.endChannel]

@[simp] theorem State.stopChannel_standing (s : State) (c : Nat) : (s.stopChannel c).standing = s.standing := State.endChannel_standing _ _ _ _ _

/-! ### Strings, resets and tests -/

@[simp] theorem State.openOuts_standing (s : State) (r : Nat) (how : Opening) : (s.openOuts r how).standing = s.standing := by
  refine (show _ = ((s.outsOf r).foldl (fun s n => s.openSo how n) s).standing from rfl).trans (State.foldl_standing (fun s n => ?_) _ _)
  unfold State.openSo
  simp only []
  split <;> rfl

@[simp] theorem State.abandonClose_standing (s : State) (r status : Nat) : (s.abandonClose r status).standing = s.standing := by
  unfold State.abandonClose State.closeEnd
  split
  · rfl
  · refine State.foldl_standing (fun s q => ?_) _ _
    unfold State.closeDone
    split
    · exact State.complete_standing _ _ _ _
    · rfl

@[simp] theorem State.openString_standing (s : State) (r : Nat) (how : Opening) (status : Nat) :
    (s.openString r how status).standing = s.standing := by simp [State.openString]

@[simp] theorem State.lapseArm_standing (s : State) : s.lapseArm.standing = s.standing := by
  unfold State.lapseArm
  split
  · rfl
  split
  · rfl
  · rw [State.complete_standing, State.raise_standing]
    rfl

@[simp] theorem State.endCt_standing (s : State) : s.endCt.standing = s.standing := by
  unfold State.endCt
  split
  · rfl
  simp only []
  split
  · rw [State.complete_standing]
    rfl
  · rw [State.raise_standing, State.openString_standing, State.standing_ite, State.standing_ite, State.stopChannel_standing,
      State.updCh_standing, ite_self, ite_self]
    rfl

end Sys2Proof.Machine
end

section
/-! SUPPORT. The rules that O8 turns on: what the operations of sessions and event batches leave of a session (04 R81, R89, R90, R102, R103). -/
namespace Sys2Proof.Machine
open Sys2Proof

/-! ### Sessions under batches (R102, R103) -/

theorem State.setSess_sess {s : State} {x y : Sess} (h : s.sess x.id = some y) : (s.setSess x).sess x.id = some x := by
  have hset : s.setSess x = s.updSess x.id fun y => if y.id = x.id then x else y := by
    simp only [State.setSess, State.updSess]
    congr 2
    refine List.map_congr_left fun z _ => ?_
    split <;> rfl
  rw [hset, State.sess_updSess_same _ _ fun z => by split; exacts [Eq.symm ‹_›, rfl], h, Option.map_some, if_pos (State.sess_id h)]

theorem State.sendBatch_sess {s : State} {id : Nat} {x : Sess} (h : s.sess id = some x) (b : Batch) :
    (s.sendBatch id b).sess id = some { x with txSeq := x.txSeq + 1 } := by
  obtain rfl := State.sess_id h
  simp only [State.sendBatch, h, State.post_sess]
  exact State.setSess_sess (x := { x with txSeq := x.txSeq + 1 }) h

theorem State.foldl_sendBatch_sess {s : State} {id : Nat} {x : Sess} (h : s.sess id = some x) (l : List Batch) :
    (l.foldl (fun s b => s.sendBatch id b) s).sess id = some { x with txSeq := x.txSeq + l.length } := by
  induction l generalizing s x with
  | nil => exact h
  | cons b l ih => simpa [Nat.add_assoc, Nat.add_comm 1] using ih (State.sendBatch_sess h b)

theorem State.setSess_sendBatch_sess {s : State} {x y : Sess} (h : s.sess x.id = some y) (b : Batch) :
    ((s.setSess x).sendBatch x.id b).sess x.id = some { x with txSeq := x.txSeq + 1 } := State.sendBatch_sess (State.setSess_sess h) b

theorem State.foldl_sendBatch_now (s : State) (id : Nat) (x : Sess) (l : List Batch) :
    (l.foldl (fun s b => s.sendBatch id b) (s.setSess x)).now = s.now :=
  State.standing_now ((State.foldl_standing (fun _ _ => State.sendBatch_standing _ _ _) _ _).trans (s.setSess_standing x))

/-- The batch that is collected leaves and waits for its acknowledgement. -/
theorem State.closeBatch_sess {s : State} {id : Nat} {x : Sess} (h : s.sess id = some x) (hne : x.collecting ≠ []) :
    ∃ y, (s.closeBatch id).sess id = some y ∧ y.collecting = [] ∧ y.unacked.length = x.unacked.length + 1 := by
  obtain rfl := State.sess_id h
  simp only [State.closeBatch, h, if_neg hne]
  refine ⟨_, State.setSess_sendBatch_sess (y := x) ?_ _, rfl, List.length_append⟩
  exact h

theorem foldl_min_sent_mem (b : Batch) (bs : List Batch) :
    ∃ c ∈ b :: bs, bs.foldl (fun t (b : Batch) => min t b.sent) b.sent = c.sent := by
  induction bs generalizing b with
  | nil => exact ⟨b, List.mem_cons_self .., rfl⟩
  | cons c bs ih =>
    rcases Nat.le_total b.sent c.sent with hle | hle
    · obtain ⟨d, hd, hmin⟩ := ih b
      refine ⟨d, by simp only [List.mem_cons] at hd ⊢; tauto, ?_⟩
      rw [List.foldl_cons, Nat.min_eq_left hle, hmin]
    · obtain ⟨d, hd, hmin⟩ := ih c
      refine ⟨d, List.mem_cons_of_mem _ hd, ?_⟩
      rw [List.foldl_cons, Nat.min_eq_right hle, hmin]

/-! ### Sessions that open and end (R89, R90) -/

/-- A reply changes no more of the sessions than the replies they keep. -/
theorem State.reply_sessions (s : State) (op : Nat) (h : Hdr) (st : Nat) (body : Bytes) :
    ∃ f : Sess → Sess, (∀ x, { f x with cache := [] } = { x with cache := [] }) ∧ (s.reply op h st body).wcp.sessions = s.wcp.sessions.map f := by
  unfold State.reply
  split
  · exact ⟨id, fun _ => rfl, (List.map_id _).symm⟩
  · have hpost : ∀ (t : State) (p : Packet), (t.post p).wcp.sessions = t.wcp.sessions := fun t p => by unfold State.post; split <;> rfl
    refine ⟨_, fun x => ?_, hpost _ _⟩
    dsimp only []
    split <;> rfl

theorem State.reply_sessions_length (s : State) (op : Nat) (h : Hdr) (st : Nat) (body : Bytes) :
    (s.reply op h st body).wcp.sessions.length = s.wcp.sessions.length := by
  obtain ⟨f, -, hf⟩ := s.reply_sessions op h st body
  rw [hf, List.length_map]

theorem State.admitted_sessions (s : State) (op : Nat) (h : Hdr) (pl : Bytes) : (s.admitted op h pl).wcp.sessions = (s.accept h).wcp.sessions := by
  rw [State.admitted_wcp]
  rfl

theorem State.admitted_sessions_length (s : State) (op : Nat) (h : Hdr) (pl : Bytes) :
    (s.admitted op h pl).wcp.sessions.length = s.wcp.sessions.length := by
  rw [State.admitted_sessions]
  exact List.length_map _

/-- The limits of Table 4.6 look at the sessions' numbers and roles. -/
theorem State.sessionRoom_congr {t s : State} (g : t.wcp.sessions.map (fun x => (x.id, x.role)) = s.wcp.sessions.map fun x => (x.id, x.role))
    (role : Role) : t.sessionRoom role = s.sessionRoom role := by
  have key : ∀ u : State, u.sessionRoom role
      = let own := (u.wcp.sessions.map fun x => (x.id, x.role)).filter fun p => decide (p.1 < 0x10000)
        (decide (own.length < 16) && !((role == .safety || role == .update) && own.any fun p => p.2 == role)) := by
    intro u
    simp [State.sessionRoom, List.filter_map, Function.comp_def]
  rw [key, key, g]

theorem State.admitted_sessionRoom (s : State) (op : Nat) (h : Hdr) (pl : Bytes) (role : Role) :
    (s.admitted op h pl).sessionRoom role = s.sessionRoom role := by
  refine State.sessionRoom_congr ?_ role
  rw [State.admitted_sessions]
  simp only [State.accept, State.updSess, List.map_map, List.map_inj_left, Function.comp_apply]
  intro x _
  split <;> rfl

theorem State.admitted_free (s : State) (op : Nat) (h : Hdr) (pl : Bytes) : (s.admitted op h pl).free = s.free := by
  obtain ⟨-, -, -, hfree, -⟩ := (s.admitted_same op h pl).fields
  exact hfree

/-- What SESSION_OPEN passes on: a role of Table 4.6, on its transport, with room for it. -/
def OpenAdmitted (s : State) (h : Hdr) (q : OpenReq) (role : Role) : Prop :=
  s.passes 0x0001 h false [] = true ∧ roleOfCode q.role.toNat = some role ∧ (role = .update → h.transport = .svc) ∧ s.sessionRoom role = true

theorem exec_sessionOpen_granted {s : State} {h : Hdr} {q : OpenReq} {role : Role} (hq : OpenAdmitted s h q role) {subject secret : Bytes}
    (hsubject : openSubject q = some subject) (hsecret : Config.ecdhX s.free q.hostKey = some secret) :
    ∃ (u : State) (x : Sess) (body : Bytes), exec (.sessionOpen h q) s = .next (u.reply 0x0001 h 0 body)
      ∧ u.wcp.sessions = (s.admitted 0x0001 h (openPayload q)).wcp.sessions ++ [x]
      ∧ x.role = role ∧ x.transport = h.transport ∧ x.peer = h.peer ∧ x.user = (sha256 subject).take 8 := by
  obtain ⟨hpass, hrole, htransport, hroom⟩ := hq
  have hupdate : ¬ (role = .update ∧ h.transport ≠ .svc) := fun hu => hu.2 (htransport hu.1)
  have hexec : exec (.sessionOpen h q) s = execSessionOpen h q s := rfl
  simp only [execSessionOpen, State.wcpReq_of_passes _ _ _ _ _ hpass, hrole, if_neg hupdate, hsubject, State.admitted_sessionRoom, hroom,
    State.draw, State.admitted_free, hsecret, Bool.not_true, Bool.false_eq_true, if_false] at hexec
  exact ⟨_, _, _, hexec, rfl, rfl, rfl, rfl, rfl⟩

theorem exec_sessionOpen_refused {s : State} {h : Hdr} {q : OpenReq} {role : Role} (hq : OpenAdmitted s h q role)
    (hnone : openSubject q = none ∨ Config.ecdhX s.free q.hostKey = none) :
    ∃ u : State, exec (.sessionOpen h q) s = .next (u.fail 0x0001 h 0x0106 0)
      ∧ u.wcp.sessions = (s.admitted 0x0001 h (openPayload q)).wcp.sessions := by
  obtain ⟨hpass, hrole, htransport, hroom⟩ := hq
  have hupdate : ¬ (role = .update ∧ h.transport ≠ .svc) := fun hu => hu.2 (htransport hu.1)
  have hexec : exec (.sessionOpen h q) s = execSessionOpen h q s := rfl
  simp only [execSessionOpen, State.wcpReq_of_passes _ _ _ _ _ hpass, hrole, if_neg hupdate, State.admitted_sessionRoom, hroom,
    State.draw, State.admitted_free, Bool.not_true, Bool.false_eq_true, if_false] at hexec
  cases hsubject : openSubject q with
  | none =>
    rw [hsubject] at hexec
    exact ⟨_, hexec, rfl⟩
  | some subject =>
    have hsecret : Config.ecdhX s.free q.hostKey = none := hnone.resolve_left (by simp [hsubject])
    simp only [hsubject, hsecret] at hexec
    exact ⟨_, hexec, rfl⟩

/-- SESSION_OPEN adds the session it grants, and none where it refuses (R89). -/
theorem exec_sessionOpen_leaves {s : State} {h : Hdr} {q : OpenReq} {role : Role} (hq : OpenAdmitted s h q role) :
    ∃ t, exec (.sessionOpen h q) s = .next t
      ∧ (∀ subject secret, openSubject q = some subject → Config.ecdhX s.free q.hostKey = some secret → ∃ x ∈ t.wcp.sessions, x.role = role
          ∧ x.transport = h.transport ∧ x.peer = h.peer ∧ x.user = (sha256 subject).take 8 ∧ t.wcp.sessions.length = s.wcp.sessions.length + 1)
      ∧ ((openSubject q = none ∨ Config.ecdhX s.free q.hostKey = none) → t.wcp.sessions.length = s.wcp.sessions.length) := by
  have hlength := s.admitted_sessions_length 0x0001 h (openPayload q)
  by_cases hnone : openSubject q = none ∨ Config.ecdhX s.free q.hostKey = none
  · obtain ⟨u, hexec, hsessions⟩ := exec_sessionOpen_refused hq hnone
    refine ⟨_, hexec, fun subject secret hsubject hsecret => ?_, fun _ => ?_⟩
    · simp [hsubject, hsecret] at hnone
    · rw [State.fail, State.reply_sessions_length, hsessions, hlength]
  · obtain ⟨hsubject, hsecret⟩ := not_or.1 hnone
    obtain ⟨subject, hsubject⟩ := Option.ne_none_iff_exists'.1 hsubject
    obtain ⟨secret, hsecret⟩ := Option.ne_none_iff_exists'.1 hsecret
    obtain ⟨u, x, body, hexec, hsessions, hrole, htransport, hpeer, huser⟩ := exec_sessionOpen_granted hq hsubject hsecret
    obtain ⟨f, hf, hreply⟩ := u.reply_sessions 0x0001 h 0 body
    refine ⟨_, hexec, fun subject' secret' hsubject' _ => ⟨f x, ?_, ?_, ?_, ?_, ?_, ?_⟩, fun hnone' => absurd hnone' hnone⟩
    · rw [hreply, hsessions]
      exact List.mem_map_of_mem (List.mem_append_right _ (List.mem_singleton_self x))
    · exact (congrArg Sess.role (hf x)).trans hrole
    · exact (congrArg Sess.transport (hf x)).trans htransport
    · exact (congrArg Sess.peer (hf x)).trans hpeer
    · obtain rfl := Option.some.inj (hsubject.symm.trans hsubject')
      exact (congrArg Sess.user (hf x)).trans huser
    · rw [State.reply_sessions_length, hsessions, List.length_append, hlength, List.length_singleton]

/-- The armed reset that a session asked for lapses with it (R359). -/
def State.endArmOf (s : State) (id : Nat) : State :=
  match s.safe.reset with
  | some a => if a.op.session = id then s.lapseArm else s
  | none => s

/-- The commissioning test that a session asked for ends with it (R364). -/
def State.endCtOf (s : State) (id : Nat) : State :=
  match s.safe.ct with
  | some t => if t.op.session = id then s.endCt else s
  | none => s

/-- The sessions and snapshots without those of a session. -/
def State.without (s : State) (id : Nat) : State :=
  { s with wcp := { s.wcp with sessions := s.wcp.sessions.filter fun x => x.id != id, snaps := s.wcp.snaps.filter fun p => p.session != id } }

theorem State.dropSess_eq (s : State) (id : Nat) :
    s.dropSess id = ((if s.isActive && s.wcp.sessions.any fun x => x.id == id && !x.shadow.isEmpty
      then (s.without id).emit (.shallot 0x30 (u16 id ++ u16 0)) else s.without id).endArmOf id).endCtOf id := rfl

theorem State.endArmOf_standing (s : State) (id : Nat) : (s.endArmOf id).standing = s.standing := by
  unfold State.endArmOf
  split
  · rw [State.standing_ite, State.lapseArm_standing, ite_self]
  · rfl

theorem State.endCtOf_standing (s : State) (id : Nat) : (s.endCtOf id).standing = s.standing := by
  unfold State.endCtOf
  split
  · rw [State.standing_ite, State.endCt_standing, ite_self]
  · rfl

/-- The session's number leaves; what belonged to it ends without another change to the protocol (R90). -/
theorem State.dropSess_standing (s : State) (id : Nat) : (s.dropSess id).standing = (s.without id).standing := by
  rw [State.dropSess_eq, State.endCtOf_standing, State.endArmOf_standing, State.standing_ite, State.emit_standing, ite_self]

theorem State.dropSess_sess (s : State) (id : Nat) : (s.dropSess id).sess id = none := by
  rw [State.standing_sess (s.dropSess_standing id), State.sess_eq_none_iff]
  simp [State.without]

/-- A session that holds no open update ends and nothing else (R505). -/
theorem State.endSession_of_no_update {s : State} {id : Nat} (h : ¬ (s.updOpen = true ∧ s.upd.session = id)) :
    s.endSession id = s.dropSess id := by
  have hupd : (s.dropSess id).upd = s.upd := (State.standing_upd (s.dropSess_standing id)).trans rfl
  have hopen : (s.dropSess id).updOpen = s.updOpen := by simp only [State.updOpen, hupd]
  exact if_neg (by rwa [hopen, hupd])

/-! ### Time-outs (R75, R81, R90, R102) -/

theorem exec_sessionIdleTimeout {s : State} {id : Nat} {x : Sess} (hsess : s.sess id = some x) :
    exec (.sessionIdleTimeout id) s = .next ((s.advanceTo (x.lastReq + s.parN 0x30 0 * 1000000000)).endSession id) := by
  show execSessionIdleTimeout id s = _
  simp only [execSessionIdleTimeout, hsess]

theorem exec_eventBatch {s : State} {id : Nat} {x : Sess} (hsess : s.sess id = some x) (hne : x.collecting ≠ []) :
    exec (.eventBatch id) s = .next ((s.advanceTo (x.collectSince + 10000000)).closeBatch id) := by
  show execEventBatch id s = _
  simp only [execEventBatch, hsess, if_neg hne]

theorem exec_splitRequestTimeout {s : State} {id op q since : Nat} {got : Bytes} {x : Sess} (hid : id ≠ 0) (hsess : s.sess id = some x)
    (hsplit : x.split = some (op, q, got, since)) : exec (.splitRequestTimeout id) s
      = .next ((s.advanceTo (since + 1000000000)).setSess { x with split := none, splitDropped := some (op, q) }) := by
  show execSplitRequestTimeout id s = _
  simp only [execSplitRequestTimeout, if_neg hid, hsess, hsplit]

theorem exec_reassemblyTimeout {s : State} {k : Nat} {r : Reasm} (hfind : s.wcp.reasm.find? (fun r => r.key == k) = some r) :
    ∃ t, exec (.reassemblyTimeout k) s = .next t ∧ t.wcp.reasm = s.wcp.reasm.filter (fun r => r.key != k)
      ∧ t.now = max s.now (r.since + 1000000000) := by
  have hexec : exec (.reassemblyTimeout k) s = execReassemblyTimeout k s := rfl
  simp only [execReassemblyTimeout, hfind] at hexec
  exact ⟨_, hexec, rfl, rfl⟩

/-! ### Retries (R103) -/

/-- The module at the instant at which a batch of the session is due again. -/
theorem exec_eventBatchRetry {s : State} {id : Nat} {x : Sess} (hsess : s.sess id = some x) (hne : x.unacked ≠ []) :
    ∃ b ∈ x.unacked, ∃ u : State, u = s.advanceTo (b.sent + s.parN 0x32 0 * 1000000) ∧ exec (.eventBatchRetry id) s
      = .next ((x.unacked.filter fun b => b.due u.now (s.parN 0x32 0 * 1000000) && decide (b.resends < 5)).foldl
          (fun s b => s.sendBatch id b) (u.setSess (x.retry u.now (s.parN 0x32 0 * 1000000)))) := by
  obtain ⟨b, bs, hun⟩ := List.exists_cons_of_ne_nil hne
  obtain ⟨c, hc, hmin⟩ := foldl_min_sent_mem b bs
  refine ⟨c, hun ▸ hc, _, rfl, ?_⟩
  show execEventBatchRetry id s = _
  simp only [execEventBatchRetry, hsess]
  rw [← hmin]
  split
  next hnil => exact absurd hnil hne
  next b' bs' hun' =>
    obtain ⟨rfl, rfl⟩ := List.cons.inj (hun'.symm.trans hun)
    rfl

end Sys2Proof.Machine
end

section
/-! SUPPORT. O8: sessions and their time-outs. -/
namespace Sys2Proof.Machine
open Sys2Proof

/-- Settles O8: a session that opens joins the others with its role and owner, one that ends is without its number, and each time-out acts at its
instant on the session it finds. -/
theorem sessionCommandsComplete : Obligations.SessionCommandsComplete := by
  unfold Obligations.SessionCommandsComplete
  refine ⟨?opens, ?close, ?idle, ?batch, ?retry, ?split, ?reasm⟩
  case opens =>
    intro s h q role hpass hrole htransport hroom
    exact exec_sessionOpen_leaves ⟨hpass, hrole, htransport, hroom⟩
  case close =>
    intro s h hpass
    show execSessionClose h s = _
    rw [execSessionClose, State.wcpReq_of_passes _ _ _ _ _ hpass]
  case idle =>
    intro s id x hsess hupdate
    have hend := State.endSession_of_no_update (s := s.advanceTo (x.lastReq + s.parN 0x30 0 * 1000000000)) hupdate
    refine ⟨_, exec_sessionIdleTimeout hsess, ?_, ?_⟩
    · rw [hend, State.dropSess_sess]
    · rw [hend, State.standing_now (State.dropSess_standing _ _)]
      rfl
  case batch =>
    intro s id x hsess hne
    obtain ⟨y, hy, hcollecting, hunacked⟩ := State.closeBatch_sess (s := s.advanceTo (x.collectSince + 10000000)) hsess hne
    exact ⟨_, y, exec_eventBatch hsess hne, hy, hcollecting, hunacked, State.standing_now (State.closeBatch_standing _ _)⟩
  case retry =>
    intro s id x hsess hne
    obtain ⟨b, hb, u, hu, hexec⟩ := exec_eventBatchRetry hsess hne
    have hset : (u.setSess (x.retry u.now (s.parN 0x32 0 * 1000000))).sess id = some (x.retry u.now (s.parN 0x32 0 * 1000000)) := by
      obtain rfl := State.sess_id hsess
      exact State.setSess_sess (x := x.retry u.now (s.parN 0x32 0 * 1000000)) (y := x) (by rw [hu]; exact hsess)
    refine ⟨_, hexec, ?_, b, hb, ?_⟩
    · rw [State.foldl_sendBatch_now]
      exact State.foldl_sendBatch_sess hset _
    · rw [State.foldl_sendBatch_now, hu]
      rfl
  case split =>
    intro s id x op q got since hid hsess hsplit
    refine ⟨_, exec_splitRequestTimeout hid hsess hsplit, ?_, rfl⟩
    obtain rfl := State.sess_id hsess
    exact State.setSess_sess (x := { x with split := none, splitDropped := some (op, q) }) (y := x) hsess
  case reasm =>
    intro s k r hfind
    obtain ⟨t, hexec, hreasm, hnow⟩ := exec_reassemblyTimeout hfind
    refine ⟨t, hexec, fun q hq => ?_, hnow⟩
    rw [hreasm] at hq
    simpa using (List.mem_filter.1 hq).2

end Sys2Proof.Machine
end

section
/-! SUPPORT. The rules that O9 turns on: the reception of a whole request without a session, and frames that reach a port (04 R75 to R79, 14 R402). -/
namespace Sys2Proof.Machine
open Sys2Proof

/-- What reception passes on. -/
theorem State.takesPacket_iff (s : State) (w : Waiting) : s.takesPacket w = true ↔ s.answers w.hdr w.opcode = true ∧ s.checkPacket w.hdr = .pass
    ∧ (leastOf w.opcode).isSome = true ∧ s.sess w.hdr.session.toNat = none ∧ w.hdr.flags.getLsbD 2 = false ∧ s.wcp.splits = []
    ∧ malformed w.opcode w.payload = none ∧ (s.wcp.queue.any fun v => v.is w.opcode w.hdr) = false := by
  simp only [State.takesPacket, Bool.and_eq_true, beq_iff_eq, Bool.not_eq_true', List.isEmpty_iff, Option.isNone_iff_eq_none, and_assoc]

/-- A whole request without a session joins the execution queue (R79). -/
theorem State.receive_of_takesPacket {s : State} {t : Transport} {peer : Nat} {bs : Bytes} {w : Waiting}
    (hw : w = ⟨s.parseHdr t peer bs, fieldAt bs 6 2, slice bs 16 (fieldAt bs 8 2)⟩) (htakes : s.takesPacket w = true) :
    s.receive t peer bs = s.enqueue w := by
  obtain ⟨hanswers, hpacket, hopcode, hsess, hmore, hsplits, hform, hfresh⟩ := (s.takesPacket_iff w).1 htakes
  subst hw
  have hopcode' : (leastOf (fieldAt bs 6 2)).isNone = false := by simpa [Option.isNone_eq_false_iff] using hopcode
  simp only [State.receive, hanswers, hpacket, hopcode', State.assemble, hsess, State.assemble0, hsplits, hmore, State.takeRequest, hfresh, hform,
    List.find?_nil, Bool.not_true, Bool.false_eq_true, if_false]

/-- A frame on a port in service reaches its meaning, counted unless PRP_FRAME has counted it (14 R402). -/
theorem State.ethIn_of_good {s : State} {f : EthIn} (act : State → State) (hon : s.portOn f.port = true)
    (hgood : f.passed = true ∨ (f.fcsOk = true ∧ s.tagsOk f.tags = true)) :
    s.ethIn f act = act (if f.passed then s else s.inc 0x840 f.port) := by
  cases hpassed : f.passed with
  | true => simp [State.ethIn, hon, hpassed]
  | false =>
    obtain ⟨hfcs, htags⟩ := hgood.resolve_left (by simp [hpassed])
    simp [State.ethIn, hon, hpassed, hfcs, htags]

theorem State.ethIn_of_bad {s : State} {f : EthIn} (act : State → State) (hon : s.portOn f.port = true) (hpassed : f.passed = false)
    (hfcs : f.fcsOk = false) : s.ethIn f act = s.inc 0x842 f.port := by
  simp [State.ethIn, hon, hpassed, hfcs]

/-- The first fragment of a datagram opens its reassembly (R75). -/
theorem State.datagram_first_fragment (s : State) (t : Transport) (p k o : Nat) (bs : Bytes) (hnone : s.wcp.reasm = [])
    (hsize : o + bs.length ≤ 4132) :
    s.datagram t p k o true bs = { s with wcp := { s.wcp with reasm := [⟨k, [(o, bs)], none, s.now⟩] } } := by
  simp [State.datagram, hnone, Nat.not_lt.2 hsize, insertFrag]

end Sys2Proof.Machine
end

section
/-! SUPPORT. O9: packets in and out over the host link and UDP. -/
namespace Sys2Proof.Machine
open Sys2Proof

/-- Settles O9: a request that reception takes joins the queue from either link, and the host link gives one packet to each read. -/
theorem transportsComplete : Obligations.TransportsComplete := by
  unfold Obligations.TransportsComplete
  refine ⟨?write, ?empty, ?first, ?rest, ?udp, ?fragment, ?bad⟩
  case write =>
    intro s bs w hw hsize htakes
    show execHostLinkWrite 1 bs false s = _
    rw [execHostLinkWrite, if_neg (by decide), if_pos ⟨rfl, hsize, rfl⟩, State.receive_of_takesPacket hw htakes]
  case empty =>
    intro s hrest hout
    show execHostLinkRead false s = _
    simp only [execHostLinkRead, hrest, hout]
    rfl
  case first =>
    intro s p ps b rest hrest hout hpackets
    refine ⟨({ s with wcp := { s.wcp with hostOut := ps, hostRest := rest } }).emit (.host (u16 b.length ++ b)), ?_, rfl, rfl, rfl⟩
    show execHostLinkRead false s = _
    simp only [execHostLinkRead, hrest, hout, hpackets, Bool.false_eq_true, if_false]
  case rest =>
    intro s b rest hrest
    refine ⟨({ s with wcp := { s.wcp with hostRest := rest } }).emit (.host (u16 b.length ++ b)), ?_, rfl, rfl, rfl⟩
    show execHostLinkRead false s = _
    simp only [execHostLinkRead, hrest, Bool.false_eq_true, if_false]
  case udp =>
    intro s f d p k bs u w hon hgood hu hforUs hw htakes
    show execUdpDatagram f d 47310 p k 0 false bs s = _
    rw [execUdpDatagram, State.ethIn_of_good _ hon hgood, ← hu, if_pos ⟨rfl, hforUs⟩, State.datagram, if_pos ⟨rfl, rfl⟩,
      State.receive_of_takesPacket hw htakes]
  case fragment =>
    intro s f d p k o bs hon hpassed hforUs hnone hsize
    refine ⟨{ s with wcp := { s.wcp with reasm := [⟨k, [(o, bs)], none, s.now⟩] } }, ?_, rfl, rfl⟩
    show execUdpDatagram f d 47310 p k o true bs s = _
    rw [execUdpDatagram, State.ethIn_of_good _ hon (.inl hpassed), if_pos hpassed, if_pos ⟨rfl, hforUs⟩,
      State.datagram_first_fragment s _ _ _ _ _ hnone hsize]
  case bad =>
    intro s f d dp p k o m bs hon hpassed hfcs
    show execUdpDatagram f d dp p k o m bs s = _
    rw [execUdpDatagram, State.ethIn_of_bad _ hon hpassed hfcs]

end Sys2Proof.Machine
end

section
/-! SUPPORT. The rules that O10 turns on: what an accepted PARAM_SET leaves, what the words written with ones do, and how a COMMIT begins, settles
and applies (04 R96 to R101). -/
namespace Sys2Proof.Machine
open Sys2Proof

/-! ### PARAM_SET (R96) -/

theorem State.foldl_emit_leaves {α : Type} (f : α → Out) (l : List α) (s : State) :
    (l.foldl (fun s a => s.emit (f a)) s).wcp = s.wcp ∧ (l.foldl (fun s a => s.emit (f a)) s).sys = s.sys := by
  induction l generalizing s with
  | nil => exact ⟨rfl, rfl⟩
  | cons a l ih => exact ih (s.emit (f a))

/-- Entries without a fault are written in order; the mirror's frames touch neither the protocol nor chapters 1 to 3. -/
theorem State.setEntries_of_ok {s : State} {h : Hdr} {es : List SetEntry} (hok : ∀ e ∈ es, s.setStatus h es e = 0) :
    ∃ u : State, s.setEntries h es = u.reply 0x0101 h 0 (u16 es.length ++ u.setReplies h es (es.map fun _ => 0))
      ∧ u.wcp = (es.foldl (fun a e => a.writeEntry h e) s).wcp ∧ u.sys = (es.foldl (fun a e => a.writeEntry h e) s).sys := by
  have hsts : es.map (s.setStatus h es) = es.map fun _ => 0 := List.map_congr_left hok
  have hnone : (es.map fun _ => 0).findIdx? (fun x => x != 0) = none := by simp
  unfold State.setEntries
  simp only [hsts, hnone]
  refine ⟨_, rfl, ?_⟩
  split
  · exact ⟨rfl, rfl⟩
  · exact State.foldl_emit_leaves _ _ _

/-- A write of one register by its own command leaves chapters 1 to 3 as the entry does. -/
theorem setOne_leaves {s : State} {h : Hdr} {e : SetEntry} (hpass : s.passes 0x0101 h false [] = true)
    (hok : (s.admitted 0x0101 h (setBytes [e])).setStatus h [e] e = 0) :
    (s.wcpReq 0x0101 h (setBytes [e]) fun s => s.setEntries h [e]).sys = ((s.admitted 0x0101 h (setBytes [e])).writeEntry h e).sys := by
  obtain ⟨u, hset, -, hsys⟩ := State.setEntries_of_ok (s := s.admitted 0x0101 h (setBytes [e])) (h := h) (es := [e])
    (by simpa using hok)
  rw [State.wcpReq_of_passes _ _ _ _ _ hpass, hset, State.reply_sys, hsys]
  rfl

/-! ### The words written with ones, and the return of a cluster (01 R8, R13, 03 R67) -/

theorem readValue_clusterStatus (v : Bytes) : readValue 0x012 v = v := by
  have hrow : ((PRow.find 0x012).any fun r => r.ty == 4) = false := by decide +kernel
  simp [readValue, hrow, isGainTable]

theorem readValue_resetCause (v : Bytes) : readValue 0x017 v = v := by
  have hrow : ((PRow.find 0x017).any fun r => r.ty == 4) = false := by decide +kernel
  simp [readValue, hrow, isGainTable]

theorem State.writeEntry_clusterStatus (s : State) (h : Hdr) (inst : Byte) (v : Bytes) :
    s.writeEntry h ⟨0x012, inst, v⟩ = (s.clearUnitErr inst.toNat (ofLe v)).wrote := by
  obtain ⟨r, hrow⟩ : ∃ r, PRow.find 0x012 = some r := Option.isSome_iff_exists.1 (by decide +kernel)
  simp [State.writeEntry, hrow, readValue_clusterStatus]

theorem State.writeEntry_clusterUnfence (s : State) (h : Hdr) (inst : Byte) (v : Bytes) :
    s.writeEntry h ⟨0x013, inst, v⟩ = (s.unfence inst.toNat).wrote := by
  obtain ⟨r, hrow⟩ : ∃ r, PRow.find 0x013 = some r := Option.isSome_iff_exists.1 (by decide +kernel)
  simp [State.writeEntry, hrow]

theorem State.writeEntry_resetCause (s : State) (h : Hdr) (inst : Byte) (v : Bytes) :
    s.writeEntry h ⟨0x017, inst, v⟩ = (s.clearCause (ofLe v)).wrote := by
  obtain ⟨r, hrow⟩ : ∃ r, PRow.find 0x017 = some r := Option.isSome_iff_exists.1 (by decide +kernel)
  simp [State.writeEntry, hrow, readValue_resetCause]

theorem State.clearCause_resetCause (s : State) (v : Nat) :
    (s.clearCause v).wrote.sys.resetCause = s.sys.resetCause &&& ~~~(BitVec.ofNat 16 v &&& 0x3FF) := rfl

/-- A register keeps the low bits of what is written as a little-endian field. -/
theorem ofNat_ofLe_leBytes {n k w : Nat} (v : BitVec n) (hk : 2 ^ w ∣ 256 ^ k) :
    BitVec.ofNat w (ofLe (leBytes k v.toNat)) = v.setWidth w := by
  apply BitVec.eq_of_toNat_eq
  rw [ofLe_leBytes, BitVec.toNat_ofNat, BitVec.toNat_setWidth, Nat.mod_mod_of_dvd _ hk]

theorem State.cluster_clearUnitErr (s : State) {i : Nat} (v : Nat) (hi : i < 8) :
    (s.clearUnitErr i v).cluster i = { s.cluster i with unitErr := (s.cluster i).unitErr &&& ~~~(BitVec.ofNat 8 v) } :=
  State.cluster_setCluster_same s _ hi

theorem State.cluster_unfence (s : State) {i : Nat} (hi : i < 8) :
    (s.unfence i).cluster i = { s.cluster i with fenced := false, retest := false, unitsOut := 0, testOk := false } :=
  State.cluster_setCluster_same s _ hi

theorem State.cluster_wrote (s : State) (i : Nat) : s.wrote.cluster i = s.cluster i := State.cluster_congr rfl i

/-! ### The session of a request (R80, R99) -/

theorem State.reply_sess {s : State} {id : Nat} {x : Sess} (hsess : s.sess id = some x) (op : Nat) (h : Hdr) (st : Nat) (body : Bytes) :
    ∃ y, (s.reply op h st body).sess id = some y ∧ { y with cache := [] } = { x with cache := [] } := by
  obtain ⟨f, hf, hsessions⟩ := s.reply_sessions op h st body
  have hkeeps : ∀ x, (f x).id = x.id := fun x => (congrArg Sess.id (hf x) :)
  have hid : (fun x : Sess => x.id == id) ∘ f = fun x => x.id == id := funext fun x => congrArg (· == id) (hkeeps x)
  refine ⟨f x, ?_, hf x⟩
  rw [State.sess, hsessions, List.find?_map, hid, show s.wcp.sessions.find? (fun x => x.id == id) = some x from hsess, Option.map_some]

theorem ite_emit_sess (c : Prop) [Decidable c] (s : State) (o : Out) (id : Nat) : (if c then s.emit o else s).sess id = s.sess id := by
  split <;> rfl

/-- DISCARD answers with the number of entries of the shadow set that it empties (Table 4.9). -/
theorem exec_discard {s : State} {h : Hdr} {x : Sess} (hpass : s.passes 0x0103 h false [] = true)
    (hsess : (s.admitted 0x0103 h []).sess h.session.toNat = some x) :
    ∃ u : State, exec (.discard h) s = .next (u.reply 0x0103 h 0 (u16 x.shadow.length))
      ∧ u.sess h.session.toNat = some { x with shadow := [] } := by
  have hexec : exec (.discard h) s = execDiscard h s := rfl
  simp only [execDiscard, State.wcpReq_of_passes _ _ _ _ _ hpass, hsess] at hexec
  refine ⟨_, hexec, ?_⟩
  rw [ite_emit_sess]
  exact (State.sess_updSess_same _ _ (f := fun x => { x with shadow := [] }) fun _ => rfl).trans (congrArg _ hsess)

theorem State.admitted_generation (s : State) (op : Nat) (h : Hdr) (pl : Bytes) : (s.admitted op h pl).wcp.generation = s.wcp.generation := by
  obtain ⟨-, -, hgeneration⟩ := s.admitted_same op h pl
  exact hgeneration

/-- The copy that is stored goes before the newer of the two kept (R101). -/
theorem State.storeParams_stored (s : State) :
    ∃ values, s.storeParams.wcp.stored = ⟨s.wcp.generation.toNat, true, values⟩ :: s.wcp.stored.take 1 := ⟨_, rfl⟩

/-! ### COMMIT (R99, R100) -/

/-- Committed values change the applied ones, and the full scales on record with them, and nothing else of the protocol. -/
theorem State.foldl_applyCommitted_wcp (l : List Shadow) (s : State) :
    ∃ params heldFs, (l.foldl State.applyCommitted s).wcp = { s.wcp with params := params, heldFs := heldFs } := by
  induction l generalizing s with
  | nil => exact ⟨_, _, rfl⟩
  | cons v l ih =>
    obtain ⟨params, heldFs, hrest⟩ := ih (s.applyCommitted v)
    exact ⟨params, heldFs, hrest⟩

theorem State.foldl_applyCommitted_commit (l : List Shadow) (s : State) : (l.foldl State.applyCommitted s).wcp.commit = s.wcp.commit := by
  obtain ⟨params, heldFs, hwcp⟩ := State.foldl_applyCommitted_wcp l s
  rw [hwcp]

theorem State.foldl_applyCommitted_commitWait (l : List Shadow) (s : State) :
    (l.foldl State.applyCommitted s).wcp.commitWait = s.wcp.commitWait := by
  obtain ⟨params, heldFs, hwcp⟩ := State.foldl_applyCommitted_wcp l s
  rw [hwcp]

theorem State.foldl_applyCommitted_generation (l : List Shadow) (s : State) :
    (l.foldl State.applyCommitted s).wcp.generation = s.wcp.generation := by
  obtain ⟨params, heldFs, hwcp⟩ := State.foldl_applyCommitted_wcp l s
  rw [hwcp]

/-- The COMMIT without the entries that take effect where they stand. -/
def State.unsettled (s : State) (c : Commit) : Commit :=
  { c with entries := c.entries.filter fun v => !(s.atOnce v && c.carried (blockOf v.id v.inst)) }

/-- What settles at once leaves the COMMIT in progress. -/
theorem State.settle_commit {s : State} {c : Commit} (hc : s.wcp.commit = some c) : s.settle.wcp.commit = some (s.unsettled c) := by
  simp only [State.settle, hc, State.foldl_applyCommitted_commit]
  rfl

theorem State.settle_generation (s : State) : s.settle.wcp.generation = s.wcp.generation := by
  unfold State.settle
  split
  · rfl
  · exact State.foldl_applyCommitted_generation _ _

/-- A set without a fault, none of it of the safety block, is in progress (R99). -/
theorem State.beginCommit_commit {s : State} {h : Hdr} {x : Sess} (hsess : s.sess h.session.toNat = some x) (hne : x.shadow ≠ [])
    (hgood : firstBad s.par x.shadow = none) (hblock : (x.shadow.all fun v => !inBlock v.id) = true) :
    ∃ c, (s.beginCommit h).wcp.commit = some c ∧ c.whole = x.shadow ∧ c.hdr = h ∧ c.pending = false ∧ c.since = s.now
      ∧ (s.beginCommit h).wcp.generation = s.wcp.generation := by
  have hhalted : x.shadow.findIdx? (fun v => inBlock v.id && !s.halted v.id v.inst) = none := by
    refine List.findIdx?_eq_none_iff.2 fun v hv => ?_
    have hout := List.all_eq_true.1 hblock v hv
    simp only [Bool.not_eq_true'] at hout
    simp [hout]
  simp only [State.beginCommit, hsess, if_neg hne, hhalted, hgood]
  exact ⟨_, State.settle_commit (by rfl), rfl, rfl, rfl, rfl, State.settle_generation _⟩

/-- A late COMMIT has been answered 0x0001 (R100). -/
def State.toldLate (s : State) (c : Commit) (late : Bool) : State :=
  if late && !c.pending then ({ s with wcp := { s.wcp with commit := some { c with pending := true } } }).reply 0x0102 c.hdr 1 else s

/-- The COMMIT applied by every block (R101). -/
def State.committed (s : State) (c : Commit) : State :=
  let s := c.entries.foldl State.applyCommitted s
  { s with wcp := { s.wcp with commit := none, generation := s.wcp.generation + 1 } }

/-- The answer to an applied COMMIT: an event where it is late, else the reply (R100). -/
def State.answerCommit (s : State) (c : Commit) (late : Bool) : State :=
  if late || c.pending then s.complete c.op 0 (leBytes 4 s.wcp.generation.toNat)
  else s.reply 0x0102 c.hdr 0 (leBytes 4 s.wcp.generation.toNat)

theorem State.toldLate_commitWait (s : State) (c : Commit) (late : Bool) : (s.toldLate c late).wcp.commitWait = s.wcp.commitWait := by
  unfold State.toldLate
  split
  · rw [State.standing_commitWait (State.reply_standing _ _ _ _ _)]
  · rfl

theorem State.toldLate_generation (s : State) (c : Commit) (late : Bool) : (s.toldLate c late).wcp.generation = s.wcp.generation := by
  unfold State.toldLate
  split
  · rw [State.standing_generation (State.reply_standing _ _ _ _ _)]
  · rfl

theorem State.committed_commitWait (s : State) (c : Commit) : (s.committed c).wcp.commitWait = s.wcp.commitWait :=
  State.foldl_applyCommitted_commitWait c.entries s

theorem State.committed_generation (s : State) (c : Commit) : (s.committed c).wcp.generation = s.wcp.generation + 1 :=
  congrArg (· + 1) (State.foldl_applyCommitted_generation c.entries s)

theorem State.answerCommit_standing (s : State) (c : Commit) (late : Bool) : (s.answerCommit c late).standing = s.standing := by
  rw [State.answerCommit, State.standing_ite, State.complete_standing, State.reply_standing, ite_self]

/-- A COMMIT that no block has to wait for applies, is answered, and lets the next begin. -/
theorem exec_commitApplied_eq {s : State} {c : Commit} (hc : s.wcp.commit = some c) (himm : c.entries.all Shadow.immediate = true) {late : Bool}
    (hlate : late = decide (c.since + 10000000 < s.now)) :
    exec .commitApplied s = .next ((((s.toldLate c late).committed c).answerCommit c late).nextCommit
      (((s.toldLate c late).committed c).answerCommit c late).wcp.commitWait) := by
  show execCommitApplied s = _
  simp only [execCommitApplied, hc, himm, ← hlate, Bool.not_true, Bool.false_eq_true, if_false, State.toldLate, State.committed,
    State.answerCommit]

theorem exec_commitApplied {s : State} {c : Commit} (hc : s.wcp.commit = some c) (himm : c.entries.all Shadow.immediate = true) :
    ∃ u : State, exec .commitApplied s = .next (u.nextCommit s.wcp.commitWait) ∧ u.wcp.commit = none
      ∧ u.wcp.generation = s.wcp.generation + 1 := by
  have hexec := exec_commitApplied_eq hc himm rfl
  have hstand := State.answerCommit_standing ((s.toldLate c (decide (c.since + 10000000 < s.now))).committed c) c
    (decide (c.since + 10000000 < s.now))
  rw [State.standing_commitWait hstand, State.committed_commitWait, State.toldLate_commitWait] at hexec
  refine ⟨_, hexec, ?_, ?_⟩
  · rw [State.standing_commit hstand, State.committed]
  · rw [State.standing_generation hstand, State.committed_generation, State.toldLate_generation]

end Sys2Proof.Machine
end

section
/-! SUPPORT. O10: writes of the dictionary, storing and COMMIT. -/
namespace Sys2Proof.Machine
open Sys2Proof

/-- Settles O10: each write leaves what its entries leave, and a COMMIT is in progress from its acceptance to the application of its last entry. -/
theorem dictionaryWritesComplete : Obligations.DictionaryWritesComplete := by
  unfold Obligations.DictionaryWritesComplete
  refine ⟨?set, ?unitErr, ?unfence, ?cause, ?store, ?commit, fun s c => exec_commitApplied, ?discard⟩
  case set =>
    intro s h es hpass h1 h64 hok
    obtain ⟨u, hset, hwcp, hsys⟩ := State.setEntries_of_ok hok
    refine ⟨u, ?_, hwcp, hsys⟩
    show execParamSet h es s = _
    rw [execParamSet, State.wcpReq_of_passes _ _ _ _ _ hpass, if_neg (by omega), hset]
  case unitErr =>
    intro s h inst v hpass hinst hok
    have hsys := setOne_leaves hpass hok
    rw [State.writeEntry_clusterStatus] at hsys
    have hcluster := State.cluster_congr hsys inst.toNat
    rw [State.cluster_wrote, State.cluster_clearUnitErr _ _ hinst, State.cluster_congr (s.admitted_sys _ _ _),
      ofNat_ofLe_leBytes v (by decide)] at hcluster
    refine ⟨_, rfl, ?_⟩
    rw [hcluster]
    exact ⟨rfl, rfl, rfl⟩
  case unfence =>
    intro s h inst hpass hinst hok
    have hsys := setOne_leaves hpass hok
    rw [State.writeEntry_clusterUnfence] at hsys
    have hcluster := State.cluster_congr hsys inst.toNat
    rw [State.cluster_wrote, State.cluster_unfence _ hinst, State.cluster_congr (s.admitted_sys _ _ _)] at hcluster
    refine ⟨_, rfl, ?_⟩
    rw [hcluster]
    exact ⟨rfl, rfl, rfl⟩
  case cause =>
    intro s h v hpass hok
    have hsys := setOne_leaves hpass hok
    rw [State.writeEntry_resetCause] at hsys
    refine ⟨_, rfl, ?_⟩
    refine (congrArg SysSt.resetCause hsys).trans ?_
    rw [State.clearCause_resetCause, State.admitted_sys, ofNat_ofLe_leBytes v (by decide), BitVec.setWidth_eq]
  case store =>
    intro s h hpass hwarn
    have hexec : exec (.paramStore h) s = execParamStore h s := rfl
    rw [execParamStore, State.wcpReq_of_passes _ _ _ _ _ hpass, State.admitted_sys, if_neg (by simp [hwarn])] at hexec
    obtain ⟨values, hstored⟩ := (s.admitted 0x0106 h []).storeParams_stored
    refine ⟨_, ⟨s.wcp.generation.toNat, true, values⟩, hexec, ?_⟩
    rw [State.standing_stored (State.reply_standing _ _ _ _ _), hstored, State.admitted_generation]
    exact ⟨rfl, rfl, rfl, by simp⟩
  case commit =>
    intro s h x hpass hnone hsess hne hgood hblock
    have hadmitted : (s.admitted 0x0102 h []).wcp.commit = none := (congrArg WcpSt.commit (s.admitted_wcp _ _ _)).trans hnone
    have hexec : exec (.commit h) s = .next ((s.admitted 0x0102 h []).beginCommit h) := by
      show execCommit h s = _
      rw [execCommit, State.wcpReq_of_passes _ _ _ _ _ hpass, if_neg (by simp [hadmitted])]
    obtain ⟨c, hc, hwhole, hhdr, hpending, hsince, hgeneration⟩ := State.beginCommit_commit hsess hne hgood hblock
    exact ⟨_, c, hexec, hc, hwhole, hhdr, hpending, hsince.trans (s.admitted_now _ _ _), hgeneration.trans (s.admitted_generation _ _ _)⟩
  case discard =>
    intro s h x hpass hsess
    obtain ⟨u, hexec, hu⟩ := exec_discard hpass hsess
    obtain ⟨y, hy, hcache⟩ := State.reply_sess hu 0x0103 h 0 (u16 x.shadow.length)
    exact ⟨_, y, hexec, hy, congrArg Sess.shadow hcache⟩

end Sys2Proof.Machine
end

section
/-! SUPPORT. The rules that O11 turns on: what the admitted request finds of the snapshots, and what the latching of one leaves (04 R104, R105). -/
namespace Sys2Proof.Machine
open Sys2Proof

theorem State.admitted_snaps (s : State) (op : Nat) (h : Hdr) (pl : Bytes) : (s.admitted op h pl).wcp.snaps = s.wcp.snaps := by
  rw [State.admitted_wcp]
  rfl

theorem State.admitted_lastSnap (s : State) (op : Nat) (h : Hdr) (pl : Bytes) : (s.admitted op h pl).wcp.lastSnap = s.wcp.lastSnap := by
  rw [State.admitted_wcp]
  rfl

/-- What the rings are asked for, and what the standby sends, leaves the protocol standing (R104, R135). -/
theorem State.snapRing_standing (s : State) (r slot instant : Nat) (rode : Bool) : (s.snapRing r slot instant rode).standing = s.standing := by
  unfold State.snapRing
  simp only []
  split
  · rfl
  · rw [State.foldl_standing fun _ _ => State.sendCmd_standing _ _ _ _ _ _ _, State.standing_ite, State.syncOut_standing, ite_self]

theorem State.sendCounters_standing (s : State) (num : Nat) : (s.sendCounters num).standing = s.standing :=
  State.foldl_standing (fun _ _ => State.emit_standing _ _) _ _

/-- The snapshot that is asked for, at the first slot of the nodes that no other has (R104, 05 R135). -/
def State.newSnap (s : State) (h : Hdr) (i : Time80) : Snap :=
  { num := (s.wcp.lastSnap + 1) % 65536, instant := t80 i, session := h.session.toNat
    slot := ((List.range 4).find? fun k => s.wcp.snaps.all fun (x : Snap) => x.slot != k).getD 0 }

/-- A snapshot with the module's counters (R104, R105). -/
def State.latchedSnap (s : State) (x : Snap) : Snap :=
  { x with latched := true, module := s.snapCounters, mask := BitVec.ofNat 32 (1 + s.fm.lastSeq % 2 ^ 24 * 256) }

/-- The latched snapshot in the place of number n. -/
def State.latchSnap (s : State) (n : Nat) (x : Snap) : State :=
  { s with wcp := { s.wcp with snaps := s.wcp.snaps.map fun (y : Snap) => if y.num = n then s.latchedSnap x else y } }

theorem exec_snapshotInstant {s : State} {n : Nat} {x : Snap} (hfind : s.wcp.snaps.find? (fun x => decide (x.num = n) && !x.latched) = some x) :
    ∃ t, exec (.snapshotInstant n) s = .next t ∧ t.standing = ((s.advanceTo x.instant).latchSnap n x).standing := by
  have hfind' : s.wcp.snaps.find? (fun x => decide (x.num = n ∧ (!x.latched) = true)) = some x := by simpa using hfind
  refine ⟨_, rfl, ?_⟩
  simp only [hfind']
  rw [State.standing_ite, State.standing_ite, State.foldl_standing fun _ _ => State.snapRing_standing _ _ _ _ _, State.sendCounters_standing,
    ite_self, ite_self]
  rfl

end Sys2Proof.Machine
end

section
/-! SUPPORT. O11: counter snapshots. -/
namespace Sys2Proof.Machine
open Sys2Proof

/-- Settles O11: each request runs on the snapshots it finds, and what is sent for a latched one leaves them standing. -/
theorem snapshotsComplete : Obligations.SnapshotsComplete := by
  unfold Obligations.SnapshotsComplete
  refine ⟨?at_, ?instant, ?read, ?release⟩
  case at_ =>
    intro s h i hpass htarget hns hsoon hfar hroom
    have hvalid : ¬ (i.ns.toNat ≥ 1000000000 ∨ t80 i < s.now + 20000000 ∨ s.now + 60000000000 < t80 i ∨ s.wcp.snaps.length ≥ 4) := by omega
    have hexec : exec (.snapshotAt h i) s = execSnapshotAt h i s := rfl
    rw [execSnapshotAt, State.wcpReq_of_passes _ _ _ _ _ hpass, if_neg (not_not.2 htarget), State.admitted_now, State.admitted_snaps,
      if_neg hvalid, State.admitted_lastSnap] at hexec
    refine ⟨_, s.newSnap h i, hexec, ?_, rfl, rfl, rfl, ?_⟩
    · rw [State.standing_snaps (State.reply_standing _ _ _ _ _)]
      rfl
    · rw [State.standing_lastSnap (State.reply_standing _ _ _ _ _)]
      rfl
  case instant =>
    intro s n x hfind
    obtain ⟨t, hexec, hstand⟩ := exec_snapshotInstant hfind
    have hx : x ∈ s.wcp.snaps := List.mem_of_find?_eq_some hfind
    have hnum : x.num = n := by
      have hsome := List.find?_some hfind
      simp only [Bool.and_eq_true, decide_eq_true_eq] at hsome
      exact hsome.1
    refine ⟨t, hexec, State.standing_now hstand, (s.advanceTo x.instant).latchedSnap x, ?_, hnum, rfl, rfl, rfl⟩
    rw [State.standing_snaps hstand]
    exact List.mem_map.2 ⟨x, hx, if_pos hnum⟩
  case read =>
    intro s h n o x hpass hfind
    have hfind' : (s.admitted 0x0C01 h (leBytes 2 n.toNat ++ [0] ++ leBytes 4 o.toNat)).wcp.snaps.find?
        (fun x => decide (x.num = n.toNat ∧ x.latched = true)) = some x := by simpa using hfind
    show execSnapshotRead h n 0 o s = _
    simp only [execSnapshotRead, State.wcpReq_of_passes _ _ _ _ _ hpass, hfind']
    rfl
  case release =>
    intro s h n hpass hany
    have hexec : exec (.snapshotRelease h n) s = execSnapshotRelease h n s := rfl
    rw [execSnapshotRelease, State.wcpReq_of_passes _ _ _ _ _ hpass, State.admitted_snaps, if_pos hany] at hexec
    refine ⟨_, hexec, ?_⟩
    rw [State.standing_snaps (State.reply_standing _ _ _ _ _)]

end Sys2Proof.Machine
end

section
/-! SUPPORT. The rules that O26, O27 and O28 turn on: what states that agree on everything kept say of a ring, what an enumeration and a host's
command to a node leave of it, a SYNC that no module can send, frames that act, breaks out of NORMAL, and what a lost heartbeat leaves. -/
namespace Sys2Proof.Machine
open Sys2Proof

-- One declaration after the other: side by side, each one that waits for the kernel holds a thread, whose stack counts against the memory limit.
set_option Elab.async false

/-! ### Rings of states that agree -/

section
variable {t s : State} (g : Same t s)
include g

theorem Same.rings_eq : t.rings = s.rings := by
  obtain ⟨-, -, -, -, -, hrings, -⟩ := g.fields
  exact hrings

theorem Same.ring_eq (r : Nat) : t.ring r = s.ring r := by simp only [State.ring, g.rings_eq]

theorem Same.parN_eq (id inst : Nat) : t.parN id inst = s.parN id inst := by simp only [State.parN, g.par]

theorem Same.nodeOk_eq (r n : Nat) : t.nodeOk r n = s.nodeOk r n := by simp only [State.nodeOk, g.ring_eq]

theorem Same.ringLine_eq (r : Nat) (q : Bool) : t.ringLine r q = s.ringLine r q := by
  unfold State.ringLine State.ringRuns
  rw [g.ring_eq, g.sys_eq, g.upd_eq]

theorem Same.canSend_eq (r : Nat) (q : Bool) : t.canSend r q = s.canSend r q := by
  simp only [State.canSend, State.framesOn, g.ringLine_eq, g.sys_eq]

theorem Same.contactsOpen_eq : t.contactsOpen = s.contactsOpen := by
  obtain ⟨-, -, -, -, -, -, -, -, -, -, hsafe, htwin, -⟩ := g.fields
  funext r
  simp only [State.contactsOpen, State.outsOpen, State.closed, State.outsOf, State.outs, State.soMap, State.soOn, State.so, State.twinSoOn, g.par,
    hsafe, htwin]

end

/-! ### Writes to a ring, a node or a counter -/

theorem State.node_updNode_same (s : State) (k : Nat) (f : NodeSt → NodeSt) : (s.updNode k f).node k = f (s.node k) := SMap.at_set_same _ _ _ _

theorem State.count_incBy_same (s : State) (id inst n : Nat) : (s.incBy id inst n).count id inst = min 0xFFFFFFFF (s.count id inst + n) :=
  SMap.at_set_same _ _ _ _

theorem State.ring_inc (s : State) (id inst r : Nat) : (s.inc id inst).ring r = s.ring r := rfl

theorem State.ring_setRing_same (s : State) {r : Nat} (x : RingSt) (hr : r < 4) : (s.setRing r x).ring r = x := Four.get_set_same _ _ _ hr

theorem State.ring_congr {t s : State} (h : t.rings.ring = s.rings.ring) (r : Nat) : t.ring r = s.ring r := congrArg (·.get r) h

theorem foldl_ring {α : Type} {f : State → α → State} (hf : ∀ s a, (f s a).rings.ring = s.rings.ring) (l : List α) (s : State) :
    (l.foldl f s).rings.ring = s.rings.ring := by
  induction l generalizing s with
  | nil => rfl
  | cons a l ih => exact (ih (f s a)).trans (hf s a)

/-! ### Enumeration (R116) -/

theorem State.complete_ring (s : State) (op : OpRef) (status : Nat) (result : Bytes) :
    (s.complete op status result).rings.ring = s.rings.ring := by rw [(s.complete_same op status result).rings_eq]

theorem State.dropWire_ring (s : State) (nk : Nat) : (s.dropWire nk).rings.ring = s.rings.ring := by
  simp only [State.dropWire]
  split
  · rfl
  · exact foldl_ring (fun _ _ => State.complete_ring _ _ _ _) _ _

theorem State.clearNodes_ring (s : State) (r : Nat) : (s.clearNodes r).rings.ring = s.rings.ring := by
  unfold State.clearNodes
  refine foldl_ring (fun s i => ?_) _ _
  simp only []
  split
  · rfl
  · exact s.dropWire_ring (r * 28 + i)

theorem State.sendFrame_rings (s : State) (r : Nat) (q : Bool) (type addr tag : Nat) (data : Bytes) :
    (s.sendFrame r q type addr tag data).rings = s.rings := by
  unfold State.sendFrame
  split
  · split <;> rfl
  · rfl

/-- The ring that enumerates is at rest but for its stage and the start of its transmitters. -/
theorem State.beginEnum_ring (s : State) {r : Nat} (hr : r < 4) :
    (s.beginEnum r).ring r = { (s.ring r).halt 1 with enumStage := 1, txSince := s.now } := by
  unfold State.beginEnum State.sendBoth
  simp only [State.ring, State.sendFrame_rings, State.clearNodes_ring]
  exact State.ring_updRing_same s _ hr

/-- A request that waits for its rings. -/
def State.awaitRings (s : State) (q : RingOp) : State := { s with rings := { s.rings with ops := s.rings.ops ++ [q] } }

/-! ### Commands to nodes (R114) -/

theorem State.hostCmd_of_canSend {s : State} {r node : Nat} (hsend : s.canSend r ((s.ring r).port node) = true) (type : Nat) (data : Bytes)
    (h : Hdr) (arg : Nat) (refuse : State → State) :
    s.hostCmd r node type data h arg refuse = s.sendCmd r node type data (some h) arg := if_pos hsend

/-! ### A SYNC that falls due while neither module can transmit (13 R389) -/

/-- The SYNC waits for the takeover, and no sweep starts. -/
theorem exec_sweepSync_mute {s : State} {r : Nat} (hr : r < 4) (hon : s.sweepsOn r = true) (hmute : s.mute = true) : ∃ t,
    exec (.sweepSync r) s = .next t ∧ (t.ring r).collecting = (s.ring r).collecting := by
  refine ⟨(s.advanceTo ((s.now / s.sweepNs r + 1) * s.sweepNs r)).updRing r fun x => { x with syncDue := true }, ?_, ?_⟩
  · have hguard : ¬ (4 ≤ r ∨ !s.sweepsOn r) := by simp [hon, Nat.not_le.2 hr]
    have hmute' : (s.advanceTo ((s.now / s.sweepNs r + 1) * s.sweepNs r)).mute = true := hmute
    simp only [exec, execSweepSync, if_neg hguard, if_pos hmute']
  · rw [State.ring_updRing_same _ _ hr]
    rfl

/-- A STANDBY module whose ring 0 sweeps, between two sweeps, with neither role line asserted. -/
def muteStandby : State :=
  ({ State.reset with sys := { State.reset.sys with lifecycle := .standby, mirror := .standby } } : State).updRing 0 fun x =>
    { x with mode := 2, n := 4, enumerated := true, sweeping := true }

theorem muteStandby_sweepNs : muteStandby.sweepNs 0 ≠ 0 := by decide +kernel
theorem muteStandby_sweepsOn : muteStandby.sweepsOn 0 = true := by decide +kernel

/-! ### Frames that come in (R109, R113) -/

/-- The idle set before a frame moves the heartbeats and the error times of its ring only. -/
theorem State.arrived_ring (s : State) {r : Nat} (hr : r < 4) (rx : Rx) :
    ((s.arrived r rx).ring r).mode = (s.ring r).mode ∧ ((s.arrived r rx).ring r).n = (s.ring r).n := by
  have hidle : (s.arrived r rx).ring r = (s.idleSeen r rx.idle).ring r := rfl
  rw [hidle]
  simp only [State.idleSeen]
  split
  · rw [State.ring_setRing_same _ _ hr]
    exact ⟨rfl, rfl⟩
  · rw [State.ring_inc, State.ring_setRing_same _ _ hr]
    exact ⟨rfl, rfl⟩

theorem State.arrived_nodeOk (s : State) {r : Nat} (hr : r < 4) (rx : Rx) (n : Nat) : (s.arrived r rx).nodeOk r n = s.nodeOk r n := by
  simp only [State.nodeOk, (s.arrived_ring hr rx).2]

/-- A correct frame of an addressed node acts on the state it arrives in. -/
theorem State.onFrame_of_ok {s : State} {r : Nat} {a : Byte} {rx : Rx} (hr : r < 4) (hhears : s.hears r rx.q = true) (hok : Rx.ok rx = true)
    (ha : a ≠ 0xFE) (f : State → State) : s.onFrame r a rx f = f (s.arrived r rx) := by
  have hheard : ¬ (4 ≤ r ∨ !s.hears r rx.q) := by simp [Nat.not_le.2 hr, hhears]
  simp only [State.onFrame, if_neg hheard, hok, Bool.not_true, Bool.false_eq_true, if_false, if_neg ha]

/-- R131, R133: what an addressed node reports of a port acts once its status is seen. -/
theorem exec_linkEvent {s : State} {r : Nat} {a : Byte} {rx : Rx} {p : Nat} (hr : r < 4) (hhears : s.hears r rx.q = true)
    (hok : Rx.ok rx = true) (ha : a ≠ 0xFE) (hnode : s.nodeOk r a.toNat = true) (hp : p < 2) (hmode : 2 ≤ (s.ring r).mode) (event : Nat)
    (w : BitVec 16) :
    exec (.linkEvent r a rx p event w) s = .next (if event = 0 then ((s.arrived r rx).statusSeen r a.toNat w).lockLost r a.toNat p
      else if event = 1 then ((s.arrived r rx).statusSeen r a.toNat w).lockStable r a.toNat p else (s.arrived r rx).statusSeen r a.toNat w) := by
  rw [← s.arrived_nodeOk hr rx] at hnode
  rw [← (s.arrived_ring hr rx).1] at hmode
  simp only [exec, execLinkEvent, State.onFrame_of_ok hr hhears hok ha, hnode, Bool.not_true, Bool.false_eq_true, false_or,
    if_neg (show ¬ (2 ≤ p ∨ ((s.arrived r rx).ring r).mode < 2) by omega)]

/-- R114: the reply to the request at place i answers that request and no other. -/
theorem exec_nodeReply {s : State} {r : Nat} {a : Byte} {rx : Rx} {q : NodeReq} {i : Nat} (hr : r < 4) (hhears : s.hears r rx.q = true)
    (hok : Rx.ok rx = true) (ha : a ≠ 0xFE)
    (hi : ((s.arrived r rx).ring r).reqs.findIdx? (fun q => q.meets a.toNat rx ((s.arrived r rx).ring r).cut.isSome) = some i)
    (hq : ((s.arrived r rx).ring r).reqs[i]? = some q) (st : Byte) (d : Bytes) :
    exec (.nodeReply r a rx st d) s = .next (((s.arrived r rx).setRing r
      { (s.arrived r rx).ring r with reqs := ((s.arrived r rx).ring r).reqs.eraseIdx i }).nodeAnswer r q st d) := by
  have hidx := (List.findIdx?_eq_some_iff_findIdx_eq.1 hi).2
  simp only [exec, execNodeReply, State.onFrame_of_ok hr hhears hok ha, List.find?_eq_getElem?_findIdx, hidx, hq]

/-! ### Breaks out of NORMAL (R130, R131) -/

theorem State.recordBreak_of_normal {s : State} {r : Nat} (hr : r < 4) (hmode : (s.ring r).mode = 2) (pair : Nat × Nat) :
    ((s.recordBreak r pair).ring r).mode = 3 ∧ ((s.recordBreak r pair).ring r).brk = some pair ∧ (s.recordBreak r pair).waits 0x2010 r 1 = true
      ∧ (s.recordBreak r pair).count 0x216 r = min 0xFFFFFFFF (s.count 0x216 r + 1) ∧ (s.recordBreak r pair).now = s.now := by
  simp only [State.recordBreak, hmode, if_true]
  refine ⟨?mode, ?brk, State.raise_waits _ _ _ _ _ (by decide), ?count, ?now⟩
  case mode => rw [(State.raise_same _ _ _ _ _).ring_eq, State.ring_inc, State.ring_setRing_same _ _ hr]
  case brk => rw [(State.raise_same _ _ _ _ _).ring_eq, State.ring_inc, State.ring_setRing_same _ _ hr]
  case count =>
    rw [State.count_congr (State.raise_wcp _ _ _ _ (by decide)), State.count_inc_same]
    rfl
  case now => exact (State.raise_same _ _ _ _ _).now_eq

/-- A master port's lock loss as its ring keeps it. -/
def RingSt.portLost (x : RingSt) (q : Bool) : RingSt := (if q then { x with lostQ := true } else { x with lostP := true }).dropUnwrap

/-- Where no node has reported a loss, the port's own loss is the break at the ring's end. -/
theorem State.masterPortLost_of_no_report {s : State} {r : Nat} (hlost : (s.ring r).lost = []) (q : Bool) : s.masterPortLost r q
    = (s.setRing r ((s.ring r).portLost q)).recordBreak r (if q then ((s.ring r).n, (s.ring r).n + 1) else (0, 1)) := by
  cases q <;> simp [State.masterPortLost, RingSt.portLost, hlost]

theorem exec_masterPortLockLoss {s : State} {r : Nat} (hr : r < 4) (hactive : s.isActive = true) (hsince : (s.ring r).txSince + 200000 ≤ s.now)
    (hmode : (s.ring r).mode = 2) (q : Bool) : exec (.masterPortLockLoss r q) s = .next (s.masterPortLost r q) := by
  simp [exec, execMasterPortLockLoss, Nat.not_le.2 hr, hactive, Nat.not_lt.2 hsince, hmode]

/-- The neighbour asked is not awaited any longer, 200 µs on. -/
def State.neighbourSilent (s : State) (r n : Nat) : State :=
  (s.advanceTo (s.now + 200000)).updRing r fun x => { x with reqs := x.reqs.filter fun q => !(q.type == 0x12 && q.hdr.isNone && q.node == n) }

theorem exec_portStatusTimeout {s : State} {r n m : Nat} (hr : r < 4) (hasked : (s.ring r).asked = [(n, m)]) :
    exec (.portStatusTimeout r n) s = .next ((s.neighbourSilent r n).recordBreak r (min n m, max n m)) := by
  simp [exec, execPortStatusTimeout, Nat.not_le.2 hr, hasked, State.neighbourSilent]

/-! ### The heartbeat watch (R127) -/

/-- The node's bit is lost, 512 µs after it was last seen. -/
def State.heartMissed (s : State) (r n : Nat) : State :=
  (s.advanceTo ((s.ring r).hbAt.at n s.now + 512000)).updRing r fun x =>
    { x with hbSeen := x.hbSeen &&& ~~~(BitVec.ofNat 32 (2 ^ (n - 1))), hbLost := x.hbLost ||| BitVec.ofNat 32 (2 ^ (n - 1)) }

theorem State.heartMissed_ring (s : State) {r : Nat} (hr : r < 4) (n : Nat) : (s.heartMissed r n).ring r =
    { s.ring r with hbSeen := (s.ring r).hbSeen &&& ~~~(BitVec.ofNat 32 (2 ^ (n - 1))),
                    hbLost := (s.ring r).hbLost ||| BitVec.ofNat 32 (2 ^ (n - 1)) } := State.ring_updRing_same _ _ hr

/-- The string of a ring opens for a lost node, in P3 by Turnip alone (03 R59), and the hold register lets its outputs go. -/
def State.heartTripped (s : State) (r n : Nat) : State :=
  (if s.sys.power = .p3 then s.turnipTrip r 0x2030 (nodeKey r n) else s.tripFault 0x2030 (nodeKey r n) [r]).dropHold r

/-- The string notes the time and the node of its decision, which the other channel must see the cause of (12 R357). -/
def State.heartDoubted (s : State) (r n : Nat) : State := s.updStr r fun x => { x with doubt := some (s.now, some (nodeKey r n)) }

theorem exec_heartbeatLoss {s : State} {r n : Nat} (hr : r < 4) (hn : n ≠ 0) (hset : (s.ring r).turnipSet.getLsbD (n - 1) = true)
    (hlost : (s.ring r).hbLost.getLsbD (n - 1) = false) (h4 : s.sys.power ≠ .p4) (h5 : s.sys.power ≠ .p5) :
    exec (.heartbeatLoss r n) s = .next (if (((s.heartMissed r n).heartTripped r n).heartDoubted r n).sys.power = .p0
      then ((s.heartMissed r n).heartTripped r n).heartDoubted r n else (((s.heartMissed r n).heartTripped r n).heartDoubted r n).wake) := by
  have hguard : ¬ (4 ≤ r ∨ n = 0 ∨ !(s.ring r).turnipSet.getLsbD (n - 1) ∨ (s.ring r).hbLost.getLsbD (n - 1) ∨ s.sys.power = .p4
      ∨ s.sys.power = .p5) := by simp [Nat.not_le.2 hr, hn, hset, hlost, h4, h5]
  show execHeartbeatLoss r n s = _
  unfold execHeartbeatLoss
  rw [if_neg hguard]
  rfl

/-! ### Ordered-set errors (R109, R137) -/

theorem exec_osetErrorRate {s : State} {r : Nat} (hr : r < 4) (e : Nat) {k : Nat}
    (hk : k = ((s.ring r).osetAt.filter fun t => decide (s.now < t + 1000000000)).length) :
    exec (.osetErrorRate r e) s = .next (if 64 < k + e then
      ((s.incBy 0x217 r e).updRing r fun x => { x with osetAt := [] }).raise 0x2031 r 1 (u32 (k + e)) else s.incBy 0x217 r e) := by
  subst hk
  show execOsetErrorRate r e s = _
  unfold execOsetErrorRate
  rw [if_neg (Nat.not_le.2 hr)]
  rfl

/-! ### Replies of nodes (R114) -/

theorem State.nodeAnswer_loader (s : State) (r : Nat) {q : NodeReq} (htype : q.type = 0x1E) (st : Byte) (d : Bytes) : s.nodeAnswer r q st d =
    if q.arg = 3 then s.versionReply r q.node st d else s.loaderReply r q st := by
  simp only [State.nodeAnswer, htype]

theorem State.nodeAnswer_balance (s : State) (r : Nat) {q : NodeReq} (htype : q.type = 0x18) (st : Byte) (d : Bytes) :
    s.nodeAnswer r q st d = s.balReply r q st d := by
  simp only [State.nodeAnswer, htype]

/-- A node's version goes on record; one that is not the running set's is a fault (19 R516). -/
theorem State.versionReply_ok (s : State) (r node : Nat) (d : Bytes) :
    (s.versionReply r node 0 d).upd.nodeVer = s.upd.nodeVer.set (nodeKey r node) (fieldAt d 0 4)
      ∧ (fieldAt d 0 4 ≠ s.upd.running 4 → (s.versionReply r node 0 d).waits 0xD041 (nodeKey r node) 2 = true) := by
  simp only [State.versionReply, ne_eq, not_true_eq_false, if_false]
  split
  next hsame => exact ⟨rfl, fun hdiff => absurd hsame hdiff⟩
  next => exact ⟨by rw [(State.raise_same _ _ _ _ _).upd_eq], fun _ => State.raise_waits _ _ _ _ _ (by decide)⟩

end Sys2Proof.Machine
end

section
/-! SUPPORT. O26, O27 and O28: ring requests, enumeration and sweeps, and ring events. -/
namespace Sys2Proof.Machine
open Sys2Proof

set_option Elab.async false

/-- Settles O26: a request that passes acts on the admitted state, whose rings are those before it. -/
theorem ringRequestsComplete : Obligations.RingRequestsComplete := by
  unfold Obligations.RingRequestsComplete
  refine ⟨?start, ?stop, ?enumerate, ?counters, ?ports⟩
  case start =>
    intro s h m go hpass hgo hne hready
    have hadm := s.admitted_same 0x0200 h [m]
    have hgo' : (bitsSet 4 m.toNat).filter (fun r => decide ((s.admitted 0x0200 h [m]).parN 0x201 r ≠ 0
        ∧ !((s.admitted 0x0200 h [m]).ring r).sweeping)) = go := by
      simp only [hadm.parN_eq, hadm.ring_eq, hgo, Bool.decide_and, Bool.decide_eq_true]
    have hready' : (go.all fun r => ((s.admitted 0x0200 h [m]).ring r).mode == 0 && (s.admitted 0x0200 h [m]).contactsOpen r) = true := by
      simpa only [hadm.ring_eq, hadm.contactsOpen_eq] using hready
    have hrings := ((State.reply_same (s.admitted 0x0200 h [m]) 0x0200 h 1 []).trans hadm).rings_eq
    refine ⟨((s.admitted 0x0200 h [m]).reply 0x0200 h 1).awaitRings ⟨opRef 0x0200 h, bitsSet 4 m.toNat, go, false⟩, ?_, ?_, ?_, ?_⟩
    · simp only [exec, execRingStart, State.wcpReq_of_passes s _ h _ _ hpass, hgo', if_neg hne, hready', Bool.not_true, Bool.false_eq_true,
        if_false, State.awaitRings]
    · rw [State.awaitRings, hrings]
    · rw [State.awaitRings, hrings]
    · rw [State.awaitRings, hrings]
  case stop =>
    intro s h m hpass hopen
    have hopen' := (s.admitted_same 0x0201 h [m]).contactsOpen_eq.symm ▸ hopen
    simp only [exec, execRingStop, State.wcpReq_of_passes s _ h _ _ hpass, hopen', Bool.not_true, Bool.false_eq_true, if_false]
  case enumerate =>
    intro s h r hpass hr hmode hopen hcount
    have hadm := s.admitted_same 0x0202 h [r]
    have hguard : ¬ (((s.admitted 0x0202 h [r]).ring r.toNat).mode ≠ 0 ∨ (!(s.admitted 0x0202 h [r]).contactsOpen r.toNat) = true
        ∨ (s.admitted 0x0202 h [r]).parN 0x201 r.toNat = 0) := by
      simp [hadm.ring_eq, hadm.contactsOpen_eq, hadm.parN_eq, hmode, hopen, hcount]
    simp only [exec, execRingEnumerate, State.wcpReq_of_passes s _ h _ _ hpass, if_neg (Nat.not_le.2 hr), if_neg hguard]
    refine ⟨_, rfl, ?_, ?_⟩
    · rw [State.beginEnum_ring _ hr]
      rfl
    · rw [State.beginEnum_ring _ hr]
  case counters =>
    intro s h r n src hpass hnode hsrc hmode hsend
    have hadm := s.admitted_same 0x0203 h [r, n, src]
    rw [← hadm.nodeOk_eq] at hnode
    rw [← hadm.ring_eq] at hmode
    rw [← hadm.ring_eq, ← hadm.canSend_eq] at hsend
    simp only [exec, execNodeCounters, State.wcpReq_of_passes s _ h _ _ hpass, hnode, Bool.not_true, Bool.false_eq_true, false_or,
      if_neg (Nat.not_lt.2 hsrc), if_neg (Nat.not_lt.2 hmode), State.hostCmd_of_canSend hsend]
  case ports =>
    intro s h r n hpass hnode hmode hsend
    have hadm := s.admitted_same 0x0204 h [r, n]
    rw [← hadm.nodeOk_eq] at hnode
    rw [← hadm.ring_eq] at hmode
    rw [← hadm.ring_eq, ← hadm.canSend_eq] at hsend
    simp only [exec, execNodePorts, State.wcpReq_of_passes s _ h _ _ hpass, hnode, Bool.not_true, Bool.false_eq_true, if_false,
      if_neg (Nat.not_lt.2 hmode), State.hostCmd_of_canSend hsend]

/-- Refutes O27 by its clause on SWEEP_SYNC, which asks every ring that sweeps to start a sweep and does not say that a module can transmit. On a
STANDBY while both role lines are low the SYNC falls due and waits for the takeover (13 R389), so a ring between two sweeps still collects nothing. -/
theorem not_enumerationAndSweepsComplete : ¬ Obligations.EnumerationAndSweepsComplete := by
  unfold Obligations.EnumerationAndSweepsComplete
  rintro ⟨-, -, -, -, -, -, hsync, -⟩
  obtain ⟨t, ht, hcollecting, -⟩ := hsync muteStandby 0 (by decide) rfl muteStandby_sweepNs (.inl rfl)
  obtain ⟨u, hu, hidle⟩ := exec_sweepSync_mute (by decide) muteStandby_sweepsOn rfl
  obtain ⟨rfl⟩ := ht.symm.trans hu
  exact absurd (hcollecting.symm.trans hidle) (by decide)

/-- Settles O28: each event passes its guards by its own lemma, and each clause reads off what that event leaves. That the count of ordered-set
errors starts over once 0x2031 is raised is assumption log entry 128. -/
theorem ringEventsComplete : Obligations.RingEventsComplete := by
  unfold Obligations.RingEventsComplete
  refine ⟨?link, ?port, ?silent, ?heart, ?errors, ?few, ?reply, ?loader, ?version, ?balance⟩
  case link =>
    intro s r a rx p w hr hhears hok ha hnode hp hmode
    exact ⟨exec_linkEvent hr hhears hok ha hnode hp hmode 0 w, exec_linkEvent hr hhears hok ha hnode hp hmode 1 w⟩
  case port =>
    intro s r q hr hactive hsince hmode hlost
    have hlostMode : ((s.setRing r ((s.ring r).portLost q)).ring r).mode = 2 := by
      rw [State.ring_setRing_same _ _ hr, ← hmode]
      cases q <;> rfl
    obtain ⟨hmode3, hbrk, hwaits, hcount, -⟩ := State.recordBreak_of_normal hr hlostMode
      (if q then ((s.ring r).n, (s.ring r).n + 1) else (0, 1))
    rw [← State.masterPortLost_of_no_report hlost] at hmode3 hbrk hwaits hcount
    exact ⟨_, exec_masterPortLockLoss hr hactive hsince hmode q, hmode3, hbrk, hwaits, hcount⟩
  case silent =>
    intro s r n m hr hasked hmode
    have hsilentMode : ((s.neighbourSilent r n).ring r).mode = 2 := by
      rw [State.neighbourSilent, State.ring_updRing_same _ _ hr]
      exact hmode
    obtain ⟨hmode3, hbrk, hwaits, -, hnow⟩ := State.recordBreak_of_normal hr hsilentMode (min n m, max n m)
    exact ⟨_, exec_portStatusTimeout hr hasked, hnow.trans (Nat.max_eq_right (Nat.le_add_right _ _)), hmode3, hbrk, hwaits⟩
  case heart =>
    intro s r n hr hn hset hlost h4 h5
    refine ⟨s.heartMissed r n, (s.heartMissed r n).heartTripped r n, ((s.heartMissed r n).heartTripped r n).heartDoubted r n, rfl, rfl,
      exec_heartbeatLoss hr hn hset hlost h4 h5, rfl, ?_, ?_⟩
    · rw [s.heartMissed_ring hr]
    · rw [s.heartMissed_ring hr]
  case errors =>
    intro s r e k hr hk hmany
    refine ⟨_, exec_osetErrorRate hr e hk, ?_⟩
    rw [if_pos hmany]
    refine ⟨State.raise_waits _ _ _ _ _ (by decide), ?_, ?_⟩
    · rw [State.count_congr (State.raise_wcp _ _ _ _ (by decide))]
      exact State.count_incBy_same _ _ _ _
    · rw [(State.raise_same _ _ _ _ _).ring_eq, State.ring_updRing_same _ _ hr]
  case few =>
    intro s r e k hr hk hfew
    refine ⟨_, exec_osetErrorRate hr e hk, ?_⟩
    rw [if_neg (Nat.not_lt.2 hfew)]
    exact ⟨rfl, rfl, State.count_incBy_same _ _ _ _⟩
  case reply =>
    rintro s _ r a rx st d q i hr hhears hok ha rfl hi hq
    exact exec_nodeReply hr hhears hok ha hi hq st d
  case loader =>
    intro s r q st d htype harg
    rw [s.nodeAnswer_loader r htype, if_neg harg]
  case version =>
    intro s r q d htype harg
    refine ⟨_, rfl, ?_⟩
    rw [s.nodeAnswer_loader r htype, if_pos harg]
    exact s.versionReply_ok r q.node d
  case balance =>
    intro s r q d h htype hhdr
    refine ⟨s.updNode (nodeKey r q.node) fun x => { x with balMask := BitVec.ofNat 16 (fieldAt d 0 2) }, ?_, ?_⟩
    · simp only [s.nodeAnswer_balance r htype, State.balReply, hhdr, if_true]
    · rw [State.node_updNode_same]

end Sys2Proof.Machine
end

section
/-! SUPPORT. The rules that O29 turns on: what a command to a node leaves of the nodes and of the time, and, for each command of chapter 6, what it
does once its conditions are met. -/
namespace Sys2Proof.Machine
open Sys2Proof

-- One declaration after the other: side by side, each one that waits for the kernel holds a thread, whose stack counts against the memory limit.
set_option Elab.async false

/-! ### Nodes and commands to them -/

theorem State.nodeOk_iff (s : State) (r n : Nat) : s.nodeOk r n = true ↔ r < 4 ∧ 1 ≤ n ∧ n ≤ (s.ring r).n := by
  simp only [State.nodeOk, Bool.and_eq_true, decide_eq_true_eq, and_assoc]

theorem Same.node_eq {t s : State} (g : Same t s) (k : Nat) : t.node k = s.node k := by simp only [State.node, g.rings_eq]

theorem State.node_congr {t s : State} (h : t.rings.node = s.rings.node) (k : Nat) : t.node k = s.node k := congrArg (·.at k {}) h

theorem State.node_setNode_same (s : State) (k : Nat) (x : NodeSt) : (s.setNode k x).node k = x := SMap.at_set_same _ _ _ _

theorem State.command_nodes (s : State) (r node type : Nat) (data : Bytes) : (s.command r node type data).rings.node = s.rings.node := by
  unfold State.command
  simp only []
  split
  · rfl
  · rw [State.sendFrame_rings]
    rfl

theorem State.sendCmd_nodes (s : State) (r node type : Nat) (data : Bytes) (h : Option Hdr) (arg : Nat) :
    (s.sendCmd r node type data h arg).rings.node = s.rings.node := by
  unfold State.sendCmd
  simp only []
  split
  · rfl
  · exact State.command_nodes _ _ _ _ _

theorem State.sendPairMask_node (s : State) (nk k : Nat) : (s.sendPairMask nk).node k = s.node k :=
  State.node_congr (State.sendCmd_nodes _ _ _ _ _ _ _) k

/-! ### Readings (R167) -/

/-- The sixteen voltages of a list, in 100 µV (Table 6.13). -/
def voltageBytes (l : List ℚ) : Bytes := (List.range 16).flatMap fun i => u16 (clampN 65535 (l.getD i 0 * 10000))

/-- What CELL_VALUES answers behind the node's state: its voltages, bounds and temperatures (Table 6.13). -/
def NodeSt.readings (x : NodeSt) (p : SweepPayload) : Bytes :=
  voltageBytes x.vEst ++ voltageBytes x.vHi ++ voltageBytes x.vLo ++ (List.range 4).flatMap fun i => leBytes 2 (p.t.getD i 0).toNat

theorem voltageBytes_length (l : List ℚ) : (voltageBytes l).length = 32 := by
  simp [voltageBytes, u16, List.length_flatMap]

theorem NodeSt.readings_length (x : NodeSt) (p : SweepPayload) : (x.readings p).length = 104 := by
  simp [NodeSt.readings, voltageBytes_length, List.length_flatMap]

theorem exec_cellValues {s : State} {h : Hdr} {r n : Byte} {p : SweepPayload} (hpass : s.passes 0x0210 h false [] = true)
    (hnode : s.nodeOk r.toNat n.toNat = true) (hlast : (s.node (nodeKey r.toNat n.toNat)).last = some p) :
    exec (.cellValues h r n) s = .next ((s.admitted 0x0210 h [r, n]).reply 0x0210 h 0
      (leBytes 2 p.sweep.toNat ++ leBytes 4 (s.node (nodeKey r.toNat n.toNat)).stamp.toNat ++ leBytes 2 p.status.toNat
        ++ leBytes 2 (s.node (nodeKey r.toNat n.toNat)).unmeasured.toNat ++ leBytes 4 (s.node (nodeKey r.toNat n.toNat)).wireFault.toNat
        ++ (s.node (nodeKey r.toNat n.toNat)).readings p)) := by
  have hadm := s.admitted_same 0x0210 h [r, n]
  simp only [exec, execCellValues, State.wcpReq_of_passes s _ h _ _ hpass, hadm.nodeOk_eq, hadm.node_eq, hnode, hlast, Bool.not_true,
    Bool.false_eq_true, if_false, NodeSt.readings, voltageBytes, List.append_assoc]

/-! ### Balancing (R164, R167) -/

theorem exec_balanceManual {s : State} {h : Hdr} {r n : Byte} {pl : Bytes} (hpass : s.passes 0x0211 h false [] = true)
    (hnode : s.nodeOk r.toNat n.toNat = true) (hlen : pl.length = 10) (hmode : fieldAt pl 0 1 ≤ 3)
    (htimed : fieldAt pl 0 1 = 2 → 1 ≤ fieldAt pl 6 2 ∧ fieldAt pl 6 2 ≤ 600) (hoff : s.parN 0x280 r.toNat = 0)
    (hsweep : (s.ring r.toNat).sweeping = true) (hsend : s.canSend r.toNat ((s.ring r.toNat).port n.toNat) = true) :
    exec (.balanceManual h r n pl) s
      = .next ((s.admitted 0x0211 h ([r, n] ++ pl)).sendCmd r.toNat n.toNat 0x18 pl (some h) (fieldAt pl 0 1)) := by
  have hadm := s.admitted_same 0x0211 h ([r, n] ++ pl)
  have hform : ¬ (3 < fieldAt pl 0 1 ∨ fieldAt pl 0 1 = 2 ∧ (fieldAt pl 6 2 = 0 ∨ 600 < fieldAt pl 6 2)) := by omega
  rw [← hadm.ring_eq, ← hadm.canSend_eq] at hsend
  simp only [exec, execBalanceManual, State.wcpReq_of_passes s _ h _ _ hpass, hadm.nodeOk_eq, hadm.parN_eq, hadm.ring_eq r.toNat, hnode, hlen,
    hoff, hsweep, hform, ne_eq, not_true_eq_false, Bool.not_true, Bool.false_eq_true, or_self, if_false,
    State.hostCmd_of_canSend hsend]

/-- What a ring's timed commands ask first holds of a ring that the active sweeps and may send frames to. -/
theorem State.timedGuard_passes {s : State} {r : Nat} (hr : r < 4) (hactive : s.isActive = true) (hsweep : (s.ring r).sweeping = true)
    (hframes : s.framesOn = true) : ¬ (4 ≤ r ∨ !s.isActive ∨ !(s.ring r).sweeping ∨ !s.framesOn) := by
  simp [Nat.not_le.2 hr, hactive, hsweep, hframes]

theorem exec_balancePolicyTick_soc {s : State} {r : Nat} (hr : r < 4) (hactive : s.isActive = true) (hsweep : (s.ring r).sweeping = true)
    (hframes : s.framesOn = true) (hpolicy : s.parN 0x280 r = 1) :
    exec (.balancePolicyTick r) s = .next ((s.advanceTo ((s.now / 60000000000 + 1) * 60000000000)).balBySoc r) := by
  simp only [exec, execBalancePolicyTick, if_neg (State.timedGuard_passes hr hactive hsweep hframes), if_pos hpolicy]

theorem exec_balancePolicyTick_volt {s : State} {r t : Nat} (hr : r < 4) (hactive : s.isActive = true) (hsweep : (s.ring r).sweeping = true)
    (hframes : s.framesOn = true) (hpolicy : s.parN 0x280 r = 2) (hrest : (s.ring r).restSince = some t) :
    exec (.balancePolicyTick r) s = .next ((s.advanceTo (t + 600000000000)).balByVolt r) := by
  have hother : s.parN 0x280 r ≠ 1 := by omega
  simp only [exec, execBalancePolicyTick, if_neg (State.timedGuard_passes hr hactive hsweep hframes), if_neg hother, if_pos hpolicy, hrest]

/-! ### Open-wire tests (R151 to R155) -/

/-- The test of a tap waits on its node, for the request that asked for it. -/
def State.awaitWire (s : State) (nk : Nat) (t : OwTest) : State := s.updNode nk fun x => { x with owWait := x.owWait ++ [t] }

theorem exec_openWireRun {s : State} {h : Hdr} {r n t : Byte} (hpass : s.passes 0x0212 h false [] = true)
    (hnode : s.nodeOk r.toNat n.toNat = true) (htap : t.toNat ≤ 16) (hsweep : (s.ring r.toNat).sweeping = true) :
    exec (.openWireRun h r n t) s = .next ((((s.admitted 0x0212 h [r, n, t]).awaitWire (nodeKey r.toNat n.toNat)
      ⟨t.toNat, 0, some (opRef 0x0212 h), 0⟩).reply 0x0212 h 1).owStart (nodeKey r.toNat n.toNat)) := by
  have hadm := s.admitted_same 0x0212 h [r, n, t]
  simp only [exec, execOpenWireRun, State.wcpReq_of_passes s _ h _ _ hpass, hadm.nodeOk_eq, hadm.ring_eq, hnode, hsweep, Nat.not_lt.2 htap,
    Bool.not_true, Bool.false_eq_true, or_self, if_false, State.awaitWire]

/-- The result of the test in progress is read with OP 1 before it is used. -/
theorem exec_openWireResult {s : State} {r n : Nat} {t : OwTest} (hnode : s.nodeOk r n = true) (how : (s.node (nodeKey r n)).ow = some t)
    (hsend : s.canSend r ((s.ring r).port n) = true) (k : Nat) (lo hi : Int) : exec (.openWireResult r n k lo hi) s = .next
      (if k = 4 then s.command r n 0x1A [1, BitVec.ofNat 8 t.tap]
      else if k = 3 then ((s.command r n 0x1A [1, BitVec.ofNat 8 t.tap]).updNode (nodeKey r n) fun x =>
        { x with ow := none, owWait := t :: x.owWait }).owStart (nodeKey r n)
      else (s.command r n 0x1A [1, BitVec.ofNat 8 t.tap]).owJudge r n t lo hi) := by
  simp only [exec, execOpenWireResult, how, hnode, hsend, Bool.not_true, Bool.false_eq_true, or_self, if_false]

/-- R152: both cells beside a middle tap moved beyond the limit, so the tap is open. -/
theorem State.owJudge_open {s : State} {r : Nat} {t : OwTest} {lo hi : Int} (hlo : lo < -(s.parN 0x297 r : Int))
    (hhi : (s.parN 0x297 r : Int) < hi) (n : Nat) : s.owJudge r n t lo hi =
      (((s.updNode (nodeKey r n) fun x => { x with ow := none }).wireOpen r n t.tap).owDone t 1).owStart (nodeKey r n) := by
  simp only [State.owJudge, hlo, hhi, implies_true, and_self, decide_true, if_true]

/-- R152: both changes are within 60 mV, so the tap is not open at a limit of 60 mV or more, and the test passes. -/
theorem State.owJudge_pass {s : State} {r : Nat} {t : OwTest} {lo hi : Int} (hlo : |lo| ≤ 60) (hhi : |hi| ≤ 60) (hlim : 60 ≤ s.parN 0x297 r)
    (n : Nat) : s.owJudge r n t lo hi =
      (((s.updNode (nodeKey r n) fun x => { x with ow := none }).wirePass r n t).owDone t 0).owStart (nodeKey r n) := by
  have hclosed : ¬ ((t.tap ≠ 0 → lo < -(s.parN 0x297 r : Int)) ∧ (t.tap ≠ 16 → (s.parN 0x297 r : Int) < hi)) := by
    have hbelow := (abs_le.1 hlo).1
    have habove := (abs_le.1 hhi).2
    omega
  simp only [State.owJudge, hclosed, hlo, hhi, implies_true, and_self, decide_true, decide_false, Bool.false_eq_true, if_false, if_true]

/-- The node without the wire fault of a tap: measured again beside it, the calibration of its cells unsettled (R155). -/
def NodeSt.clearWire (x : NodeSt) (t : Nat) : NodeSt :=
  let cells := (if 1 ≤ t then [t - 1] else []) ++ if t ≤ 15 then [t] else []
  { x with wireFault := x.wireFault &&& ~~~(BitVec.ofNat 17 (2 ^ t)),
           pairMask := if 1 ≤ t ∧ t ≤ 15 then x.pairMask &&& ~~~(BitVec.ofNat 15 (2 ^ (t - 1))) else x.pairMask,
           noRoom := x.noRoom.filter fun j => j + 1 != t,
           fresh := cells.foldl (fun (m : SMap Nat) c => m.set c 0) x.fresh,
           mT := cells.foldl (fun (m : List ℚ) c => m.set c 0) x.mT, mA := cells.foldl (fun (m : List ℚ) c => m.set c 0) x.mA : NodeSt }.remask

theorem NodeSt.clearWire_wireFault (x : NodeSt) (t : Nat) :
    (x.clearWire t).wireFault = x.wireFault &&& ~~~(BitVec.ofNat 17 (2 ^ t)) := rfl

/-- A wire fault cleared at a node, whose comparators beside a middle tap return to cell mode (R155). -/
def State.clearWire (s : State) (nk t : Nat) : State :=
  let s := s.setNode nk ((s.node nk).clearWire t)
  if 1 ≤ t ∧ t ≤ 15 then s.sendPairMask nk else s

theorem State.clearWire_node (s : State) (nk t : Nat) : (s.clearWire nk t).node nk = (s.node nk).clearWire t := by
  simp only [State.clearWire]
  split
  · rw [State.sendPairMask_node, State.node_setNode_same]
  · rw [State.node_setNode_same]

theorem exec_wireFaultClear {s : State} {h : Hdr} {r n t : Byte} (hpass : s.passes 0x0213 h false [] = true)
    (hnode : s.nodeOk r.toNat n.toNat = true) (htap : t.toNat ≤ 16)
    (hfault : (s.node (nodeKey r.toNat n.toNat)).wireFault.getLsbD t.toNat = true)
    (hpassed : ((s.node (nodeKey r.toNat n.toNat)).owPass.find t.toNat).isSome = true) : exec (.wireFaultClear h r n t) s
      = .next (((s.admitted 0x0213 h [r, n, t]).clearWire (nodeKey r.toNat n.toNat) t.toNat).reply 0x0213 h 0) := by
  have hadm := s.admitted_same 0x0213 h [r, n, t]
  have htested : ((s.node (nodeKey r.toNat n.toNat)).owPass.find t.toNat).isNone = false := Option.isNone_eq_false_iff.2 hpassed
  simp only [exec, execWireFaultClear, State.wcpReq_of_passes s _ h _ _ hpass, hadm.nodeOk_eq, hadm.node_eq, hnode, hfault, htested,
    Nat.not_lt.2 htap, Bool.not_true, Bool.false_eq_true, or_self, if_false, State.clearWire, NodeSt.clearWire]

/-! ### Comparators (R158, R160) -/

theorem exec_cmpTestRun {s : State} {h : Hdr} {r n c : Byte} (hpass : s.passes 0x0214 h false [] = true)
    (hnode : s.nodeOk r.toNat n.toNat = true) (hcell : c.toNat < 16) (hsweep : (s.ring r.toNat).sweeping = true)
    (hfree : (s.ring r.toNat).cmpTest = none) (htestable : (s.node (nodeKey r.toNat n.toNat)).cmpTestable c.toNat = true) :
    exec (.cmpTestRun h r n c) s = .next ((((s.admitted 0x0214 h [r, n, c]).updRing r.toNat fun x =>
      { x with cmpTest := some (n.toNat, [(c.toNat, false), (c.toNat, true)], some (opRef 0x0214 h), 0, 0) }).reply 0x0214 h 1).cmpNext
        r.toNat) := by
  have hadm := s.admitted_same 0x0214 h [r, n, c]
  have hone : c.toNat ≠ 255 := by omega
  simp only [exec, execCmpTestRun, State.wcpReq_of_passes s _ h _ _ hpass, hadm.nodeOk_eq, hadm.node_eq, hadm.ring_eq, hnode, hsweep, hfree,
    htestable, hone, Nat.not_le.2 hcell, Option.isSome_none, Bool.not_true, Bool.false_eq_true, false_and, or_self, if_false,
    List.filter_cons_of_pos, List.filter_nil, List.flatMap_cons, List.flatMap_nil, List.append_nil]

/-- The rotation of a ring's comparator tests stands behind the test at position q, begun when it is due (log entry 195). -/
def State.rotated (s : State) (r q : Nat) : State :=
  (s.advanceTo ((s.ring r).cmpAt + s.rotNs r)).updRing r fun x =>
    { x with cmpRot := q + 1, cmpAt := (s.advanceTo ((s.ring r).cmpAt + s.rotNs r)).now }

theorem exec_cmpTestDue {s : State} {r q : Nat} (hr : r < 4) (hactive : s.isActive = true) (hsweep : (s.ring r).sweeping = true)
    (hframes : s.framesOn = true) (hnext : s.rotNext r (s.ring r).cmpRot = some q) (fired : Bool) :
    exec (.cmpTestDue r fired) s = .next (((s.rotated r q).sendCmd r (rotTest q).1 0x1B
      ([3, BitVec.ofNat 8 ((rotTest q).2.1 + if (rotTest q).2.2 then 128 else 0)] ++ List.replicate 10 0) none 5).cmpOutcome
        r (rotTest q).1 (rotTest q).2.1 (rotTest q).2.2 fired) := by
  simp only [exec, execCmpTestDue, if_neg (State.timedGuard_passes hr hactive hsweep hframes), hnext, State.rotated]

/-- The node whose thresholds are read back at the next whole second, and the rotation behind it (R158). -/
def State.readbackAsked (s : State) (r : Nat) : State :=
  ((s.advanceTo ((s.now / 1000000000 + 1) * 1000000000)).command r ((s.ring r).cmpNode % (s.ring r).n + 1) 0x1B
    (1 :: List.replicate 11 0)).updRing r fun x => { x with cmpNode := ((s.ring r).cmpNode % (s.ring r).n + 1) % x.n }

theorem State.readbackAsked_now (s : State) (r : Nat) : (s.readbackAsked r).now = (s.now / 1000000000 + 1) * 1000000000 := by
  rw [State.readbackAsked, State.updRing_now, State.standing_now (State.command_standing _ _ _ _ _)]
  show max s.now _ = _
  omega

theorem exec_cmpReadback {s : State} {r : Nat} (hr : r < 4) (hactive : s.isActive = true) (hsweep : (s.ring r).sweeping = true)
    (hn : (s.ring r).n ≠ 0) (hsend : s.canSend r ((s.ring r).port ((s.ring r).cmpNode % (s.ring r).n + 1)) = true) (ov uv hyst : Nat) :
    exec (.cmpReadback r ov uv hyst) s
      = .next ((s.readbackAsked r).judgeThresholds r ((s.ring r).cmpNode % (s.ring r).n + 1) (ov, uv, hyst)) := by
  have hguard : ¬ (4 ≤ r ∨ !s.isActive ∨ !(s.ring r).sweeping ∨ (s.ring r).n = 0
      ∨ !s.canSend r ((s.ring r).port ((s.ring r).cmpNode % (s.ring r).n + 1))) := by simp [Nat.not_le.2 hr, hactive, hsweep, hn, hsend]
  simp only [exec, execCmpReadback, if_neg hguard, State.readbackAsked]

end Sys2Proof.Machine
end

section
/-! SUPPORT. O29: cell readings, balancing, open-wire tests and comparators. -/
namespace Sys2Proof.Machine
open Sys2Proof

set_option Elab.async false

/-- Settles O29: each command passes its conditions by its own lemma, and each clause reads off what that command leaves. The rotation of the
comparator tests is assumption log entry 195. -/
theorem cellCommandsComplete : Obligations.CellCommandsComplete := by
  unfold Obligations.CellCommandsComplete
  refine ⟨?values, ?manual, ?wireRun, ?wireClear, ?cmpRun, ?wireResult, ?isOpen, ?isPassed, ?cmpDue, ?readback, ?bySoc, ?byVolt⟩
  case values =>
    intro s h r n p hpass hnode hlast
    exact ⟨_, exec_cellValues hpass hnode hlast, NodeSt.readings_length _ _⟩
  case manual =>
    intro s h r n pl hpass hnode hlen hmode htimed hoff hsweep hsend
    exact exec_balanceManual hpass hnode hlen hmode htimed hoff hsweep hsend
  case wireRun =>
    intro s h r n t hpass hnode htap hsweep
    refine ⟨_, exec_openWireRun hpass hnode htap hsweep, ?_⟩
    rw [State.awaitWire, State.node_updNode_same, (s.admitted_same _ _ _).node_eq]
  case wireClear =>
    intro s h r n t hpass hnode htap hfault hpassed
    refine ⟨_, exec_wireFaultClear hpass hnode htap hfault hpassed, ?_⟩
    rw [(State.reply_same _ _ _ _ _).node_eq, State.clearWire_node, NodeSt.clearWire_wireFault, (s.admitted_same _ _ _).node_eq]
  case cmpRun =>
    intro s h r n c hpass hnode hcell hsweep hfree htestable
    refine ⟨_, exec_cmpTestRun hpass hnode hcell hsweep hfree htestable, ?_⟩
    rw [State.ring_updRing_same _ _ ((s.nodeOk_iff _ _).1 hnode).1]
  case wireResult =>
    rintro s _ r n t k lo hi hnode how hsend rfl
    refine ⟨exec_openWireResult hnode how hsend 4 lo hi, fun hrun hasked => ?_⟩
    rw [exec_openWireResult hnode how hsend, if_neg hasked, if_neg hrun]
  case isOpen =>
    intro s r n t lo hi _ _ hlo hhi
    exact State.owJudge_open hlo hhi n
  case isPassed =>
    intro s r n t lo hi hlo hhi hlim
    exact State.owJudge_pass hlo hhi hlim n
  case cmpDue =>
    intro s r q fired hr hactive hsweep hframes hnext
    refine ⟨_, exec_cmpTestDue hr hactive hsweep hframes hnext fired, rfl, ?_, rfl⟩
    rw [State.rotated, State.ring_updRing_same _ _ hr]
  case readback =>
    intro s r ov uv hyst hr hactive hsweep hn hsend
    exact ⟨_, exec_cmpReadback hr hactive hsweep hn hsend ov uv hyst, s.readbackAsked_now r⟩
  case bySoc =>
    intro s r hr hactive hsweep hframes hpolicy
    exact exec_balancePolicyTick_soc hr hactive hsweep hframes hpolicy
  case byVolt =>
    intro s r t hr hactive hsweep hframes hpolicy hrest
    exact exec_balancePolicyTick_volt hr hactive hsweep hframes hpolicy hrest

end Sys2Proof.Machine
end

section
/-! SUPPORT. The rules that O47 and O48 turn on: what the selection of the winner answers, and what a lane's period leaves of duty and integrator. -/
namespace Sys2Proof.Machine
open Sys2Proof

/-! ### The selection of the winner (R185) -/

theorem foldl_min_least {α : Type} [LinearOrder α] (a : α) (l : List α) :
    l.foldl min a ∈ a :: l ∧ ∀ b ∈ a :: l, l.foldl min a ≤ b := List.min?_eq_some_iff.1 List.min?_cons'

/-- What the selection answers (R185): the smallest output with its code. -/
theorem selectWinner_cases {imax : Int} {cands : List (Nat × Int)} {k : Nat} {a : Int} (h : selectWinner imax cands = (k, a)) :
    a = (cands.map (·.2)).foldl min imax ∧ ((a = imax ∧ k = 0)
      ∨ (a ≠ imax ∧ k = 0 ∧ ∀ c ∈ cands, c.2 = a → c.1 = 0)
      ∨ (a ≠ imax ∧ k ≠ 0 ∧ (k, a) ∈ cands ∧ ∀ c ∈ cands, c.2 = a → c.1 ≠ 0 → k ≤ c.1)) := by
  unfold selectWinner at h
  simp only [] at h
  split at h
  next htie =>
    obtain ⟨rfl, rfl⟩ := Prod.mk.inj h
    exact ⟨rfl, .inl ⟨htie, rfl⟩⟩
  next hbelow =>
    split at h
    next hnone =>
      obtain ⟨rfl, rfl⟩ := Prod.mk.inj h
      refine ⟨rfl, .inr (.inl ⟨hbelow, rfl, fun c hc hca => ?_⟩)⟩
      by_contra hlimit
      have hin : c.1 ∈ ((cands.filter fun c => c.2 == (cands.map (·.2)).foldl min imax && c.1 != 0).map (·.1)) :=
        List.mem_map_of_mem (List.mem_filter.2 ⟨hc, by simp [hca, hlimit]⟩)
      simp [hnone] at hin
    next j js hcodes =>
      obtain ⟨rfl, rfl⟩ := Prod.mk.inj h
      obtain ⟨hmem, hleast⟩ := foldl_min_least j js
      have hcode : ∀ i, i ∈ j :: js ↔ (i, (cands.map (·.2)).foldl min imax) ∈ cands ∧ i ≠ 0 := by
        intro i
        rw [← hcodes]
        simp
      obtain ⟨hin, hlimit⟩ := (hcode _).1 hmem
      refine ⟨rfl, .inr (.inr ⟨hbelow, hlimit, hin, fun c hc hca hne => hleast _ ((hcode _).2 ⟨?_, hne⟩)⟩)⟩
      rw [← hca]
      exact hc

/-! ### A lane's period (R184, R190, R192) -/

theorem State.lanePeriod_undervolt (s : State) (c : Nat) (iM vS vB r0 : Int) :
    (s.lanePeriod c iM vS vB r0).undervolt = decide (vB < s.parQ 0x303 0x30B c ∨ vB ≤ 0) := rfl

theorem State.lanePeriod_hasDuty (s : State) (c : Nat) (iM vS vB r0 : Int) :
    (s.lanePeriod c iM vS vB r0).lane.hasDuty = !(s.lanePeriod c iM vS vB r0).undervolt := rfl

theorem State.lanePeriod_duty (s : State) (c : Nat) (iM vS vB r0 : Int) : ∃ raw, (s.lanePeriod c iM vS vB r0).lane.duty
    = if (s.lanePeriod c iM vS vB r0).undervolt then 0 else clampI (s.parI 0x307 c) (s.parI 0x308 c) raw := ⟨_, rfl⟩

theorem State.lanePeriod_iIl_of_undervolt {s : State} {c : Nat} {iM vS vB r0 : Int} (h : (s.lanePeriod c iM vS vB r0).undervolt = true) :
    (s.lanePeriod c iM vS vB r0).lane.iIl = (s.lane c).iIl := if_pos (.inr h)

theorem le_clampI {lo hi : Int} (v : Int) : lo ≤ clampI lo hi v := le_max_left _ _
theorem clampI_le {lo hi : Int} (h : lo ≤ hi) (v : Int) : clampI lo hi v ≤ hi := max_le h (min_le_left _ _)

end Sys2Proof.Machine
end

section
/-! SUPPORT. O47 and O48: the selection of the winner and a lane's duty. -/
namespace Sys2Proof.Machine
open Sys2Proof

/-- Settles O47: the answer is the least of Imax and the outputs, and each case of the selection gives its code. -/
theorem smallestOutputWins : Obligations.SmallestOutputWins := by
  unfold Obligations.SmallestOutputWins
  intro imax cands k a hsel hbound hne
  obtain ⟨rfl, hcode⟩ := selectWinner_cases hsel
  obtain ⟨hmem, hleast⟩ := foldl_min_least imax (cands.map (·.2))
  have hsmallest : ∀ c ∈ cands, (cands.map (·.2)).foldl min imax ≤ c.2 :=
    fun c hc => hleast _ (List.mem_cons_of_mem _ (List.mem_map_of_mem hc))
  have hattained : ∃ c ∈ cands, c.2 = (cands.map (·.2)).foldl min imax := by
    rcases List.mem_cons.1 hmem with htie | hin
    · obtain ⟨c, hc⟩ := List.exists_mem_of_ne_nil cands hne
      exact ⟨c, hc, le_antisymm ((hbound c hc).trans_eq htie.symm) (hsmallest c hc)⟩
    · exact List.mem_map.1 hin
  refine ⟨hsmallest, hattained, ?tie, ?below⟩
  case tie =>
    intro htie
    rcases hcode with ⟨-, h0⟩ | ⟨hbelow, -⟩ | ⟨hbelow, -⟩
    · exact h0
    · exact absurd htie hbelow
    · exact absurd htie hbelow
  case below =>
    intro hbelow
    rcases hcode with ⟨htie, -⟩ | ⟨-, rfl, hzero⟩ | ⟨-, hlimit, hin, hlowest⟩
    · exact absurd htie hbelow
    · obtain ⟨⟨code, out⟩, hc, hout⟩ := hattained
      obtain rfl : code = 0 := hzero _ hc hout
      obtain rfl : out = _ := hout
      exact ⟨hc, fun _ => hzero, fun h => absurd rfl h⟩
    · exact ⟨hin, fun h => absurd h hlimit, fun _ => hlowest⟩

/-- Settles O48: a period without under-voltage clamps its duty, one with it has none. -/
theorem dutiesStayInTheirLimits : Obligations.DutiesStayInTheirLimits := by
  unfold Obligations.DutiesStayInTheirLimits
  rintro s c iM vS vB r0 _ rfl hlimits
  have hduty := s.lanePeriod_hasDuty c iM vS vB r0
  have hunder := s.lanePeriod_undervolt c iM vS vB r0
  obtain ⟨raw, hraw⟩ := s.lanePeriod_duty c iM vS vB r0
  refine ⟨fun hhas => ?duty, fun hnone => ?none, hduty⟩
  case duty =>
    rw [hhas, Eq.comm, Bool.not_eq_true'] at hduty
    rw [hduty, Eq.comm, decide_eq_false_iff_not] at hunder
    rw [hduty, if_neg Bool.false_ne_true] at hraw
    rw [hraw]
    exact ⟨by omega, by omega, le_clampI raw, clampI_le hlimits raw⟩
  case none =>
    rw [hnone, Eq.comm, Bool.not_eq_false'] at hduty
    rw [hduty, Eq.comm, decide_eq_true_iff] at hunder
    rw [hduty, if_pos rfl] at hraw
    exact ⟨hunder, hraw, State.lanePeriod_iIl_of_undervolt hduty⟩

end Sys2Proof.Machine
end

section
/-! SUPPORT. The rules that O52 turns on: what the channels' work at an instant leaves of one channel, and what applying a running channel's
duty does. -/
namespace Sys2Proof.Machine
open Sys2Proof

set_option Elab.async false

/-! ### Folds over the channels -/

/-- What every step of a fold leaves of a view of the state, the fold leaves. -/
theorem foldl_view {α β : Type} (view : State → β) {f : State → α → State} (hf : ∀ s a, view (f s a) = view s) (l : List α) (s : State) :
    view (l.foldl f s) = view s := by
  induction l generalizing s with
  | nil => rfl
  | cons a l ih => exact (ih (f s a)).trans (hf s a)

/-- What the work on the other channels leaves alone, the work on all four leaves as that on channel c alone. -/
theorem foldl_channels_view {β : Type} (view : State → β) {f : State → Nat → State} {c : Nat} (hc : c < 4)
    (hf : ∀ s k, k < 4 → k ≠ c → view (f s k) = view s) (s : State) :
    ∃ u, view u = view s ∧ view ([0, 1, 2, 3].foldl f s) = view (f u c) := by
  simp only [List.foldl_cons, List.foldl_nil]
  match c, hc with
  | 0, _ =>
    refine ⟨s, rfl, ?_⟩
    rw [hf _ 3 (by decide) (by decide), hf _ 2 (by decide) (by decide), hf _ 1 (by decide) (by decide)]
  | 1, _ =>
    refine ⟨f s 0, hf _ 0 (by decide) (by decide), ?_⟩
    rw [hf _ 3 (by decide) (by decide), hf _ 2 (by decide) (by decide)]
  | 2, _ =>
    refine ⟨f (f s 0) 1, ?_, hf _ 3 (by decide) (by decide)⟩
    rw [hf _ 1 (by decide) (by decide), hf _ 0 (by decide) (by decide)]
  | 3, _ =>
    refine ⟨f (f (f s 0) 1) 2, ?_, rfl⟩
    rw [hf _ 2 (by decide) (by decide), hf _ 1 (by decide) (by decide), hf _ 0 (by decide) (by decide)]

/-! ### Channels and lanes -/

theorem State.ch_setCh_same (s : State) {c : Nat} (x : ChSt) (hc : c < 4) : (s.setCh c x).ch c = x := Four.get_set_same _ _ _ hc

theorem State.ch_updCh_same (s : State) {c : Nat} (f : ChSt → ChSt) (hc : c < 4) : (s.updCh c f).ch c = f (s.ch c) :=
  s.ch_setCh_same _ hc

theorem State.ch_updCh_other (s : State) {c k : Nat} (f : ChSt → ChSt) (hk : k < 4) (hc : c < 4) (hne : k ≠ c) :
    (s.updCh k f).ch c = s.ch c := Four.get_set_other _ _ hk hc hne.symm

theorem State.lane_setLane_same (s : State) {c : Nat} (x : LaneSt) (hc : c < 4) : (s.setLane c x).lane c = x := Four.get_set_same _ _ _ hc

theorem State.lane_updLane_same (s : State) {c : Nat} (f : LaneSt → LaneSt) (hc : c < 4) : (s.updLane c f).lane c = f (s.lane c) :=
  s.lane_setLane_same _ hc

theorem State.lane_updLane_other (s : State) {c k : Nat} (f : LaneSt → LaneSt) (hk : k < 4) (hc : c < 4) (hne : k ≠ c) :
    (s.updLane k f).lane c = s.lane c := Four.get_set_other _ _ hk hc hne.symm

theorem Same.loop_eq {t s : State} (g : Same t s) : t.loop = s.loop := by
  obtain ⟨-, -, -, -, -, -, hloop, -⟩ := g.fields
  exact hloop

theorem Same.lane_eq {t s : State} (g : Same t s) (c : Nat) : t.lane c = s.lane c := by simp only [State.lane, g.loop_eq]

/-! ### What drives a channel (R214, R220) -/

/-- What the application of a channel's duty turns on: the module's role and gates, the parameters, the channel and its lane. -/
structure DriveView where
  sys : SysSt
  safe : SafeSt
  twin : TwinSt
  upd : UpdSt
  params : SMap Bytes
  passed : Bool
  lane : LaneSt
  ch : ChSt

def State.driveOf (s : State) (c : Nat) : DriveView := ⟨s.sys, s.safe, s.twin, s.upd, s.wcp.params, s.loop.passed, s.lane c, s.ch c⟩

section
variable {t s : State} {c : Nat} (g : t.driveOf c = s.driveOf c)
include g

theorem State.driveOf_sys : t.sys = s.sys := congrArg DriveView.sys g
theorem State.driveOf_safe : t.safe = s.safe := congrArg DriveView.safe g
theorem State.driveOf_lane : t.lane c = s.lane c := congrArg DriveView.lane g
theorem State.driveOf_ch : t.ch c = s.ch c := congrArg DriveView.ch g

theorem State.driveOf_par (id inst : Nat) : t.par id inst = s.par id inst := by
  have hparams : t.wcp.params = s.wcp.params := congrArg DriveView.params g
  have hupd : t.upd = s.upd := congrArg DriveView.upd g
  simp only [State.par, hparams, hupd, State.driveOf_sys g]

theorem State.driveOf_parN (id inst : Nat) : t.parN id inst = s.parN id inst := by simp only [State.parN, State.driveOf_par g]

theorem State.driveOf_isActive : t.isActive = s.isActive := by simp only [State.isActive, State.driveOf_sys g]

theorem State.driveOf_gateSafe : t.gateSafe c = s.gateSafe c := by
  simp only [State.gateSafe, State.wsfPermits, State.consumed, State.wsfEntry, State.driveOf_ch g, State.driveOf_isActive g,
    State.driveOf_safe g, State.driveOf_par g]

theorem State.driveOf_gateTurnip : t.gateTurnip c = s.gateTurnip c := by
  simp only [State.gateTurnip, State.permit, State.driveOf_ch g, State.driveOf_sys g]

end

theorem Same.driveOf {t s : State} (g : Same t s) (c : Nat) : t.driveOf c = s.driveOf c := by
  obtain ⟨-, -, -, -, hsys, -, hloop, hpsi, -, -, hsafe, htwin, -, -, -, hupd⟩ := g.fields
  obtain ⟨-, hparams, -⟩ := g
  simp only [State.driveOf, State.lane, State.ch, hsys, hloop, hpsi, hsafe, htwin, hupd, hparams]

theorem State.driveOf_ite (p : Prop) [Decidable p] (t u : State) (c : Nat) :
    (if p then t else u).driveOf c = if p then t.driveOf c else u.driveOf c := apply_ite (State.driveOf · c) _ _ _

/-! ### Frames, runs, starts and stops leave what drives a channel -/

section
variable (s : State) (c : Nat)

theorem State.sendFrame_driveOf (r : Nat) (q : Bool) (type addr tag : Nat) (data : Bytes) :
    (s.sendFrame r q type addr tag data).driveOf c = s.driveOf c := by
  unfold State.sendFrame
  split
  · split <;> rfl
  · rfl

theorem State.command_driveOf (r node type : Nat) (data : Bytes) : (s.command r node type data).driveOf c = s.driveOf c := by
  simp only [State.command]
  split
  · rfl
  · rw [State.sendFrame_driveOf]
    rfl

theorem State.sendCmd_driveOf (r node type : Nat) (data : Bytes) (h : Option Hdr) (arg : Nat) :
    (s.sendCmd r node type data h arg).driveOf c = s.driveOf c := by
  simp only [State.sendCmd]
  split
  · rfl
  · exact State.command_driveOf s c r node type data

theorem State.runEnded_driveOf (r : Nat) (failed : Bool) : (s.runEnded r failed).driveOf c = s.driveOf c := by
  refine foldl_view (State.driveOf · c) (fun s q => ?_) _ _
  unfold State.runDone
  split
  · exact (State.complete_same _ _ _ _).driveOf c
  · rfl

theorem State.writeNode_driveOf (r node : Nat) : (s.writeNode r node).driveOf c = s.driveOf c := by
  unfold State.writeNode
  rw [State.sendCmd_driveOf]
  exact foldl_view (State.driveOf · c) (fun _ _ => State.command_driveOf _ _ _ _ _ _) _ _

theorem State.syncNext_driveOf (r : Nat) : (s.syncNext r).driveOf c = s.driveOf c := by
  unfold State.syncNext
  split
  · rfl
  split
  · rfl
  split
  · simp only []
    split
    · exact (State.complete_same _ _ _ _).driveOf c
    · rfl
  · exact State.writeNode_driveOf _ _ _ _

theorem State.startStatus_driveOf (k v : Nat) : (s.startStatus k v).driveOf c = s.driveOf c := by
  refine foldl_view (State.driveOf · c) (fun s r => ?_) _ _
  unfold State.startDone State.answerAll
  split
  · split
    · exact (State.fail_same _ _ _ _ _ _).driveOf c
    · exact (State.reply_same _ _ _ _ _).driveOf c
  · rfl

theorem State.stopStatus_driveOf (k how : Nat) : (s.stopStatus k how).driveOf c = s.driveOf c := by
  refine foldl_view (State.driveOf · c) (fun s r => ?_) _ _
  unfold State.stopDone
  split
  · exact (State.complete_same _ _ _ _).driveOf c
  · rfl

theorem State.zeroGen_driveOf (k : Nat) : (s.zeroGen k).driveOf c = s.driveOf c := by
  simp only [State.zeroGen, State.updGen, State.setGen]
  split <;> rfl

end

/-! ### The other channels' application -/

section
variable (s : State) {c k : Nat} (hk : k < 4) (hc : c < 4) (hne : k ≠ c)
include hk hc hne

theorem State.updCh_driveOf_other (f : ChSt → ChSt) : (s.updCh k f).driveOf c = s.driveOf c :=
  congrArg (DriveView.mk _ _ _ _ _ _ _) (s.ch_updCh_other f hk hc hne)

theorem State.updLane_driveOf_other (f : LaneSt → LaneSt) : (s.updLane k f).driveOf c = s.driveOf c :=
  congrArg (DriveView.mk _ _ _ _ _ _ · _) (s.lane_updLane_other f hk hc hne)

theorem State.abandonRun_driveOf_other (code : Nat) : (s.abandonRun k code).driveOf c = s.driveOf c := by
  unfold State.abandonRun
  split
  · rw [State.syncNext_driveOf, State.runEnded_driveOf, (State.raise_same _ _ _ _ _).driveOf]
    exact s.updLane_driveOf_other hk hc hne fun l => { l with injReq := false }
  · rfl

theorem State.endChannel_driveOf_other (state start stop : Nat) : (s.endChannel k state start stop).driveOf c = s.driveOf c := by
  simp only [State.endChannel, State.abandonRun_driveOf_other _ hk hc hne, State.stopStatus_driveOf, State.driveOf_ite,
    State.startStatus_driveOf, State.zeroGen_driveOf, State.updLane_driveOf_other _ hk hc hne, (State.inc_same _ _ _).driveOf, ite_self,
    State.updCh_driveOf_other _ hk hc hne]

theorem State.placeEdges_driveOf_other (next : Nat) : (s.placeEdges k next).driveOf c = s.driveOf c :=
  s.updCh_driveOf_other hk hc hne _

theorem State.freezeEnd_driveOf_other : (s.freezeEnd k).driveOf c = s.driveOf c := by
  unfold State.freezeEnd
  split
  · rfl
  · exact ((State.raise_same _ _ _ _ _).driveOf c).trans (s.endChannel_driveOf_other hk hc hne _ _ _)
  · exact s.updCh_driveOf_other hk hc hne _

theorem State.startApply_driveOf_other : (s.startApply k).driveOf c = s.driveOf c := by
  unfold State.startApply
  split
  · rfl
  split
  · rw [State.startStatus_driveOf, (State.inc_same _ _ _).driveOf, s.updCh_driveOf_other hk hc hne]
  · exact s.endChannel_driveOf_other hk hc hne _ _ _

theorem State.applyDuty_driveOf_other : (s.applyDuty k).driveOf c = s.driveOf c := by
  simp only [State.applyDuty]
  split
  · rfl
  split
  · exact s.updLane_driveOf_other hk hc hne _
  · rw [State.placeEdges_driveOf_other _ hk hc hne, State.updCh_driveOf_other _ hk hc hne, s.updLane_driveOf_other hk hc hne]

theorem State.applyCh_driveOf_other : (s.applyCh k).driveOf c = s.driveOf c := by
  simp only [State.applyCh, State.applyDuty_driveOf_other _ hk hc hne, State.startApply_driveOf_other _ hk hc hne, State.driveOf_ite,
    State.stopChannel, State.endChannel_driveOf_other _ hk hc hne, ite_self, s.freezeEnd_driveOf_other hk hc hne]

end

/-! ### The application of a running channel's duty (R172, R214, R220) -/

/-- A channel that runs, keeps its inputs and gates and has a duty released for it. -/
structure State.Drives (s : State) (c : Nat) (d : Int) : Prop where
  unfenced : (s.sys.lane.get c).fenced = false
  active : s.isActive = true
  running : (s.ch c).state = 2
  unfrozen : (s.ch c).freeze = none
  goesOn : (s.ch c).stopNow = false
  enabled : (s.ch c).hwDisable = false
  safeOpen : s.gateSafe c = true
  turnipOpen : s.gateTurnip c = true
  released : (s.lane c).shadow = some d

theorem State.Drives.congr {t s : State} {c : Nat} {d : Int} (h : s.Drives c d) (g : t.driveOf c = s.driveOf c) : t.Drives c d := by
  obtain ⟨hunfenced, hactive, hrunning, hunfrozen, hgoesOn, henabled, hsafe, hturnip, hreleased⟩ := h
  constructor <;> simpa only [State.driveOf_sys g, State.driveOf_isActive g, State.driveOf_ch g, State.driveOf_gateSafe g,
    State.driveOf_gateTurnip g, State.driveOf_lane g]

/-- The duty and the direction released beside it are in effect (R172). -/
def State.dutyTaken (s : State) (c : Nat) : State := s.updLane c fun l => { l with applied := l.shadow, appliedDir := l.shadowDir }

/-- The channel drives the on-time of a duty, behind that of the period before. -/
def State.dutyDriven (s : State) (c : Nat) (d : Int) : State :=
  (s.dutyTaken c).updCh c fun x => { x with driven := true, onBefore := x.onNow, onNow := s.onOf d }

/-- The edges of a period that drives duty d beside the period before, with duty d standing for the period after too (R216 to R218). -/
def State.dutyEdges (s : State) (c : Nat) (d : Int) : Four (List (Nat × Nat)) :=
  pwmEdges (pwmUnits (s.parN 0x300 0)) (s.ch c).onNow (s.onOf d) (s.onOf d) (rhe (s.parN 0x38B c * 32 / 5)).toNat (s.parN 0x38A c)
    (s.lane c).shadowDir

theorem State.ch_placeEdges_of_driven {s : State} {c : Nat} (hc : c < 4) (hdriven : (s.ch c).driven = true) (next : Nat) :
    (s.placeEdges c next).ch c = { s.ch c with
      pwm := pwmEdges (pwmUnits (s.parN 0x300 0)) (s.ch c).onBefore (s.ch c).onNow next (rhe (s.parN 0x38B c * 32 / 5)).toNat
        (s.parN 0x38A c) (s.lane c).appliedDir } := by
  have hplaces : s.places c = true := by simp [State.places, hdriven]
  rw [State.placeEdges, State.ch_updCh_same _ _ hc, if_pos hplaces]

theorem State.lane_dutyTaken (s : State) {c : Nat} (hc : c < 4) :
    (s.dutyTaken c).lane c = { s.lane c with applied := (s.lane c).shadow, appliedDir := (s.lane c).shadowDir } :=
  s.lane_updLane_same _ hc

section
variable {s : State} {c : Nat} {d : Int} (h : s.Drives c d) (hc : c < 4)
include h

/-- No frozen input, stop or start is at work on such a channel: it only takes its duty. -/
theorem State.Drives.applyCh_eq_applyDuty : s.applyCh c = s.applyDuty c := by
  simp [State.applyCh, State.freezeEnd, State.startApply, h.unfrozen, h.goesOn, h.running]

include hc

theorem State.Drives.applyDuty_eq : s.applyDuty c = (s.dutyDriven c d).placeEdges c (s.onOf d) := by
  have hdrives : (s.isActive && s.gateSafe c && s.gateTurnip c && !(s.ch c).hwDisable) = true := by
    simp [h.active, h.safeOpen, h.turnipOpen, h.enabled]
  have hshadow : ((s.dutyTaken c).lane c).shadow = some d := by rw [s.lane_dutyTaken hc, h.released]
  have hruns : ¬ (((s.ch c).state ≠ 2 ∧ (s.ch c).state ≠ 3) ∨ (s.sys.lane.get c).fenced = true) := by simp [h.running, h.unfenced]
  rw [State.dutyDriven, ← hdrives]
  simp only [State.applyDuty]
  rw [if_neg hruns]
  show (match ((s.dutyTaken c).lane c).shadow with | none => _ | some d => _) = _
  rw [hshadow]
  rfl

/-- The duty and its direction are in effect, and the outputs drive the edges of R216 to R218. -/
theorem State.Drives.driveOf_applyCh : (s.applyCh c).driveOf c = { s.driveOf c with
    lane := { s.lane c with applied := some d, appliedDir := (s.lane c).shadowDir }
    ch := { s.ch c with driven := true, onBefore := (s.ch c).onNow, onNow := s.onOf d, pwm := s.dutyEdges c d } } := by
  have hch : (s.dutyDriven c d).ch c = { s.ch c with driven := true, onBefore := (s.ch c).onNow, onNow := s.onOf d } :=
    (s.dutyTaken c).ch_updCh_same _ hc
  have hlane : (s.dutyDriven c d).lane c = _ := s.lane_dutyTaken hc
  have hplaced := State.ch_placeEdges_of_driven (s := s.dutyDriven c d) hc (by rw [hch]) (s.onOf d)
  rw [hch, hlane] at hplaced
  rw [h.released] at hlane
  rw [h.applyCh_eq_applyDuty, h.applyDuty_eq hc]
  exact congrArg₂ (DriveView.mk s.sys s.safe s.twin s.upd s.wcp.params s.loop.passed) hlane hplaced

/-- The application on all four channels leaves of channel c what its own application leaves. -/
theorem State.Drives.driveOf_allApplied : ([0, 1, 2, 3].foldl State.applyCh s).driveOf c = (s.applyCh c).driveOf c := by
  obtain ⟨u, hu, hall⟩ := foldl_channels_view (State.driveOf · c) hc (fun s k hk hne => s.applyCh_driveOf_other hk hc hne) s
  have hedges : u.dutyEdges c d = s.dutyEdges c d := by
    simp only [State.dutyEdges, State.onOf, State.driveOf_parN hu, State.driveOf_ch hu, State.driveOf_lane hu]
  have hon : u.onOf d = s.onOf d := by simp only [State.onOf, State.driveOf_parN hu]
  refine hall.trans ?_
  rw [(h.congr hu).driveOf_applyCh hc, h.driveOf_applyCh hc, hu, hedges, hon, State.driveOf_ch hu, State.driveOf_lane hu]

end

/-! ### The application instant -/

/-- The state in which the channels' duties are applied (R214). -/
def State.atApplication (s : State) : State :=
  { s.advanceTo (s.loop.base + 500) with loop := { s.loop with passed := true } }

theorem exec_applicationInstant {s : State} (hpower : s.sys.power = .p0) :
    exec .applicationInstant s = .next (([0, 1, 2, 3].foldl State.applyCh s.atApplication).openWaiting.handAt) := by
  show execApplicationInstant s = _
  rw [execApplicationInstant, if_neg (not_not.2 hpower)]
  rfl

/-- Where no output waits to open and no handover is planned, the instant ends with the channels' duties. -/
theorem State.openWaiting_handAt_leaves {s : State} (hopen : s.safe.openSoon = []) (hhand : s.twin.hand = none) :
    (∀ c, s.openWaiting.handAt.ch c = s.ch c) ∧ (∀ c, s.openWaiting.handAt.lane c = s.lane c) ∧ s.openWaiting.handAt.loop = s.loop := by
  have hopened : s.openWaiting = { s with safe := { s.safe with openSoon := [] } } := by
    rw [State.openWaiting, hopen]
    rfl
  have hstays : s.openWaiting.handAt = s.openWaiting := by
    rw [State.handAt, hopened]
    simp only [hhand]
  rw [hstays, hopened]
  exact ⟨fun _ => rfl, fun _ => rfl, rfl⟩

end Sys2Proof.Machine
end

section
/-! SUPPORT. The rules that O16 turns on: the next state of each instant of the control period, what the release leaves to a lane, and what
the lanes report. -/
namespace Sys2Proof.Machine
open Sys2Proof

set_option Elab.async false

/-! ### The control boundary (R172, R214) -/

theorem State.isStandby_of_isActive {s : State} (h : s.isActive = true) : s.isStandby = false := by
  have hlife : s.sys.lifecycle = .active := by simpa [State.isActive] using h
  simp [State.isStandby, hlife]

/-- An active's boundary waits for no copy (R384). -/
theorem State.toBoundary_of_active {s : State} (h : s.isActive = true) :
    s.toBoundary = { s.advanceTo s.nextBoundary with loop := { s.loop with
      base := s.nextBoundary, steer := s.steerLeft, period := s.loop.period + 1, stamp := ts32 s.nextBoundary, open_ := true,
      passed := false } } := by
  have hown : (s.advanceTo s.nextBoundary).isStandby = false := State.isStandby_of_isActive h
  simp [State.toBoundary, hown]

theorem State.nextBoundary_of_idle {s : State} (h : s.pwmRuns = false) : s.nextBoundary = (s.now / s.parN 0x300 0 + 1) * s.parN 0x300 0 := by
  simp [State.nextBoundary, h]

/-- The state in which the lanes compute: the boundary's values applied and every channel latched. -/
def State.latched (s : State) (m : Four DsSample) : State :=
  ([0, 1, 2, 3].foldl (fun u c => (u.latch c ((s.heardBits m).get c)).ocProcessor c)
    ((s.toBoundary.boundary .channels).boundary .reference)).streamIn ((s.toBoundary.boundary .channels).boundary .reference) (s.heardBits m)

theorem exec_controlBoundary {s : State} (hpower : s.sys.power = .p0) (m : Four DsSample) :
    exec (.controlBoundary m) s = .next (if (s.latched m).isActive || (s.latched m).isStandby then
      [0, 1, 2, 3].foldl (fun u c => u.impBoundary c) ([0, 1, 2, 3].foldl State.runLane (s.latched m)) else s.latched m) := by
  show execControlBoundary m s = _
  rw [execControlBoundary, if_neg (not_not.2 hpower)]
  rfl

/-! ### The release instant (R172, R173) -/

/-- The state in which the lanes' duties are released. -/
def State.atRelease (s : State) : State :=
  { s.advanceTo (s.loop.base + s.parN 0x300 0 * 6 / 10) with loop := { s.loop with open_ := false } }

/-- A lane that has completed its period is released. -/
def State.releaseOnTime (s : State) (c : Nat) : State := (s.updLane c fun l => { l with deadline := false }).releaseLane c

/-- What follows the lanes' release: the period's records, and on the active the state copies (R201, R250, R378, R487). -/
def State.releaseRecorded (s : State) : State :=
  let s := s.keepRecords.fbPeriod s.loop.period.toNat s.periodRecord
  let s := { s with recd := { s.recd with fb := { s.recd.fb with copy := s.loopCopyBytes } } }
  if s.isActive then s.sendCopies else s

theorem exec_releaseInstant_onTime {s : State} (hpower : s.sys.power = .p0) (hopen : s.loop.open_ = true) :
    exec (.releaseInstant 0) s = .next ([0, 1, 2, 3].foldl State.releaseOnTime s.atRelease).releaseRecorded := by
  have hgoes : ¬ ((!s.loop.open_) = true ∨ s.sys.power ≠ .p0) := by simp [hpower, hopen]
  show execReleaseInstant 0 s = _
  rw [execReleaseInstant, if_neg hgoes]
  simp only [Nat.zero_testBit, Bool.and_false, Bool.false_eq_true, if_false]
  rfl

/-- Time, an awaited release and the lanes: what the records and copies of a release leave. -/
def State.releaseView (s : State) : Nat × Bool × Four LaneSt := (s.now, s.loop.open_, s.loop.lane)

theorem Same.releaseView {t s : State} (g : Same t s) : t.releaseView = s.releaseView := by
  simp only [State.releaseView, g.now_eq, g.loop_eq]

theorem State.settle_releaseView (s : State) : s.settle.releaseView = s.releaseView := by
  unfold State.settle
  split
  · rfl
  · exact foldl_view (f := State.applyCommitted) State.releaseView (fun _ _ => rfl) _ _

theorem State.place_releaseView (s : State) (k : CopyPart) : (s.place k).releaseView = s.releaseView := by
  unfold State.place
  split
  · rfl
  split
  · rfl
  · exact State.settle_releaseView _

theorem State.copyValues_releaseView (s : State) : s.copyValues.releaseView = s.releaseView := State.place_releaseView _ _

theorem State.sendSafety_releaseView (s : State) : s.sendSafety.releaseView = s.releaseView := by
  simp only [State.sendSafety, apply_ite State.releaseView, State.place_releaseView]
  exact ite_self _

theorem State.sendCopies_releaseView (s : State) : s.sendCopies.releaseView = s.releaseView := by
  unfold State.sendCopies
  rw [State.sendSafety_releaseView]
  split <;> exact State.copyValues_releaseView _

theorem State.releaseRecorded_releaseView (s : State) : s.releaseRecorded.releaseView = s.releaseView := by
  have hrecord : (s.keepRecords.fbPeriod s.keepRecords.loop.period.toNat s.keepRecords.periodRecord).releaseView = s.releaseView :=
    (State.fbPeriod_same _ _ _).releaseView
  unfold State.releaseRecorded
  simp only []
  split
  · rw [State.sendCopies_releaseView]
    exact hrecord
  · exact hrecord

theorem State.releaseLane_leaves (s : State) (k : Nat) :
    ((s.releaseLane k).now, (s.releaseLane k).loop.open_) = (s.now, s.loop.open_) := by
  simp only [State.releaseLane]
  split
  · rfl
  · split <;> rfl

theorem State.releaseOnTime_driveOf_other (s : State) {c k : Nat} (hk : k < 4) (hc : c < 4) (hne : k ≠ c) :
    (s.releaseOnTime k).driveOf c = s.driveOf c := by
  simp only [State.releaseOnTime, State.releaseLane, State.driveOf_ite, State.placeEdges_driveOf_other _ hk hc hne,
    State.updLane_driveOf_other _ hk hc hne, ite_self]

theorem State.lane_placeEdges (s : State) (k next c : Nat) : (s.placeEdges k next).lane c = s.lane c := rfl

/-- A running channel whose inputs go on gets the duty of its period, with its direction (R172, R184). -/
theorem State.releaseLane_lane {s : State} {c : Nat} (hc : c < 4) (hrunning : (s.ch c).state = 2) (hunfrozen : (s.ch c).freeze = none) :
    (s.releaseLane c).lane c = { s.lane c with
      shadow := if (s.lane c).hasDuty then some (s.lane c).duty else none, shadowDir := (s.lane c).charge } := by
  have hruns : ¬ ((s.ch c).state = 0 ∨ (s.ch c).state = 4) := by omega
  have hgoes : ¬ (s.ch c).freeze.isSome = true := by simp [hunfrozen]
  simp only [State.releaseLane]
  rw [if_neg hruns, if_neg hgoes, State.lane_placeEdges, State.lane_updLane_same _ _ hc]

theorem State.releaseOnTime_shadow {s : State} {c : Nat} (hc : c < 4) (hrunning : (s.ch c).state = 2) (hunfrozen : (s.ch c).freeze = none) :
    ((s.releaseOnTime c).lane c).shadow = if (s.lane c).hasDuty then some (s.lane c).duty else none := by
  rw [State.releaseOnTime, State.releaseLane_lane hc, State.lane_updLane_same _ _ hc]
  · exact hrunning
  · exact hunfrozen

/-- The release on all four channels releases to each the duty of its own lane. -/
theorem State.releasedAll_shadow {s : State} {c : Nat} (hc : c < 4) (hrunning : (s.ch c).state = 2) (hunfrozen : (s.ch c).freeze = none) :
    (([0, 1, 2, 3].foldl State.releaseOnTime s).lane c).shadow = if (s.lane c).hasDuty then some (s.lane c).duty else none := by
  obtain ⟨u, hu, hall⟩ := foldl_channels_view (f := State.releaseOnTime) (State.driveOf · c) hc
    (fun s k hk hne => s.releaseOnTime_driveOf_other hk hc hne) s
  rw [← State.driveOf_ch hu] at hrunning hunfrozen
  rw [State.driveOf_lane hall, ← State.driveOf_lane hu]
  exact State.releaseOnTime_shadow hc hrunning hunfrozen

/-- The release of all lanes takes no time and leaves the awaited release as it was. -/
theorem State.releasedAll_leaves (s : State) : ([0, 1, 2, 3].foldl State.releaseOnTime s).now = s.now
    ∧ ([0, 1, 2, 3].foldl State.releaseOnTime s).loop.open_ = s.loop.open_ :=
  Prod.mk.inj (foldl_view (f := State.releaseOnTime) (fun s => (s.now, s.loop.open_)) (fun _ _ => State.releaseLane_leaves _ _) _ _)

/-! ### What the lanes report (R192, R195, R202, Table 7.11) -/

theorem exec_slowStaleTrip {s : State} {c t0 : Nat} (h : (s.lane c).staleSince = some t0) :
    exec (.slowStaleTrip c) s = .next ((s.advanceTo (t0 + s.parN 0x34A c * 1000000)).raise 0x3013 c 2) := by
  show execSlowStaleTrip c s = _
  simp only [execSlowStaleTrip, h]

theorem exec_dutySaturated {s : State} {c : Nat} (h : 5000 ≤ (s.lane c).satRun) :
    exec (.dutySaturated c) s = .next (s.raise 0x3020 c 0 (u32 (s.lane c).satRun)) := by
  show execDutySaturated c s = _
  rw [execDutySaturated, if_pos h]

theorem exec_limitActive {s : State} {c : Nat} (hlow : 1 ≤ (s.lane c).winner) (hhigh : (s.lane c).winner ≤ 7)
    (hlong : 100000000 ≤ (s.lane c).winRun * s.parN 0x300 0) (hnew : (s.lane c).limitUp ≠ some (s.lane c).winner) :
    exec (.limitActive c) s = .next
      ((s.setLane c { s.lane c with limitUp := some (s.lane c).winner }).raise 0x3030 c 0 (u8 (s.lane c).winner)) := by
  show execLimitActive c s = _
  simp only [execLimitActive]
  rw [if_pos ⟨hlow, hhigh, hlong, hnew⟩]

theorem exec_loopStatus {s : State} {h : Hdr} (m : Byte) (hpass : s.passes 0x0340 h false [] = true) :
    exec (.loopStatus h m) s = .next ((s.admitted 0x0340 h [m]).reply 0x0340 h 0
      ((bitsSet 4 m.toNat).flatMap fun c => (s.admitted 0x0340 h [m]).loop.records.get c)) := by
  show execLoopStatus h m s = _
  rw [execLoopStatus, State.wcpReq_of_passes _ _ _ _ _ hpass]

end Sys2Proof.Machine
end

section
/-! SUPPORT. O52 and O16: the application instant and the control period. -/
namespace Sys2Proof.Machine
open Sys2Proof

set_option Elab.async false

/-- Settles O52: the other channels leave what drives channel c, and its own application takes the duty. The rule that a released duty takes effect
at the instant is R172; R174 is the rounding of a product. -/
theorem runningChannelsTakeTheirDuty : Obligations.RunningChannelsTakeTheirDuty := by
  unfold Obligations.RunningChannelsTakeTheirDuty
  rintro s c d _ _ hc rfl rfl hunfenced hpower hactive hrunning hunfrozen hgoesOn henabled hsafe hturnip hreleased hhand hopen
  have hdrives : s.atApplication.Drives c d := ⟨hunfenced, hactive, hrunning, hunfrozen, hgoesOn, henabled, hsafe, hturnip, hreleased⟩
  have hview := (hdrives.driveOf_allApplied hc).trans (hdrives.driveOf_applyCh hc)
  have hexec := exec_applicationInstant hpower
  generalize [0, 1, 2, 3].foldl State.applyCh s.atApplication = u at hview hexec
  have hopenAll : u.safe.openSoon = [] := (congrArg (·.safe.openSoon) hview).trans hopen
  have hhandAll : u.twin.hand = none := (congrArg (·.twin.hand) hview).trans hhand
  obtain ⟨hchEnd, hlaneEnd, hloopEnd⟩ := State.openWaiting_handAt_leaves hopenAll hhandAll
  refine ⟨_, hexec, ?_⟩
  rw [hchEnd, hlaneEnd, hloopEnd]
  exact ⟨congrArg (·.ch.driven) hview, congrArg (·.ch.pwm) hview, congrArg (·.lane.applied) hview,
    (congrArg (·.ch.state) hview).trans hrunning, congrArg (·.passed) hview⟩

/-- Settles O16: each instant's next state is named by its own lemma, and each clause reads off what it leaves. -/
theorem controlPeriodCompletes : Obligations.ControlPeriodCompletes := by
  unfold Obligations.ControlPeriodCompletes
  refine ⟨?boundary, ?release, ?application, ?trip, fun s c hrun => exec_dutySaturated hrun, ?limit, ?status⟩
  case boundary =>
    rintro s m _ hpower hactive rfl
    refine ⟨exec_controlBoundary hpower m, ?_⟩
    rw [State.toBoundary_of_active hactive]
    exact ⟨rfl, rfl, rfl, rfl, rfl, State.nextBoundary_of_idle⟩
  case release =>
    intro s hpower hopen
    obtain ⟨hnow, hopened⟩ := s.atRelease.releasedAll_leaves
    have hview := ([0, 1, 2, 3].foldl State.releaseOnTime s.atRelease).releaseRecorded_releaseView
    refine ⟨_, exec_releaseInstant_onTime hpower hopen, ?opened, ?now, ?duties⟩
    case opened => exact (congrArg (·.2.1) hview).trans hopened
    case now => exact (congrArg Prod.fst hview).trans hnow
    case duties =>
      intro c hc hrunning hunfrozen
      have hlane := congrArg (fun x => (x.2.2.get c).shadow) hview
      exact hlane.trans (State.releasedAll_shadow hc hrunning hunfrozen)
  case application =>
    intro s hpower
    exact ⟨s.atApplication, exec_applicationInstant hpower, rfl, rfl, rfl, rfl⟩
  case trip =>
    intro s c t0 hsince
    refine ⟨_, exec_slowStaleTrip hsince, State.raise_waits _ _ _ _ _ (by decide), ?_, ?_⟩
    · exact (State.raise_same _ _ _ _ _).now_eq
    · exact (State.raise_same _ _ _ _ _).loop_eq
  case limit =>
    intro s c hc hlow hhigh hlong hnew
    refine ⟨_, exec_limitActive hlow hhigh hlong hnew, ?_⟩
    rw [(State.raise_same _ _ _ _ _).lane_eq, State.lane_setLane_same _ _ hc]
  case status =>
    rintro s h m _ hpass rfl
    exact exec_loopStatus m hpass

end Sys2Proof.Machine
end

section
/-! SUPPORT. The rules that O53 turns on: one state's channels drive only where another's do (08 R220), and how writes to a channel, folds, resets and
checked requests carry this. -/
namespace Sys2Proof.Machine
open Sys2Proof

/-- Only channels that drive their outputs in y drive them in x. -/
def DrivenWithin (x y : Four ChSt) : Prop := ∀ k, (x.get k).driven = true → (y.get k).driven = true

/-- The channels of s drive within y, and two states agree on chapter 8. The conditions of the lemmas below are stated by these, which `simp` unfolds
by the two lemmas that follow. -/
def State.DrivesWithin (s : State) (y : Four ChSt) : Prop := DrivenWithin s.psi.ch y
def PsiKept (t s : State) : Prop := t.psi = s.psi

@[simp] theorem State.drivesWithin_iff {s : State} {y : Four ChSt} : s.DrivesWithin y ↔ DrivenWithin s.psi.ch y := ⟨id, id⟩
@[simp] theorem psiKept_iff {t s : State} : PsiKept t s ↔ t.psi = s.psi := ⟨id, id⟩

theorem State.DrivesWithin.ch {s : State} {y : Four ChSt} (h : s.DrivesWithin y) : DrivenWithin s.psi.ch y := h

@[simp] theorem DrivenWithin.refl (x : Four ChSt) : DrivenWithin x x := fun _ => id

theorem DrivenWithin.trans {x y z : Four ChSt} (h : DrivenWithin x y) (g : DrivenWithin y z) : DrivenWithin x z := fun k hk => g k (h k hk)

@[simp] theorem State.psi_ite (c : Prop) [Decidable c] (t u : State) : (if c then t else u).psi = if c then t.psi else u.psi := apply_ite _ _ _ _
@[simp] theorem PsiSt.ch_ite (c : Prop) [Decidable c] (x y : PsiSt) : (if c then x else y).ch = if c then x.ch else y.ch := apply_ite _ _ _ _

@[simp] theorem drivenWithin_ite (c : Prop) [Decidable c] (x y z : Four ChSt) :
    DrivenWithin (if c then x else y) z ↔ if c then DrivenWithin x z else DrivenWithin y z := by split <;> rfl

theorem Same.psi_eq {t s : State} (h : Same t s) : t.psi = s.psi := by
  obtain ⟨-, -, -, -, -, -, -, hpsi, -⟩ := h.fields
  exact hpsi

/-! ### Writes to channels -/

/-- A member read after one is written: as it was, or the value written in its place. -/
theorem Four.get_set_cases {α : Type} (f : Four α) (i j : Nat) (v : α) :
    (f.set i v).get j = f.get j ∨ (f.set i v).get j = v ∧ f.get j = f.get i := by
  unfold Four.set Four.get
  split <;> split <;> simp_all

theorem drivenWithin_map {x : Four ChSt} {f : ChSt → ChSt} (hf : ∀ x, (f x).driven = true → x.driven = true) : DrivenWithin (x.map f) x := by
  intro k hk
  unfold Four.get at hk ⊢
  split at hk <;> exact hf _ hk

/-- The reset state of chapter 8 drives nothing. -/
theorem drivenWithin_reset (y : Four ChSt) : DrivenWithin ({} : PsiSt).ch y := by
  intro k hk
  unfold Four.get at hk
  split at hk <;> cases hk

@[simp] theorem ChSt.pwmOff_driven (x : ChSt) : x.pwmOff.driven = false := rfl

section
variable {s : State} {y : Four ChSt} (h : s.DrivesWithin y)
include h

@[simp] theorem State.setCh_drivenWithin {c : Nat} {x : ChSt} (hx : x.driven = true → (s.ch c).driven = true) :
    DrivenWithin (s.setCh c x).psi.ch y := by
  intro k hk
  obtain hkept | ⟨hwritten, hplace⟩ := Four.get_set_cases s.psi.ch c k x
  · exact h k (hkept ▸ hk)
  · exact h k (hplace ▸ hx (hwritten ▸ hk))

@[simp] theorem State.updCh_drivenWithin {f : ChSt → ChSt} (hf : ∀ x, (f x).driven = true → x.driven = true) (c : Nat) :
    DrivenWithin (s.updCh c f).psi.ch y := State.setCh_drivenWithin h (hf _)

/-! ### Folds and requests -/

@[simp] theorem State.foldl_drivenWithin {α : Type} {f : State → α → State} (hf : ∀ s a, (f s a).DrivesWithin s.psi.ch) (l : List α) :
    DrivenWithin (l.foldl f s).psi.ch y := by
  induction l generalizing s with
  | nil => exact h
  | cons a l ih => exact ih ((hf s a).trans h)

/-- A request whose meaning lets no channel begin to drive does so whatever the checks decide. -/
@[simp] theorem State.wcpRun_drivenWithin {op : Nat} {hd : Hdr} {pl : Bytes} {energise : Bool} {blocks : List Nat} {body : State → State}
    (hb : ∀ u, (body u).DrivesWithin u.psi.ch) : DrivenWithin (s.wcpRun op hd pl energise blocks body).psi.ch y := by
  have hbody : ∀ u, Same u s → DrivenWithin (body u).psi.ch y := fun u hu => (hb u).trans (hu.psi_eq ▸ h)
  obtain g | ⟨u, hu, g | g⟩ := State.wcpRun_cases s op hd pl energise blocks body
  · exact g.psi_eq ▸ h
  · exact g ▸ hbody u hu
  · exact g ▸ hbody u hu

end

/-- A reset of the dies leaves no channel driving (03 R68). -/
@[simp] theorem State.restart_drivenWithin (s : State) (cause : Nat) (y : Four ChSt) : DrivenWithin (s.restart cause).psi.ch y := drivenWithin_reset y

@[simp] theorem State.foldl_psi {α : Type} {f : State → α → State} (hf : ∀ s a, PsiKept (f s a) s) (l : List α) (s : State) :
    (l.foldl f s).psi = s.psi := foldl_view State.psi hf l s

@[simp] theorem State.wcpRun_psi (s : State) (op : Nat) (h : Hdr) (pl : Bytes) (energise : Bool) (blocks : List Nat) (body : State → State)
    (hb : ∀ u, PsiKept (body u) u) : (s.wcpRun op h pl energise blocks body).psi = s.psi := by
  obtain g | ⟨u, hu, g | g⟩ := State.wcpRun_cases s op h pl energise blocks body
  · exact g.psi_eq
  · rw [g]; exact (hb u).trans hu.psi_eq
  · rw [g]; exact ((State.guestOut_same _).psi_eq.trans (hb u)).trans hu.psi_eq

@[simp] theorem State.wcpReq_psi (s : State) (op : Nat) (h : Hdr) (pl : Bytes) (body : State → State)
    (hb : ∀ u, PsiKept (body u) u) : (s.wcpReq op h pl body).psi = s.psi := s.wcpRun_psi op h pl false [] body hb

end Sys2Proof.Machine
end

section
/-! SUPPORT. The operations that leave chapter 8 alone (the lemmas named _psi), in the order of the model's files. -/
namespace Sys2Proof.Machine
open Sys2Proof

section
variable (s : State)

/-! ### Ring commands, runs and channels -/

@[simp] theorem State.raise_psi (code inst sev data) : (s.raise code inst sev data).psi = s.psi :=
  (State.raise_same s code inst sev data).psi_eq
@[simp] theorem State.complete_psi (op status result) : (s.complete op status result).psi = s.psi :=
  (State.complete_same s op status result).psi_eq
@[simp] theorem State.reply_psi (op h status body) : (s.reply op h status body).psi = s.psi :=
  (State.reply_same s op h status body).psi_eq

@[simp] theorem State.fail_psi (op h status detail aux) : (s.fail op h status detail aux).psi = s.psi :=
  (State.fail_same s op h status detail aux).psi_eq

@[simp] theorem State.sendFrame_psi (r q type addr tag data) : (s.sendFrame r q type addr tag data).psi = s.psi := by
  unfold State.sendFrame
  split <;> simp

@[simp] theorem State.command_psi (r node type data) : (s.command r node type data).psi = s.psi := by simp [State.command]
@[simp] theorem State.sendCmd_psi (r node type data h arg) : (s.sendCmd r node type data h arg).psi = s.psi := by simp [State.sendCmd]
@[simp] theorem State.withdraw_psi (r) : (s.withdraw r).psi = s.psi := by simp [State.withdraw]
@[simp] theorem State.runDone_psi (q) : (s.runDone q).psi = s.psi := by simp [State.runDone]
@[simp] theorem State.runEnded_psi (r failed) : (s.runEnded r failed).psi = s.psi :=
  foldl_psi State.runDone_psi _ _
@[simp] theorem State.writeNode_psi (r node) : (s.writeNode r node).psi = s.psi := by simp [State.writeNode]

@[simp] theorem State.syncNext_psi (r) : (s.syncNext r).psi = s.psi := by
  unfold State.syncNext
  split
  · rfl
  split
  · rfl
  split
  · simp only []
    split
    · simp
    · simp
  · exact State.writeNode_psi _ _ _

@[simp] theorem State.abandonRun_psi (r code) : (s.abandonRun r code).psi = s.psi := by simp [State.abandonRun]
@[simp] theorem State.answerAll_psi (op h l) : (s.answerAll op h l).psi = s.psi := by simp [State.answerAll]
@[simp] theorem State.zeroGen_psi (c) : (s.zeroGen c).psi = s.psi := State.setGen_psi _ _ _
@[simp] theorem State.recordBreak_psi (r pair) : (s.recordBreak r pair).psi = s.psi := by simp [State.recordBreak, apply_ite State.psi]
@[simp] theorem State.masterPortLost_psi (r q) : (s.masterPortLost r q).psi = s.psi := by simp [State.masterPortLost, apply_ite State.psi]
@[simp] theorem State.dropUnit_psi (cluster unit) : (s.dropUnit cluster unit).psi = s.psi := by simp [State.dropUnit]
@[simp] theorem State.afterReset_psi (failed lost) : (s.afterReset failed lost).psi = s.psi := by simp [State.afterReset, apply_ite State.psi]
@[simp] theorem State.dieFault_psi (d) : (s.dieFault d).psi = s.psi := State.raise_psi _ _ _ _ _

/-! ### Shared operations -/

@[simp] theorem State.post_psi (p) : (s.post p).psi = s.psi := by simp [State.post]

@[simp] theorem State.sendBatch_psi (id b) : (s.sendBatch id b).psi = s.psi := by
  unfold State.sendBatch
  split <;> simp

@[simp] theorem State.closeBatch_psi (id) : (s.closeBatch id).psi = s.psi := by
  unfold State.closeBatch
  split <;> simp

@[simp] theorem State.deliver_psi (e) : (s.deliver e).psi = s.psi := by simp [State.deliver]
@[simp] theorem State.forget_psi (seq) : (s.forget seq).psi = s.psi := by simp [State.forget]
@[simp] theorem State.enqueueRec_psi (r) : (s.enqueueRec r).psi = s.psi := by simp [State.enqueueRec]
@[simp] theorem State.fbPush_psi (type time payload) : (s.fbPush type time payload).psi = s.psi := by simp [State.fbPush]
@[simp] theorem State.fbEvent_psi (kind data) : (s.fbEvent kind data).psi = s.psi := by simp [State.fbEvent]
@[simp] theorem State.fbPeriod_psi (k r) : (s.fbPeriod k r).psi = s.psi := by simp [State.fbPeriod]
@[simp] theorem State.fbTrigger_psi (seq code) : (s.fbTrigger seq code).psi = s.psi := by simp [State.fbTrigger]
@[simp] theorem State.recordPlain_psi (f) : (s.recordPlain f).psi = s.psi := by simp [State.recordPlain]
@[simp] theorem State.record_psi (f) : (s.record f).psi = s.psi := by simp [State.record]

@[simp] theorem State.raiseWith_psi (code inst sev data parent strings) : (s.raiseWith code inst sev data parent strings).psi = s.psi :=
  (State.raiseWith_same s code inst sev data parent strings).psi_eq

@[simp] theorem State.completeWith_psi (op status result extra) : (s.completeWith op status result extra).psi = s.psi := by simp [State.completeWith]
@[simp] theorem State.bistRunEnd_psi (r) : (s.bistRunEnd r).psi = s.psi := by simp [State.bistRunEnd]

@[simp] theorem State.bistEnd_psi (code outcome count startup preempted) : (s.bistEnd code outcome count startup preempted).psi = s.psi := by
  simp [State.bistEnd]

@[simp] theorem State.needTest_psi (code) : (s.needTest code).psi = s.psi := by simp [State.needTest]
@[simp] theorem State.passBlock_psi (code) : (s.passBlock code).psi = s.psi := by simp [State.passBlock]
@[simp] theorem State.preempt_psi : s.preempt.psi = s.psi := by simp [State.preempt]
@[simp] theorem State.fieldOff_psi : s.fieldOff.psi = s.psi := by simp [State.fieldOff]
@[simp] theorem State.canClear_psi (c) : (s.canClear c).psi = s.psi := by simp [State.canClear]

/-! ### Packets -/

@[simp] theorem State.guestIn_psi (op h) : (s.guestIn op h).psi = s.psi := by simp [State.guestIn]
@[simp] theorem State.guestOut_psi : s.guestOut.psi = s.psi := by simp [State.guestOut]
@[simp] theorem State.failAll_psi (op h pl status detail aux) : (s.failAll op h pl status detail aux).psi = s.psi := by simp [State.failAll]
@[simp] theorem State.accept_psi (h) : (s.accept h).psi = s.psi := by simp [State.accept]
@[simp] theorem State.authFail_psi : s.authFail.psi = s.psi := (State.authFail_same s).psi_eq
@[simp] theorem State.forwardReq_psi (op h pl) : (s.forwardReq op h pl).psi = s.psi := by simp [State.forwardReq]

@[simp] theorem State.refuse_psi (op h pl v) : (s.refuse op h pl v).psi = s.psi := by
  unfold State.refuse
  split <;> simp

@[simp] theorem State.enqueue_psi (w) : (s.enqueue w).psi = s.psi := by simp [State.enqueue]

/-! ### Blocks of parameters -/

@[simp] theorem State.applyValue_psi (v) : (s.applyValue v).psi = s.psi := by simp [State.applyValue]
@[simp] theorem State.applyCommitted_psi (v) : (s.applyCommitted v).psi = s.psi := by simp [State.applyCommitted]
@[simp] theorem State.applyWaiting_psi (b) : (s.applyWaiting b).psi = s.psi := by simp [State.applyWaiting]
@[simp] theorem State.applyTwin_psi (b) : (s.applyTwin b).psi = s.psi := by simp [State.applyTwin]

@[simp] theorem State.boundary_psi (b) : (s.boundary b).psi = s.psi := by
  simp only [State.boundary]
  split <;> simp

/-! ### Flags and copies -/

@[simp] theorem State.settle_psi : s.settle.psi = s.psi := by
  unfold State.settle
  split <;> simp

@[simp] theorem State.settleTwin_psi : s.settleTwin.psi = s.psi := by simp [State.settleTwin]

@[simp] theorem State.place_psi (k) : (s.place k).psi = s.psi := by
  unfold State.place
  split <;> simp

@[simp] theorem State.copyValues_psi : s.copyValues.psi = s.psi := by simp [State.copyValues]

/-! ### Ring traffic -/

@[simp] theorem State.sendBoth_psi (r type data) : (s.sendBoth r type data).psi = s.psi := by simp [State.sendBoth]
@[simp] theorem State.syncOut_psi (r flags fine depart) : (s.syncOut r flags fine depart).psi = s.psi := by simp [State.syncOut]

@[simp] theorem State.hostCmd_psi (r node type : Nat) (data : Bytes) (h : Hdr) (arg : Nat) (refuse : State → State) (hr : ∀ u, PsiKept (refuse u) u) :
    (s.hostCmd r node type data h arg refuse).psi = s.psi := by
  unfold State.hostCmd
  split
  · exact State.sendCmd_psi _ _ _ _ _ _ _
  · exact hr s

@[simp] theorem State.broadcast_psi (r type data) : (s.broadcast r type data).psi = s.psi := by simp [State.broadcast]

/-! ### Parameters -/

@[simp] theorem State.dropWaiting_psi (v) : (s.dropWaiting v).psi = s.psi := by simp [State.dropWaiting]
@[simp] theorem State.acceptValue_psi (v) : (s.acceptValue v).psi = s.psi := by simp [State.acceptValue]
@[simp] theorem State.clearUnitErr_psi (inst v) : (s.clearUnitErr inst v).psi = s.psi := by simp [State.clearUnitErr]
@[simp] theorem State.unfence_psi (inst) : (s.unfence inst).psi = s.psi := by simp [State.unfence]
@[simp] theorem State.clearCause_psi (v) : (s.clearCause v).psi = s.psi := by simp [State.clearCause]
@[simp] theorem State.shadowSet_psi (sid v) : (s.shadowSet sid v).psi = s.psi := by simp [State.shadowSet]
@[simp] theorem State.wrote_psi : s.wrote.psi = s.psi := by simp [State.wrote]

@[simp] theorem State.writeEntry_psi (h e) : (s.writeEntry h e).psi = s.psi := by
  simp only [State.writeEntry]
  split <;> simp

@[simp] theorem State.entriesReply_psi (op h status bad n body) : (s.entriesReply op h status bad n body).psi = s.psi := by simp [State.entriesReply]

@[simp] theorem State.setEntries_psi (h es) : (s.setEntries h es).psi = s.psi := by
  simp only [State.setEntries]
  split <;> simp

@[simp] theorem State.storeParams_psi : s.storeParams.psi = s.psi := by simp [State.storeParams]

@[simp] theorem State.beginCommit_psi (h) : (s.beginCommit h).psi = s.psi := by
  unfold State.beginCommit
  (repeat' split) <;> simp

@[simp] theorem State.nextCommit_psi (l) : (s.nextCommit l).psi = s.psi := by
  induction l generalizing s with
  | nil => rfl
  | cons h t ih => simp [State.nextCommit, ih]

@[simp] theorem State.snapRing_psi (r slot instant rode) : (s.snapRing r slot instant rode).psi = s.psi := by simp [State.snapRing]
@[simp] theorem State.sendCounters_psi (num) : (s.sendCounters num).psi = s.psi := by simp [State.sendCounters]

/-! ### Lanes -/

@[simp] theorem State.keepRecords_psi : s.keepRecords.psi = s.psi := by simp [State.keepRecords]

/-! ### Profiles and axes -/

@[simp] theorem State.updGen_psi (g f) : (s.updGen g f).psi = s.psi := by simp [State.updGen]
@[simp] theorem State.tickGen_psi (g l) : (s.tickGen g l).psi = s.psi := by simp [State.tickGen]
@[simp] theorem State.retarget_psi (g tgt) : (s.retarget g tgt).psi = s.psi := by simp [State.retarget]
@[simp] theorem State.estop_psi (g) : (s.estop g).psi = s.psi := by simp [State.estop]
@[simp] theorem State.tickRef_psi (c) : (s.tickRef c).psi = s.psi := by simp [State.tickRef]
@[simp] theorem State.refTick_psi (c) : (s.refTick c).psi = s.psi := by simp [State.refTick]
@[simp] theorem State.energise_psi (a) : (s.energise a).psi = s.psi := by simp [State.energise]

@[simp] theorem State.endRuns_psi (a) : (s.endRuns a).psi = s.psi := by
  simp only [State.endRuns]
  (repeat' split) <;> simp

@[simp] theorem State.deenergise_psi (a) : (s.deenergise a).psi = s.psi := by simp [State.deenergise]

@[simp] theorem State.stallAct_psi (a) : (s.stallAct a).psi = s.psi := by
  unfold State.stallAct
  split <;> simp

@[simp] theorem State.stall_psi (a) : (s.stall a).psi = s.psi := by
  simp only [State.stall]
  (repeat' split) <;> simp

@[simp] theorem State.homeEvent_psi (a r) : (s.homeEvent a r).psi = s.psi := by simp [State.homeEvent]

@[simp] theorem State.reading_psi (a ratio) : (s.reading a ratio).psi = s.psi := by
  simp only [State.reading]
  (repeat' split) <;> simp

@[simp] theorem State.homeStep_psi (a) : (s.homeStep a).psi = s.psi := by
  unfold State.homeStep
  split <;> simp

@[simp] theorem State.calStep_psi (a) : (s.calStep a).psi = s.psi := by
  unfold State.calStep
  (repeat' split) <;> simp

@[simp] theorem State.fireEnergise_psi (a) : (s.fireEnergise a).psi = s.psi := by simp [State.fireEnergise]
@[simp] theorem State.axisTick_psi (a) : (s.axisTick a).psi = s.psi := by simp [State.axisTick]
@[simp] theorem State.stopAxes_psi : s.stopAxes.psi = s.psi := by simp [State.stopAxes]
@[simp] theorem State.fireAxis_psi (a) : (s.fireAxis a).psi = s.psi := by simp [State.fireAxis]
@[simp] theorem State.sf4_psi : s.sf4.psi = s.psi := by simp [State.sf4]
@[simp] theorem State.sf4Clear_psi : s.sf4Clear.psi = s.psi := by simp [State.sf4Clear]

/-! ### Sessions -/

@[simp] theorem State.takeRequest_psi (h op pl) : (s.takeRequest h op pl).psi = s.psi := by
  unfold State.takeRequest
  (repeat' split) <;> simp

@[simp] theorem State.assemble0_psi (h op pl) : (s.assemble0 h op pl).psi = s.psi := by
  simp only [State.assemble0]
  split <;> simp

@[simp] theorem State.assemble_psi (h op pl) : (s.assemble h op pl).psi = s.psi := by
  unfold State.assemble
  (repeat' split) <;> simp

@[simp] theorem State.receive_psi (t peer bs) : (s.receive t peer bs).psi = s.psi := by
  simp only [State.receive]
  (repeat' split) <;> simp

@[simp] theorem State.datagram_psi (t peer key offset more bytes) : (s.datagram t peer key offset more bytes).psi = s.psi := by
  simp only [State.datagram]
  (repeat' split) <;> simp

/-! ### Networks and time -/

@[simp] theorem State.ethOut_psi (p kind data) : (s.ethOut p kind data).psi = s.psi := by simp [State.ethOut]
@[simp] theorem State.dropFrame_psi (f) : (s.dropFrame f).psi = s.psi := by simp [State.dropFrame]

@[simp] theorem State.ethIn_psi (f : EthIn) (act : State → State) (ha : ∀ u, PsiKept (act u) u) : (s.ethIn f act).psi = s.psi := by
  have ha : ∀ u, (act u).psi = u.psi := ha
  simp [State.ethIn, ha]

@[simp] theorem State.plantOut_psi (kind data) : (s.plantOut kind data).psi = s.psi := by simp [State.plantOut]
@[simp] theorem State.wrongLan_psi : s.wrongLan.psi = s.psi := by simp [State.wrongLan]
@[simp] theorem State.steer_psi (y) : (s.steer y).psi = s.psi := by simp [State.steer]
@[simp] theorem State.servoLock_psi : s.servoLock.psi = s.psi := by simp [State.servoLock]
@[simp] theorem State.servoHold_psi : s.servoHold.psi = s.psi := by simp [State.servoHold]

@[simp] theorem State.ptpIn_psi (f : EthIn) (m : PtpHdr) (kinds : List Nat) (act : State → State) (ha : ∀ u, PsiKept (act u) u) :
    (s.ptpIn f m kinds act).psi = s.psi := by
  have ha : ∀ u, (act u).psi = u.psi := ha
  simp [State.ptpIn, ha]

@[simp] theorem State.reselect_psi : s.reselect.psi = s.psi := by simp [State.reselect]
@[simp] theorem State.lostSync_psi : s.lostSync.psi = s.psi := by simp [State.lostSync]
@[simp] theorem State.announceStep_psi (d) : (s.announceStep d).psi = s.psi := by simp [State.announceStep]
@[simp] theorem State.servoRun_psi (o interval good) : (s.servoRun o interval good).psi = s.psi := by simp [State.servoRun]
@[simp] theorem State.jumpSync_psi (o) : (s.jumpSync o).psi = s.psi := by simp [State.jumpSync]

@[simp] theorem State.jumpOver_psi : s.jumpOver.psi = s.psi := by
  simp only [State.jumpOver]
  split <;> simp

@[simp] theorem State.servoSync_psi (o interval good) : (s.servoSync o interval good).psi = s.psi := by
  simp only [State.servoSync]
  (repeat' split) <;> simp

@[simp] theorem State.portDiff_psi (port o) : (s.portDiff port o).psi = s.psi := by
  simp only [State.portDiff]
  (repeat' split) <;> simp

@[simp] theorem State.takeDelay_psi (port d) : (s.takeDelay port d).psi = s.psi := by simp [State.takeDelay]
@[simp] theorem State.steerTwin_psi (d) : (s.steerTwin d).psi = s.psi := by simp [State.steerTwin]
@[simp] theorem State.servoTakeover_psi : s.servoTakeover.psi = s.psi := by simp [State.servoTakeover]
@[simp] theorem State.netOff_psi : s.netOff.psi = s.psi := by simp [State.netOff]
@[simp] theorem State.queueLaunch_psi (p f) : (s.queueLaunch p f).psi = s.psi := by simp [State.queueLaunch]
@[simp] theorem State.sendWaiting_psi (p) : (s.sendWaiting p).psi = s.psi := by simp [State.sendWaiting]

@[simp] theorem State.launchLate_psi (port) : (s.launchLate port).psi = s.psi := by
  simp only [State.launchLate]
  (repeat' split) <;> simp

@[simp] theorem State.flushPast_psi (p) : (s.flushPast p).psi = s.psi := by simp [State.flushPast]

/-! ### The estimator -/

@[simp] theorem State.pushAt_psi (c t x) : (s.pushAt c t x).psi = s.psi := by simp [State.pushAt]
@[simp] theorem State.pushSample_psi (c x) : (s.pushSample c x).psi = s.psi := by simp [State.pushSample]
@[simp] theorem State.raiseCell_psi (code k sev rest) : (s.raiseCell code k sev rest).psi = s.psi := by simp [State.raiseCell]

@[simp] theorem State.cellCycle_psi (k u0 u1 qs sweeps upd) : (s.cellCycle k u0 u1 qs sweeps upd).psi = s.psi := by
  unfold State.cellCycle
  extract_lets r node e c0 c1 m temp ip seen qbal dtS q cap lost
  have hseen : seen.psi = s.psi := by simp [seen]
  split
  extract_lets
  split
  · simp [lost, hseen]
  · split
    split
    simp +zetaDelta only [State.psi_ite, State.raiseCell_psi, State.inc_psi, ite_self]

@[simp] theorem State.ringCycle_psi (r) : (s.ringCycle r).psi = s.psi := by simp [State.ringCycle]

@[simp] theorem State.takePart_psi (r part b) : (s.takePart r part b).psi = s.psi := by
  unfold State.takePart
  split <;> simp

@[simp] theorem State.dropExchange_psi (r) : (s.dropExchange r).psi = s.psi := by simp [State.dropExchange]

@[simp] theorem State.takeEstCopy_psi : s.takeEstCopy.psi = s.psi := by
  simp only [State.takeEstCopy]
  (repeat' split) <;> simp

@[simp] theorem State.fuse_psi (r) : (s.fuse r).psi = s.psi := by simp [State.fuse]
@[simp] theorem State.stringFigures_psi (r) : (s.stringFigures r).psi = s.psi := by simp [State.stringFigures]
@[simp] theorem State.attributeCell_psi (k) : (s.attributeCell k).psi = s.psi := by simp [State.attributeCell]
@[simp] theorem State.anchorRequest_psi (r) : (s.anchorRequest r).psi = s.psi := by simp [State.anchorRequest]
@[simp] theorem State.healthCell_psi (k median) : (s.healthCell k median).psi = s.psi := by simp [State.healthCell]
@[simp] theorem State.health_psi (r) : (s.health r).psi = s.psi := by simp [State.health]
@[simp] theorem State.sendCopy_psi : s.sendCopy.psi = s.psi := by simp [State.sendCopy]
@[simp] theorem State.becomeSuspect_psi : s.becomeSuspect.psi = s.psi := by simp [State.becomeSuspect]
@[simp] theorem State.judgeDigest_psi (m r) : (s.judgeDigest m r).psi = s.psi := by simp [State.judgeDigest]

@[simp] theorem State.compareEst_psi : s.compareEst.psi = s.psi := by
  unfold State.compareEst
  split <;> simp

@[simp] theorem State.cycleSent_psi : s.cycleSent.psi = s.psi := by simp [State.cycleSent]

@[simp] theorem State.compSweep_psi (r ip held) : (s.compSweep r ip held).psi = s.psi := by
  unfold State.compSweep
  refine State.foldl_psi (fun s node => State.foldl_psi (fun s j => ?_) _ s) _ _
  simp only [psiKept_iff]
  split <;> simp

@[simp] theorem State.compWarn_psi (r) : (s.compWarn r).psi = s.psi := by
  simp only [State.compWarn]
  split <;> simp

@[simp] theorem State.pushSweep_psi (r w) : (s.pushSweep r w).psi = s.psi := by simp [State.pushSweep]
@[simp] theorem State.persistEst_psi (bad) : (s.persistEst bad).psi = s.psi := by simp [State.persistEst]

@[simp] theorem State.restoreRing_psi (r) : (s.restoreRing r).psi = s.psi := by
  simp only [State.restoreRing]
  split <;> simp

@[simp] theorem State.restoreEst_psi : s.restoreEst.psi = s.psi := by simp [State.restoreEst]
@[simp] theorem State.stopEst_psi : s.stopEst.psi = s.psi := by simp [State.stopEst]

/-! ### Impedance runs and identities -/

@[simp] theorem State.startRun_psi (r) : (s.startRun r).psi = s.psi := by simp [State.startRun]
@[simp] theorem State.abandonRuns_psi (code) : (s.abandonRuns code).psi = s.psi := by simp [State.abandonRuns]
@[simp] theorem State.impClusters_psi : s.impClusters.psi = s.psi := by simp [State.impClusters]
@[simp] theorem State.impDue_psi (r) : (s.impDue r).psi = s.psi := by simp [State.impDue]
@[simp] theorem State.followTables_psi : s.followTables.psi = s.psi := by simp [State.followTables]
@[simp] theorem State.rotStart_psi : s.rotStart.psi = s.psi := by simp [State.rotStart]
@[simp] theorem State.impFull_psi (r full) : (s.impFull r full).psi = s.psi := by simp [State.impFull]
@[simp] theorem State.impBoundary_psi (r) : (s.impBoundary r).psi = s.psi := by simp [State.impBoundary]

@[simp] theorem State.joinWindow_psi (r w i k) : (s.joinWindow r w i k).psi = s.psi := by
  unfold State.joinWindow
  split <;> rfl

@[simp] theorem State.foldRun_psi (k c high) : (s.foldRun k c high).psi = s.psi := by simp [State.foldRun]
@[simp] theorem State.trackCell_psi (k c high) : (s.trackCell k c high).psi = s.psi := by simp [State.trackCell]
@[simp] theorem State.precursorCell_psi (k rate) : (s.precursorCell k rate).psi = s.psi := by simp [State.precursorCell]
@[simp] theorem State.precursorSensor_psi (nk sensor rate) : (s.precursorSensor nk sensor rate).psi = s.psi := by simp [State.precursorSensor]

@[simp] theorem State.cellResult_psi (k high complete) : (s.cellResult k high complete).psi = s.psi := by
  simp only [State.cellResult]
  (repeat' split) <;> simp

@[simp] theorem State.loadHistory_psi (nk b) : (s.loadHistory nk b).psi = s.psi := by simp [State.loadHistory]

@[simp] theorem State.syncStart_psi (r op) : (s.syncStart r op).psi = s.psi := by
  simp only [State.syncStart]
  split <;> simp

@[simp] theorem State.dropSync_psi (r) : (s.dropSync r).psi = s.psi := by
  simp only [State.dropSync]
  split <;> simp

@[simp] theorem State.syncReply_psi (r node good nvgen) : (s.syncReply r node good nvgen).psi = s.psi := by
  unfold State.syncReply
  split <;> simp

@[simp] theorem State.challengeWith_psi (nk nonce) : (s.challengeWith nk nonce).psi = s.psi := by simp [State.challengeWith]
@[simp] theorem State.challenge_psi (nk) : (s.challenge nk).psi = s.psi := by simp [State.challenge]
@[simp] theorem State.pollAuth_psi (nk) : (s.pollAuth nk).psi = s.psi := by simp [State.pollAuth]
@[simp] theorem State.readChain_psi (nk d) : (s.readChain nk d).psi = s.psi := by simp [State.readChain]
@[simp] theorem State.readHistory_psi (nk) : (s.readHistory nk).psi = s.psi := by simp [State.readHistory]
@[simp] theorem State.resetNodeCells_psi (nk hist) : (s.resetNodeCells nk hist).psi = s.psi := by simp [State.resetNodeCells]
@[simp] theorem State.authRecover_psi (nk b) : (s.authRecover nk b).psi = s.psi := by simp [State.authRecover]

@[simp] theorem State.authReject_psi (nk absent invalid) : (s.authReject nk absent invalid).psi = s.psi := by
  unfold State.authReject
  rw [State.raise_psi, State.foldl_psi fun _ _ => State.updCellE_psi _ _ _, State.resetNodeCells_psi]
  rfl

@[simp] theorem State.authAccept_psi (nk d) : (s.authAccept nk d).psi = s.psi := by
  simp -implicitDefEqProofs only [State.authAccept, State.psi_ite, State.raise_psi, State.updAuth_psi, State.authReject_psi,
    State.readHistory_psi, State.authRecover_psi, State.resetNodeCells_psi, State.loadHistory_psi, State.setAuth_psi, ite_self]

@[simp] theorem State.estBoundary_psi : s.estBoundary.psi = s.psi := by simp [State.estBoundary]

/-! ### Power-stage channels -/

@[simp] theorem State.backPass_psi (code) : (s.backPass code).psi = s.psi := by simp [State.backPass]

/-! ### Cell temperatures -/

@[simp] theorem State.pushTemp_psi (key t v) : (s.pushTemp key t v).psi = s.psi := by simp [State.pushTemp]
@[simp] theorem State.dropTemps_psi (nk) : (s.dropTemps nk).psi = s.psi := by simp [State.dropTemps]

@[simp] theorem State.cellWarnings_psi (key temp rate) : (s.cellWarnings key temp rate).psi = s.psi := by
  unfold State.cellWarnings
  split <;> simp

@[simp] theorem State.takeRow_psi (t row) : (s.takeRow t row).psi = s.psi := by simp [State.takeRow]
@[simp] theorem State.judgeRates_psi : s.judgeRates.psi = s.psi := by simp [State.judgeRates]

/-! ### Latches and trips -/

@[simp] theorem State.openOuts_psi (r how) : (s.openOuts r how).psi = s.psi := by simp [State.openOuts]
@[simp] theorem State.closeDone_psi (q) : (s.closeDone q).psi = s.psi := by simp [State.closeDone]
@[simp] theorem State.closeEnd_psi (r abandoned) : (s.closeEnd r abandoned).psi = s.psi := by simp [State.closeEnd]
@[simp] theorem State.abandonClose_psi (r status) : (s.abandonClose r status).psi = s.psi := by simp [State.abandonClose]
@[simp] theorem State.openString_psi (r how status) : (s.openString r how status).psi = s.psi := by simp [State.openString]
@[simp] theorem State.openEvery_psi (how status) : (s.openEvery how status).psi = s.psi := by simp [State.openEvery]
@[simp] theorem State.openAll_psi : s.openAll.psi = s.psi := by simp [State.openAll]

@[simp] theorem State.lapseArm_psi : s.lapseArm.psi = s.psi := by
  unfold State.lapseArm
  split <;> simp

@[simp] theorem State.stopEnds_psi : s.stopEnds.psi = s.psi := by simp [State.stopEnds]
@[simp] theorem State.tellTrip_psi (r by_) : (s.tellTrip r by_).psi = s.psi := by simp [State.tellTrip]

@[simp] theorem State.dropTarget_psi (status) : (s.dropTarget status).psi = s.psi := by
  unfold State.dropTarget
  split <;> simp

@[simp] theorem State.wake_psi : s.wake.psi = s.psi := by simp [State.wake]
@[simp] theorem State.startSf4_psi : s.startSf4.psi = s.psi := by simp [State.startSf4]

/-! ### Lifecycle and role -/

@[simp] theorem State.dropStage_psi : s.dropStage.psi = s.psi := by simp [State.dropStage]
@[simp] theorem State.checkPower_psi : s.checkPower.psi = s.psi := by simp [State.checkPower]
@[simp] theorem State.leaveStandby_psi : s.leaveStandby.psi = s.psi := by simp [State.leaveStandby]
@[simp] theorem State.enterStandby_psi : s.enterStandby.psi = s.psi := by simp [State.enterStandby]
@[simp] theorem State.estLife_psi (old new) : (s.estLife old new).psi = s.psi := by simp [State.estLife]
@[simp] theorem State.heard_psi (bulk f) : (s.heard bulk f).psi = s.psi := by simp [State.heard]
@[simp] theorem State.badLink_psi : s.badLink.psi = s.psi := by simp [State.badLink]

@[simp] theorem State.onLink_psi (bulk : Bool) (f : Link) (act : State → State) (ha : ∀ u, PsiKept (act u) u) :
    (s.onLink bulk f act).psi = s.psi := by
  have ha : ∀ u, (act u).psi = u.psi := ha
  simp [State.onLink, ha]

@[simp] theorem State.resumeStrings_psi : s.resumeStrings.psi = s.psi := by simp [State.resumeStrings]
@[simp] theorem State.handedBack_psi (code) : (s.handedBack code).psi = s.psi := by simp [State.handedBack]

/-! ### The safety function -/

@[simp] theorem State.markFaulty_psi (code inst) : (s.markFaulty code inst).psi = s.psi := by simp [State.markFaulty]
@[simp] theorem State.clearFaulty_psi (code inst) : (s.clearFaulty code inst).psi = s.psi := by simp [State.clearFaulty]

@[simp] theorem State.tryArm_psi : s.tryArm.psi = s.psi := by
  unfold State.tryArm
  split <;> simp

@[simp] theorem State.wsfResume_psi (k) : (s.wsfResume k).psi = s.psi := by simp [State.wsfResume]
@[simp] theorem State.wsfReset_psi : s.wsfReset.psi = s.psi := by simp [State.wsfReset]
@[simp] theorem State.clearTrips_psi (rs) : (s.clearTrips rs).psi = s.psi := by simp [State.clearTrips]
@[simp] theorem State.retestNodes_psi (rs) : (s.retestNodes rs).psi = s.psi := by simp [State.retestNodes]
@[simp] theorem State.retest_psi (scope mask) : (s.retest scope mask).psi = s.psi := by simp [State.retest]

@[simp] theorem State.beginCt_psi : s.beginCt.psi = s.psi := by
  unfold State.beginCt
  split <;> simp

@[simp] theorem State.siSample_psi (levels k) : (s.siSample levels k).psi = s.psi := by simp [State.siSample]
@[simp] theorem State.siScan_psi (levels) : (s.siScan levels).psi = s.psi := by simp [State.siScan]
@[simp] theorem State.beginClose_psi (r) : (s.beginClose r).psi = s.psi := by simp [State.beginClose]
@[simp] theorem State.writeThresholds_psi (r) : (s.writeThresholds r).psi = s.psi := by simp [State.writeThresholds]
@[simp] theorem State.wsfSeqErr_psi (k) : (s.wsfSeqErr k).psi = s.psi := by simp [State.wsfSeqErr]
@[simp] theorem State.wsfSend_psi (k type data) : (s.wsfSend k type data).psi = s.psi := by simp [State.wsfSend]
@[simp] theorem State.sendSafety_psi : s.sendSafety.psi = s.psi := by simp [State.sendSafety]

/-! ### CAN controllers -/

@[simp] theorem State.canResult_psi (c t result tooLate stamp) : (s.canResult c t result tooLate stamp).psi = s.psi := by simp [State.canResult]
@[simp] theorem State.canLeave_psi (c t result tooLate stamp) : (s.canLeave c t result tooLate stamp).psi = s.psi := by simp [State.canLeave]

@[simp] theorem State.goBusOff_psi (c) : (s.goBusOff c).psi = s.psi := by
  simp only [State.goBusOff]
  split <;> simp

@[simp] theorem State.canCount_psi (c f) : (s.canCount c f).psi = s.psi := by simp [State.canCount]
@[simp] theorem State.canSent_psi (c f) : (s.canSent c f).psi = s.psi := by simp [State.canSent]
@[simp] theorem State.keepDelay_psi (c f clocks) : (s.keepDelay c f clocks).psi = s.psi := by simp [State.keepDelay]
@[simp] theorem State.headSent_psi (c t stamp clocks) : (s.headSent c t stamp clocks).psi = s.psi := by simp [State.headSent]
@[simp] theorem State.headFailed_psi (c t) : (s.headFailed c t).psi = s.psi := by simp [State.headFailed]
@[simp] theorem State.txError_psi (c noAck) : (s.txError c noAck).psi = s.psi := by simp [State.txError]
@[simp] theorem State.tdcRange_psi (c clocks) : (s.tdcRange c clocks).psi = s.psi := by simp [State.tdcRange]

@[simp] theorem State.wsfOutcome_psi (c conn f o) : (s.wsfOutcome c conn f o).psi = s.psi := by
  unfold State.wsfOutcome
  split <;> simp

@[simp] theorem State.headError_psi (c t noAck) : (s.headError c t noAck).psi = s.psi := by simp [State.headError]

@[simp] theorem State.headOutcome_psi (c t o) : (s.headOutcome c t o).psi = s.psi := by
  unfold State.headOutcome
  split <;> simp

@[simp] theorem State.canOverflow_psi (c) : (s.canOverflow c).psi = s.psi := by
  simp only [State.canOverflow]
  (repeat' split) <;> simp

@[simp] theorem State.canStore_psi (c f sof) : (s.canStore c f sof).psi = s.psi := by
  unfold State.canStore
  split <;> simp

@[simp] theorem State.rxError_psi (c) : (s.rxError c).psi = s.psi := by simp [State.rxError]

/-! ### Field inputs and outputs -/

@[simp] theorem State.stampEdge_psi (n v) : (s.stampEdge n v).psi = s.psi := by
  simp only [State.stampEdge]
  (repeat' split) <;> simp

@[simp] theorem State.scanDi_psi (n high) : (s.scanDi n high).psi = s.psi := by simp [State.scanDi]
@[simp] theorem State.sampleDi_psi (n d) : (s.sampleDi n d).psi = s.psi := by simp [State.sampleDi]
@[simp] theorem State.scanDo_psi (d n) : (s.scanDo d n).psi = s.psi := by simp [State.scanDo]
@[simp] theorem State.doOverTemp_psi (n) : (s.doOverTemp n).psi = s.psi := by simp [State.doOverTemp]
@[simp] theorem State.doOverload_psi (n t) : (s.doOverload n t).psi = s.psi := by simp [State.doOverload]
@[simp] theorem State.fieldReset_psi : s.fieldReset.psi = s.psi := by simp [State.fieldReset]
@[simp] theorem State.clearDo_psi (n) : (s.clearDo n).psi = s.psi := by simp [State.clearDo]

/-! ### Period boundaries -/

@[simp] theorem State.streamIn_psi (before d) : (s.streamIn before d).psi = s.psi := by simp [State.streamIn]
@[simp] theorem State.missedCopy_psi : s.missedCopy.psi = s.psi := by simp [State.missedCopy]
@[simp] theorem State.runAhead_psi : s.runAhead.psi = s.psi := by simp [State.runAhead]
@[simp] theorem State.sendCopies_psi : s.sendCopies.psi = s.psi := by simp [State.sendCopies]

/-! ### The recorder -/

@[simp] theorem State.copySafe_psi (b) : (s.copySafe b).psi = s.psi := by simp [State.copySafe]

@[simp] theorem State.copyParent_psi (parent) : (s.copyParent parent).psi = s.psi := by
  simp only [State.copyParent]
  (repeat' split) <;> simp

@[simp] theorem State.retire_psi (r) : (s.retire r).psi = s.psi := by
  simp only [State.retire]
  (repeat' split) <;> simp

@[simp] theorem State.writeRec_psi (r good) : (s.writeRec r good).psi = s.psi := by simp [State.writeRec]
@[simp] theorem State.drain_psi : s.drain.psi = s.psi := by simp [State.drain]

@[simp] theorem State.writeAudit_psi : s.writeAudit.psi = s.psi := by
  unfold State.writeAudit
  split <;> simp

@[simp] theorem State.clearParts_psi (ps users) : (s.clearParts ps users).psi = s.psi := by simp [State.clearParts]

@[simp] theorem State.dropClear_psi : s.dropClear.psi = s.psi := by
  unfold State.dropClear
  split <;> simp

@[simp] theorem State.fbRelease_psi : s.fbRelease.psi = s.psi := by simp [State.fbRelease]
@[simp] theorem State.replayRec_psi (b) : (s.replayRec b).psi = s.psi := by simp [State.replayRec]

/-! ### Evaluation of cell frames -/

@[simp] theorem State.calNode_psi (r node p) : (s.calNode r node p).psi = s.psi := by simp [State.calNode]

@[simp] theorem State.cellAnomaly_psi (r node j) : (s.cellAnomaly r node j).psi = s.psi := by
  simp only [State.cellAnomaly]
  split <;> simp

@[simp] theorem State.askWire_psi (nk tap row) : (s.askWire nk tap row).psi = s.psi := by simp [State.askWire]

@[simp] theorem State.judge3_psi (r node j) : (s.judge3 r node j).psi = s.psi := by
  simp only [State.judge3]
  split <;> simp

@[simp] theorem State.rowAction_psi (r node j row) : (s.rowAction r node j row).psi = s.psi := by
  unfold State.rowAction
  split <;> simp

@[simp] theorem State.pairJudge_psi (r node p v ip t) : (s.pairJudge r node p v ip t).2.psi = s.psi := by
  simp only [State.pairJudge]
  split <;> simp

@[simp] theorem State.pairVisit_psi (r node p v ip t) : (s.pairVisit r node p v ip t).psi = s.psi := by
  simp only [State.pairVisit]
  (repeat' split) <;> simp

/-! ### Cell monitoring and balancing -/

@[simp] theorem State.owStart_psi (nk) : (s.owStart nk).psi = s.psi := by
  simp only [State.owStart]
  split <;> simp

@[simp] theorem State.owStartAll_psi (r) : (s.owStartAll r).psi = s.psi := by simp [State.owStartAll]

@[simp] theorem State.owDone_psi (t result) : (s.owDone t result).psi = s.psi := by
  unfold State.owDone
  split <;> simp

@[simp] theorem State.sendPairMask_psi (nk) : (s.sendPairMask nk).psi = s.psi := by simp [State.sendPairMask]
@[simp] theorem State.wireOpen_psi (r node tap) : (s.wireOpen r node tap).psi = s.psi := by simp [State.wireOpen]
@[simp] theorem State.wirePass_psi (r node t) : (s.wirePass r node t).psi = s.psi := by simp [State.wirePass]
@[simp] theorem State.owJudge_psi (r node t below above) : (s.owJudge r node t below above).psi = s.psi := by simp [State.owJudge]
@[simp] theorem State.writeThreshold_psi (r node) : (s.writeThreshold r node).psi = s.psi := by simp [State.writeThreshold]
@[simp] theorem State.readThreshold_psi (r node) : (s.readThreshold r node).psi = s.psi := by simp [State.readThreshold]
@[simp] theorem State.calReply_psi (r node status) : (s.calReply r node status).psi = s.psi := by simp [State.calReply]

@[simp] theorem State.cmpNext_psi (r) : (s.cmpNext r).psi = s.psi := by
  unfold State.cmpNext
  (repeat' split) <;> simp

@[simp] theorem State.sendBalance_psi (r node mode mask target duration check h) :
    (s.sendBalance r node mode mask target duration check h).psi = s.psi := by
  simp [State.sendBalance]

@[simp] theorem State.balBySoc_psi (r) : (s.balBySoc r).psi = s.psi := by simp [State.balBySoc]
@[simp] theorem State.balByVolt_psi (r) : (s.balByVolt r).psi = s.psi := by simp [State.balByVolt]
@[simp] theorem State.sendSleepTargets_psi (r) : (s.sendSleepTargets r).psi = s.psi := by simp [State.sendSleepTargets]

@[simp] theorem State.sleepOutcome_psi (r node p) : (s.sleepOutcome r node p).psi = s.psi := by
  simp only [State.sleepOutcome]
  split <;> simp

/-! ### Rings and nodes -/

@[simp] theorem State.dropWire_psi (nk) : (s.dropWire nk).psi = s.psi := by simp [State.dropWire]

@[simp] theorem State.dropCmp_psi (r) : (s.dropCmp r).psi = s.psi := by
  unfold State.dropCmp
  split <;> simp

@[simp] theorem State.clearNodes_psi (r) : (s.clearNodes r).psi = s.psi := by simp [State.clearNodes]
@[simp] theorem State.beginEnum_psi (r) : (s.beginEnum r).psi = s.psi := by simp [State.beginEnum]

@[simp] theorem State.sendProbes_psi (r) : (s.sendProbes r).psi = s.psi := by
  unfold State.sendProbes
  split <;> simp

@[simp] theorem State.ringOpDone_psi (q) : (s.ringOpDone q).psi = s.psi := by simp [State.ringOpDone]
@[simp] theorem State.enumEnded_psi (r failed abandoned) : (s.enumEnded r failed abandoned).psi = s.psi := by simp [State.enumEnded]
@[simp] theorem State.dropWires_psi (r) : (s.dropWires r).psi = s.psi := by simp [State.dropWires]
@[simp] theorem State.stopRing_psi (r) : (s.stopRing r).psi = s.psi := by simp [State.stopRing]
@[simp] theorem State.sendTable_psi (r) : (s.sendTable r).psi = s.psi := by simp [State.sendTable]
@[simp] theorem State.serviceNodes_psi (r) : (s.serviceNodes r).psi = s.psi := by simp [State.serviceNodes]
@[simp] theorem State.failRing_psi (r code data) : (s.failRing r code data).psi = s.psi := by simp [State.failRing]

@[simp] theorem State.epochSeen_psi (r node e) : (s.epochSeen r node e).psi = s.psi := by
  simp only [State.epochSeen]
  split <;> simp

@[simp] theorem State.statusSeen_psi (r node w) : (s.statusSeen r node w).psi = s.psi := by simp [State.statusSeen]
@[simp] theorem State.idleSeen_psi (r idle) : (s.idleSeen r idle).psi = s.psi := by simp [State.idleSeen]
@[simp] theorem State.arrived_psi (r rx) : (s.arrived r rx).psi = s.psi := by simp [State.arrived]

@[simp] theorem State.onFrame_psi (r : Nat) (addr : Byte) (rx : Rx) (f : State → State) (hf : ∀ u, PsiKept (f u) u) :
    (s.onFrame r addr rx f).psi = s.psi := by
  have hf : ∀ u, (f u).psi = u.psi := hf
  simp [State.onFrame, hf]

@[simp] theorem State.tempsSeen_psi (r node p) : (s.tempsSeen r node p).psi = s.psi := by simp [State.tempsSeen]
@[simp] theorem State.storeFrame_psi (r node p) : (s.storeFrame r node p).psi = s.psi := by simp [State.storeFrame]
@[simp] theorem State.noFrame_psi (r node attempt) : (s.noFrame r node attempt).psi = s.psi := by simp [State.noFrame]
@[simp] theorem State.deriveNode_psi (r node t ip p) : (s.deriveNode r node t ip p).psi = s.psi := by simp [State.deriveNode]
@[simp] theorem State.pairRoom_psi (r nk j) : (s.pairRoom r nk j).psi = s.psi := by simp [State.pairRoom]
@[simp] theorem State.publish_psi (r t whole) : (s.publish r t whole).psi = s.psi := by simp [State.publish]

@[simp] theorem State.tempWatch_psi (r node p) : (s.tempWatch r node p).psi = s.psi := by
  unfold State.tempWatch
  refine State.foldl_psi (fun s q => ?_) _ _
  simp only [psiKept_iff]
  split <;> simp

@[simp] theorem State.sweepChunk_psi (r t whole) : (s.sweepChunk r t whole).psi = s.psi := by simp [State.sweepChunk]
@[simp] theorem State.sendFinal_psi (r t whole) : (s.sendFinal r t whole).psi = s.psi := by simp [State.sendFinal]
@[simp] theorem State.sendAck_psi (r) : (s.sendAck r).psi = s.psi := by simp [State.sendAck]
@[simp] theorem State.countSweep_psi (r whole) : (s.countSweep r whole).psi = s.psi := by simp [State.countSweep]
@[simp] theorem State.restWatch_psi (r ip) : (s.restWatch r ip).psi = s.psi := by simp [State.restWatch]
@[simp] theorem State.openExchange_psi (r) : (s.openExchange r).psi = s.psi := by simp [State.openExchange]
@[simp] theorem State.windowSweep_psi (r t ip) : (s.windowSweep r t ip).psi = s.psi := by simp [State.windowSweep]
@[simp] theorem State.finalise_psi (r) : (s.finalise r).psi = s.psi := by simp [State.finalise]
@[simp] theorem State.toNormal_psi (r) : (s.toNormal r).psi = s.psi := by simp [State.toNormal]
@[simp] theorem State.rateAtSync_psi (r) : (s.rateAtSync r).psi = s.psi := by simp [State.rateAtSync]

@[simp] theorem State.ringBoundary_psi (r) : (s.ringBoundary r).psi = s.psi := by
  simp only [State.ringBoundary]
  (repeat' split) <;> simp

@[simp] theorem State.sendSync_psi (r) : (s.sendSync r).psi = s.psi := by
  simp only [State.sendSync]
  split <;> simp

@[simp] theorem State.startSweep_psi (r) : (s.startSweep r).psi = s.psi := by simp [State.startSweep]
@[simp] theorem State.missSyncs_psi (from_) : (s.missSyncs from_).psi = s.psi := by simp [State.missSyncs]
@[simp] theorem State.sendMissed_psi : s.sendMissed.psi = s.psi := by simp [State.sendMissed]
@[simp] theorem State.lockLost_psi (r node port) : (s.lockLost r node port).psi = s.psi := by simp [State.lockLost]

@[simp] theorem State.lockStable_psi (r node port) : (s.lockStable r node port).psi = s.psi := by
  simp only [State.lockStable]
  split <;> simp

@[simp] theorem State.dropHold_psi (r) : (s.dropHold r).psi = s.psi := by simp [State.dropHold]

@[simp] theorem State.unwrapReply_psi (r node w) : (s.unwrapReply r node w).psi = s.psi := by
  simp only [State.unwrapReply]
  (repeat' split) <;> simp

@[simp] theorem State.portReply_psi (r q status data) : (s.portReply r q status data).psi = s.psi := by
  simp only [State.portReply]
  split <;> simp

@[simp] theorem State.counterReply_psi (r q status data) : (s.counterReply r q status data).psi = s.psi := by
  unfold State.counterReply
  split <;> simp

@[simp] theorem State.tripsSeen_psi (nk ov uv) : (s.tripsSeen nk ov uv).psi = s.psi := by simp [State.tripsSeen]
@[simp] theorem State.cmpAgain_psi (nk i fired) : (s.cmpAgain nk i fired).psi = s.psi := by simp [State.cmpAgain]

@[simp] theorem State.balReply_psi (r q status data) : (s.balReply r q status data).psi = s.psi := by
  simp only [State.balReply]
  split <;> simp

@[simp] theorem State.versionReply_psi (r node status data) : (s.versionReply r node status data).psi = s.psi := by simp [State.versionReply]
@[simp] theorem State.loadFrom_psi (r l) : (s.loadFrom r l).psi = s.psi := by simp [State.loadFrom]
@[simp] theorem State.loadNext_psi (r node) : (s.loadNext r node).psi = s.psi := by simp [State.loadNext]
@[simp] theorem State.loadRings_psi (rs) : (s.loadRings rs).psi = s.psi := by simp [State.loadRings]
@[simp] theorem State.nodeFailed_psi (r node) : (s.nodeFailed r node).psi = s.psi := by simp [State.nodeFailed]

@[simp] theorem State.loaderReply_psi (r q status) : (s.loaderReply r q status).psi = s.psi := by
  unfold State.loaderReply
  split <;> simp

/-! ### Units, clusters and dies -/

@[simp] theorem State.fenceEst_psi (k) : (s.fenceEst k).psi = s.psi := by simp [State.fenceEst]
@[simp] theorem State.trxError_psi (r port) : (s.trxError r port).psi = s.psi := by simp [State.trxError]
@[simp] theorem State.fieldError_psi (n) : (s.fieldError n).psi = s.psi := by simp [State.fieldError]

@[simp] theorem State.fbGap_psi (i) : (s.fbGap i).psi = s.psi := by
  simp only [State.fbGap]
  split <;> simp

@[simp] theorem State.sendArb_psi (op cause mask rest) : (s.sendArb op cause mask rest).psi = s.psi := by simp [State.sendArb]
@[simp] theorem State.startArb_psi (mismatch) : (s.startArb mismatch).psi = s.psi := by simp [State.startArb]

@[simp] theorem State.xingDrop_psi (how counted) : (s.xingDrop how counted).psi = s.psi := by
  unfold State.xingDrop
  split <;> simp

@[simp] theorem State.loseDie_psi (die) : (s.loseDie die).psi = s.psi := by simp [State.loseDie]
@[simp] theorem State.loseField_psi : s.loseField.psi = s.psi := by simp [State.loseField]

/-! ### The twin -/

@[simp] theorem State.sendDict_psi : s.sendDict.psi = s.psi := by simp [State.sendDict]
@[simp] theorem State.sendState_psi : s.sendState.psi = s.psi := by simp [State.sendState]
@[simp] theorem State.joinTwin_psi : s.joinTwin.psi = s.psi := by simp [State.joinTwin]
@[simp] theorem State.followTwin_psi : s.followTwin.psi = s.psi := by simp [State.followTwin]
@[simp] theorem State.endArb_psi : s.endArb.psi = s.psi := by simp [State.endArb]
@[simp] theorem State.standbyFails_psi : s.standbyFails.psi = s.psi := by simp [State.standbyFails]
@[simp] theorem State.divergence_psi : s.divergence.psi = s.psi := by simp [State.divergence]
@[simp] theorem State.katEvent_psi (t) : (s.katEvent t).psi = s.psi := by simp [State.katEvent]
@[simp] theorem State.compareLoop_psi (m) : (s.compareLoop m).psi = s.psi := by simp [State.compareLoop]

@[simp] theorem State.takeCommit_psi (digest) : (s.takeCommit digest).psi = s.psi := by
  simp only [State.takeCommit]
  split <;> simp

@[simp] theorem State.steerBy_psi (d) : (s.steerBy d).psi = s.psi := by simp [State.steerBy]
@[simp] theorem State.takeAxis_psi (a r) : (s.takeAxis a r).psi = s.psi := by simp [State.takeAxis]
@[simp] theorem State.adoptSweep_psi (r mask stamp) : (s.adoptSweep r mask stamp).psi = s.psi := by simp [State.adoptSweep]

@[simp] theorem State.closeExch_psi (r) : (s.closeExch r).psi = s.psi := by
  unfold State.closeExch
  (repeat' split) <;> simp

@[simp] theorem State.mirrorEntry_psi (session e) : (s.mirrorEntry session e).psi = s.psi := by
  simp only [State.mirrorEntry]
  split <;> simp

@[simp] theorem State.takeTable_psi (b) : (s.takeTable b).psi = s.psi := by simp [State.takeTable]
@[simp] theorem State.takeIdentity_psi (b) : (s.takeIdentity b).psi = s.psi := by simp [State.takeIdentity]
@[simp] theorem State.takeHistory_psi (b) : (s.takeHistory b).psi = s.psi := by simp [State.takeHistory]
@[simp] theorem State.takeBlock_psi (b) : (s.takeBlock b).psi = s.psi := by simp [State.takeBlock]
@[simp] theorem State.clearSuspect_psi : s.clearSuspect.psi = s.psi := by simp [State.clearSuspect]

/-! ### Self-tests -/

@[simp] theorem State.beginTests_psi (l) : (s.beginTests l).psi = s.psi := by simp [State.beginTests]
@[simp] theorem State.idleLanes_psi (codes) : (s.idleLanes codes).psi = s.psi := by simp [State.idleLanes]
@[simp] theorem State.estTested_psi (k outcome) : (s.estTested k outcome).psi = s.psi := by simp [State.estTested]
@[simp] theorem State.laneTested_psi (c outcome) : (s.laneTested c outcome).psi = s.psi := by simp [State.laneTested]

@[simp] theorem State.coresTested_psi (code) : (s.coresTested code).psi = s.psi := by
  simp only [State.coresTested]
  (repeat' split) <;> simp

/-! ### Updates -/

@[simp] theorem State.sendImage_psi (kind part b) : (s.sendImage kind part b).psi = s.psi := by simp [State.sendImage]

@[simp] theorem State.updDone_psi (status result) : (s.updDone status result).psi = s.psi := by
  unfold State.updDone
  split <;> simp

@[simp] theorem State.nodeStep_psi (e) : (s.nodeStep e).psi = s.psi := by simp [State.nodeStep]

@[simp] theorem State.writePart_psi (p) : (s.writePart p).psi = s.psi := by
  unfold State.writePart
  split <;> rfl

@[simp] theorem State.askTwin_psi (mask restore) : (s.askTwin mask restore).psi = s.psi := by simp [State.askTwin]
@[simp] theorem State.halt_psi : s.halt.psi = s.psi := by simp [State.halt]
@[simp] theorem State.repair_psi : s.repair.psi = s.psi := by simp [State.repair]
@[simp] theorem State.interrupted_psi (p running) : (s.interrupted p running).psi = s.psi := by simp [State.interrupted]
@[simp] theorem State.rolledBack_psi : s.rolledBack.psi = s.psi := by simp [State.rolledBack]
@[simp] theorem State.onTrial_psi : s.onTrial.psi = s.psi := by simp [State.onTrial]

@[simp] theorem State.txFinish_psi : s.txFinish.psi = s.psi := by
  unfold State.txFinish
  split <;> simp

@[simp] theorem State.repeatRestore_psi : s.repeatRestore.psi = s.psi := by simp [State.repeatRestore]
@[simp] theorem State.giveParts_psi (mask) : (s.giveParts mask).psi = s.psi := by simp [State.giveParts]

@[simp] theorem State.stepX_psi (t) : (s.stepX t).psi = s.psi := by
  simp only [State.stepX]
  (repeat' split) <;> simp

@[simp] theorem State.judgeMixed_psi : s.judgeMixed.psi = s.psi := by simp [State.judgeMixed]
@[simp] theorem State.judgeSerial_psi (serial) : (s.judgeSerial serial).psi = s.psi := by simp [State.judgeSerial]
@[simp] theorem State.sendElig_psi : s.sendElig.psi = s.psi := by simp [State.sendElig]

/-! ### The fault manager -/

@[simp] theorem State.placeFault_psi (f) : (s.placeFault f).psi = s.psi := by
  unfold State.placeFault
  split <;> simp

@[simp] theorem State.barBlocks_psi (code inst) : (s.barBlocks code inst).psi = s.psi := by simp [State.barBlocks]
@[simp] theorem State.reportTwin_psi (f) : (s.reportTwin f).psi = s.psi := by simp [State.reportTwin]
@[simp] theorem State.recordChildren_psi (f) : (s.recordChildren f).psi = s.psi := by simp [State.recordChildren]
@[simp] theorem State.merge_psi (f) : (s.merge f).psi = s.psi := by simp [State.merge]

/-! ### Power and start-up -/

@[simp] theorem State.readSlot_psi : s.readSlot.psi = s.psi := by
  simp only [State.readSlot]
  (repeat' split) <;> simp

@[simp] theorem State.dramLost_psi : s.dramLost.psi = s.psi := by
  simp only [State.dramLost]
  split <;> simp

@[simp] theorem State.checkFrozen_psi : s.checkFrozen.psi = s.psi := by
  unfold State.checkFrozen
  split <;> simp

@[simp] theorem State.startRings_psi : s.startRings.psi = s.psi := by simp [State.startRings]
@[simp] theorem State.latchHold_psi : s.latchHold.psi = s.psi := by simp [State.latchHold]
@[simp] theorem State.holdP3_psi : s.holdP3.psi = s.psi := by simp [State.holdP3]
@[simp] theorem State.enterP3_psi : s.enterP3.psi = s.psi := by simp [State.enterP3]
@[simp] theorem State.endVisit_psi : s.endVisit.psi = s.psi := by simp [State.endVisit]
@[simp] theorem State.visitOver_psi : s.visitOver.psi = s.psi := by simp [State.visitOver]
@[simp] theorem State.enterP4_psi : s.enterP4.psi = s.psi := by simp [State.enterP4]
@[simp] theorem State.wakeNodes_psi : s.wakeNodes.psi = s.psi := by simp [State.wakeNodes]
@[simp] theorem State.endTransition_psi : s.endTransition.psi = s.psi := by simp [State.endTransition]
@[simp] theorem State.giveUp_psi : s.giveUp.psi = s.psi := by simp [State.giveUp]
@[simp] theorem State.keepHistories_psi : s.keepHistories.psi = s.psi := by simp [State.keepHistories]
@[simp] theorem State.loadDict_psi (dict) : (s.loadDict dict).psi = s.psi := by simp [State.loadDict]
@[simp] theorem State.dictDefaults_psi : s.dictDefaults.psi = s.psi := by simp [State.dictDefaults]

/-! ### The tick -/

@[simp] theorem State.cycle_psi : s.cycle.psi = s.psi := by simp [State.cycle]
@[simp] theorem State.pollNodes_psi : s.pollNodes.psi = s.psi := by simp [State.pollNodes]

end

end Sys2Proof.Machine
end

section
/-! SUPPORT. The operations that end a channel's drive or write other fields of a channel let no channel begin to drive (the lemmas named
_drivenWithin), in the order of the model's files. -/
namespace Sys2Proof.Machine
open Sys2Proof

/-! ### Waiting starts and stops -/

@[simp] theorem State.startDone_ch (s : State) (r : StartReq) : (s.startDone r).psi.ch = s.psi.ch := by
  unfold State.startDone
  split
  · rw [State.answerAll_psi]
  · rfl

@[simp] theorem State.startStatus_ch (s : State) (c v : Nat) : (s.startStatus c v).psi.ch = s.psi.ch :=
  foldl_view (·.psi.ch) State.startDone_ch _ _

@[simp] theorem State.stopDone_ch (s : State) (r : StopReq) : (s.stopDone r).psi.ch = s.psi.ch := by
  unfold State.stopDone
  split
  · rw [State.complete_psi]
  · rfl

@[simp] theorem State.stopStatus_ch (s : State) (c how : Nat) : (s.stopStatus c how).psi.ch = s.psi.ch :=
  foldl_view (·.psi.ch) State.stopDone_ch _ _

/-! ### Resets -/

@[simp] theorem State.resetModule_drivenWithin (s : State) (cause : Nat) (y : Four ChSt) : DrivenWithin (s.resetModule cause).psi.ch y := by
  simp [State.resetModule]

@[simp] theorem State.resetSoc_drivenWithin (s : State) (cause : Nat) (y : Four ChSt) : DrivenWithin (s.resetSoc cause).psi.ch y := by
  simp [State.resetSoc, State.restartSoc]

section
variable {s : State} {y : Four ChSt} (h : s.DrivesWithin y)
include h

/-! ### Networks and time -/

@[simp] theorem State.shiftTimes_drivenWithin (d) : DrivenWithin (s.shiftTimes d).psi.ch y :=
  (drivenWithin_map (f := ChSt.shift d) fun _ => id).trans h

/-! ### Power-stage channels -/

@[simp] theorem State.placeEdges_drivenWithin (c next) : DrivenWithin (s.placeEdges c next).psi.ch y := by simp [State.placeEdges, h.ch]

@[simp] theorem State.endChannel_drivenWithin (c state start stop) : DrivenWithin (s.endChannel c state start stop).psi.ch y := by
  simp [State.endChannel, h.ch]

@[simp] theorem State.stopChannel_drivenWithin (c) : DrivenWithin (s.stopChannel c).psi.ch y := by simp [State.stopChannel, h.ch]
@[simp] theorem State.faultChannel_drivenWithin (c) : DrivenWithin (s.faultChannel c).psi.ch y := by simp [State.faultChannel, h.ch]
@[simp] theorem State.stopAll_drivenWithin : DrivenWithin s.stopAll.psi.ch y := by simp [State.stopAll, h.ch, -List.foldl_cons]
@[simp] theorem State.sweepGates_drivenWithin : DrivenWithin s.sweepGates.psi.ch y := by simp [State.sweepGates, h.ch, -List.foldl_cons]

@[simp] theorem State.disable_drivenWithin (c) {f : ChSt → ChSt} (hf : ∀ x, (f x).driven = true → x.driven = true) :
    DrivenWithin (s.disable c f).psi.ch y := by
  have hlatched := State.updCh_drivenWithin h (f := fun x => { f x with hwDisable := true }) hf c
  exact State.faultChannel_drivenWithin hlatched c

@[simp] theorem State.loopbackResult_drivenWithin (c ok) : DrivenWithin (s.loopbackResult c ok).psi.ch y := by simp [State.loopbackResult, h.ch]
@[simp] theorem State.noteLoopback_drivenWithin (c ok) : DrivenWithin (s.noteLoopback c ok).psi.ch y := by simp [State.noteLoopback, h.ch]
@[simp] theorem State.beginStart_drivenWithin (c) : DrivenWithin (s.beginStart c).psi.ch y := by simp [State.beginStart, h.ch]
@[simp] theorem State.dropStart_drivenWithin (c) : DrivenWithin (s.dropStart c).psi.ch y := by simp [State.dropStart, h.ch]
@[simp] theorem State.rampStop_drivenWithin (c) : DrivenWithin (s.rampStop c).psi.ch y := by simp [State.rampStop, h.ch]

@[simp] theorem State.clearFault_drivenWithin (c) : DrivenWithin (s.clearFault c).2.psi.ch y := by
  simp only [State.clearFault]
  (repeat' split) <;> simp [h.ch]

/-! ### Latches and trips -/

@[simp] theorem State.endCt_drivenWithin : DrivenWithin s.endCt.psi.ch y := by
  simp only [State.endCt]
  (repeat' split) <;> simp [h.ch]

@[simp] theorem State.shutGates_drivenWithin (c) : DrivenWithin (s.shutGates c).psi.ch y := by simp [State.shutGates, h.ch]
@[simp] theorem State.demandEnds_drivenWithin : DrivenWithin s.demandEnds.psi.ch y := by simp [State.demandEnds, h.ch]
@[simp] theorem State.safeOpen_drivenWithin (r) : DrivenWithin (s.safeOpen r).psi.ch y := by simp [State.safeOpen, h.ch]
@[simp] theorem State.trip_drivenWithin (r cause) : DrivenWithin (s.trip r cause).psi.ch y := by simp [State.trip, h.ch]
@[simp] theorem State.sf1_drivenWithin (r) : DrivenWithin (s.sf1 r).psi.ch y := by simp [State.sf1, h.ch]

@[simp] theorem State.tripFault_drivenWithin (code inst strings data) : DrivenWithin (s.tripFault code inst strings data).psi.ch y := by
  simp [State.tripFault, h.ch]

@[simp] theorem State.lockString_drivenWithin (r cause) : DrivenWithin (s.lockString r cause).psi.ch y := by simp [State.lockString, h.ch]

@[simp] theorem State.lockFault_drivenWithin (code inst strings data) : DrivenWithin (s.lockFault code inst strings data).psi.ch y := by
  simp [State.lockFault, h.ch]

@[simp] theorem State.sf2_drivenWithin (c) : DrivenWithin (s.sf2 c).psi.ch y := by simp [State.sf2, h.ch]

@[simp] theorem State.sf3_drivenWithin : DrivenWithin s.sf3.psi.ch y := by
  unfold State.sf3
  extract_lets first safe fired opened shut reported
  have hopened : opened.DrivesWithin y := by simp [opened, fired, h.ch]
  have hgates : ([0, 1, 2, 3].foldl State.shutGates opened).DrivesWithin y := by simp [hopened.ch, -List.foldl_cons]
  have hshut : shut.DrivesWithin y := by simp [shut, hgates.ch, -List.foldl_cons]
  clear_value shut
  simp [reported, hshut.ch]

/-! ### Lifecycle and role -/

@[simp] theorem State.dropSess_drivenWithin (id) : DrivenWithin (s.dropSess id).psi.ch y := by
  simp only [State.dropSess]
  (repeat' split) <;> simp [h.ch]

@[simp] theorem State.endDrive_drivenWithin : DrivenWithin s.endDrive.psi.ch y := by
  unfold State.endDrive
  extract_lets opened freed undriven
  have hundriven : undriven.DrivesWithin y := by simp [undriven, freed, opened, h.ch, -List.foldl_cons]
  clear_value undriven
  simp [hundriven.ch]

@[simp] theorem State.leaveActive_drivenWithin (next) : DrivenWithin (s.leaveActive next).psi.ch y := by
  simp [State.leaveActive, h.ch, -List.foldl_cons]

@[simp] theorem State.endSessions_drivenWithin : DrivenWithin s.endSessions.psi.ch y := by simp [State.endSessions, h.ch]

@[simp] theorem State.setLifecycle_drivenWithin (new) : DrivenWithin (s.setLifecycle new).psi.ch y := by
  unfold State.setLifecycle
  extract_lets old left before changed since negotiating standing ended
  have hstanding : standing.DrivesWithin y := by simp [standing, negotiating, since, changed, before, left, h.ch]
  clear_value standing
  have hended : ended.DrivesWithin y := by simp [ended, hstanding.ch]
  clear_value ended
  split
  · exact h
  · simp [hended.ch]

@[simp] theorem State.goActive_drivenWithin : DrivenWithin s.goActive.psi.ch y := by
  unfold State.goActive
  extract_lets sys driving active t net c0 c1 sent
  have hactive : active.DrivesWithin y := by
    simp only [active, State.drivesWithin_iff, State.assertRole]
    split <;> simp [driving, h.ch]
  clear_value active
  simp [sent, hactive.ch]

@[simp] theorem State.resumeChannels_drivenWithin : DrivenWithin s.resumeChannels.psi.ch y := by simp [State.resumeChannels, h.ch, -List.foldl_cons]

@[simp] theorem State.takeover_drivenWithin (planned drill cause) : DrivenWithin (s.takeover planned drill cause).psi.ch y := by
  simp [State.takeover, h.ch]

@[simp] theorem State.activeOpen_drivenWithin : DrivenWithin s.activeOpen.psi.ch y := by simp [State.activeOpen, h.ch, -List.foldl_cons]
@[simp] theorem State.notReady_drivenWithin : DrivenWithin s.notReady.psi.ch y := by simp [State.notReady, h.ch]

@[simp] theorem State.moduleLock_drivenWithin (code inst data) : DrivenWithin (s.moduleLock code inst data).psi.ch y := by
  unfold State.moduleLock
  extract_lets safe locked raised
  have hraised : raised.DrivesWithin y := by simp [raised, locked, h.ch]
  clear_value raised
  simp [hraised.ch]

@[simp] theorem State.leaveUpdate_drivenWithin : DrivenWithin s.leaveUpdate.psi.ch y := by simp [State.leaveUpdate, h.ch]
@[simp] theorem State.endSession_drivenWithin (id) : DrivenWithin (s.endSession id).psi.ch y := by simp [State.endSession, h.ch]

/-! ### The safety function -/

@[simp] theorem State.reopenGates_drivenWithin (c) : DrivenWithin (s.reopenGates c).psi.ch y := by simp [State.reopenGates, h.ch]
@[simp] theorem State.clearScope_drivenWithin (scope mask) : DrivenWithin (s.clearScope scope mask).psi.ch y := by simp [State.clearScope, h.ch]

@[simp] theorem State.completeReset_drivenWithin : DrivenWithin s.completeReset.psi.ch y := by
  simp only [State.completeReset]
  split <;> simp [h.ch]

@[simp] theorem State.pulse_drivenWithin (out sw good) : DrivenWithin (s.pulse out sw good).psi.ch y := by simp [State.pulse, h.ch]

@[simp] theorem State.latchOne_drivenWithin (fromTurnip r cause f outs) : DrivenWithin (s.latchOne fromTurnip r cause f outs).psi.ch y := by
  unfold State.latchOne
  extract_lets latched abandoned opened parted shut
  have hparted : parted.DrivesWithin y := by simp [parted, opened, abandoned, latched, h.ch]
  clear_value parted
  have hshut : shut.DrivesWithin y := by
    simp [shut, hparted.ch, apply_ite ChSt.driven]
  clear_value shut
  simp [hshut.ch]

@[simp] theorem State.turnipTrip_drivenWithin (r code inst) : DrivenWithin (s.turnipTrip r code inst).psi.ch y := by simp [State.turnipTrip, h.ch]
@[simp] theorem State.coresLatch_drivenWithin : DrivenWithin s.coresLatch.psi.ch y := by simp [State.coresLatch, h.ch, -List.foldl_cons]
@[simp] theorem State.openRunning_drivenWithin (r) : DrivenWithin (s.openRunning r).psi.ch y := by simp [State.openRunning, h.ch]

@[simp] theorem State.useData_drivenWithin (k d) : DrivenWithin (s.useData k d).psi.ch y := by
  unfold State.useData
  extract_lets o wsf written falls tripped stopped fired
  have htripped : tripped.DrivesWithin y := by simp [tripped, written, h.ch]
  clear_value tripped
  have hstopped : stopped.DrivesWithin y := State.sweepGates_drivenWithin (State.foldl_drivenWithin htripped (by simp) _)
  clear_value stopped
  have hfired : fired.DrivesWithin y := by simp [fired, hstopped.ch]
  clear_value fired
  simp [hfired.ch]

@[simp] theorem State.wsfCrcFail_drivenWithin (k) : DrivenWithin (s.wsfCrcFail k).psi.ch y := by simp [State.wsfCrcFail, h.ch]
@[simp] theorem State.wsfJudge_drivenWithin (k b) : DrivenWithin (s.wsfJudge k b).psi.ch y := by simp [State.wsfJudge, h.ch]

@[simp] theorem State.wsfReceive_drivenWithin (transport peer b) : DrivenWithin (s.wsfReceive transport peer b).psi.ch y := by
  simp only [State.wsfReceive]
  (repeat' split) <;> simp [h.ch]

/-! ### Period boundaries -/

@[simp] theorem State.latch_drivenWithin (c d) : DrivenWithin (s.latch c d).psi.ch y := by

  simp [State.latch, ChSt.take, ChSt.sense, h.ch]

@[simp] theorem State.ocProcessor_drivenWithin (c) : DrivenWithin (s.ocProcessor c).psi.ch y := by simp [State.ocProcessor, h.ch]
@[simp] theorem State.shadowCh_drivenWithin (c st) : DrivenWithin (s.shadowCh c st).psi.ch y := by simp [State.shadowCh, h.ch]
@[simp] theorem State.loadCh_drivenWithin (c r) : DrivenWithin (s.loadCh c r).psi.ch y := by simp [State.loadCh, h.ch]

@[simp] theorem State.shadowStart_drivenWithin : DrivenWithin s.shadowStart.psi.ch y := by
  simp only [State.shadowStart]
  split <;> simp [h.ch, -List.foldl_cons]

@[simp] theorem State.laneReports_drivenWithin (c o) : DrivenWithin (s.laneReports c o).psi.ch y := by
  simp only [State.laneReports]
  (repeat' split) <;> simp [h.ch]

@[simp] theorem State.stopWatch_drivenWithin (c) : DrivenWithin (s.stopWatch c).psi.ch y := by simp [State.stopWatch, h.ch]
@[simp] theorem State.runLane_drivenWithin (c) : DrivenWithin (s.runLane c).psi.ch y := by simp [State.runLane, h.ch]
@[simp] theorem State.toBoundary_drivenWithin : DrivenWithin s.toBoundary.psi.ch y := by simp [State.toBoundary, h.ch]
@[simp] theorem State.missRelease_drivenWithin (c) : DrivenWithin (s.missRelease c).psi.ch y := by simp [State.missRelease, h.ch]
@[simp] theorem State.releaseLane_drivenWithin (c) : DrivenWithin (s.releaseLane c).psi.ch y := by simp [State.releaseLane, h.ch]

@[simp] theorem State.handAt_drivenWithin : DrivenWithin s.handAt.psi.ch y := by
  simp only [State.handAt]
  (repeat' split) <;> simp [h.ch]

/-! ### Evaluation of cell frames -/

@[simp] theorem State.evalFrame_drivenWithin (r node p) : DrivenWithin (s.evalFrame r node p).psi.ch y := by
  refine State.foldl_drivenWithin (s := s.updNode _ _) h (fun u q => ?_) _
  split
  · simp
  · simp

/-! ### Cell monitoring and balancing -/

@[simp] theorem State.judgeThresholds_drivenWithin (r node v) : DrivenWithin (s.judgeThresholds r node v).psi.ch y := by
  simp [State.judgeThresholds, h.ch]

@[simp] theorem State.cmpOutcome_drivenWithin (r node cell uv fired) : DrivenWithin (s.cmpOutcome r node cell uv fired).psi.ch y := by
  simp [State.cmpOutcome, h.ch]

@[simp] theorem State.cmpResult_drivenWithin (r fired) : DrivenWithin (s.cmpResult r fired).psi.ch y := by
  simp only [State.cmpResult]
  split <;> simp [h.ch]

/-! ### Rings and nodes -/

@[simp] theorem State.frameIn_drivenWithin (r node p) : DrivenWithin (s.frameIn r node p).psi.ch y := by simp [State.frameIn, h.ch]

@[simp] theorem State.cmpReply_drivenWithin (r q status data) : DrivenWithin (s.cmpReply r q status data).psi.ch y := by
  simp only [State.cmpReply]
  (repeat' split) <;> simp [h.ch]

@[simp] theorem State.nodeAnswer_drivenWithin (r q status data) : DrivenWithin (s.nodeAnswer r q status data).psi.ch y := by
  simp only [State.nodeAnswer]
  split <;> simp [h.ch]

/-! ### Units, clusters and dies -/

@[simp] theorem State.fenceLane_drivenWithin (c) : DrivenWithin (s.fenceLane c).psi.ch y := by simp [State.fenceLane, h.ch]

@[simp] theorem State.unitError_drivenWithin (cluster unit sram) : DrivenWithin (s.unitError cluster unit sram).psi.ch y := by
  simp [State.unitError, h.ch]

@[simp] theorem State.loseMemory_drivenWithin : DrivenWithin s.loseMemory.psi.ch y := by simp [State.loseMemory, h.ch]

/-! ### The twin -/

@[simp] theorem State.decideMismatch_drivenWithin (own twin) : DrivenWithin (s.decideMismatch own twin).psi.ch y := by
  simp [State.decideMismatch, h.ch]

@[simp] theorem State.decideSilence_drivenWithin (own) : DrivenWithin (s.decideSilence own).psi.ch y := by simp [State.decideSilence, h.ch]

@[simp] theorem State.outcomeNow_drivenWithin : DrivenWithin s.outcomeNow.psi.ch y := by
  simp only [State.outcomeNow]
  (repeat' split) <;> simp [h.ch]

@[simp] theorem State.outcome_drivenWithin : DrivenWithin s.outcome.psi.ch y := by simp [State.outcome, h.ch]
@[simp] theorem State.beginHand_drivenWithin (why op) : DrivenWithin (s.beginHand why op).psi.ch y := by simp [State.beginHand, h.ch]

@[simp] theorem State.isolateSelf_drivenWithin (hd) : DrivenWithin (s.isolateSelf hd).psi.ch y := by
  simp only [State.isolateSelf]
  split <;> simp [h.ch]

/-! ### Self-tests -/

@[simp] theorem State.startSelftest_drivenWithin : DrivenWithin s.startSelftest.psi.ch y := by simp [State.startSelftest, h.ch]
@[simp] theorem State.startupFail_drivenWithin (code) : DrivenWithin (s.startupFail code).psi.ch y := by simp [State.startupFail, h.ch]

@[simp] theorem State.startupEnd_drivenWithin (code outcome count) : DrivenWithin (s.startupEnd code outcome count).psi.ch y := by
  simp [State.startupEnd, h.ch]

@[simp] theorem State.endSlot_drivenWithin (slot results) : DrivenWithin (s.endSlot slot results).psi.ch y := by
  refine State.foldl_drivenWithin h (fun u b => ?_) _
  (repeat' split) <;> simp

@[simp] theorem State.endSelftest_drivenWithin : DrivenWithin s.endSelftest.psi.ch y := by simp [State.endSelftest, h.ch]
@[simp] theorem State.tested_drivenWithin (code outcome) : DrivenWithin (s.tested code outcome).psi.ch y := by simp [State.tested, h.ch]

omit h in
@[simp] theorem State.enterHold_drivenWithin : DrivenWithin s.enterHold.psi.ch y := by simp [State.enterHold]

omit h in
@[simp] theorem State.leaveHold_drivenWithin : DrivenWithin s.leaveHold.psi.ch y := by simp [State.leaveHold]

/-! ### Updates -/

@[simp] theorem State.enterUpdate_drivenWithin : DrivenWithin s.enterUpdate.psi.ch y := by simp [State.enterUpdate, h.ch]

omit h in
@[simp] theorem State.intoSprout_drivenWithin : DrivenWithin s.intoSprout.psi.ch y := by simp [State.intoSprout]

omit h in
@[simp] theorem State.activate_drivenWithin (mask) : DrivenWithin (s.activate mask).psi.ch y := by simp [State.activate]

omit h in
@[simp] theorem State.startRollback_drivenWithin : DrivenWithin s.startRollback.psi.ch y := by simp [State.startRollback]

@[simp] theorem State.gotParts_drivenWithin (mask) : DrivenWithin (s.gotParts mask).psi.ch y := by simp [State.gotParts, h.ch]
@[simp] theorem State.takeImage_drivenWithin (m) : DrivenWithin (s.takeImage m).psi.ch y := by simp [State.takeImage, h.ch]
@[simp] theorem State.stepHand_drivenWithin : DrivenWithin s.stepHand.psi.ch y := by simp [State.stepHand, h.ch]

@[simp] theorem State.pairStep_drivenWithin : DrivenWithin s.pairStep.psi.ch y := by
  simp only [State.pairStep]
  (repeat' split) <;> simp [h.ch]

@[simp] theorem State.undoPair_drivenWithin : DrivenWithin s.undoPair.psi.ch y := by
  simp only [State.undoPair]
  (repeat' split) <;> simp [h.ch]

@[simp] theorem State.nodeStepEnd_drivenWithin (ok) : DrivenWithin (s.nodeStepEnd ok).psi.ch y := by simp [State.nodeStepEnd, h.ch]

/-! ### The fault manager -/

@[simp] theorem State.openStrings_drivenWithin (f seq) : DrivenWithin (s.openStrings f seq).psi.ch y := by simp [State.openStrings, h.ch]
@[simp] theorem State.faultRunning_drivenWithin : DrivenWithin s.faultRunning.psi.ch y := by simp [State.faultRunning, h.ch, -List.foldl_cons]

@[simp] theorem State.tripModule_drivenWithin (f) : DrivenWithin (s.tripModule f).psi.ch y := by
  unfold State.tripModule
  extract_lets barred watched left
  have hended : barred.faultRunning.endDrive.DrivesWithin y := by simp [barred, h.ch]
  have hleft : left.DrivesWithin y := by simp [left, hended.ch]
  clear_value left
  simp [barred, h.ch, hleft.ch]

@[simp] theorem State.act_drivenWithin (f seq) : DrivenWithin (s.act f seq).psi.ch y := by simp [State.act, h.ch]
@[simp] theorem State.begin_drivenWithin (f) : DrivenWithin (s.begin_ f).psi.ch y := by simp [State.begin_, h.ch]
@[simp] theorem State.escalate_drivenWithin (f) : DrivenWithin (s.escalate f).psi.ch y := by simp [State.escalate, h.ch]

/-! ### Power and start-up -/

@[simp] theorem State.enterP2_drivenWithin : DrivenWithin s.enterP2.psi.ch y := by
  simp -implicitDefEqProofs [State.enterP2, h.ch, -List.foldl_cons]

@[simp] theorem State.enterP5_drivenWithin : DrivenWithin s.enterP5.psi.ch y := by simp [State.enterP5, h.ch]

@[simp] theorem State.enterPower_drivenWithin (p) : DrivenWithin (s.enterPower p).psi.ch y := by
  simp only [State.enterPower]
  split <;> simp [h.ch]

@[simp] theorem State.resumeFrom_drivenWithin (old) : DrivenWithin (s.resumeFrom old).psi.ch y := by simp [State.resumeFrom, h.ch]
@[simp] theorem State.riseDone_drivenWithin : DrivenWithin s.riseDone.psi.ch y := by simp [State.riseDone, h.ch]
@[simp] theorem State.leavePower_drivenWithin (t) : DrivenWithin (s.leavePower t).psi.ch y := by simp [State.leavePower, h.ch]

@[simp] theorem State.prepareStages_drivenWithin : DrivenWithin s.prepareStages.psi.ch y := by
  unfold State.prepareStages
  extract_lets dropped go ramped
  have hdropped : dropped.DrivesWithin y := by simp [dropped, h.ch, -List.foldl_cons]
  clear_value dropped
  simp [ramped, hdropped.ch]

@[simp] theorem State.aim_drivenWithin (p op alone) : DrivenWithin (s.aim p op alone).psi.ch y := by
  unfold State.aim
  extract_lets dropped sys aimed stopped kept
  have hkept : kept.DrivesWithin y := by simp [kept, stopped, aimed, dropped, h.ch]
  simp [hkept.ch]

@[simp] theorem State.startActive_drivenWithin : DrivenWithin s.startActive.psi.ch y := by simp [State.startActive, h.ch]
@[simp] theorem State.startStandby_drivenWithin : DrivenWithin s.startStandby.psi.ch y := by simp [State.startStandby, h.ch]
@[simp] theorem State.roleFell_drivenWithin : DrivenWithin s.roleFell.psi.ch y := by simp [State.roleFell, h.ch]

theorem State.passed_drivesWithin : s.cycle.pollNodes.lostSync.DrivesWithin y := by simpa using h

/-- The tick is unfolded as a function: the kernel would otherwise compare its last match by evaluating the cycle before it. -/
theorem State.tick_drivesWithin : s.tick.DrivesWithin y := by
  rw [show State.tick = _ from by delta State.tick; rfl]
  extract_lets passed visited
  have hpassed : passed.DrivesWithin y := State.passed_drivesWithin h
  clear_value passed
  have hvisited : visited.DrivesWithin y := by simp [visited, hpassed.ch]
  clear_value visited
  split
  · exact State.drivesWithin_iff.2 (by simp [hvisited.ch])
  · exact hvisited

end

end Sys2Proof.Machine
end

section
/-! SUPPORT. Every command but APPLICATION_INSTANT lets no channel begin to drive: those that read by `exec_reads_harmless`, each of the others by
its lemma named _addsNoDrive. In the order of the model's files. -/
namespace Sys2Proof.Machine
open Sys2Proof

/-- A command leaves no channel driving that did not drive before. -/
def AddsNoDrive (s : State) (r : Result) : Prop := ∀ t, r = .next t → t.DrivesWithin s.psi.ch

theorem AddsNoDrive.next {s t : State} (h : t.DrivesWithin s.psi.ch) : AddsNoDrive s (.next t) := by
  rintro _ ⟨rfl⟩
  exact h

theorem AddsNoDrive.of_psi {s t : State} (h : t.psi = s.psi) : AddsNoDrive s (.next t) := .next (by simp [h])

section
variable {s : State} {act : State → State} (ha : ∀ u, (act u).DrivesWithin u.psi.ch)
include ha

theorem AddsNoDrive.of_run {op : Nat} {h : Hdr} {pl : Bytes} {energise : Bool} {blocks : List Nat} :
    AddsNoDrive s (.next (s.wcpRun op h pl energise blocks act)) := .next (State.wcpRun_drivenWithin (.refl s.psi.ch) ha)

theorem AddsNoDrive.of_req {op : Nat} {h : Hdr} {pl : Bytes} : AddsNoDrive s (.next (s.wcpReq op h pl act)) := .of_run ha

theorem AddsNoDrive.of_link {bulk : Bool} {f : Link} : AddsNoDrive s (.next (s.onLink bulk f act)) := by
  have hact := (ha (s.heard bulk f)).ch
  rw [State.heard_psi] at hact
  exact .next (by simp [State.onLink, hact])

theorem AddsNoDrive.of_frame {r : Nat} {addr : Byte} {rx : Rx} : AddsNoDrive s (.next (s.onFrame r addr rx act)) := by
  have hact := (ha (s.arrived r rx)).ch
  rw [State.arrived_psi] at hact
  exact .next (by simp [State.onFrame, hact])

end

section
variable (s : State)

/-! ### Parameters -/

theorem execParamSet_addsNoDrive (h entries) : AddsNoDrive s (execParamSet h entries s) := .of_psi <| by simp
theorem execClusterStatusW1c_addsNoDrive (h inst value) : AddsNoDrive s (execClusterStatusW1c h inst value s) := .of_psi <| by simp
theorem execClusterUnfence_addsNoDrive (h inst value) : AddsNoDrive s (execClusterUnfence h inst value s) := .of_psi <| by simp
theorem execResetCauseW1c_addsNoDrive (h value) : AddsNoDrive s (execResetCauseW1c h value s) := .of_psi <| by simp
theorem execParamStore_addsNoDrive (h) : AddsNoDrive s (execParamStore h s) := .of_psi <| by simp
theorem execCommit_addsNoDrive (h) : AddsNoDrive s (execCommit h s) := .of_psi <| by simp

theorem execCommitApplied_addsNoDrive : AddsNoDrive s (execCommitApplied s) := .of_psi <| by
  split <;> simp

theorem execSnapshotAt_addsNoDrive (h instant) : AddsNoDrive s (execSnapshotAt h instant s) := .of_psi <| by simp

theorem execSnapshotInstant_addsNoDrive (num) : AddsNoDrive s (execSnapshotInstant num s) := .of_psi <| by
  split
  · rfl
  · simp only []
    split
    · exact State.foldl_psi (fun u r => State.snapRing_psi u r _ _ _) _ _
    split
    · exact State.sendCounters_psi _ _
    · rfl

/-! ### Lanes -/

theorem execDutySaturated_addsNoDrive (ch) : AddsNoDrive s (execDutySaturated ch s) := .of_psi <| by simp
theorem execLimitActive_addsNoDrive (ch) : AddsNoDrive s (execLimitActive ch s) := .of_psi <| by simp

theorem execSlowStaleTrip_addsNoDrive (ch) : AddsNoDrive s (execSlowStaleTrip ch s) := .of_psi <| by
  split <;> simp

/-! ### Profiles and axes -/

theorem execLoadAngleSample_addsNoDrive (axis emf settled) : AddsNoDrive s (execLoadAngleSample axis emf settled s) := .of_psi <| by
    simp only []
    (repeat' split) <;> simp

theorem execPositionTick_addsNoDrive : AddsNoDrive s (execPositionTick s) := .of_psi <| by simp
theorem execHoldDelayExpiry_addsNoDrive (axis) : AddsNoDrive s (execHoldDelayExpiry axis s) := .of_psi <| by simp
theorem execBridgeOvercurrent_addsNoDrive (axis) : AddsNoDrive s (execBridgeOvercurrent axis s) := .of_psi <| by simp
theorem execCoilOpen_addsNoDrive (axis phase) : AddsNoDrive s (execCoilOpen axis phase s) := .of_psi <| by simp
theorem execActSupplyLow_addsNoDrive (mv) : AddsNoDrive s (execActSupplyLow mv s) := .of_psi <| by simp
theorem execBridgeHot_addsNoDrive (level) : AddsNoDrive s (execBridgeHot level s) := .of_psi <| by simp

theorem execSf4Incomplete_addsNoDrive (axis) : AddsNoDrive s (execSf4Incomplete axis s) := .of_psi <| by
  split <;> simp

theorem execProfTarget_addsNoDrive (h gen target) : AddsNoDrive s (execProfTarget h gen target s) := .of_psi <| State.wcpReq_psi _ _ _ _ _ fun s => by
    simp only [psiKept_iff]
    (repeat' split) <;> simp

theorem execProfEstop_addsNoDrive (h mask) : AddsNoDrive s (execProfEstop h mask s) := .of_psi <| by simp
theorem execAxisEnable_addsNoDrive (h mask enable) : AddsNoDrive s (execAxisEnable h mask enable s) := .of_psi <| by simp
theorem execAxisHome_addsNoDrive (h axis dir) : AddsNoDrive s (execAxisHome h axis dir s) := .of_psi <| by simp
theorem execAxisSetPos_addsNoDrive (h axis pos) : AddsNoDrive s (execAxisSetPos h axis pos s) := .of_psi <| by simp

theorem execAxisCalibrate_addsNoDrive (h axis speed) : AddsNoDrive s (execAxisCalibrate h axis speed s) := .of_psi <| by
  split <;> simp

/-! ### Sessions -/

theorem execSessionOpen_addsNoDrive (h req) : AddsNoDrive s (execSessionOpen h req s) := .of_psi <| State.wcpReq_psi _ _ _ _ _ fun s => by
    simp only [State.draw, psiKept_iff]
    split
    · simp
    split
    · simp
    split
    · simp
    split
    · simp
    split <;> simp

theorem execHostLinkWrite_addsNoDrive (cmd bytes cut) : AddsNoDrive s (execHostLinkWrite cmd bytes cut s) := .of_psi <| by simp

theorem execHostLinkRead_addsNoDrive (cut) : AddsNoDrive s (execHostLinkRead cut s) := .of_psi <| by
  (repeat' split) <;> simp

theorem execReassemblyTimeout_addsNoDrive (key) : AddsNoDrive s (execReassemblyTimeout key s) := .of_psi <| by
  split <;> simp

theorem execSplitRequestTimeout_addsNoDrive (session) : AddsNoDrive s (execSplitRequestTimeout session s) := .of_psi <| by
  (repeat' split) <;> simp

theorem execEventBatch_addsNoDrive (session) : AddsNoDrive s (execEventBatch session s) := .of_psi <| by
  split <;> simp

theorem execEventBatchRetry_addsNoDrive (session) : AddsNoDrive s (execEventBatchRetry session s) := .of_psi <| by
  (repeat' split) <;> simp

/-! ### Networks and time -/

theorem execArpRequest_addsNoDrive (f ip mac) : AddsNoDrive s (execArpRequest f ip mac s) := .of_psi <| by simp
theorem execIcmpEcho_addsNoDrive (f dst src data) : AddsNoDrive s (execIcmpEcho f dst src data s) := .of_psi <| by simp

theorem execUdpDatagram_addsNoDrive (f dst dport peer key offset more bytes) :
    AddsNoDrive s (execUdpDatagram f dst dport peer key offset more bytes s) :=
  .of_psi <| by simp

theorem execGratuitousArp_addsNoDrive : AddsNoDrive s (execGratuitousArp s) := .of_psi <| by
  simp only []
  (repeat' split) <;> simp

theorem execPrpSupervision_addsNoDrive : AddsNoDrive s (execPrpSupervision s) := .of_psi <| by simp
theorem execPrpFrame_addsNoDrive (f src seq lan) : AddsNoDrive s (execPrpFrame f src seq lan s) := .of_psi <| by simp
theorem execPtpAnnounce_addsNoDrive (f m a) : AddsNoDrive s (execPtpAnnounce f m a s) := .of_psi <| by simp

theorem execPtpAnnounceTimeout_addsNoDrive (port) : AddsNoDrive s (execPtpAnnounceTimeout port s) := .of_psi <| by
  split <;> simp

theorem execPtpSync_addsNoDrive (f m t1 t2 corr interval master) : AddsNoDrive s (execPtpSync f m t1 t2 corr interval master s) := .of_psi <| by simp

theorem execPtpDelayResp_addsNoDrive (f m t2 t3 t4 corr) : AddsNoDrive s (execPtpDelayResp f m t2 t3 t4 corr s) :=
    .of_psi <| State.ptpIn_psi _ _ _ _ _ fun s => by
    simp only [psiKept_iff]
    split
    · rfl
    split
    · rfl
    split <;> simp

theorem execPtpPdelayReq_addsNoDrive (f m rx) : AddsNoDrive s (execPtpPdelayReq f m rx s) := .of_psi <| by simp
theorem execDelayReqDue_addsNoDrive (port) : AddsNoDrive s (execDelayReqDue port s) := .of_psi <| by simp
theorem execHoldoverLong_addsNoDrive : AddsNoDrive s (execHoldoverLong s) := .of_psi <| by simp
theorem execEthLinkChange_addsNoDrive (port link) : AddsNoDrive s (execEthLinkChange port link s) := .of_psi <| by simp

theorem execLaunchTime_addsNoDrive (port frame launch) : AddsNoDrive s (execLaunchTime port frame launch s) := .of_psi <| by
  simp only []
  split <;> simp

theorem execWholeSecond_addsNoDrive : AddsNoDrive s (execWholeSecond s) := .of_psi <| by simp

theorem execTimeStep_addsNoDrive : AddsNoDrive s (execTimeStep s) := .next <| by
  split <;> simp

theorem execTimeJumpAccept_addsNoDrive (h) : AddsNoDrive s (execTimeJumpAccept h s) := .of_psi <| by simp

theorem execTimeJumpReject_addsNoDrive (h) : AddsNoDrive s (execTimeJumpReject h s) := .of_psi <| State.wcpReq_psi _ _ _ _ _ fun s => by
  simp only [psiKept_iff]
  (repeat' split) <;> simp

/-! ### The estimator -/

theorem execEstCycleComplete_addsNoDrive (late) : AddsNoDrive s (execEstCycleComplete late s) := .of_psi <| by
  split
  · rfl
  extract_lets est kept ups fused cells old cycled counted figured judged
  have hkept : kept.psi = s.psi := by simp [kept]
  have hfigured : figured.psi = s.psi := by simp [figured, counted, cycled, fused, hkept]
  have hjudged : judged.psi = figured.psi := State.foldl_psi (fun s r => by
    change (ite _ (State.raise _ _ _ _ _) _).psi = s.psi
    simp) _ _
  simp [hjudged, hfigured]

theorem execEstimatorPersist_addsNoDrive (bad) : AddsNoDrive s (execEstimatorPersist bad s) := .of_psi <| by simp
theorem execEstReset_addsNoDrive (h ring node mask) : AddsNoDrive s (execEstReset h ring node mask s) := .of_psi <| by simp

/-! ### Impedance runs and identities -/

theorem execImpRun_addsNoDrive (h mask) : AddsNoDrive s (execImpRun h mask s) := .of_psi <| by simp
theorem execImpStop_addsNoDrive (h mask) : AddsNoDrive s (execImpStop h mask s) := .of_psi <| by simp
theorem execImpScheduleDue_addsNoDrive (ring) : AddsNoDrive s (execImpScheduleDue ring s) := .of_psi <| by simp
theorem execImpWindowEnd_addsNoDrive (ring) : AddsNoDrive s (execImpWindowEnd ring s) := .of_psi <| by simp

theorem execPrecursorCleared_addsNoDrive (ring) : AddsNoDrive s (execPrecursorCleared ring s) := .of_psi <| by
  simp only []
  split <;> simp

theorem execNodeSyncDue_addsNoDrive (ring) : AddsNoDrive s (execNodeSyncDue ring s) := .of_psi <| by simp

theorem execImpNodeSync_addsNoDrive (h mask) : AddsNoDrive s (execImpNodeSync h mask s) := .of_psi <| State.wcpReq_psi _ _ _ _ _ fun s => by
    simp only [psiKept_iff]
    split
    · simp
    · rw [State.syncStart_psi, State.foldl_psi fun _ _ => State.syncStart_psi _ _ _, State.reply_psi]

theorem execImpRunEnd_addsNoDrive (ring) : AddsNoDrive s (execImpRunEnd ring s) := .of_psi <| by
  simp only []
  split <;> simp

theorem execAuthChallengeDue_addsNoDrive (node nonce) : AddsNoDrive s (execAuthChallengeDue node nonce s) := .of_psi <| by simp

theorem execAuthAnswer_addsNoDrive (node answer) : AddsNoDrive s (execAuthAnswer node answer s) := by
  unfold execAuthAnswer
  refine .of_psi ?_
  split
  · rfl
  extract_lets waited op taken judged
  have hwaited : waited.psi = s.psi := by
    cases answer with
    | none => exact State.advanceTo_psi _ _
    | some d => rfl
  have hjudged : judged.psi = waited.psi := by
    cases answer with
    | none => exact State.authReject_psi _ _ _ _
    | some d => simp -implicitDefEqProofs [judged, taken]
  clear_value judged op
  split
  · rw [State.psi_ite, State.complete_psi, ite_self, hjudged, hwaited]
  · rw [hjudged, hwaited]

theorem execNodeReauth_addsNoDrive (h ring node) : AddsNoDrive s (execNodeReauth h ring node s) := .of_psi <| by simp

theorem execEstimatorCycle_addsNoDrive : AddsNoDrive s (execEstimatorCycle s) := .of_psi <| by
  simp only []
  (repeat' split) <;> simp

/-! ### Power-stage channels -/

theorem execDsClockLoss_addsNoDrive (ch) : AddsNoDrive s (execDsClockLoss ch s) := .next <| by simp
theorem execDsClockRange_addsNoDrive (ch) : AddsNoDrive s (execDsClockRange ch s) := .next <| by simp
theorem execDsStuck_addsNoDrive (ch line) : AddsNoDrive s (execDsStuck ch line s) := .next <| by simp
theorem execDsFrozen_addsNoDrive (ch line) : AddsNoDrive s (execDsFrozen ch line s) := .next <| by simp
theorem execTurnipDsStuck_addsNoDrive (ch) : AddsNoDrive s (execTurnipDsStuck ch s) := .next <| by simp
theorem execGateDriverFault_addsNoDrive (ch lowNs) : AddsNoDrive s (execGateDriverFault ch lowNs s) := .next <| by simp
theorem execReadbackActive_addsNoDrive (ch rb) : AddsNoDrive s (execReadbackActive ch rb s) := .next <| by simp
theorem execReadbackShadow_addsNoDrive (ch rb) : AddsNoDrive s (execReadbackShadow ch rb s) := .next <| by simp
theorem execLoopbackRun_addsNoDrive (h mask) : AddsNoDrive s (execLoopbackRun h mask s) := .of_run fun u => by simp

theorem execLoopbackDue_addsNoDrive (edges) : AddsNoDrive s (execLoopbackDue edges s) := .next <| by
  (repeat' split) <;> simp [-List.foldl_cons]

theorem execChStart_addsNoDrive (h mask) : AddsNoDrive s (execChStart h mask s) := .of_run fun u => by simp

theorem execChStopRamp_addsNoDrive (h mask) : AddsNoDrive s (execChStopRamp h mask s) := .of_req fun u => by
  extract_lets dropped go wait ramped
  have hdropped : dropped.DrivesWithin u.psi.ch := by simp [dropped]
  clear_value dropped
  have hramped : ramped.DrivesWithin u.psi.ch := by simp [ramped, hdropped.ch]
  clear_value ramped
  split
  · simp [hramped.ch]
  · rw [State.drivesWithin_iff, State.reply_psi]
    exact hramped

theorem execChStopImmediate_addsNoDrive (h mask) : AddsNoDrive s (execChStopImmediate h mask s) := .of_req fun u => by
  extract_lets dropped stopping
  have hdropped : dropped.DrivesWithin u.psi.ch := by simp [dropped]
  clear_value dropped
  simp [stopping, hdropped.ch]

theorem execStopComplete_addsNoDrive (ch) : AddsNoDrive s (execStopComplete ch s) := .next <| by simp

theorem execStopTimeout_addsNoDrive (ch) : AddsNoDrive s (execStopTimeout ch s) := .next <| by
  split <;> simp

theorem execPsiFaultClear_addsNoDrive (h mask) : AddsNoDrive s (execPsiFaultClear h mask s) := .of_req fun u => by simp

/-! ### Cell temperatures -/

theorem execThermalEvaluation_addsNoDrive (rows) : AddsNoDrive s (execThermalEvaluation rows s) := .of_psi <| by simp

/-! ### Lifecycle and role -/

theorem execSessionClose_addsNoDrive (h) : AddsNoDrive s (execSessionClose h s) := .of_req fun u => by simp

theorem execSessionIdleTimeout_addsNoDrive (session) : AddsNoDrive s (execSessionIdleTimeout session s) := by
  unfold execSessionIdleTimeout
  cases s.sess session with
  | none => exact .next (by simp)
  | some x => exact .next (by simp)

/-! ### The safety function -/

theorem execSafetyReset_addsNoDrive (h scope mask) : AddsNoDrive s (execSafetyReset h scope mask s) :=
    .of_psi <| State.wcpReq_psi _ _ _ _ _ fun s => by
    simp only [psiKept_iff]
    (repeat' split) <;> simp

theorem execResetArmTimeout_addsNoDrive : AddsNoDrive s (execResetArmTimeout s) := .of_psi <| by
  simp only []
  (repeat' split) <;> simp

theorem execResetInputEdge_addsNoDrive (input lowMs skewMs) : AddsNoDrive s (execResetInputEdge input lowMs skewMs s) := .next <| by simp

theorem execResetLapsed_addsNoDrive : AddsNoDrive s (execResetLapsed s) := .of_psi <| by
  (repeat' split) <;> simp

theorem execSiDemand_addsNoDrive (pair turnip) : AddsNoDrive s (execSiDemand pair turnip s) := .next <| by
  simp only []
  (repeat' split) <;> simp

theorem execSiDiscrepancy_addsNoDrive (pair) : AddsNoDrive s (execSiDiscrepancy pair s) := .next <| by
  split <;> simp

theorem execSiTestPulse_addsNoDrive (input lowUs moved) : AddsNoDrive s (execSiTestPulse input lowUs moved s) := .next <| by simp
theorem execOffPulse_addsNoDrive (out sw core turnip) : AddsNoDrive s (execOffPulse out sw core turnip s) := .next <| by simp
theorem execOnPulse_addsNoDrive (out sw core turnip) : AddsNoDrive s (execOnPulse out sw core turnip s) := .next <| by simp
theorem execSoOverload_addsNoDrive (out) : AddsNoDrive s (execSoOverload out s) := .next <| by simp
theorem execSoOpenLoad_addsNoDrive (out) : AddsNoDrive s (execSoOpenLoad out s) := .next <| by simp
theorem execOvercurrent_addsNoDrive (ch bits) : AddsNoDrive s (execOvercurrent ch bits s) := .next <| by simp
theorem execOcTimeExceeded_addsNoDrive (ch hz) : AddsNoDrive s (execOcTimeExceeded ch hz s) := .next <| by simp

theorem execSafetyHeartbeatLoss_addsNoDrive : AddsNoDrive s (execSafetyHeartbeatLoss s) :=
  .next (by simp [State.resetSoc, State.restartSoc])

theorem execSafetyLockstep_addsNoDrive : AddsNoDrive s (execSafetyLockstep s) := .next <| by simp

theorem execCrossDemand_addsNoDrive (kind strings fromTurnip) : AddsNoDrive s (execCrossDemand kind strings fromTurnip s) := .next <| by
  cases kind with
  | stringTrip => simp
  | runStop => simp
  | stringLockout => simp
  | moduleLockout =>
    extract_lets _ _ ended
    have hended : ended.DrivesWithin s.psi.ch := by simp [ended]
    clear_value ended
    simp [hended.ch]
  | fire => simp [-List.foldl_cons]

theorem execCrossDemandTimeout_addsNoDrive : AddsNoDrive s (execCrossDemandTimeout s) := .next <| by simp

theorem execChannelDiscrepancy_addsNoDrive (string) : AddsNoDrive s (execChannelDiscrepancy string s) := .next <| by
  split <;> simp

theorem execFreewheelToClamp_addsNoDrive (out) : AddsNoDrive s (execFreewheelToClamp out s) := .of_psi <| by simp
theorem execSafetySwitchFrameLoss_addsNoDrive (sw) : AddsNoDrive s (execSafetySwitchFrameLoss sw s) := .of_psi <| by simp
theorem execStringClose_addsNoDrive (h mask) : AddsNoDrive s (execStringClose h mask s) := .of_psi <| by simp
theorem execPrechargeElapsed_addsNoDrive (string) : AddsNoDrive s (execPrechargeElapsed string s) := .of_psi <| by simp
theorem execStringOpenStopped_addsNoDrive (h mask) : AddsNoDrive s (execStringOpenStopped h mask s) := .of_psi <| by simp

theorem execStringOpenRunning_addsNoDrive (h mask) : AddsNoDrive s (execStringOpenRunning h mask s) := .of_req fun u => by simp

theorem execSafetyStatus_addsNoDrive (h) : AddsNoDrive s (execSafetyStatus h s) := .of_psi <| by simp
theorem execConfirmSafetyConfig_addsNoDrive (h crc) : AddsNoDrive s (execConfirmSafetyConfig h crc s) := .of_psi <| by simp
theorem execCommissioningTestStart_addsNoDrive (h ch) : AddsNoDrive s (execCommissioningTestStart h ch s) := .of_psi <| by simp

theorem execCommissioningTestStop_addsNoDrive (h ch) : AddsNoDrive s (execCommissioningTestStop h ch s) := .of_req fun u => by
  (repeat' split) <;> simp

theorem execCtTimeExpiry_addsNoDrive (ch) : AddsNoDrive s (execCtTimeExpiry ch s) := .next <| by
  (repeat' split) <;> simp

theorem execSafeBlockApply_addsNoDrive : AddsNoDrive s (execSafeBlockApply s) := .next <| by simp
theorem execWsfPdu_addsNoDrive (transport peer bytes) : AddsNoDrive s (execWsfPdu transport peer bytes s) := .next <| by simp
theorem execWsfWatchdog_addsNoDrive (conn) : AddsNoDrive s (execWsfWatchdog conn s) := .next <| by simp
theorem execWsfProduce_addsNoDrive (conn) : AddsNoDrive s (execWsfProduce conn s) := .of_psi <| by simp

theorem execSafetyCopy_addsNoDrive (f m) : AddsNoDrive s (execSafetyCopy f m s) := .of_link fun u => by
  split
  · exact .refl _
  · refine State.foldl_drivenWithin (s := { u with safe := _, twin := _ }) (.refl _) (fun v c => ?_) _
    simp

/-! ### CAN controllers -/

theorem execCanTx_addsNoDrive (h ctl entries) : AddsNoDrive s (execCanTx h ctl entries s) := .of_psi <| by simp

theorem execCanTxAbort_addsNoDrive (h ctl handle) : AddsNoDrive s (execCanTxAbort h ctl handle s) := .of_psi <| State.wcpReq_psi _ _ _ _ _ fun s => by
    simp only [psiKept_iff]
    split <;> simp

theorem execCanTxFlush_addsNoDrive (h ctl) : AddsNoDrive s (execCanTxFlush h ctl s) := .of_psi <| by simp
theorem execCanTxResults_addsNoDrive (h ctl max) : AddsNoDrive s (execCanTxResults h ctl max s) := .of_psi <| by simp
theorem execCanRxRead_addsNoDrive (h ctl fifo max) : AddsNoDrive s (execCanRxRead h ctl fifo max s) := .of_psi <| by simp
theorem execCanRecover_addsNoDrive (h ctl) : AddsNoDrive s (execCanRecover h ctl s) := .of_psi <| by simp

theorem execCanTxDone_addsNoDrive (ctl outcome) : AddsNoDrive s (execCanTxDone ctl outcome s) := .of_psi <| by
  simp only []
  (repeat' split) <;> simp

theorem execCanRxFrame_addsNoDrive (ctl f sof flaw) : AddsNoDrive s (execCanRxFrame ctl f sof flaw s) := .next <| by
  simp only []
  (repeat' split) <;> simp

theorem execCanBusOff_addsNoDrive (ctl) : AddsNoDrive s (execCanBusOff ctl s) := .of_psi <| by simp
theorem execCanRecovered_addsNoDrive (ctl) : AddsNoDrive s (execCanRecovered ctl s) := .of_psi <| by simp

/-! ### Field inputs and outputs -/

theorem execFieldScan_addsNoDrive (d) : AddsNoDrive s (execFieldScan d s) := .of_psi <| by simp

theorem execDiOpenWire_addsNoDrive (n isOpen) : AddsNoDrive s (execDiOpenWire n isOpen s) := .of_psi <| by
  simp only []
  (repeat' split) <;> simp

theorem execDoDiagnostic_addsNoDrive (n d) : AddsNoDrive s (execDoDiagnostic n d s) := .of_psi <| by
  simp only []
  (repeat' split) <;> simp

theorem execFieldWatchdog_addsNoDrive : AddsNoDrive s (execFieldWatchdog s) := .of_psi <| by simp
theorem execBarrierLinkLost_addsNoDrive : AddsNoDrive s (execBarrierLinkLost s) := .of_psi <| by simp
theorem execFieldSupplyLow_addsNoDrive : AddsNoDrive s (execFieldSupplyLow s) := .of_psi <| by simp
theorem execFioEdges_addsNoDrive (h max) : AddsNoDrive s (execFioEdges h max s) := .of_psi <| by simp
theorem execFioDoClear_addsNoDrive (h mask) : AddsNoDrive s (execFioDoClear h mask s) := .of_psi <| by simp

/-! ### Period boundaries -/

theorem execControlBoundary_addsNoDrive (samples) : AddsNoDrive s (execControlBoundary samples s) := .next <| by
  split
  · exact .refl _
  extract_lets d begun latched streamed
  have hbegun : begun.DrivesWithin s.psi.ch := by simp [begun]
  clear_value begun
  have hstep : ∀ (u : State) c, ((u.latch c (d.get c)).ocProcessor c).DrivesWithin u.psi.ch := fun u c => by simp
  have hlatched : latched.DrivesWithin s.psi.ch := State.foldl_drivenWithin hbegun hstep [0, 1, 2, 3]
  clear_value latched
  have hstreamed : streamed.DrivesWithin s.psi.ch := by simp [streamed, hlatched.ch]
  clear_value streamed
  split
  · simp [hstreamed.ch, -List.foldl_cons]
  · exact hstreamed

theorem execReleaseInstant_addsNoDrive (late) : AddsNoDrive s (execReleaseInstant late s) := .next <| by
  split
  · exact .refl _
  extract_lets t reached loop opened released recorded recd fb copied
  have hreleased : released.DrivesWithin s.psi.ch := by simp [released, opened, reached, -List.foldl_cons]
  clear_value released
  simp [copied, recorded, hreleased.ch]

/-! ### The recorder -/

theorem execRecordWrite_addsNoDrive (good) : AddsNoDrive s (execRecordWrite good s) := .of_psi <| by
  split <;> simp

theorem execRecClearGeneral_addsNoDrive (h seq) : AddsNoDrive s (execRecClearGeneral h seq s) := .of_psi <| by simp
theorem execRecClearSafety_addsNoDrive (h seq) : AddsNoDrive s (execRecClearSafety h seq s) := .of_psi <| by simp

theorem execRecClearConfirm_addsNoDrive (h seq) : AddsNoDrive s (execRecClearConfirm h seq s) := .of_psi <| State.wcpReq_psi _ _ _ _ _ fun s => by
    simp only [psiKept_iff]
    split <;> simp

theorem execClearLapsed_addsNoDrive : AddsNoDrive s (execClearLapsed s) := .of_psi <| by
  split <;> simp

theorem execFbTrigger_addsNoDrive (h) : AddsNoDrive s (execFbTrigger h s) := .of_psi <| by simp

theorem execFbFrozen_addsNoDrive : AddsNoDrive s (execFbFrozen s) := .of_psi <| by
  split <;> simp

theorem execFbCheckpoint_addsNoDrive : AddsNoDrive s (execFbCheckpoint s) := .of_psi <| by
  split
  · rfl
  · exact (State.updFb_psi _ _).trans (State.foldl_psi (fun _ _ => State.fbPush_psi _ _ _ _) _ s)

theorem execFbRelease_addsNoDrive (h) : AddsNoDrive s (execFbRelease h s) := .of_psi <| by simp

theorem execFbAutoRelease_addsNoDrive : AddsNoDrive s (execFbAutoRelease s) := .of_psi <| by
  split <;> simp

theorem execReplayOpen_addsNoDrive (hd source length) : AddsNoDrive s (execReplayOpen hd source length s) := .of_req fun u => by
  simp only []
  (repeat' split) <;> simp

theorem execReplayLoad_addsNoDrive (h offset bytes) : AddsNoDrive s (execReplayLoad h offset bytes s) :=
    .of_psi <| State.wcpReq_psi _ _ _ _ _ fun s => by
    simp only [psiKept_iff]
    (repeat' split) <;> simp

theorem execReplayStart_addsNoDrive (h cp end_ mode) : AddsNoDrive s (execReplayStart h cp end_ mode s) :=
    .of_psi <| State.wcpReq_psi _ _ _ _ _ fun s => by
    simp only [psiKept_iff]
    (repeat' split) <;> simp

theorem execReplayClose_addsNoDrive (hd) : AddsNoDrive s (execReplayClose hd s) := .of_req fun u => by
  (repeat' split) <;> simp

/-! ### Cell monitoring and balancing -/

theorem execOpenWireRun_addsNoDrive (h ring node tap) : AddsNoDrive s (execOpenWireRun h ring node tap s) := .of_psi <| by simp

theorem execOpenWireResult_addsNoDrive (ring node result below above) :
    AddsNoDrive s (execOpenWireResult ring node result below above s) := .of_psi <| by
  simp only []
  split <;> simp

theorem execWireFaultClear_addsNoDrive (h ring node tap) : AddsNoDrive s (execWireFaultClear h ring node tap s) := .of_psi <| by simp
theorem execCmpReadback_addsNoDrive (ring ov uv hyst) : AddsNoDrive s (execCmpReadback ring ov uv hyst s) := .next <| by simp

theorem execCmpTestDue_addsNoDrive (ring fired) : AddsNoDrive s (execCmpTestDue ring fired s) := .next <| by
  (repeat' split) <;> simp

theorem execCmpTestRun_addsNoDrive (h ring node cell) : AddsNoDrive s (execCmpTestRun h ring node cell s) := .of_psi <| by simp
theorem execBalanceManual_addsNoDrive (h ring node payload) : AddsNoDrive s (execBalanceManual h ring node payload s) := .of_psi <| by simp

theorem execBalancePolicyTick_addsNoDrive (ring) : AddsNoDrive s (execBalancePolicyTick ring s) := .of_psi <| by
  (repeat' split) <;> simp

/-! ### Rings and nodes -/

theorem execRingStart_addsNoDrive (h mask) : AddsNoDrive s (execRingStart h mask s) := .of_psi <| by simp
theorem execRingStop_addsNoDrive (h mask) : AddsNoDrive s (execRingStop h mask s) := .of_psi <| by simp
theorem execRingEnumerate_addsNoDrive (h ring) : AddsNoDrive s (execRingEnumerate h ring s) := .of_psi <| by simp

theorem execEnumResult_addsNoDrive (ring fromP fromQ unaddressed) : AddsNoDrive s (execEnumResult ring fromP fromQ unaddressed s) := .of_psi <| by
  simp

theorem execDelayMeasured_addsNoDrive (ring lps lps2) : AddsNoDrive s (execDelayMeasured ring lps lps2 s) := .of_psi <| by simp
theorem execNodeCounters_addsNoDrive (h ring node source) : AddsNoDrive s (execNodeCounters h ring node source s) := .of_psi <| by simp
theorem execNodePorts_addsNoDrive (h ring node) : AddsNoDrive s (execNodePorts h ring node s) := .of_psi <| by simp

theorem execSweepData_addsNoDrive (ring addr rx p) : AddsNoDrive s (execSweepData ring addr rx p s) := .of_frame fun u => by simp

theorem execReadRetained_addsNoDrive (ring node answer) : AddsNoDrive s (execReadRetained ring node answer s) := .next <| by
  split <;> simp

theorem execSweepSync_addsNoDrive (ring) : AddsNoDrive s (execSweepSync ring s) := .of_psi <| by simp

theorem execLinkEvent_addsNoDrive (ring addr rx port event status) : AddsNoDrive s (execLinkEvent ring addr rx port event status s) := .of_psi <| by
  simp

theorem execPortStatusTimeout_addsNoDrive (ring node) : AddsNoDrive s (execPortStatusTimeout ring node s) := .of_psi <| by simp
theorem execMasterPortLockLoss_addsNoDrive (ring q) : AddsNoDrive s (execMasterPortLockLoss ring q s) := .of_psi <| by simp
theorem execHeartbeatLoss_addsNoDrive (ring node) : AddsNoDrive s (execHeartbeatLoss ring node s) := .next <| by simp

theorem execOsetErrorRate_addsNoDrive (ring errors) : AddsNoDrive s (execOsetErrorRate ring errors s) := .of_psi <| by
  simp only []
  (repeat' split) <;> simp

theorem execNodeReply_addsNoDrive (ring addr rx status data) : AddsNoDrive s (execNodeReply ring addr rx status data s) := .of_frame fun u => by
  simp only []
  split <;> simp

/-! ### Units, clusters and dies -/

theorem execCorrectedError_addsNoDrive (cluster) : AddsNoDrive s (execCorrectedError cluster s) := .of_psi <| by simp
theorem execUncorrectableError_addsNoDrive (group unit sram) : AddsNoDrive s (execUncorrectableError group unit sram s) := .next <| by simp
theorem execLaneLockstep_addsNoDrive (ch) : AddsNoDrive s (execLaneLockstep ch s) := .next <| by simp
theorem execCrossingTimeout_addsNoDrive (far how) : AddsNoDrive s (execCrossingTimeout far how s) := .of_psi <| by simp

theorem execDieReset_addsNoDrive (die) : AddsNoDrive s (execDieReset die s) := .next <| by
  split <;> simp

theorem execOscillatorFault_addsNoDrive : AddsNoDrive s (execOscillatorFault s) := .next <| by simp
theorem execRoleConflict_addsNoDrive : AddsNoDrive s (execRoleConflict s) := .next <| by simp

/-! ### The twin -/

theorem execShallotKeepalive_addsNoDrive (f lifecycle power state _ts timeState) :
    AddsNoDrive s (execShallotKeepalive f lifecycle power state _ts timeState s) :=
  .of_psi <| by simp

theorem execShallotLockLoss_addsNoDrive : AddsNoDrive s (execShallotLockLoss s) := .of_psi <| by simp
theorem execShallotSendWatch_addsNoDrive : AddsNoDrive s (execShallotSendWatch s) := .next <| by simp
theorem execArbStart_addsNoDrive (f _cause) : AddsNoDrive s (execArbStart f _cause s) := .of_psi <| by simp

theorem execArbResult_addsNoDrive (f mask) : AddsNoDrive s (execArbResult f mask s) := .of_link fun u => by simp

theorem execKatComplete_addsNoDrive (lanes) : AddsNoDrive s (execKatComplete lanes s) := .next <| by
  split <;> simp

theorem execShallotSilence_addsNoDrive : AddsNoDrive s (execShallotSilence s) := .of_psi <| by simp

theorem execSilenceRoleHeld_addsNoDrive : AddsNoDrive s (execSilenceRoleHeld s) := .of_psi <| by
  split <;> simp

theorem execAheadTimeout_addsNoDrive : AddsNoDrive s (execAheadTimeout s) := .of_psi <| by simp
theorem execLoopCopy_addsNoDrive (f c) : AddsNoDrive s (execLoopCopy f c s) := .of_psi <| by simp
theorem execUncomparedRun_addsNoDrive (ch) : AddsNoDrive s (execUncomparedRun ch s) := .of_psi <| by simp
theorem execAxisCopy_addsNoDrive (f recs) : AddsNoDrive s (execAxisCopy f recs s) := .of_psi <| by simp
theorem execSweepFinal_addsNoDrive (f m) : AddsNoDrive s (execSweepFinal f m s) := .of_psi <| by simp
theorem execSweepNeed_addsNoDrive (f ring sweep need) : AddsNoDrive s (execSweepNeed f ring sweep need s) := .of_psi <| by simp

theorem execSweepFrame_addsNoDrive (f ring sweep node p) : AddsNoDrive s (execSweepFrame f ring sweep node p s) :=
    .of_psi <| State.onLink_psi _ _ _ _ fun s => by
  simp only [psiKept_iff]
  split <;> simp

theorem execEstCopy_addsNoDrive (f block data) : AddsNoDrive s (execEstCopy f block data s) := .of_psi <| by simp
theorem execEstDigest_addsNoDrive (f m) : AddsNoDrive s (execEstDigest f m s) := .of_psi <| by simp
theorem execParamMirror_addsNoDrive (f session entries) : AddsNoDrive s (execParamMirror f session entries s) := .of_psi <| by simp

theorem execDictCopy_addsNoDrive (f index last values digestOk) : AddsNoDrive s (execDictCopy f index last values digestOk s) :=
  .of_psi <| State.onLink_psi _ _ _ _ fun s => by
    rw [psiKept_iff]
    split
    · rfl
    extract_lets vs all twin gathered take applied sys flags twin' marked wcp stamped twin''
    have happlied : applied.psi = s.psi := State.foldl_psi (fun s v => State.applyCommitted_psi s v) take gathered
    have hstamped : stamped.psi = applied.psi := by
      simp only [stamped]
      split <;> rfl
    clear_value stamped
    split
    · rfl
    · simp only [State.psi_ite, State.storeParams_psi, ite_self, hstamped, happlied]

theorem execStateXfer_addsNoDrive (f kind data last) : AddsNoDrive s (execStateXfer f kind data last s) := .of_psi <| by
  split <;> simp

theorem execStandbyReport_addsNoDrive (f code inst sev data) : AddsNoDrive s (execStandbyReport f code inst sev data s) := .of_psi <| by simp

theorem execWcpFwd_addsNoDrive (f reply h role opcode payload) : AddsNoDrive s (execWcpFwd f reply h role opcode payload s) :=
    .of_psi <| State.onLink_psi _ _ _ _ fun s => by
  simp only [psiKept_iff]
  (repeat' split) <;> simp

theorem execArbHandover_addsNoDrive (f period drill) : AddsNoDrive s (execArbHandover f period drill s) := .of_psi <| by simp

theorem execTwinHandover_addsNoDrive (h) : AddsNoDrive s (execTwinHandover h s) := .of_req fun u => by simp

theorem execSwapDrillDue_addsNoDrive : AddsNoDrive s (execSwapDrillDue s) := .next <| by simp

theorem execSwapWatchEnd_addsNoDrive : AddsNoDrive s (execSwapWatchEnd s) := .of_psi <| by
  split <;> simp

theorem execSwapHandedBack_addsNoDrive (code) : AddsNoDrive s (execSwapHandedBack code s) := .next <| by simp

theorem execTwinIsolate_addsNoDrive (h slot) : AddsNoDrive s (execTwinIsolate h slot s) := .of_req fun u => by simp

theorem execTwinJoin_addsNoDrive (h) : AddsNoDrive s (execTwinJoin h s) := .of_req fun u => by
  (repeat' split) <;> simp

theorem execSuspectClear_addsNoDrive : AddsNoDrive s (execSuspectClear s) := .of_psi <| by simp
theorem execTwinClearSuspect_addsNoDrive (h) : AddsNoDrive s (execTwinClearSuspect h s) := .of_psi <| by simp

theorem execTwinPromote_addsNoDrive (h) : AddsNoDrive s (execTwinPromote h s) := .of_req fun u => by
  (repeat' split) <;> simp

/-! ### Self-tests -/

theorem execSelftestSlotEnd_addsNoDrive (slot results) : AddsNoDrive s (execSelftestSlotEnd slot results s) := .next <| by simp

theorem execSelftestComplete_addsNoDrive : AddsNoDrive s (execSelftestComplete s) := .next <| by
  split
  · exact .refl _
  extract_lets pend limit ended
  have hended : ended.DrivesWithin s.psi.ch := by simp [ended]
  clear_value ended
  have hfailed : (ended.preempted.foldl State.startupFail ended).DrivesWithin s.psi.ch := by simp [hended.ch]
  simp [hfailed.ch]

theorem execBistRun_addsNoDrive (h codes) : AddsNoDrive s (execBistRun h codes s) := .of_psi <| by simp

theorem execBistComplete_addsNoDrive (code sigOk count expected) : AddsNoDrive s (execBistComplete code sigOk count expected s) := .next <| by
  split <;> simp

theorem execScrubDue_addsNoDrive (kind) : AddsNoDrive s (execScrubDue kind s) := .of_psi <| by simp
theorem execClusterRotationDue_addsNoDrive : AddsNoDrive s (execClusterRotationDue s) := .of_psi <| by simp
theorem execStandbyKatDue_addsNoDrive (lanes) : AddsNoDrive s (execStandbyKatDue lanes s) := .next <| by simp
theorem execThermalShutdown_addsNoDrive : AddsNoDrive s (execThermalShutdown s) := .next <| by simp
theorem execThermalHoldPoll_addsNoDrive (readings) : AddsNoDrive s (execThermalHoldPoll readings s) := .next <| by simp
theorem execThermClear_addsNoDrive (h) : AddsNoDrive s (execThermClear h s) := .of_psi <| by simp

/-! ### Updates -/

theorem execUpdBegin_addsNoDrive (h length) : AddsNoDrive s (execUpdBegin h length s) := .of_req fun u => by simp

theorem execUpdData_addsNoDrive (h offset bytes) : AddsNoDrive s (execUpdData h offset bytes s) := .of_psi <| State.wcpReq_psi _ _ _ _ _ fun s => by
    simp only [psiKept_iff]
    split <;> simp

theorem execUpdVerify_addsNoDrive (h) : AddsNoDrive s (execUpdVerify h s) := .of_psi <| State.wcpReq_psi _ _ _ _ _ fun s => by
  simp only [psiKept_iff]
  (repeat' split) <;> simp

theorem execUpdVerifyDone_addsNoDrive : AddsNoDrive s (execUpdVerifyDone s) := .of_psi <| by
  split <;> simp

theorem execUpdAbort_addsNoDrive (h) : AddsNoDrive s (execUpdAbort h s) := .of_req fun u => by simp

theorem execUpdActivate_addsNoDrive (hd mask) : AddsNoDrive s (execUpdActivate hd mask s) := .of_req fun u => by
  simp only []
  (repeat' split) <;> simp

theorem execSproutActivation_addsNoDrive (cut) : AddsNoDrive s (execSproutActivation cut s) := .next <| by
  (repeat' split) <;> simp

theorem execUpdConfirm_addsNoDrive (h) : AddsNoDrive s (execUpdConfirm h s) := .of_psi <| by simp

theorem execConfirmExpired_addsNoDrive : AddsNoDrive s (execConfirmExpired s) := .next <| by
  split <;> simp

theorem execTrialReadyTimeout_addsNoDrive : AddsNoDrive s (execTrialReadyTimeout s) := .next <| by simp
theorem execUpdRollback_addsNoDrive (h mask) : AddsNoDrive s (execUpdRollback h mask s) := .of_req fun u => by simp
theorem execUpdFromTwin_addsNoDrive (h mask) : AddsNoDrive s (execUpdFromTwin h mask s) := .of_req fun u => by simp

theorem execShallotImage_addsNoDrive (f m) : AddsNoDrive s (execShallotImage f m s) := .of_link fun u => by simp

theorem execMixedPairLong_addsNoDrive : AddsNoDrive s (execMixedPairLong s) := .of_psi <| by
  split <;> simp

theorem execNodeStepComplete_addsNoDrive (good node) : AddsNoDrive s (execNodeStepComplete good node s) := .next <| by simp
theorem execKeepaliveDue_addsNoDrive : AddsNoDrive s (execKeepaliveDue s) := .of_psi <| by simp

/-! ### The fault manager -/

theorem execFaultAccepted_addsNoDrive : AddsNoDrive s (execFaultAccepted s) := .next <| by
  split <;> simp

theorem execFaultHandling_addsNoDrive : AddsNoDrive s (execFaultHandling s) := .next <| by
  simp only []
  (repeat' split) <;> simp

theorem execHandlerDeadline_addsNoDrive : AddsNoDrive s (execHandlerDeadline s) := .next <| by
  split
  · exact .refl _
  extract_lets late ended
  have htripped : ([0, 1, 2, 3].foldl State.sf1 late).DrivesWithin s.psi.ch := by simp [late, -List.foldl_cons]
  have hended : ended.DrivesWithin s.psi.ch := by simp [ended, htripped.ch, -List.foldl_cons]
  simp [hended.ch]

/-! ### Power and start-up -/

theorem execMatingQualified_addsNoDrive (slotId slotIdn eeprom) : AddsNoDrive s (execMatingQualified slotId slotIdn eeprom s) := .of_psi <| by simp
theorem execMateDetectOpen_addsNoDrive (ns) : AddsNoDrive s (execMateDetectOpen ns s) := .next <| by simp
theorem execPowerFailWarning_addsNoDrive : AddsNoDrive s (execPowerFailWarning s) := .of_psi <| by simp
theorem execPowerFailWarningClear_addsNoDrive : AddsNoDrive s (execPowerFailWarningClear s) := .of_psi <| by simp
theorem execBrownout_addsNoDrive : AddsNoDrive s (execBrownout s) := .next <| by simp

theorem execAoPowerLoss_addsNoDrive : AddsNoDrive s (execAoPowerLoss s) := .of_psi <| by
  split <;> rfl

theorem execVinRestart_addsNoDrive : AddsNoDrive s (execVinRestart s) := .next <| by
  (repeat' split) <;> simp

theorem execNrstIn_addsNoDrive (ns) : AddsNoDrive s (execNrstIn ns s) := .next <| by
  split
  · exact .refl _
  split
  · simp
  · by_cases hreset : Config.freeBool s.free = true <;> simp [State.draw, hreset]

theorem execAppWdogExpiry_addsNoDrive : AddsNoDrive s (execAppWdogExpiry s) := .next <| by simp

theorem execReset_addsNoDrive (h) : AddsNoDrive s (execReset h s) := .of_req fun u => by
  split <;> simp

theorem execSweepFinalised_addsNoDrive (ring) : AddsNoDrive s (execSweepFinalised ring s) := .of_psi <| by simp

theorem execPowerStepDone_addsNoDrive : AddsNoDrive s (execPowerStepDone s) := .next <| by
  split <;> simp

theorem execPowerSet_addsNoDrive (h target) : AddsNoDrive s (execPowerSet h target s) := .of_req fun u => by
  split <;> simp

theorem execPowerTransitionAbandoned_addsNoDrive (ch) : AddsNoDrive s (execPowerTransitionAbandoned ch s) := .of_psi <| by simp
theorem execStandbyP0Timeout_addsNoDrive : AddsNoDrive s (execStandbyP0Timeout s) := .of_psi <| by simp
theorem execWakeIn_addsNoDrive : AddsNoDrive s (execWakeIn s) := .of_psi <| by simp

theorem execRtcAlarm_addsNoDrive : AddsNoDrive s (execRtcAlarm s) := by
  unfold execRtcAlarm
  extract_lets t
  refine .of_psi ?_
  split
  · rfl
  · rw [State.wake_psi, State.advanceTo_psi]

theorem execCheckVisit_addsNoDrive : AddsNoDrive s (execCheckVisit s) := .next <| by simp
theorem execImageVerified_addsNoDrive (valid confirmed dict) : AddsNoDrive s (execImageVerified valid confirmed dict s) := .next <| by simp

theorem execNegotiateRole_addsNoDrive : AddsNoDrive s (execNegotiateRole s) := .next <| by
  (repeat' split) <;> simp

theorem execNegotiateSilence_addsNoDrive : AddsNoDrive s (execNegotiateSilence s) := .next <| by simp
theorem execStartReady_addsNoDrive : AddsNoDrive s (execStartReady s) := .next <| by simp

theorem execRoleInLow_addsNoDrive : AddsNoDrive s (execRoleInLow s) := .next <| by
  simp only []
  (repeat' split) <;> simp [State.assertRole]

theorem execShallotControl_addsNoDrive (f m) : AddsNoDrive s (execShallotControl f m s) := .of_link fun u => by
  cases m with
  | ladder target =>
    simp only []
    split <;> simp
  | _ => simp

/-! ### Replays -/

theorem execReplayEnd_addsNoDrive : AddsNoDrive s (execReplayEnd s) := .of_psi <| by
  simp only []
  (repeat' split) <;> simp

end

theorem exec_addsNoDrive {c : Instr} (s : State) (hc : c ≠ .applicationInstant) : AddsNoDrive s (exec c s) := by
  by_cases hread : c.reads = true
  · obtain ⟨u, hu, hsame⟩ := exec_reads_harmless s hread
    rw [hu]
    exact .of_psi hsame.psi_eq
  cases c with
  | sessionOpen h req => exact execSessionOpen_addsNoDrive s h req
  | sessionClose h => exact execSessionClose_addsNoDrive s h
  | powerSet h target => exact execPowerSet_addsNoDrive s h target
  | reset h => exact execReset_addsNoDrive s h
  | paramSet h entries => exact execParamSet_addsNoDrive s h entries
  | clusterStatusW1c h inst value => exact execClusterStatusW1c_addsNoDrive s h inst value
  | clusterUnfence h inst value => exact execClusterUnfence_addsNoDrive s h inst value
  | resetCauseW1c h value => exact execResetCauseW1c_addsNoDrive s h value
  | commit h => exact execCommit_addsNoDrive s h
  | commitApplied => exact execCommitApplied_addsNoDrive s
  | paramStore h => exact execParamStore_addsNoDrive s h
  | snapshotAt h instant => exact execSnapshotAt_addsNoDrive s h instant
  | snapshotInstant num => exact execSnapshotInstant_addsNoDrive s num
  | hostLinkWrite cmd bytes cut => exact execHostLinkWrite_addsNoDrive s cmd bytes cut
  | hostLinkRead cut => exact execHostLinkRead_addsNoDrive s cut
  | udpDatagram f dst dport peer key offset more bytes => exact execUdpDatagram_addsNoDrive s f dst dport peer key offset more bytes
  | reassemblyTimeout key => exact execReassemblyTimeout_addsNoDrive s key
  | splitRequestTimeout session => exact execSplitRequestTimeout_addsNoDrive s session
  | sessionIdleTimeout session => exact execSessionIdleTimeout_addsNoDrive s session
  | eventBatch session => exact execEventBatch_addsNoDrive s session
  | eventBatchRetry session => exact execEventBatchRetry_addsNoDrive s session
  | matingQualified slotId slotIdn eeprom => exact execMatingQualified_addsNoDrive s slotId slotIdn eeprom
  | mateDetectOpen ns => exact execMateDetectOpen_addsNoDrive s ns
  | powerFailWarning => exact execPowerFailWarning_addsNoDrive s
  | powerFailWarningClear => exact execPowerFailWarningClear_addsNoDrive s
  | brownout => exact execBrownout_addsNoDrive s
  | aoPowerLoss => exact execAoPowerLoss_addsNoDrive s
  | vinRestart => exact execVinRestart_addsNoDrive s
  | nrstIn ns => exact execNrstIn_addsNoDrive s ns
  | appWdogExpiry => exact execAppWdogExpiry_addsNoDrive s
  | dieReset die => exact execDieReset_addsNoDrive s die
  | oscillatorFault => exact execOscillatorFault_addsNoDrive s
  | crossingTimeout far how => exact execCrossingTimeout_addsNoDrive s far how
  | correctedError cluster => exact execCorrectedError_addsNoDrive s cluster
  | uncorrectableError cluster unit sram => exact execUncorrectableError_addsNoDrive s cluster unit sram
  | laneLockstep ch => exact execLaneLockstep_addsNoDrive s ch
  | roleConflict => exact execRoleConflict_addsNoDrive s
  | roleInLow => exact execRoleInLow_addsNoDrive s
  | wakeIn => exact execWakeIn_addsNoDrive s
  | rtcAlarm => exact execRtcAlarm_addsNoDrive s
  | powerStepDone => exact execPowerStepDone_addsNoDrive s
  | powerTransitionAbandoned ch => exact execPowerTransitionAbandoned_addsNoDrive s ch
  | standbyP0Timeout => exact execStandbyP0Timeout_addsNoDrive s
  | checkVisit => exact execCheckVisit_addsNoDrive s
  | imageVerified valid confirmed dict => exact execImageVerified_addsNoDrive s valid confirmed dict
  | selftestSlotEnd slot results => exact execSelftestSlotEnd_addsNoDrive s slot results
  | selftestComplete => exact execSelftestComplete_addsNoDrive s
  | negotiateRole => exact execNegotiateRole_addsNoDrive s
  | negotiateSilence => exact execNegotiateSilence_addsNoDrive s
  | startReady => exact execStartReady_addsNoDrive s
  | ringStart h mask => exact execRingStart_addsNoDrive s h mask
  | ringStop h mask => exact execRingStop_addsNoDrive s h mask
  | ringEnumerate h ring => exact execRingEnumerate_addsNoDrive s h ring
  | nodeCounters h ring node source => exact execNodeCounters_addsNoDrive s h ring node source
  | nodePorts h ring node => exact execNodePorts_addsNoDrive s h ring node
  | enumResult ring fromP fromQ unaddressed => exact execEnumResult_addsNoDrive s ring fromP fromQ unaddressed
  | delayMeasured ring lps lps2 => exact execDelayMeasured_addsNoDrive s ring lps lps2
  | sweepSync ring => exact execSweepSync_addsNoDrive s ring
  | sweepData ring addr rx p => exact execSweepData_addsNoDrive s ring addr rx p
  | readRetained ring node answer => exact execReadRetained_addsNoDrive s ring node answer
  | sweepFinalised ring => exact execSweepFinalised_addsNoDrive s ring
  | linkEvent ring addr rx port event status => exact execLinkEvent_addsNoDrive s ring addr rx port event status
  | nodeReply ring addr rx status data => exact execNodeReply_addsNoDrive s ring addr rx status data
  | portStatusTimeout ring node => exact execPortStatusTimeout_addsNoDrive s ring node
  | masterPortLockLoss ring q => exact execMasterPortLockLoss_addsNoDrive s ring q
  | heartbeatLoss ring node => exact execHeartbeatLoss_addsNoDrive s ring node
  | osetErrorRate ring errors => exact execOsetErrorRate_addsNoDrive s ring errors
  | balanceManual h ring node payload => exact execBalanceManual_addsNoDrive s h ring node payload
  | openWireRun h ring node tap => exact execOpenWireRun_addsNoDrive s h ring node tap
  | openWireResult ring node result below above => exact execOpenWireResult_addsNoDrive s ring node result below above
  | wireFaultClear h ring node tap => exact execWireFaultClear_addsNoDrive s h ring node tap
  | cmpTestRun h ring node cell => exact execCmpTestRun_addsNoDrive s h ring node cell
  | cmpTestDue ring fired => exact execCmpTestDue_addsNoDrive s ring fired
  | cmpReadback ring ov uv hyst => exact execCmpReadback_addsNoDrive s ring ov uv hyst
  | balancePolicyTick ring => exact execBalancePolicyTick_addsNoDrive s ring
  | controlBoundary samples => exact execControlBoundary_addsNoDrive s samples
  | releaseInstant late => exact execReleaseInstant_addsNoDrive s late
  | slowStaleTrip ch => exact execSlowStaleTrip_addsNoDrive s ch
  | dutySaturated ch => exact execDutySaturated_addsNoDrive s ch
  | limitActive ch => exact execLimitActive_addsNoDrive s ch
  | chStart h mask => exact execChStart_addsNoDrive s h mask
  | chStopRamp h mask => exact execChStopRamp_addsNoDrive s h mask
  | chStopImmediate h mask => exact execChStopImmediate_addsNoDrive s h mask
  | stopComplete ch => exact execStopComplete_addsNoDrive s ch
  | stopTimeout ch => exact execStopTimeout_addsNoDrive s ch
  | psiFaultClear h mask => exact execPsiFaultClear_addsNoDrive s h mask
  | loopbackRun h mask => exact execLoopbackRun_addsNoDrive s h mask
  | loopbackDue edges => exact execLoopbackDue_addsNoDrive s edges
  | dsClockLoss ch => exact execDsClockLoss_addsNoDrive s ch
  | dsClockRange ch => exact execDsClockRange_addsNoDrive s ch
  | dsStuck ch line => exact execDsStuck_addsNoDrive s ch line
  | dsFrozen ch line => exact execDsFrozen_addsNoDrive s ch line
  | turnipDsStuck ch => exact execTurnipDsStuck_addsNoDrive s ch
  | gateDriverFault ch lowNs => exact execGateDriverFault_addsNoDrive s ch lowNs
  | readbackActive ch rb => exact execReadbackActive_addsNoDrive s ch rb
  | readbackShadow ch rb => exact execReadbackShadow_addsNoDrive s ch rb
  | overcurrent ch bits => exact execOvercurrent_addsNoDrive s ch bits
  | ocTimeExceeded ch hz => exact execOcTimeExceeded_addsNoDrive s ch hz
  | profTarget h gen target => exact execProfTarget_addsNoDrive s h gen target
  | profEstop h mask => exact execProfEstop_addsNoDrive s h mask
  | positionTick => exact execPositionTick_addsNoDrive s
  | axisEnable h mask enable => exact execAxisEnable_addsNoDrive s h mask enable
  | axisHome h axis dir => exact execAxisHome_addsNoDrive s h axis dir
  | axisSetPos h axis pos => exact execAxisSetPos_addsNoDrive s h axis pos
  | axisCalibrate h axis speed => exact execAxisCalibrate_addsNoDrive s h axis speed
  | holdDelayExpiry axis => exact execHoldDelayExpiry_addsNoDrive s axis
  | loadAngleSample axis emf settled => exact execLoadAngleSample_addsNoDrive s axis emf settled
  | bridgeOvercurrent axis => exact execBridgeOvercurrent_addsNoDrive s axis
  | coilOpen axis phase => exact execCoilOpen_addsNoDrive s axis phase
  | actSupplyLow mv => exact execActSupplyLow_addsNoDrive s mv
  | bridgeHot level => exact execBridgeHot_addsNoDrive s level
  | sf4Incomplete axis => exact execSf4Incomplete_addsNoDrive s axis
  | estimatorCycle => exact execEstimatorCycle_addsNoDrive s
  | estCycleComplete late => exact execEstCycleComplete_addsNoDrive s late
  | estimatorPersist bad => exact execEstimatorPersist_addsNoDrive s bad
  | estReset h ring node mask => exact execEstReset_addsNoDrive s h ring node mask
  | impRun h mask => exact execImpRun_addsNoDrive s h mask
  | impStop h mask => exact execImpStop_addsNoDrive s h mask
  | impScheduleDue ring => exact execImpScheduleDue_addsNoDrive s ring
  | impWindowEnd ring => exact execImpWindowEnd_addsNoDrive s ring
  | impRunEnd ring => exact execImpRunEnd_addsNoDrive s ring
  | precursorCleared ring => exact execPrecursorCleared_addsNoDrive s ring
  | nodeReauth h ring node => exact execNodeReauth_addsNoDrive s h ring node
  | impNodeSync h mask => exact execImpNodeSync_addsNoDrive s h mask
  | authChallengeDue node nonce => exact execAuthChallengeDue_addsNoDrive s node nonce
  | authAnswer node answer => exact execAuthAnswer_addsNoDrive s node answer
  | nodeSyncDue ring => exact execNodeSyncDue_addsNoDrive s ring
  | safetyHeartbeatLoss => exact execSafetyHeartbeatLoss_addsNoDrive s
  | safetyLockstep => exact execSafetyLockstep_addsNoDrive s
  | crossDemand kind strings fromTurnip => exact execCrossDemand_addsNoDrive s kind strings fromTurnip
  | crossDemandTimeout => exact execCrossDemandTimeout_addsNoDrive s
  | channelDiscrepancy string => exact execChannelDiscrepancy_addsNoDrive s string
  | siDemand pair turnip => exact execSiDemand_addsNoDrive s pair turnip
  | siDiscrepancy pair => exact execSiDiscrepancy_addsNoDrive s pair
  | siTestPulse input lowUs moved => exact execSiTestPulse_addsNoDrive s input lowUs moved
  | offPulse out sw core turnip => exact execOffPulse_addsNoDrive s out sw core turnip
  | onPulse out sw core turnip => exact execOnPulse_addsNoDrive s out sw core turnip
  | soOverload out => exact execSoOverload_addsNoDrive s out
  | soOpenLoad out => exact execSoOpenLoad_addsNoDrive s out
  | stringClose h mask => exact execStringClose_addsNoDrive s h mask
  | prechargeElapsed string => exact execPrechargeElapsed_addsNoDrive s string
  | stringOpenStopped h mask => exact execStringOpenStopped_addsNoDrive s h mask
  | stringOpenRunning h mask => exact execStringOpenRunning_addsNoDrive s h mask
  | safetyStatus h => exact execSafetyStatus_addsNoDrive s h
  | safetyReset h scope mask => exact execSafetyReset_addsNoDrive s h scope mask
  | resetArmTimeout => exact execResetArmTimeout_addsNoDrive s
  | resetInputEdge input lowMs skewMs => exact execResetInputEdge_addsNoDrive s input lowMs skewMs
  | resetLapsed => exact execResetLapsed_addsNoDrive s
  | confirmSafetyConfig h crc => exact execConfirmSafetyConfig_addsNoDrive s h crc
  | commissioningTestStart h ch => exact execCommissioningTestStart_addsNoDrive s h ch
  | commissioningTestStop h ch => exact execCommissioningTestStop_addsNoDrive s h ch
  | ctTimeExpiry ch => exact execCtTimeExpiry_addsNoDrive s ch
  | safeBlockApply => exact execSafeBlockApply_addsNoDrive s
  | wsfPdu transport peer bytes => exact execWsfPdu_addsNoDrive s transport peer bytes
  | wsfWatchdog conn => exact execWsfWatchdog_addsNoDrive s conn
  | wsfProduce conn => exact execWsfProduce_addsNoDrive s conn
  | shallotKeepalive f lifecycle power state ts timeState => exact execShallotKeepalive_addsNoDrive s f lifecycle power state ts timeState
  | keepaliveDue => exact execKeepaliveDue_addsNoDrive s
  | loopCopy f c => exact execLoopCopy_addsNoDrive s f c
  | axisCopy f recs => exact execAxisCopy_addsNoDrive s f recs
  | arbStart f cause => exact execArbStart_addsNoDrive s f cause
  | arbResult f mask => exact execArbResult_addsNoDrive s f mask
  | arbHandover f period drill => exact execArbHandover_addsNoDrive s f period drill
  | katComplete lanes => exact execKatComplete_addsNoDrive s lanes
  | safetyCopy f m => exact execSafetyCopy_addsNoDrive s f m
  | shallotControl f m => exact execShallotControl_addsNoDrive s f m
  | sweepFinal f m => exact execSweepFinal_addsNoDrive s f m
  | sweepNeed f ring sweep need => exact execSweepNeed_addsNoDrive s f ring sweep need
  | sweepFrame f ring sweep node p => exact execSweepFrame_addsNoDrive s f ring sweep node p
  | estCopy f block data => exact execEstCopy_addsNoDrive s f block data
  | estDigest f m => exact execEstDigest_addsNoDrive s f m
  | paramMirror f session entries => exact execParamMirror_addsNoDrive s f session entries
  | dictCopy f index last values digestOk => exact execDictCopy_addsNoDrive s f index last values digestOk
  | wcpFwd f reply h role opcode payload => exact execWcpFwd_addsNoDrive s f reply h role opcode payload
  | stateXfer f kind data last => exact execStateXfer_addsNoDrive s f kind data last
  | standbyReport f code inst sev data => exact execStandbyReport_addsNoDrive s f code inst sev data
  | shallotSendWatch => exact execShallotSendWatch_addsNoDrive s
  | shallotSilence => exact execShallotSilence_addsNoDrive s
  | shallotLockLoss => exact execShallotLockLoss_addsNoDrive s
  | silenceRoleHeld => exact execSilenceRoleHeld_addsNoDrive s
  | aheadTimeout => exact execAheadTimeout_addsNoDrive s
  | uncomparedRun ch => exact execUncomparedRun_addsNoDrive s ch
  | suspectClear => exact execSuspectClear_addsNoDrive s
  | twinHandover h => exact execTwinHandover_addsNoDrive s h
  | twinIsolate h slot => exact execTwinIsolate_addsNoDrive s h slot
  | twinJoin h => exact execTwinJoin_addsNoDrive s h
  | twinClearSuspect h => exact execTwinClearSuspect_addsNoDrive s h
  | twinPromote h => exact execTwinPromote_addsNoDrive s h
  | swapDrillDue => exact execSwapDrillDue_addsNoDrive s
  | swapWatchEnd => exact execSwapWatchEnd_addsNoDrive s
  | swapHandedBack code => exact execSwapHandedBack_addsNoDrive s code
  | ethLinkChange port link => exact execEthLinkChange_addsNoDrive s port link
  | arpRequest f ip mac => exact execArpRequest_addsNoDrive s f ip mac
  | icmpEcho f dst src data => exact execIcmpEcho_addsNoDrive s f dst src data
  | gratuitousArp => exact execGratuitousArp_addsNoDrive s
  | prpSupervision => exact execPrpSupervision_addsNoDrive s
  | prpFrame f src seq lan => exact execPrpFrame_addsNoDrive s f src seq lan
  | ptpAnnounce f m a => exact execPtpAnnounce_addsNoDrive s f m a
  | ptpAnnounceTimeout port => exact execPtpAnnounceTimeout_addsNoDrive s port
  | ptpSync f m t1 t2 corr interval master => exact execPtpSync_addsNoDrive s f m t1 t2 corr interval master
  | ptpDelayResp f m t2 t3 t4 corr => exact execPtpDelayResp_addsNoDrive s f m t2 t3 t4 corr
  | ptpPdelayReq f m rx => exact execPtpPdelayReq_addsNoDrive s f m rx
  | delayReqDue port => exact execDelayReqDue_addsNoDrive s port
  | holdoverLong => exact execHoldoverLong_addsNoDrive s
  | timeStep => exact execTimeStep_addsNoDrive s
  | wholeSecond => exact execWholeSecond_addsNoDrive s
  | timeJumpAccept h => exact execTimeJumpAccept_addsNoDrive s h
  | timeJumpReject h => exact execTimeJumpReject_addsNoDrive s h
  | launchTime port frame launch => exact execLaunchTime_addsNoDrive s port frame launch
  | canTx h ctl entries => exact execCanTx_addsNoDrive s h ctl entries
  | canTxAbort h ctl handle => exact execCanTxAbort_addsNoDrive s h ctl handle
  | canTxFlush h ctl => exact execCanTxFlush_addsNoDrive s h ctl
  | canTxResults h ctl max => exact execCanTxResults_addsNoDrive s h ctl max
  | canRxRead h ctl fifo max => exact execCanRxRead_addsNoDrive s h ctl fifo max
  | canRecover h ctl => exact execCanRecover_addsNoDrive s h ctl
  | canTxDone ctl outcome => exact execCanTxDone_addsNoDrive s ctl outcome
  | canRxFrame ctl f sof flaw => exact execCanRxFrame_addsNoDrive s ctl f sof flaw
  | canBusOff ctl => exact execCanBusOff_addsNoDrive s ctl
  | canRecovered ctl => exact execCanRecovered_addsNoDrive s ctl
  | fieldScan d => exact execFieldScan_addsNoDrive s d
  | diOpenWire n isOpen => exact execDiOpenWire_addsNoDrive s n isOpen
  | doDiagnostic n d => exact execDoDiagnostic_addsNoDrive s n d
  | fieldWatchdog => exact execFieldWatchdog_addsNoDrive s
  | barrierLinkLost => exact execBarrierLinkLost_addsNoDrive s
  | fieldSupplyLow => exact execFieldSupplyLow_addsNoDrive s
  | fioEdges h max => exact execFioEdges_addsNoDrive s h max
  | fioDoClear h mask => exact execFioDoClear_addsNoDrive s h mask
  | thermalEvaluation rows => exact execThermalEvaluation_addsNoDrive s rows
  | thermalShutdown => exact execThermalShutdown_addsNoDrive s
  | thermalHoldPoll readings => exact execThermalHoldPoll_addsNoDrive s readings
  | thermClear h => exact execThermClear_addsNoDrive s h
  | bistRun h codes => exact execBistRun_addsNoDrive s h codes
  | bistComplete code sigOk count expected => exact execBistComplete_addsNoDrive s code sigOk count expected
  | scrubDue kind => exact execScrubDue_addsNoDrive s kind
  | clusterRotationDue => exact execClusterRotationDue_addsNoDrive s
  | standbyKatDue lanes => exact execStandbyKatDue_addsNoDrive s lanes
  | faultAccepted => exact execFaultAccepted_addsNoDrive s
  | faultHandling => exact execFaultHandling_addsNoDrive s
  | handlerDeadline => exact execHandlerDeadline_addsNoDrive s
  | recordWrite good => exact execRecordWrite_addsNoDrive s good
  | recClearGeneral h seq => exact execRecClearGeneral_addsNoDrive s h seq
  | recClearSafety h seq => exact execRecClearSafety_addsNoDrive s h seq
  | recClearConfirm h seq => exact execRecClearConfirm_addsNoDrive s h seq
  | clearLapsed => exact execClearLapsed_addsNoDrive s
  | fbTrigger h => exact execFbTrigger_addsNoDrive s h
  | fbFrozen => exact execFbFrozen_addsNoDrive s
  | fbCheckpoint => exact execFbCheckpoint_addsNoDrive s
  | fbAutoRelease => exact execFbAutoRelease_addsNoDrive s
  | fbRelease h => exact execFbRelease_addsNoDrive s h
  | replayOpen h source length => exact execReplayOpen_addsNoDrive s h source length
  | replayLoad h offset bytes => exact execReplayLoad_addsNoDrive s h offset bytes
  | replayStart h cp end_ mode => exact execReplayStart_addsNoDrive s h cp end_ mode
  | replayEnd => exact execReplayEnd_addsNoDrive s
  | replayClose h => exact execReplayClose_addsNoDrive s h
  | updBegin h length => exact execUpdBegin_addsNoDrive s h length
  | updData h offset bytes => exact execUpdData_addsNoDrive s h offset bytes
  | updVerify h => exact execUpdVerify_addsNoDrive s h
  | updVerifyDone => exact execUpdVerifyDone_addsNoDrive s
  | updActivate h mask => exact execUpdActivate_addsNoDrive s h mask
  | sproutActivation cut => exact execSproutActivation_addsNoDrive s cut
  | updConfirm h => exact execUpdConfirm_addsNoDrive s h
  | updAbort h => exact execUpdAbort_addsNoDrive s h
  | updRollback h mask => exact execUpdRollback_addsNoDrive s h mask
  | updFromTwin h mask => exact execUpdFromTwin_addsNoDrive s h mask
  | shallotImage f m => exact execShallotImage_addsNoDrive s f m
  | trialReadyTimeout => exact execTrialReadyTimeout_addsNoDrive s
  | confirmExpired => exact execConfirmExpired_addsNoDrive s
  | nodeStepComplete good node => exact execNodeStepComplete_addsNoDrive s good node
  | mixedPairLong => exact execMixedPairLong_addsNoDrive s
  | safetySwitchFrameLoss sw => exact execSafetySwitchFrameLoss_addsNoDrive s sw
  | freewheelToClamp out => exact execFreewheelToClamp_addsNoDrive s out
  | applicationInstant => exact absurd rfl hc
  | _ => exact absurd rfl hread

/-- Settles O53: `exec_addsNoDrive` for every command but APPLICATION_INSTANT, `State.tick_drivesWithin` for the idle step. -/
theorem outputsAreEnabledOnlyAtApplicationInstants : Obligations.OutputsAreEnabledOnlyAtApplicationInstants := by
  unfold Obligations.OutputsAreEnabledOnlyAtApplicationInstants
  refine ⟨fun c s t k hexec hoff hon => ?command, fun s t k hidle hstep hoff => ?idle⟩
  case command =>
    by_contra hc
    have hwas : (s.ch k).driven = true := exec_addsNoDrive s hc t hexec k hon
    exact absurd (hoff.symm.trans hwas) nofun
  case idle =>
    rw [step, hidle] at hstep
    obtain ⟨rfl⟩ := hstep
    have hticked : s.tick.DrivesWithin s.psi.ch := State.tick_drivesWithin (.refl s.psi.ch)
    exact Bool.eq_false_iff.2 fun hon => absurd (hoff.symm.trans (hticked k hon)) nofun

end Sys2Proof.Machine
end

section
/-! The proof of O46: the gaps between ascending intervals keep clear of them and cover what they leave (08 R217). -/
namespace Sys2Proof.Machine
open Sys2Proof

/-! ### Lasting intervals and gaps -/

@[simp] theorem mem_lasting {p : Nat × Nat} {l : List (Nat × Nat)} : p ∈ lasting l ↔ p ∈ l ∧ p.1 < p.2 := by simp [lasting]

/-- An interval that does not last adds nothing to the time its list covers. -/
theorem lasting_sum (l : List (Nat × Nat)) : ((lasting l).map fun p => p.2 - p.1).sum = (l.map fun p => p.2 - p.1).sum := by
  induction l with
  | nil => rfl
  | cons p l ih =>
    by_cases hlast : p.1 < p.2
    · simpa [lasting, hlast] using ih
    · have hempty : p.2 - p.1 = 0 := by omega
      simpa [lasting, hlast, hempty] using ih

theorem gaps_within {q : Nat × Nat} {lo hi : Nat} {l : List (Nat × Nat)} (hq : q ∈ gaps lo hi l) : lo ≤ q.1 ∧ q.2 ≤ hi := by
  induction l generalizing lo with
  | nil =>
    obtain rfl : q = (lo, hi) := by simpa [gaps] using hq
    exact ⟨le_rfl, le_rfl⟩
  | cons p t ih =>
    obtain rfl | htail := List.mem_cons.1 hq
    · exact ⟨le_rfl, min_le_right _ _⟩
    · obtain ⟨hlo, hhi⟩ := ih htail
      exact ⟨(le_max_left _ _).trans hlo, hhi⟩

/-- A gap ends before an interval starts, or starts after it ends. -/
theorem gaps_apart {p q : Nat × Nat} {lo hi : Nat} {l : List (Nat × Nat)} (hl : l.Pairwise fun a b => a.1 ≤ b.1) (hp : p ∈ l)
    (hq : q ∈ gaps lo hi l) : q.2 ≤ p.1 ∨ p.2 ≤ q.1 := by
  induction l generalizing lo with
  | nil => cases hp
  | cons a t ih =>
    obtain ⟨hfirst, ht⟩ := List.pairwise_cons.1 hl
    obtain rfl | hq := List.mem_cons.1 hq
    · obtain rfl | hp := List.mem_cons.1 hp
      · exact .inl (min_le_left _ _)
      · exact .inl ((min_le_left _ _).trans (hfirst p hp))
    · obtain rfl | hp := List.mem_cons.1 hp
      · exact .inr ((le_max_right _ _).trans (gaps_within hq).1)
      · exact ih ht hp hq

/-- An instant of the span outside every interval lies in a gap. -/
theorem gaps_cover {t lo hi : Nat} {l : List (Nat × Nat)} (hlo : lo ≤ t) (hhi : t < hi) (hout : ∀ p ∈ l, t < p.1 ∨ p.2 ≤ t) :
    ∃ q ∈ gaps lo hi l, q.1 ≤ t ∧ t < q.2 := by
  induction l generalizing lo with
  | nil => exact ⟨_, List.mem_singleton_self _, hlo, hhi⟩
  | cons p l ih =>
    obtain ⟨hp, hl⟩ := List.forall_mem_cons.1 hout
    obtain hbefore | hafter := hp
    · exact ⟨_, List.mem_cons_self, hlo, lt_min hbefore hhi⟩
    · obtain ⟨q, hq, hin⟩ := ih (max_le hlo hafter) hl
      exact ⟨q, List.mem_cons_of_mem _ hq, hin⟩

/-! ### The high side (R216) -/

/-- The high-side on-intervals of phase i. -/
def phaseHigh (n i on : Nat) : List (Nat × Nat) := if i = 0 then (highSide n on).1 else (highSide n on).2

theorem phaseHigh_ascending (n i on : Nat) : (phaseHigh n i on).Pairwise fun a b => a.1 ≤ b.1 := by
  unfold phaseHigh highSide
  split
  · exact List.Pairwise.filter _ (List.pairwise_singleton _ _)
  · exact List.Pairwise.filter _ (by simp)

section
variable {n on : Nat} (i : Nat) (hon : on ≤ n)
include hon

theorem phaseHigh_within {p : Nat × Nat} (hp : p ∈ phaseHigh n i on) : p.1 < p.2 ∧ p.2 ≤ n := by
  unfold phaseHigh highSide at hp
  split at hp
  · obtain ⟨hmem, hlast⟩ := mem_lasting.1 hp
    obtain rfl := List.mem_singleton.1 hmem
    dsimp only at hlast ⊢
    omega
  · obtain ⟨hmem, hlast⟩ := mem_lasting.1 hp
    obtain rfl | hmem := List.mem_cons.1 hmem
    · dsimp only at hlast ⊢
      omega
    · obtain rfl := List.mem_singleton.1 hmem
      exact ⟨hlast, le_rfl⟩

theorem phaseHigh_sum : ((phaseHigh n i on).map fun p => p.2 - p.1).sum = on := by
  unfold phaseHigh highSide
  split
  · simp [lasting_sum]
  · simp only [lasting_sum, List.map_cons, List.map_nil, List.sum_cons, List.sum_nil]
    omega

end

/-! ### The low side (R217) -/

/-- Intervals of period k, widened by the dead time on both sides. -/
def widened (n dead k : Nat) (l : List (Nat × Nat)) : List (Nat × Nat) := l.map fun p => (p.1 + k * n - dead, p.2 + k * n + dead)

/-- The widened high-side intervals of the previous, the present and the next period. -/
def neighbours (n dead : Nat) (prev on next : List (Nat × Nat)) : List (Nat × Nat) :=
  widened n dead 0 prev ++ widened n dead 1 on ++ widened n dead 2 next

theorem forall_mem_neighbours {n dead : Nat} {prev on next : List (Nat × Nat)} {P : Nat × Nat → Prop} :
    (∀ p ∈ neighbours n dead prev on next, P p) ↔ (∀ p ∈ prev, P (p.1 + 0 * n - dead, p.2 + 0 * n + dead))
      ∧ (∀ p ∈ on, P (p.1 + 1 * n - dead, p.2 + 1 * n + dead)) ∧ ∀ p ∈ next, P (p.1 + 2 * n - dead, p.2 + 2 * n + dead) := by
  simp only [neighbours, widened, List.forall_mem_append, List.forall_mem_map, and_assoc]

section
variable {n dead : Nat} {prev on next : List (Nat × Nat)} {q : Nat × Nat}

theorem mem_lowSide : q ∈ lowSide n dead prev on next ↔
    ∃ g ∈ gaps n (2 * n) (neighbours n dead prev on next), g.1 < g.2 ∧ (g.1 - n, g.2 - n) = q := by
  simp only [lowSide, List.mem_map, mem_lasting, and_assoc]
  rfl

theorem lowSide_within (hq : q ∈ lowSide n dead prev on next) : q.1 < q.2 ∧ q.2 ≤ n := by
  obtain ⟨g, hg, hlast, rfl⟩ := mem_lowSide.1 hq
  obtain ⟨hlo, hhi⟩ := gaps_within hg
  dsimp only
  omega

/-- A low-side interval keeps the dead time to the high side's intervals of each of the three periods. -/
theorem lowSide_apart {k : Nat} {p : Nat × Nat} (hasc : (neighbours n dead prev on next).Pairwise fun a b => a.1 ≤ b.1)
    (hp : (p.1 + k * n - dead, p.2 + k * n + dead) ∈ neighbours n dead prev on next) (hq : q ∈ lowSide n dead prev on next) :
    q.2 + n + dead ≤ p.1 + k * n ∨ p.2 + k * n + dead ≤ q.1 + n := by
  obtain ⟨g, hg, hlast, rfl⟩ := mem_lowSide.1 hq
  obtain ⟨hlo, -⟩ := gaps_within hg
  have hapart := gaps_apart hasc hp hg
  dsimp only at hapart ⊢
  omega

end

/-- The widened intervals of three periods are in ascending order. -/
theorem neighbours_ascending {n i prev on next : Nat} (dead : Nat) (hprev : prev ≤ n) (hon : on ≤ n) :
    (neighbours n dead (phaseHigh n i prev) (phaseHigh n i on) (phaseHigh n i next)).Pairwise fun a b => a.1 ≤ b.1 := by
  have hone : ∀ k on : Nat, (widened n dead k (phaseHigh n i on)).Pairwise fun a b => a.1 ≤ b.1 := fun k on =>
    List.pairwise_map.2 ((phaseHigh_ascending n i on).imp fun hab => by dsimp only; omega)
  have htwo : ∀ {j k : Nat} {on on' : Nat}, j < k → on ≤ n →
      ∀ a ∈ widened n dead j (phaseHigh n i on), ∀ b ∈ widened n dead k (phaseHigh n i on'), a.1 ≤ b.1 := by
    intro j k on on' hjk hon a ha b hb
    obtain ⟨p, hp, rfl⟩ := List.mem_map.1 ha
    obtain ⟨q, -, rfl⟩ := List.mem_map.1 hb
    obtain ⟨hlast, hend⟩ := phaseHigh_within i hon hp
    have hperiods : (j + 1) * n ≤ k * n := Nat.mul_le_mul_right n hjk
    rw [Nat.succ_mul] at hperiods
    dsimp only
    omega
  rw [neighbours, List.pairwise_append, List.pairwise_append]
  refine ⟨⟨hone 0 prev, hone 1 on, htwo one_pos hprev⟩, hone 2 next, fun a ha b hb => ?_⟩
  obtain ha | ha := List.mem_append.1 ha
  · exact htwo two_pos hprev a ha b hb
  · exact htwo one_lt_two hon a ha b hb

/-- Settles O46: the low side is the gaps of one period between the widened high-side intervals of three (`mem_lowSide`), which keep clear of those
(`gaps_apart`) and cover what they leave (`gaps_cover`). -/
theorem phasesKeepTheDeadTime : Obligations.PhasesKeepTheDeadTime := by
  unfold Obligations.PhasesKeepTheDeadTime
  intro n prev on next dead i h l hprev hon hnext hh hl
  obtain rfl : h = phaseHigh n i := hh
  subst hl
  have hasc := neighbours_ascending (i := i) (next := next) dead hprev hon
  obtain ⟨hinPrev, hinOn, hinNext⟩ := forall_mem_neighbours.1 fun p
    (hp : p ∈ neighbours n dead (phaseHigh n i prev) (phaseHigh n i on) (phaseHigh n i next)) => hp
  refine ⟨List.forall_mem_append.2 ⟨fun _ => phaseHigh_within i hon, fun _ => lowSide_within⟩, phaseHigh_sum i hon, fun p hp q hq => ?prev,
    fun p hp q hq => ?on, fun p hp q hq => ?next, fun t ht houtp houto houtn => ?cover⟩
  case prev =>
    obtain ⟨hhigh, hend⟩ := phaseHigh_within i hprev hp
    have hlast := (lowSide_within hq).1
    have hapart := lowSide_apart (k := 0) hasc (hinPrev p hp) hq
    omega
  case on =>
    have hapart := lowSide_apart (k := 1) hasc (hinOn p hp) hq
    omega
  case next =>
    obtain ⟨hlast, hend⟩ := lowSide_within hq
    have hapart := lowSide_apart (k := 2) hasc (hinNext p hp) hq
    omega
  case cover =>
    have hout : ∀ p ∈ neighbours n dead (phaseHigh n i prev) (phaseHigh n i on) (phaseHigh n i next), t + n < p.1 ∨ p.2 ≤ t + n := by
      refine forall_mem_neighbours.2 ⟨fun p hp => .inr ?_, fun p hp => ?_, fun p hp => .inl ?_⟩
      · have hpast := houtp p hp
        omega
      · have hpresent := houto p hp
        omega
      · have hfuture := houtn p hp
        omega
    obtain ⟨g, hg, hfrom, hto⟩ := gaps_cover (lo := n) (hi := 2 * n) (by omega) (by omega) hout
    have hlo := (gaps_within hg).1
    exact ⟨_, mem_lowSide.2 ⟨g, hg, by omega, rfl⟩, by dsimp only; omega, by dsimp only; omega⟩

end Sys2Proof.Machine
end

section
/-! SUPPORT. What the end of a channel's drive leaves of that channel, and that it leaves the others alone (08 R220, Table 8.5): the rules that O49,
O17 and O18 turn on. -/
namespace Sys2Proof.Machine
open Sys2Proof

/-! ### Generators -/

/-- A generator set beside another: the power-side ones are 0 to 3, the axes' ones 4 to 7. -/
theorem State.gen_setGen_same (s : State) {g : Nat} (x : GenSt) (hg : g < 4) : (s.setGen g x).gen g = x := by
  simp [State.setGen, State.gen, ProfSt.gen, hg]

theorem State.gen_setGen_other (s : State) {g k : Nat} (x : GenSt) (hg : g < 4) (hne : k ≠ g) : (s.setGen g x).gen k = s.gen k := by
  by_cases hk : k < 4
  · simp [State.setGen, State.gen, ProfSt.gen, hg, hk, Four.get_set_other _ _ hg hk hne]
  · simp [State.setGen, State.gen, ProfSt.gen, hg, hk]

theorem State.gen_congr {t s : State} (h : t.prof = s.prof) (k : Nat) : t.gen k = s.gen k := congrArg (ProfSt.gen · k) h

theorem Same.prof_eq {t s : State} (h : Same t s) : t.prof = s.prof := by
  obtain ⟨-, -, -, -, -, -, -, -, hprof, -⟩ := h.fields
  exact hprof

/-! ### Runs, starts and stops leave the generators alone -/

section
variable (s : State)

theorem State.sendFrame_prof (r q type addr tag data) : (s.sendFrame r q type addr tag data).prof = s.prof := by
  unfold State.sendFrame
  split
  · split <;> rfl
  · rfl

theorem State.command_prof (r node type data) : (s.command r node type data).prof = s.prof := by
  simp only [State.command]
  split
  · rfl
  · rw [State.sendFrame_prof]
    rfl

theorem State.sendCmd_prof (r node type data h arg) : (s.sendCmd r node type data h arg).prof = s.prof := by
  simp only [State.sendCmd]
  split
  · rfl
  · exact s.command_prof r node type data

theorem State.runEnded_prof (r failed) : (s.runEnded r failed).prof = s.prof := by
  refine foldl_view State.prof (fun s q => ?_) _ _
  unfold State.runDone
  split
  · exact (State.complete_same _ _ _ _).prof_eq
  · rfl

theorem State.writeNode_prof (r node) : (s.writeNode r node).prof = s.prof := by
  unfold State.writeNode
  rw [State.sendCmd_prof]
  exact foldl_view State.prof (fun _ _ => State.command_prof _ _ _ _ _) _ _

theorem State.syncNext_prof (r) : (s.syncNext r).prof = s.prof := by
  unfold State.syncNext
  split
  · rfl
  split
  · rfl
  split
  · simp only []
    split
    · exact (State.complete_same _ _ _ _).prof_eq
    · rfl
  · exact State.writeNode_prof _ _ _

theorem State.abandonRun_prof (r code) : (s.abandonRun r code).prof = s.prof := by
  unfold State.abandonRun
  split
  · rw [State.syncNext_prof, State.runEnded_prof, (State.raise_same _ _ _ _ _).prof_eq]
    rfl
  · rfl

theorem State.startStatus_prof (k v) : (s.startStatus k v).prof = s.prof := by
  refine foldl_view State.prof (fun s r => ?_) _ _
  unfold State.startDone State.answerAll
  split
  · split
    · exact (State.fail_same _ _ _ _ _ _).prof_eq
    · exact (State.reply_same _ _ _ _ _).prof_eq
  · rfl

theorem State.stopStatus_prof (k how) : (s.stopStatus k how).prof = s.prof := by
  refine foldl_view State.prof (fun s r => ?_) _ _
  unfold State.stopDone
  split
  · exact (State.complete_same _ _ _ _).prof_eq
  · rfl

end

/-! ### The end of a channel's drive -/

/-- A channel whose outputs have gone high-impedance, in a run state (R220). -/
def ChSt.ended (x : ChSt) (state : Nat) : ChSt :=
  { x with state := state, driven := false, stopNow := false, freeze := none, lowRun := 0, zeroAt := none, same := [0, 0, 0], onBefore := 0, onNow := 0,
           pwm := ⟨[], [], [], []⟩ }

section
variable (s : State) {c : Nat} (hc : c < 4) (state start stop : Nat)

theorem State.endChannel_psi_ch (c : Nat) : (s.endChannel c state start stop).psi.ch = (s.updCh c (·.ended state)).psi.ch := by
  simp only [State.endChannel, State.abandonRun_psi, State.stopStatus_ch]
  split <;> split <;> split <;> simp [ChSt.ended]

theorem State.gen_endChannel_other {k : Nat} (hc : c < 4) (hne : k ≠ c) : (s.endChannel c state start stop).gen k = s.gen k := by
  have hzero : ∀ u : State, (u.zeroGen c).gen k = u.gen k := fun u => u.gen_setGen_other _ hc hne
  have hprof : ∀ (p : Prop) [Decidable p] (u v : State), (if p then u else v).gen k = if p then u.gen k else v.gen k := fun p _ u v =>
    apply_ite (State.gen · k) _ _ _
  simp only [State.endChannel]
  rw [State.gen_congr (State.abandonRun_prof _ _ _), State.gen_congr (State.stopStatus_prof _ _ _), hprof,
    State.gen_congr (State.startStatus_prof _ _ _), ite_self, hprof, hzero, ite_self]
  split <;> rfl

include hc

theorem State.ch_endChannel_same : (s.endChannel c state start stop).ch c = (s.ch c).ended state := by
  rw [State.ch, State.endChannel_psi_ch]
  exact s.ch_updCh_same _ hc

/-- The abandoned run is withdrawn from the lane (11 R333). -/
theorem State.lane_abandonRun (code : Nat) : ∃ req, (s.abandonRun c code).lane c = { s.lane c with injReq := req } := by
  unfold State.abandonRun
  split
  · refine ⟨false, ?_⟩
    rw [State.driveOf_lane (State.syncNext_driveOf _ c c), State.driveOf_lane (State.runEnded_driveOf _ c c true), (State.raise_same _ _ _ _ _).lane_eq]
    exact s.lane_updLane_same (fun l => { l with injReq := false }) hc
  · exact ⟨_, rfl⟩

theorem State.lane_endChannel_same :
    ((s.endChannel c state start stop).lane c).shadow = none ∧ ((s.endChannel c state start stop).lane c).applied = none := by
  simp only [State.endChannel]
  obtain ⟨req, hrun⟩ := State.lane_abandonRun (State.stopStatus _ c stop) hc 0x5052
  rw [hrun, State.driveOf_lane (State.stopStatus_driveOf _ c c stop)]
  split <;> split <;>
    simp only [State.driveOf_lane (State.startStatus_driveOf _ c c start), State.driveOf_lane (State.zeroGen_driveOf _ c c),
      State.lane_updLane_same _ _ hc, and_self]

theorem State.endChannel_safe_params :
    (s.endChannel c state start stop).safe = s.safe ∧ (s.endChannel c state start stop).wcp.params = s.wcp.params := by
  obtain ⟨k, hk, hne⟩ : ∃ k < 4, c ≠ k := ⟨(c + 1) % 4, by omega, by omega⟩
  have hview := s.endChannel_driveOf_other hc hk hne state start stop
  exact ⟨State.driveOf_safe hview, congrArg DriveView.params hview⟩

end

end Sys2Proof.Machine
end

section
/-! SUPPORT. What a detector leaves of its channel and of the module (08 R207, R220 to R227), and the next state of each: the rules of O49 and O18. -/
namespace Sys2Proof.Machine
open Sys2Proof

theorem Same.safe_eq {t s : State} (h : Same t s) : t.safe = s.safe := by
  obtain ⟨-, -, -, -, -, -, -, -, -, -, hsafe, -⟩ := h.fields
  exact hsafe

theorem Same.ch_eq {t s : State} (h : Same t s) (c : Nat) : t.ch c = s.ch c := by simp only [State.ch, h.psi_eq]

/-- Channel c is disabled and its lane has no duty, and the other channels, lanes and generators, the safety state and the parameters stand. -/
def State.DisabledAlone (s t : State) (c : Nat) : Prop :=
  (t.ch c).state = 4 ∧ (t.ch c).driven = false ∧ (t.ch c).pwm = ⟨[], [], [], []⟩ ∧ (t.ch c).stopNow = false
    ∧ (t.lane c).shadow = none ∧ (t.lane c).applied = none ∧ ((t.ch c).hwDisable = true ∨ (t.ch c).gateTurnipShut = true)
    ∧ (∀ k, k < 4 → k ≠ c → t.ch k = s.ch k ∧ t.lane k = s.lane k ∧ t.gen k = s.gen k ∧ t.gen (k + 4) = s.gen (k + 4))
    ∧ t.safe = s.safe ∧ t.wcp.params = s.wcp.params

section
variable {s t : State} {c : Nat} {f : ChSt → ChSt} (hc : c < 4) (ht : Same t ((s.updCh c f).faultChannel c))
include hc ht

/-- A detector writes its finding f into the channel and faults it: whatever reports it then leaves the channel so. -/
theorem Same.ch_of_faulted : t.ch c = (f (s.ch c)).ended 4 := by
  rw [State.ch, ht.psi_eq]
  exact ((s.updCh c f).ch_endChannel_same hc 4 0x0105 2).trans (congrArg (ChSt.ended · 4) (s.ch_updCh_same f hc))

theorem Same.disabledAlone_of_faulted (hlatch : (f (s.ch c)).hwDisable = true ∨ (f (s.ch c)).gateTurnipShut = true) : s.DisabledAlone t c := by
  have hch := ht.ch_of_faulted hc
  obtain ⟨hshadow, happlied⟩ := (s.updCh c f).lane_endChannel_same hc 4 0x0105 2
  obtain ⟨hsafe, hparams⟩ := (s.updCh c f).endChannel_safe_params hc 4 0x0105 2
  have hothers : ∀ k, k < 4 → k ≠ c → t.driveOf k = s.driveOf k := fun k hk hne =>
    (ht.driveOf k).trans (((s.updCh c f).endChannel_driveOf_other hc hk hne.symm 4 0x0105 2).trans (s.updCh_driveOf_other hc hk hne.symm f))
  obtain ⟨-, hkept, -⟩ := id ht
  have hgens : ∀ k, k ≠ c → t.gen k = s.gen k := fun k hne =>
    (State.gen_congr ht.prof_eq k).trans ((s.updCh c f).gen_endChannel_other 4 0x0105 2 hc hne)
  refine ⟨?_, ?_, ?_, ?_, (ht.lane_eq c).symm ▸ hshadow, (ht.lane_eq c).symm ▸ happlied, ?_, fun k hk hne => ?_,
    ht.safe_eq.trans hsafe, hkept.trans hparams⟩
  · rw [hch]; rfl
  · rw [hch]; rfl
  · rw [hch]; rfl
  · rw [hch]; rfl
  · rw [hch]; exact hlatch
  · exact ⟨State.driveOf_ch (hothers k hk hne), State.driveOf_lane (hothers k hk hne), hgens k hne, hgens (k + 4) (by omega)⟩

end

/-- What the detectors of R207, R221, R222 and R225 do: f notes the finding, the disable latch is set, the finding is counted and raised. -/
def State.detected (s : State) (c : Nat) (f : ChSt → ChSt) (counter code : Nat) (data : Bytes := []) : State :=
  ((s.disable c f).inc counter c).raise code c 2 data

section
variable (s : State) {c : Nat} (f : ChSt → ChSt) (counter code : Nat) (data : Bytes)

theorem State.detected_same (c : Nat) :
    Same (s.detected c f counter code data) ((s.updCh c fun x => { f x with hwDisable := true }).faultChannel c) :=
  (State.raise_same _ _ _ _ _).trans (State.inc_same _ _ _)

theorem State.ch_detected (hc : c < 4) : (s.detected c f counter code data).ch c = ({ f (s.ch c) with hwDisable := true } : ChSt).ended 4 :=
  (s.detected_same f counter code data c).ch_of_faulted hc

theorem State.detected_disabledAlone (hc : c < 4) : s.DisabledAlone (s.detected c f counter code data) c :=
  (s.detected_same f counter code data c).disabledAlone_of_faulted hc (.inl rfl)

theorem State.detected_waits (c : Nat) : (s.detected c f counter code data).waits code c 2 = true := State.raise_waits _ _ _ _ _ (by decide)

end

/-- Turnip's detectors shut its gate on the channel, which goes FAULTED (R227, 12 R344). -/
def State.turnipShuts (s : State) (c : Nat) (f : ChSt → ChSt) : State :=
  (s.updCh c fun x => { f x with gateTurnipShut := true }).faultChannel c

theorem State.ch_turnipShuts (s : State) {c : Nat} (f : ChSt → ChSt) (hc : c < 4) :
    (s.turnipShuts c f).ch c = ({ f (s.ch c) with gateTurnipShut := true } : ChSt).ended 4 :=
  Same.rfl'.ch_of_faulted hc

theorem State.raiseWith_waits (s : State) (code inst sev : Nat) (data : Bytes) (parent : Option (Nat × Nat)) (strings : Option (BitVec 4))
    (h : sev ≠ 0) : (s.raiseWith code inst sev data parent strings).waits code inst sev = true := by
  simp [State.raiseWith, State.waits, mkFault, h]

/-! ### The detectors' next states -/

section
variable {s : State} {c : Nat}

theorem exec_dsClockLoss : exec (.dsClockLoss c) s = .next (s.detected c (fun x => { x with clkLoss := true }) 0x3B2 0x3103) := rfl

theorem exec_dsClockRange (h : 3 ≤ (s.ch c).clkBad) :
    exec (.dsClockRange c) s = .next (s.detected c (fun x => { x with clkRange := true }) 0x3B2 0x3104 (u32 (s.ch c).fclk)) :=
  congrArg Host.Outcome.next (if_neg (not_lt.2 h))

/-- What DS_STUCK notes of an input (R225). -/
def ChSt.noteStuck (x : ChSt) (line now : Nat) : ChSt :=
  { x with stuck := x.stuck ||| BitVec.ofNat 3 (2 ^ line), stuckAt := some now, trans := x.trans.set line 0 }

theorem exec_dsStuck (line : Nat) : exec (.dsStuck c line) s = .next (s.detected c (·.noteStuck line s.now) 0x3B0 0x3101 (u8 line)) := rfl

theorem exec_gateDriverFault {lowNs : Nat} (h : s.parN 0x38D c ≤ lowNs) :
    exec (.gateDriverFault c lowNs) s = .next (s.detected c (fun x => { x with gdf := true }) 0x3B3 0x3105) :=
  congrArg Host.Outcome.next (if_neg (not_lt.2 h))

theorem exec_readbackActive {rb : List Readback} (hactive : s.isActive = true) (hdriven : (s.ch c).driven = true)
    (hbad : threeBad rb (1000 * s.parN 0x391 c) = true) :
    exec (.readbackActive c rb) s = .next (s.detected c (fun x => { x with rbActive := true }) 0x3B4 0x3106) :=
  congrArg Host.Outcome.next (if_neg (by simp [hactive, hdriven, hbad]))

theorem exec_readbackShadow {rb : List Readback} (hstandby : s.isStandby = true) (hruns : (s.ch c).state = 2)
    (hbad : threeBad rb (1000 * s.parN 0x391 c + 2000 * s.parN 0x300 0 / 32768) = true) :
    exec (.readbackShadow c rb) s = .next (((s.updCh c fun x => { x with rbShadow := true }).inc 0x3B4 c).raise 0x3107 c 1) :=
  congrArg Host.Outcome.next (if_neg (by simp [hstandby, hruns, hbad]))

theorem exec_turnipDsStuck : exec (.turnipDsStuck c) s = .next ((s.turnipShuts c fun x => { x with turnipStuck := true }).raise 0x3109 c 2) := rfl

theorem exec_overcurrent {bits : List Bool} (hc : c < 4) (h : s.ocTrips c bits = true) :
    exec (.overcurrent c bits) s = .next (((s.updCh c fun x => { x with oc := true }).inc 0x3B6 c).tripFault 0x6011 c [c]) :=
  congrArg Host.Outcome.next (if_neg (by simp [h, hc]))

theorem exec_ocTimeExceeded {hz : Nat} (hc : c < 4) (h : s.ocSlow c hz = true) :
    exec (.ocTimeExceeded c hz) s = .next ((s.turnipShuts c id).raiseWith 0x6017 c 2 [] none (some (BitVec.ofNat 4 (2 ^ c)))) :=
  congrArg Host.Outcome.next (if_neg (by simp [h, hc]))

/-- DS_FROZEN of an input that is not yet noted, on a channel with no freeze in progress (R226). -/
theorem exec_dsFrozen {line : Nat} (hsame : s.parN 0x389 c ≤ (s.ch c).same.getD line 0) (hnew : (s.ch c).frozen.getLsbD line = false) :
    exec (.dsFrozen c line) s = .next ((s.updCh c fun x => { x with
      frozen := x.frozen ||| BitVec.ofNat 3 (2 ^ line)
      freeze := if x.freeze.isSome then x.freeze else some (if s.loop.passed then 1 else 2, s.loop.stamp, line) }).inc 0x3B1 c) :=
  congrArg Host.Outcome.next (if_neg (by simp [hnew]; exact hsame))

end

end Sys2Proof.Machine
end

section
/-! The proofs of O49 and O18. -/
namespace Sys2Proof.Machine
open Sys2Proof

/-- Settles O49: a detector that faults its channel disables it alone (`Same.disabledAlone_of_faulted`), and each of the six does that. -/
theorem detectorsDisableTheirChannelAlone : Obligations.DetectorsDisableTheirChannelAlone := by
  unfold Obligations.DetectorsDisableTheirChannelAlone
  intro s c n i hc hn hi
  simp only [List.mem_cons, List.not_mem_nil, or_false] at hi
  have hstuck : ∀ line, ∃ t, exec (.dsStuck c line) s = .next t ∧ s.DisabledAlone t c := fun line =>
    ⟨_, exec_dsStuck line, State.detected_disabledAlone _ _ _ _ _ hc⟩
  obtain rfl | rfl | rfl | rfl | rfl | rfl := hi
  · exact ⟨_, exec_dsClockLoss, State.detected_disabledAlone _ _ _ _ _ hc⟩
  · exact hstuck 0
  · exact hstuck 1
  · exact hstuck 2
  · exact ⟨_, exec_gateDriverFault hn, State.detected_disabledAlone _ _ _ _ _ hc⟩
  · exact ⟨_, exec_turnipDsStuck, (State.raise_same _ _ _ _ _).disabledAlone_of_faulted hc (.inr rfl)⟩

/-- Settles O18. Every detector that disables its channel leaves it FAULTED (`State.ch_detected`, `State.ch_turnipShuts`). Two of them do not disable it:
a frozen input keeps the last duty for two more periods and raises its fault at their end (R226), and the standby's comparison only reports (R223). -/
theorem detectorsComplete : Obligations.DetectorsComplete := by
  unfold Obligations.DetectorsComplete
  refine ⟨fun s c hc => ?clockLoss, fun s c hc hbad => ?clockRange, fun s c l hc _ => ?stuck, fun s c l hc _ hsame hnew hfree => ?frozen,
    fun s c hc => ?turnipStuck, fun s c n hc hn => ?gateDriver, fun s c n hn => ?filtered, fun s c rb hc hactive hdriven hbad => ?active,
    fun s c rb hc hstandby hruns hbad => ?shadow, fun a b c tol => ?three, fun s c bits hc htrips => ?trips, fun s c bits hno => ?stays,
    fun s c f hc hslow => ?slow⟩
  case clockLoss =>
    refine ⟨_, exec_dsClockLoss, ?_⟩
    rw [State.ch_detected _ _ _ _ _ hc]
    exact ⟨rfl, rfl, rfl, State.detected_waits _ _ _ _ _ _⟩
  case clockRange =>
    refine ⟨_, exec_dsClockRange hbad, ?_⟩
    rw [State.ch_detected _ _ _ _ _ hc]
    exact ⟨rfl, rfl, State.detected_waits _ _ _ _ _ _⟩
  case stuck =>
    refine ⟨_, exec_dsStuck l, ?_⟩
    rw [State.ch_detected _ _ _ _ _ hc]
    exact ⟨rfl, rfl, rfl, rfl, State.detected_waits _ _ _ _ _ _⟩
  case frozen =>
    refine ⟨_, exec_dsFrozen hsame hnew, ?_⟩
    have hch := s.ch_updCh_same (fun x => { x with
      frozen := x.frozen ||| BitVec.ofNat 3 (2 ^ l)
      freeze := if x.freeze.isSome then x.freeze else some (if s.loop.passed then 1 else 2, s.loop.stamp, l) }) hc
    rw [hfree] at hch
    rw [show ∀ u : State, (u.inc 0x3B1 c).ch c = u.ch c from fun _ => rfl, hch]
    exact ⟨rfl, rfl, rfl⟩
  case turnipStuck =>
    refine ⟨_, exec_turnipDsStuck, ?_⟩
    rw [(State.raise_same _ _ _ _ _).ch_eq, State.ch_turnipShuts _ _ hc]
    exact ⟨rfl, rfl, rfl, State.raise_waits _ _ _ _ _ (by decide)⟩
  case gateDriver =>
    refine ⟨_, exec_gateDriverFault hn, ?_⟩
    rw [State.ch_detected _ _ _ _ _ hc]
    exact ⟨rfl, rfl, rfl, State.detected_waits _ _ _ _ _ _⟩
  case filtered => exact congrArg Host.Outcome.next (if_pos hn)
  case active =>
    refine ⟨_, exec_readbackActive hactive hdriven hbad, ?_⟩
    rw [State.ch_detected _ _ _ _ _ hc]
    exact ⟨rfl, rfl, rfl, State.detected_waits _ _ _ _ _ _⟩
  case shadow =>
    refine ⟨_, exec_readbackShadow hstandby hruns hbad, ?_⟩
    rw [((State.raise_same _ _ _ _ _).trans (State.inc_same _ _ _)).ch_eq, State.ch_updCh_same _ _ hc]
    exact ⟨rfl, hruns, State.raise_waits _ _ _ _ _ (by decide)⟩
  case three =>
    have hall : threeBad [a, b, c] tol = (readbackBad c tol && (readbackBad b tol && (readbackBad a tol && true))) := rfl
    rw [hall, Bool.and_true, Bool.and_comm, Bool.and_comm (readbackBad b tol)]
  case trips =>
    refine ⟨_, exec_overcurrent hc htrips, ?_, rfl⟩
    rw [(State.inc_same _ _ _).ch_eq, State.ch_updCh_same _ _ hc]
  case stays => exact congrArg Host.Outcome.next (if_pos (.inr (by simp [hno])))
  case slow =>
    refine ⟨_, exec_ocTimeExceeded hc hslow, ?_⟩
    rw [(State.raiseWith_same _ _ _ _ _ _ _).ch_eq, State.ch_turnipShuts _ _ hc]
    exact ⟨rfl, rfl, State.raiseWith_waits _ _ _ _ _ _ _ (by decide)⟩

end Sys2Proof.Machine
end

section
/-! The proof of O17: the next state of each command where its mask names one channel, and what that leaves of the channel. -/
namespace Sys2Proof.Machine
open Sys2Proof

theorem lt_of_bitsSet_eq {n v c : Nat} (h : bitsSet n v = [c]) : c < n := by
  have hc : c ∈ bitsSet n v := h ▸ List.mem_singleton_self c
  exact List.mem_range.1 (List.mem_filter.1 hc).1

theorem Same.closed_eq {t s : State} (h : Same t s) (r : Nat) : t.closed r = s.closed r := by
  simp only [State.closed, h.safe_eq]

theorem Same.bist_eq {t s : State} (h : Same t s) : t.bist = s.bist := by
  obtain ⟨-, -, -, -, -, -, -, -, -, -, -, -, -, -, hbist, -⟩ := h.fields
  exact hbist

/-! ### Starts, stops and clears of one channel -/

/-- A start that waits for an application instant (R232). -/
def State.awaitStart (s : State) (r : StartReq) : State := { s with psi := { s.psi with starts := s.psi.starts ++ [r] } }

/-- A ramp stop that waits for its channels' ends (R233). -/
def State.awaitStop (s : State) (r : StopReq) : State := { s with psi := { s.psi with stops := s.psi.stops ++ [r] } }

/-- A channel's outputs are to stop at the next application instant (R233). -/
def State.stopsNow (s : State) (c : Nat) : State := s.updCh c fun x => { x with stopNow := true }

/-- A channel cleared of its fault (R235). -/
def ChSt.cleared (x : ChSt) : ChSt := { x with state := 0, hwDisable := false, oc := false, rbActive := false, rbShadow := false }

section
variable (s : State) {c : Nat} (hc : c < 4)

theorem State.rampStop_psi (c : Nat) : (s.rampStop c).psi = (s.updCh c fun x => { x with state := 3, lowRun := 0, zeroAt := none }).psi := by
  simp [State.rampStop]

include hc

theorem State.ch_beginStart : (s.beginStart c).ch c = { s.ch c with state := 1, stopNow := false, lowRun := 0, zeroAt := none } :=
  s.ch_updCh_same (fun x => { x with state := 1, stopNow := false, lowRun := 0, zeroAt := none }) hc

theorem State.lane_beginStart : (s.beginStart c).lane c = { (s.lane c).stopped with shadow := none, applied := none } :=
  State.lane_updLane_same (s.updCh c fun x => { x with state := 1, stopNow := false, lowRun := 0, zeroAt := none }) _ hc

theorem State.ch_rampStop : (s.rampStop c).ch c = { s.ch c with state := 3, lowRun := 0, zeroAt := none } := by
  rw [State.ch, State.rampStop_psi]
  exact s.ch_updCh_same _ hc

theorem State.gen_rampStop_tgt : ((s.rampStop c).gen c).tgt = 0 := by
  rw [State.rampStop, State.gen_congr (State.abandonRun_prof _ _ _), State.retarget, if_pos hc]
  exact congrArg GenSt.tgt (State.gen_setGen_same _ _ hc)

end

section
variable {s u : State} {h : Hdr} {m : Byte} {c : Nat} (hm : bitsSet 4 m.toNat = [c])
include hm

theorem exec_chStart (hp : s.passes 0x0300 h true [0x20 + c, 0x34 + c, 0x40 + c] = true) (hu : u = s.admitted 0x0300 h [m])
    (hj : u.startJudge h c = none) : exec (.chStart h m) s = .next ((u.beginStart c).awaitStart ⟨h, [c], [(c, none)]⟩) := by
  have hblocks : [c].flatMap (fun c => [0x20 + c, 0x34 + c, 0x40 + c]) = [0x20 + c, 0x34 + c, 0x40 + c] := rfl
  show Host.Outcome.next (s.wcpRun _ _ _ _ ((bitsSet 4 m.toNat).flatMap _) _) = _
  rw [hm, hblocks, State.wcpRun_of_passes _ _ _ _ _ _ _ hp, ← hu]
  simp [hj, State.startDone, State.awaitStart]

theorem exec_chStopRamp (hp : s.passes 0x0301 h false [] = true) (hu : u = s.admitted 0x0301 h [m, 0]) (hruns : (u.ch c).state = 2) :
    exec (.chStopRamp h m) s =
      .next (((u.rampStop c).awaitStop ⟨opRef 0x0301 h, [c], [], [], false⟩).reply 0x0301 h 1 (statusBytes [(c, 1)])) := by
  show Host.Outcome.next (s.wcpReq _ _ _ _) = _
  rw [State.wcpReq_of_passes _ _ _ _ _ hp, ← hu, hm]
  simp [State.dropStart, State.awaitStop, hruns]

theorem exec_chStopImmediate (hp : s.passes 0x0301 h false [] = true) (hu : u = s.admitted 0x0301 h [m, 1]) (hruns : (u.ch c).state = 2) :
    exec (.chStopImmediate h m) s = .next ((u.stopsNow c).reply 0x0301 h 0 (statusBytes [(c, 0)])) := by
  show Host.Outcome.next (s.wcpReq _ _ _ _) = _
  rw [State.wcpReq_of_passes _ _ _ _ _ hp, ← hu, hm]
  simp [State.dropStart, State.stopsNow, hruns]

theorem exec_psiFaultClear (hp : s.passes 0x0302 h false [] = true) (hu : u = s.admitted 0x0302 h [m]) (hstate : (u.ch c).state = 4)
    (hcause : (u.ch c).cause = false) (hopen : u.closed c = false) :
    exec (.psiFaultClear h m) s = .next ((u.setCh c (u.ch c).cleared).answerAll 0x0302 h [(c, 0)]) := by
  show Host.Outcome.next (s.wcpReq _ _ _ _) = _
  rw [State.wcpReq_of_passes _ _ _ _ _ hp, ← hu, hm]
  simp [State.clearFault, ChSt.cleared, hstate, hcause, hopen]

end

/-! ### Loopback (R224) -/

/-- A loopback by command begins: the operation to complete and the channels' blocks under test. -/
def State.beginLoopback (s : State) (op : OpRef) (cs : List Nat) : State :=
  { s with psi := { s.psi with loopback := some (op, cs) },
           bist := { s.bist with running := s.bist.running ++ cs.map fun c => (0x40 + c, s.now + 100000000) } }

theorem exec_loopbackRun {s u : State} {h : Hdr} {m : Byte} {cs : List Nat} (hm : bitsSet 4 m.toNat = cs)
    (hp : s.passes 0x0303 h false (cs.map fun c => 0x40 + c) = true) (hu : u = s.admitted 0x0303 h [m]) (hpassive : u.isActive = false)
    (hidle : u.psi.loopback = none) : exec (.loopbackRun h m) s =
      .next ((u.beginLoopback (opRef 0x0303 h) cs).reply 0x0303 h 1 (statusBytes (cs.map fun c => (c, 1)))) := by
  show Host.Outcome.next (s.wcpRun _ _ _ _ ((bitsSet 4 m.toNat).map _) _) = _
  rw [hm, State.wcpRun_of_passes _ _ _ _ _ _ _ hp, ← hu]
  simp [hpassive, hidle, State.beginLoopback]

/-- Settles O17: a command that names one channel has the next state its lemma above gives, and the checks before it leave the module as it was
(`State.admitted_same`). -/
theorem runStateCommandsComplete : Obligations.RunStateCommandsComplete := by
  unfold Obligations.RunStateCommandsComplete
  refine ⟨fun s h m c hp hm hj => ?start, fun s h m c hp hm hruns => ?ramp, fun s h m c hp hm hruns => ?immediate, fun s c hstops hlow => ?complete,
    fun s c t0 hzero hstops => ?timeout, fun s h m c hp hm hfaulted hcause hopen => ?clear, fun s h m hp hpassive hidle => ?run,
    fun s p op cs hrun => ?ends, fun s p v hidle hstandby hv => ?scheduled, fun s h m u hp hu => ?status⟩
  case start =>
    have hc := lt_of_bitsSet_eq hm
    have hu := s.admitted_same 0x0300 h [m]
    refine ⟨_, exec_chStart hm hp rfl hj, ?_, ?_, ?_, ?_⟩
    · exact congrArg ChSt.state (State.ch_beginStart _ hc)
    · exact congrArg LaneSt.shadow (State.lane_beginStart _ hc)
    · exact congrArg LaneSt.applied (State.lane_beginStart _ hc)
    · exact congrArg (fun x : PsiSt => x.starts ++ [⟨h, [c], [(c, none)]⟩]) hu.psi_eq
  case ramp =>
    have hc := lt_of_bitsSet_eq hm
    have hu := s.admitted_same 0x0301 h [m, 0]
    refine ⟨_, exec_chStopRamp hm hp rfl (hu.ch_eq c ▸ hruns), ?_, ?_, ?_⟩
    · rw [(State.reply_same _ _ _ _ _).ch_eq]
      exact congrArg ChSt.state (State.ch_rampStop _ hc)
    · rw [State.gen_congr (State.reply_same _ _ _ _ _).prof_eq]
      exact State.gen_rampStop_tgt _ hc
    · rw [(State.reply_same _ _ _ _ _).psi_eq, ← hu.psi_eq]
      exact congrArg (fun x : PsiSt => x.stops ++ [⟨opRef 0x0301 h, [c], [], [], false⟩]) (State.rampStop_psi _ c)
  case immediate =>
    have hc := lt_of_bitsSet_eq hm
    have hu := s.admitted_same 0x0301 h [m, 1]
    refine ⟨_, exec_chStopImmediate hm hp rfl (hu.ch_eq c ▸ hruns), ?_⟩
    rw [(State.reply_same _ _ _ _ _).ch_eq, State.stopsNow, State.ch_updCh_same _ _ hc, hu.ch_eq]
  case complete => exact congrArg Host.Outcome.next (if_pos ⟨hstops, hlow⟩)
  case timeout =>
    show execStopTimeout c s = _
    simp only [execStopTimeout, hzero, hstops, if_true]
  case clear =>
    have hc := lt_of_bitsSet_eq hm
    have hu := s.admitted_same 0x0302 h [m]
    refine ⟨_, exec_psiFaultClear hm hp rfl (hu.ch_eq c ▸ hfaulted) (hu.ch_eq c ▸ hcause) (hu.closed_eq c ▸ hopen), ?_⟩
    have hch : ∀ u : State, ((u.setCh c (u.ch c).cleared).answerAll 0x0302 h [(c, 0)]).ch c = (u.ch c).cleared := fun u => by
      rw [State.ch, State.answerAll_psi]
      exact u.ch_setCh_same _ hc
    rw [hch]
    exact ⟨rfl, rfl, rfl⟩
  case run =>
    have hu := s.admitted_same 0x0303 h [m]
    refine ⟨_, exec_loopbackRun rfl hp rfl ?_ ?_, ?_, ?_⟩
    · rw [State.isActive, hu.sys_eq]
      exact hpassive
    · rw [hu.psi_eq]
      exact hidle
    · rw [State.reply_psi]
      rfl
    · rw [(State.reply_same _ _ _ _ _).bist_eq, ← hu.bist_eq, ← hu.now_eq]
      rfl
  case ends =>
    show ∃ t, execLoopbackDue p s = .next t ∧ _
    simp only [execLoopbackDue, hrun]
    exact ⟨_, rfl, by rw [State.complete_psi]⟩
  case scheduled =>
    show execLoopbackDue p s = _
    simp only [execLoopbackDue, hidle, hstandby, hv]
    rfl
  case status =>
    show Host.Outcome.next (s.wcpReq _ _ _ _) = _
    rw [State.wcpReq_of_passes _ _ _ _ _ hp, hu]

end Sys2Proof.Machine
end

section
/-! SUPPORT. What the operations of chapter 9 leave of generators and axes: the rules that O19 and O20 turn on. -/
namespace Sys2Proof.Machine
open Sys2Proof

/-! ### Generators and axes under writes -/

theorem Same.gen_eq {t s : State} (h : Same t s) (g : Nat) : t.gen g = s.gen g := State.gen_congr h.prof_eq g

theorem Same.axis_eq {t s : State} (h : Same t s) (a : Nat) : t.axis a = s.axis a := by simp only [State.axis, h.prof_eq]

theorem Same.actMv_eq {t s : State} (h : Same t s) : t.actMv = s.actMv := by simp only [State.actMv, h.sys_eq, h.prof_eq]

section
variable (s : State)

/-- A generator reads back, power-side or axis. -/
theorem State.gen_setGen_self {g : Nat} (x : GenSt) (hg : g < 8) : (s.setGen g x).gen g = x := by
  by_cases h : g < 4
  · exact s.gen_setGen_same x h
  · simp [State.setGen, State.gen, ProfSt.gen, h, show g - 4 < 4 by omega]

theorem State.gen_updGen_self {g : Nat} (f : GenSt → GenSt) (hg : g < 8) : (s.updGen g f).gen g = f (s.gen g) := s.gen_setGen_self _ hg

@[simp] theorem State.axis_setGen (g : Nat) (x : GenSt) (a : Nat) : (s.setGen g x).axis a = s.axis a := by
  unfold State.setGen; split <;> rfl

@[simp] theorem State.axis_updGen (g : Nat) (f : GenSt → GenSt) (a : Nat) : (s.updGen g f).axis a = s.axis a := s.axis_setGen _ _ _

@[simp] theorem State.gen_setAxis (a : Nat) (x : AxisSt) (g : Nat) : (s.setAxis a x).gen g = s.gen g := rfl

@[simp] theorem State.gen_updAxis (a : Nat) (f : AxisSt → AxisSt) (g : Nat) : (s.updAxis a f).gen g = s.gen g := rfl

theorem State.axis_setAxis_same {a : Nat} (x : AxisSt) (ha : a < 4) : (s.setAxis a x).axis a = x := Four.get_set_same _ _ _ ha

theorem State.axis_updAxis_same {a : Nat} (f : AxisSt → AxisSt) (ha : a < 4) : (s.updAxis a f).axis a = f (s.axis a) := s.axis_setAxis_same _ ha

/-- A write that energises no axis leaves one off that is off. -/
theorem State.off_setAxis {a b : Nat} {x : AxisSt} (hx : x.energised = true → (s.axis a).energised = true) (hb : (s.axis b).energised = false) :
    ((s.setAxis a x).axis b).energised = false := by
  rcases Four.get_set_cases s.prof.axis a b x with h | ⟨h, hba⟩
  · exact (congrArg AxisSt.energised h).trans hb
  · have ha : (s.axis a).energised = false := (congrArg AxisSt.energised hba).symm.trans hb
    exact (congrArg AxisSt.energised h).trans (Bool.eq_false_iff.2 fun hon => by simp [hx hon] at ha)

/-! ### New targets (R245) and emergency stops (R247) -/

theorem State.gen_retarget {g : Nat} (tgt : Int) (hg : g < 8) : (s.retarget g tgt).gen g =
    { s.gen g with tgt := tgt, fresh := true, mode := if (s.gen g).mode = .stop then .run else (s.gen g).mode } := by
  unfold State.retarget
  split <;> exact s.gen_updGen_self _ hg

theorem State.axis_retarget {a : Nat} (tgt : Int) (ha : a < 4) : (s.retarget (a + 4) tgt).axis a = { s.axis a with stalled := false } := by
  simp [State.retarget, State.axis_updAxis_same _ _ ha]

/-- A generator g after an emergency stop (R247). -/
def GenSt.emergency (x : GenSt) (g : Nat) : GenSt :=
  if x.v = 0 ∧ x.atRest ∧ (4 ≤ g ∨ x.x = 0) then x.rest x.x (if g < 4 then 0 else x.x)
  else if g < 4 then { x with tgt := 0, mode := .emergency, fresh := true } else { x with mode := .emergency }

theorem State.estop_same (g : Nat) : Same (s.estop g) (s.setGen g ((s.gen g).emergency g)) :=
  (State.raise_same _ _ _ _ _).trans (State.inc_same _ _ _)

@[simp] theorem State.axis_estop (g a : Nat) : (s.estop g).axis a = s.axis a := ((s.estop_same g).axis_eq a).trans (s.axis_setGen _ _ _)

theorem State.gen_estop {g : Nat} (hg : g < 8) : (s.estop g).gen g = (s.gen g).emergency g :=
  ((s.estop_same g).gen_eq g).trans (s.gen_setGen_self _ hg)

theorem GenSt.emergency_of_moving {x : GenSt} (g : Nat) (hmoves : x.atRest = false) :
    (x.emergency g).mode = .emergency ∧ (x.emergency g).tgt = if g < 4 then 0 else x.tgt := by
  unfold GenSt.emergency
  rw [if_neg (by simp [hmoves])]
  split <;> exact ⟨rfl, rfl⟩

/-! ### The end of an axis's runs, and de-energising (R255) -/

theorem State.endRuns_same (a : Nat) : Same (s.endRuns a) (s.setAxis a { s.axis a with home := none, cal := none }) := by
  have hhome : ∀ (r : HomeRun) (u : State), Same (if r.found then u else u.complete r.op 0x0105) u := fun r u =>
    Same.ite Same.rfl' (u.complete_same _ _ _)
  simp only [State.endRuns]
  cases (s.axis a).home with
  | none =>
    cases (s.axis a).cal with
    | none => exact Same.rfl'
    | some c => exact State.complete_same _ _ _ _
  | some r =>
    cases (s.axis a).cal with
    | none => exact hhome r _
    | some c => exact (State.complete_same _ _ _ _).trans (hhome r _)

theorem State.gen_endRuns (a g : Nat) : (s.endRuns a).gen g = s.gen g := (s.endRuns_same a).gen_eq g

theorem State.off_endRuns (a : Nat) {b : Nat} (hb : (s.axis b).energised = false) : ((s.endRuns a).axis b).energised = false := by
  rw [(s.endRuns_same a).axis_eq]
  exact s.off_setAxis id hb

theorem State.off_deenergise_same {a : Nat} (ha : a < 4) : ((s.deenergise a).axis a).energised = false := by
  unfold State.deenergise
  split
  next => simp [State.axis_updAxis_same _ _ ha]
  next hoff => exact Bool.eq_false_iff.2 hoff

theorem State.off_deenergise (a : Nat) {b : Nat} (hb : (s.axis b).energised = false) : ((s.deenergise a).axis b).energised = false := by
  unfold State.deenergise
  split
  · rw [State.axis_updGen]
    exact State.off_setAxis _ (fun h => nomatch h) (s.off_endRuns a hb)
  · exact hb

theorem State.energised_energise {a : Nat} (ha : a < 4) : ((s.energise a).axis a).energised = true := by
  unfold State.energise
  rw [State.axis_updAxis_same _ _ ha]
  split
  next hon => exact hon
  next => rfl

/-! ### What all axes share (Table 9.6) -/

/-- The actuator supply and the bridges' sensor as last measured. -/
def State.bridgeSensors (s : State) : Nat × Nat := (s.prof.supplyMv, s.prof.hot)

theorem Same.bridgeSensors_eq {t s : State} (h : Same t s) : t.bridgeSensors = s.bridgeSensors := by simp only [State.bridgeSensors, h.prof_eq]

theorem State.bridgeSensors_fields {t s : State} (h : t.bridgeSensors = s.bridgeSensors) :
    t.prof.supplyMv = s.prof.supplyMv ∧ t.prof.hot = s.prof.hot := Prod.mk.inj h

@[simp] theorem State.setGen_bridgeSensors (g : Nat) (x : GenSt) : (s.setGen g x).bridgeSensors = s.bridgeSensors := by
  unfold State.setGen; split <;> rfl

@[simp] theorem State.estop_bridgeSensors (g : Nat) : (s.estop g).bridgeSensors = s.bridgeSensors :=
  (s.estop_same g).bridgeSensors_eq.trans (s.setGen_bridgeSensors _ _)

@[simp] theorem State.deenergise_bridgeSensors (a : Nat) : (s.deenergise a).bridgeSensors = s.bridgeSensors := by
  unfold State.deenergise
  split
  · exact (State.setGen_bridgeSensors _ _ _).trans (s.endRuns_same a).bridgeSensors_eq
  · rfl

end

/-- What one step of a fold brings about and every step keeps holds after it. -/
theorem foldl_reaches {α : Type} {P : State → Prop} {f : State → α → State} {b : α} (hmakes : ∀ s, P (f s b))
    (hkeeps : ∀ s a, P s → P (f s a)) {l : List α} (hb : b ∈ l) (s : State) : P (l.foldl f s) := by
  obtain ⟨l₁, l₂, rfl⟩ := List.append_of_mem hb
  rw [List.foldl_append, List.foldl_cons]
  exact List.foldlRecOn l₂ f (motive := P) (hmakes _) (fun s h a _ => hkeeps s a h)

/-- A fold over the axes each of whose steps de-energises its own axis, whatever else it does to generators, leaves every axis off (Table 9.6). -/
theorem off_of_deenergises {f : State → Nat → State} (hf : ∀ s a b, (f s a).axis b = (s.deenergise a).axis b) (s : State) {b : Nat} (hb : b < 4) :
    (((List.range 4).foldl f s).axis b).energised = false :=
  foldl_reaches (P := fun s => (s.axis b).energised = false) (fun s => hf s b b ▸ s.off_deenergise_same hb)
    (fun s a h => hf s a b ▸ s.off_deenergise a h) (List.mem_range.2 hb) s

end Sys2Proof.Machine
end

section
/-! The proof of O19: the next state of each command, and what it leaves of its generator. -/
namespace Sys2Proof.Machine
open Sys2Proof

/-- A generator that is in no stop but one at d1 and d2 takes targets (R247). -/
theorem GenMode.takes_target {m : GenMode} (h : m ∈ [GenMode.run, .stop]) : m ≠ .emergency ∧ m ≠ .homeStop := by
  rcases m <;> simp at h ⊢

section
variable {s u : State} {h : Hdr}

theorem exec_profTarget {g : Byte} {w : BitVec 64} {v : Int} (hp : s.passes 0x0400 h false [] = true)
    (hu : u = s.admitted 0x0400 h (g :: [0, 0, 0] ++ leBytes 8 w.toNat)) (hg : g.toNat < 8) (hmode : (u.gen g.toNat).mode ∈ [GenMode.run, .stop])
    (hch : g.toNat < 4 → (u.ch g.toNat).state ≠ 3)
    (haxis : 4 ≤ g.toNat → (u.axis (g.toNat - 4)).fire = false ∧ (u.axis (g.toNat - 4)).posValid = true ∧ (u.axis (g.toNat - 4)).home = none
      ∧ (u.axis (g.toNat - 4)).cal = none)
    (hv : u.targetOf g.toNat w.toNat = some v) : exec (.profTarget h g w) s = .next ((u.retarget g.toNat v).reply 0x0400 h 0) := by
  obtain ⟨hemergency, hhome⟩ := GenMode.takes_target hmode
  have hopen : ¬ (4 ≤ g.toNat ∧ (u.axis (g.toNat - 4)).fire = true) := fun ⟨hge, hfire⟩ => by simp [haxis hge] at hfire
  have hready : ¬ ((u.gen g.toNat).mode = .emergency ∨ (u.gen g.toNat).mode = .homeStop ∨ (g.toNat < 4 ∧ (u.ch g.toNat).state = 3)
      ∨ (4 ≤ g.toNat ∧ ((!(u.axis (g.toNat - 4)).posValid) = true ∨ (u.axis (g.toNat - 4)).home.isSome = true
        ∨ (u.axis (g.toNat - 4)).cal.isSome = true))) := by
    rintro (hm | hm | ⟨hlt, hstate⟩ | ⟨hge, hbusy⟩)
    · exact hemergency hm
    · exact hhome hm
    · exact hch hlt hstate
    · simp [haxis hge] at hbusy
  show Host.Outcome.next (s.wcpReq _ _ _ _) = _
  rw [State.wcpReq_of_passes _ _ _ _ _ hp, ← hu]
  simp only [if_neg (not_le.2 hg), if_neg hopen, if_neg hready, hv]

theorem exec_profEstop {m : Byte} {g : Nat} (hp : s.passes 0x0401 h false [] = true) (hu : u = s.admitted 0x0401 h [m])
    (hm : bitsSet 8 m.toNat = [g]) (hopen : 4 ≤ g → (u.axis (g - 4)).fire = false) :
    exec (.profEstop h m) s = .next (((if g < 4 then u else u.endRuns (g - 4)).estop g).reply 0x0401 h 0) := by
  have hfire : (decide (4 ≤ g) && (u.axis (g - 4)).fire) = false := by
    by_cases hge : 4 ≤ g
    · simp [hopen hge]
    · simp [hge]
  show Host.Outcome.next (s.wcpReq _ _ _ _) = _
  rw [State.wcpReq_of_passes _ _ _ _ _ hp, ← hu, hm]
  simp [hfire]

end

/-- Settles O19: a target is what `State.retarget` leaves of its generator, an emergency stop what `State.estop` leaves, and the checks before them
leave generators and axes as they were (`State.admitted_same`). -/
theorem profilesComplete : Obligations.ProfilesComplete := by
  unfold Obligations.ProfilesComplete
  refine ⟨fun s h g w u v hp hu hg hmode hch hv => ?reference, fun s h g w a u v hp hu hga ha hmode hfire hvalid hhome hcal hv => ?position,
    fun s h m g hp hm hopen hmoves => ?estop, fun s h m u hp hu => ?status, fun s => ?tick⟩
  case reference =>
    have hsame : Same u s := hu ▸ s.admitted_same _ _ _
    rw [← hsame.gen_eq] at hmode
    rw [← hsame.ch_eq] at hch
    refine ⟨_, exec_profTarget hp hu (by omega) hmode (fun _ => hch) (fun hge => absurd hge (by omega)) hv, ?_⟩
    rw [(State.reply_same _ _ _ _ _).gen_eq, State.gen_retarget _ _ (by omega), hsame.gen_eq]
    exact ⟨rfl, rfl, rfl⟩
  case position =>
    have hsame : Same u s := hu ▸ s.admitted_same _ _ _
    have haxis : g.toNat - 4 = a := by omega
    rw [← hsame.gen_eq] at hmode
    rw [← hsame.axis_eq] at hfire hvalid hhome hcal
    refine ⟨_, exec_profTarget hp hu (by omega) hmode (fun hlt => absurd hlt (by omega)) (fun _ => haxis ▸ ⟨hfire, hvalid, hhome, hcal⟩) hv, ?_⟩
    rw [(State.reply_same _ _ _ _ _).gen_eq, (State.reply_same _ _ _ _ _).axis_eq, State.gen_retarget _ _ (by omega), hsame.gen_eq, hga,
      State.axis_retarget _ _ ha]
    exact ⟨rfl, rfl, rfl⟩
  case estop =>
    have hsame := s.admitted_same 0x0401 h [m]
    have hg := lt_of_bitsSet_eq hm
    refine ⟨_, exec_profEstop hp rfl hm (fun hge => hsame.axis_eq _ ▸ hopen hge), ?_⟩
    have hgen : (if g < 4 then s.admitted 0x0401 h [m] else (s.admitted 0x0401 h [m]).endRuns (g - 4)).gen g = s.gen g := by
      rw [apply_ite (State.gen · g), State.gen_endRuns, ite_self, hsame.gen_eq]
    rw [(State.reply_same _ _ _ _ _).gen_eq, State.gen_estop _ hg, hgen]
    exact GenSt.emergency_of_moving g hmoves
  case status =>
    show Host.Outcome.next (s.wcpReq _ _ _ _) = _
    rw [State.wcpReq_of_passes _ _ _ _ _ hp, hu]
  case tick =>
    have hlater : max s.now ((s.now / 100000 + 1) * 100000) = (s.now / 100000 + 1) * 100000 := max_eq_right (by omega)
    exact ⟨_, rfl, hlater, rfl, rfl⟩

end Sys2Proof.Machine
end

section
/-! The proof of O20: the next state of each command and event of the axes, and what it leaves of the axis. -/
namespace Sys2Proof.Machine
open Sys2Proof

/-! ### The axes' runs (R260, R261) and positions (R266) -/

/-- A home begins: its target lies far in its direction, and its travel counts from the present position (R261). -/
def State.beginHome (s : State) (a : Nat) (op : OpRef) (up : Bool) : State :=
  (s.retarget (a + 4) (farTarget up)).updAxis a fun x => { x with home := some ⟨op, up, (s.gen (a + 4)).x, false⟩ }

/-- A calibration begins at a speed per tick (R260). -/
def State.beginCalibration (s : State) (a : Nat) (op : OpRef) (speed : Int) : State :=
  (s.retarget (a + 4) (farTarget true)).updAxis a fun x => { x with cal := some ⟨op, speed, none, 0, 0⟩ }

/-- An axis at rest is told where it stands (R266). -/
def State.placeAxis (s : State) (a : Nat) (p : Int) : State :=
  (s.updAxis a fun x => { x with posValid := true, prevX := p }).updGen (a + 4) fun g => g.rest p p

section
variable (s : State) {a : Nat} (ha : a < 4)
include ha

theorem State.home_beginHome (op : OpRef) (up : Bool) :
    ((s.beginHome a op up).axis a).home = some ⟨op, up, (s.gen (a + 4)).x, false⟩ := by
  rw [State.beginHome, State.axis_updAxis_same _ _ ha]

theorem State.tgt_beginHome (op : OpRef) (up : Bool) : ((s.beginHome a op up).gen (a + 4)).tgt = farTarget up := by
  rw [State.beginHome, State.gen_updAxis, State.gen_retarget _ _ (by omega)]

theorem State.cal_beginCalibration (op : OpRef) (speed : Int) : ((s.beginCalibration a op speed).axis a).cal = some ⟨op, speed, none, 0, 0⟩ := by
  rw [State.beginCalibration, State.axis_updAxis_same _ _ ha]

theorem State.posValid_placeAxis (p : Int) : ((s.placeAxis a p).axis a).posValid = true := by
  rw [State.placeAxis, State.axis_updGen, State.axis_updAxis_same _ _ ha]

theorem State.gen_placeAxis (p : Int) : (s.placeAxis a p).gen (a + 4) = (s.gen (a + 4)).rest p p :=
  State.gen_updGen_self _ _ (by omega)

end

/-! ### The commands' next states -/

section
variable {s u : State} {h : Hdr} {a : Nat}

theorem exec_axisEnable {m e : Byte} (hp : s.passes 0x0403 h (decide (bitsSet 4 (m &&& e).toNat ≠ [])) [] = true)
    (hu : u = s.admitted 0x0403 h [m, e]) (hm : bitsSet 4 m.toNat = [a]) (hopen : (u.axis a).fire = false)
    (hsupply : e.getLsbD a = true → 19000 ≤ u.actMv) :
    exec (.axisEnable h m e) s = .next ((if e.getLsbD a then u.energise a else u.deenergise a).reply 0x0403 h 0 (u16 0)) := by
  have hstatus : u.enableStatus a (e.getLsbD a) = 0 := by
    have hlow : ¬ (e.getLsbD a = true ∧ u.actMv < 19000) := fun ⟨hon, hlt⟩ => absurd (hsupply hon) (not_le.2 hlt)
    simp only [State.enableStatus, hopen, if_neg hlow, Bool.false_eq_true, if_false]
  show Host.Outcome.next (s.wcpRun _ _ _ _ _ _) = _
  rw [State.wcpRun_of_passes _ _ _ _ _ _ _ hp, ← hu, hm]
  simp [hstatus]

theorem exec_axisHome {b d : Byte} (hp : s.passes 0x0404 h true [] = true) (hu : u = s.admitted 0x0404 h [b, d]) (hb : b.toNat < 4)
    (hd : d.toNat < 2) (hopen : (u.axis b.toNat).fire = false) (hon : (u.axis b.toNat).energised = true) (hhome : (u.axis b.toNat).home = none)
    (hcal : (u.axis b.toNat).cal = none) (hmode : (u.gen (b.toNat + 4)).mode = .run)
    (hfast : ¬ (u.parN 0x44A b.toNat = 255 ∧ u.homeSlow b.toNat = true)) :
    exec (.axisHome h b d) s = .next ((u.beginHome b.toNat (opRef 0x0404 h) (d = 0)).reply 0x0404 h 1) := by
  have hx : ∀ tgt, ((u.retarget (b.toNat + 4) tgt).gen (b.toNat + 4)).x = (u.gen (b.toNat + 4)).x := fun tgt => by
    rw [State.gen_retarget _ _ (by omega)]
  show Host.Outcome.next (s.wcpRun _ _ _ _ _ _) = _
  rw [State.wcpRun_of_passes _ _ _ _ _ _ _ hp, ← hu]
  simp [hb, hd, hopen, hon, hhome, hcal, hmode, hfast, hx, State.beginHome]

theorem exec_axisSetPos {b : Byte} {w : BitVec 64} (hp : s.passes 0x0405 h false [] = true)
    (hu : u = s.admitted 0x0405 h (b :: [0, 0, 0] ++ leBytes 8 w.toNat)) (hb : b.toNat < 4) (hlo : -(2 ^ 47) ≤ toSigned 64 w.toNat)
    (hhi : toSigned 64 w.toNat < 2 ^ 47) (hopen : (u.axis b.toNat).fire = false) (hrest : (u.gen (b.toNat + 4)).atRest = true) :
    exec (.axisSetPos h b w) s = .next ((u.placeAxis b.toNat (toSigned 64 w.toNat * fpOne)).reply 0x0405 h 0) := by
  have hrange : ¬ (4 ≤ b.toNat ∨ toSigned 64 w.toNat < -(2 ^ 47) ∨ 2 ^ 47 ≤ toSigned 64 w.toNat) := by omega
  show Host.Outcome.next (s.wcpReq _ _ _ _) = _
  rw [State.wcpReq_of_passes _ _ _ _ _ hp, ← hu]
  simp only [if_neg hrange, hopen, hrest, Bool.false_eq_true, Bool.not_true, if_false, State.placeAxis]

theorem exec_axisCalibrate {b : Byte} {w : BitVec 32} {v : ℚ} (hp : s.passes 0x0406 h true [] = true)
    (hu : u = s.admitted 0x0406 h (b :: [0, 0, 0] ++ leBytes 4 w.toNat)) (hw : f32Val w.toNat = some v) (hb : b.toNat < 4)
    (hfast : 2 * u.parF 0x448 b.toNat ≤ v) (hopen : (u.axis b.toNat).fire = false) (hon : (u.axis b.toNat).energised = true)
    (hrest : (u.gen (b.toNat + 4)).atRest = true) (hhome : (u.axis b.toNat).home = none) (hcal : (u.axis b.toNat).cal = none) :
    exec (.axisCalibrate h b w) s =
      .next ((u.beginCalibration b.toNat (opRef 0x0406 h) (perTick v (1 / 10000) 1)).reply 0x0406 h 1) := by
  have hrange : ¬ (4 ≤ b.toNat ∨ v < 2 * u.parF 0x448 b.toNat) := not_or.2 ⟨not_le.2 hb, not_lt.2 hfast⟩
  show Host.Outcome.next (s.wcpRun _ _ _ _ _ _) = _
  rw [State.wcpRun_of_passes _ _ _ _ _ _ _ hp, ← hu]
  simp only [hw, if_neg hrange]
  simp [hopen, hon, hrest, hhome, hcal, State.beginCalibration]

end

/-! ### The events' next states -/

section
variable {s : State} {a : Nat} (ha : a < 4)
include ha

theorem exec_holdDelayExpiry (hon : (s.axis a).energised = true) (hopen : (s.axis a).fire = false) (hrest : (s.gen (a + 4)).atRest = true) :
    exec (.holdDelayExpiry a) s =
      .next ((s.advanceTo ((s.axis a).restAt + s.parN 0x442 a * 1000000)).updAxis a fun x => { x with holding := true }) :=
  congrArg Host.Outcome.next (if_neg (by simp [ha, hon, hopen, hrest]))

theorem exec_bridgeOvercurrent : exec (.bridgeOvercurrent a) s =
    .next ((((s.deenergise a).updAxis a fun x => { x with oc := true }).inc 0x454 a).raise 0x4102 a 1) :=
  congrArg Host.Outcome.next (if_neg (not_le.2 ha))

theorem exec_coilOpen (p : Nat) : exec (.coilOpen a p) s =
    .next (((s.deenergise a).updAxis a fun x => if p = 0 then { x with openA := true } else { x with openB := true }).raise 0x4103 a 1) :=
  congrArg Host.Outcome.next (if_neg (not_le.2 ha))

/-- A sample that is not settled is counted and gives no reading (R257). -/
theorem exec_loadAngleSample_unsettled (e : Int) (hon : s.bridgeOn a = true) (hmoves : (s.gen (a + 4)).v ≠ 0) (harmed : s.stallArmed a = true) :
    exec (.loadAngleSample a e false) s = .next ((s.updAxis a fun x => { x with slip := x.slip - 1 }).inc 0x453 a) :=
  congrArg Host.Outcome.next (if_neg (by simp [ha, hon, hmoves, harmed]))

theorem exec_loadAngleSample_settled (e : Int) (hon : s.bridgeOn a = true) (hmoves : (s.gen (a + 4)).v ≠ 0) (hcal : (s.axis a).cal = none)
    (harmed : s.stallArmed a = true) :
    exec (.loadAngleSample a e true) s = .next (s.reading a ((e : ℚ) / 1000 / (s.parF 0x445 a * s.kStepsPerS a))) := by
  have hsampled : ¬ (4 ≤ a ∨ (!s.bridgeOn a) = true ∨ (s.gen (a + 4)).v = 0
      ∨ ((!s.stallArmed a) = true ∧ (s.axis a).cal.isNone = true)) := by simp [ha, hon, hmoves, harmed]
  refine (congrArg Host.Outcome.next (if_neg hsampled)).trans ?_
  simp only [hcal, Bool.not_true, Bool.false_eq_true, if_false]

end

/-- The supply as measured (R255). -/
def State.supplyMeasured (s : State) (mv : Nat) : State := { s with prof := { s.prof with supplyMv := mv } }

theorem exec_actSupplyLow {s : State} {mv : Nat} (hlow : mv < 17000) : exec (.actSupplyLow mv) s =
    .next (((List.range 4).foldl (fun s a => (s.deenergise a).estop (a + 4)) (s.supplyMeasured mv)).raise 0x4101 0 1) :=
  congrArg Host.Outcome.next (if_neg (not_le.2 hlow))

/-- The bridges' sensor as measured (Table 9.6). -/
def State.bridgesMeasured (s : State) (level : Nat) : State := { s with prof := { s.prof with hot := min level 2 } }

theorem exec_bridgeHot {s : State} {l : Nat} (hshutdown : 2 ≤ l) (hup : s.prof.hot < l) :
    exec (.bridgeHot l) s = .next (((List.range 4).foldl State.deenergise (s.bridgesMeasured l)).raise 0x4104 0 1 (u8 l)) := by
  show execBridgeHot l s = _
  simp only [execBridgeHot, if_pos hshutdown, if_pos hup, State.bridgesMeasured]

theorem exec_sf4Incomplete {s : State} {a t0 : Nat} (ha : a < 4) (hsince : s.prof.fireSince = some t0) (hfire : (s.axis a).fire = true)
    (haway : ¬ ((s.gen (a + 4)).atRest = true ∧ (s.gen (a + 4)).x = (s.gen (a + 4)).tgt)) :
    exec (.sf4Incomplete a) s = .next ((s.advanceTo (t0 + s.parN 0x621 0 * 1000000000)).raise 0x4120 a 2) := by
  have hacts : ¬ (4 ≤ a ∨ (!(s.axis a).fire) = true) := by simp [ha, hfire]
  show execSf4Incomplete a s = _
  simp only [execSf4Incomplete, hsince, if_neg hacts]
  exact congrArg Host.Outcome.next (if_neg haway)

/-- Settles O20: each command and event has the next state its lemma above gives, and the checks before a command leave generators and axes as they
were (`State.admitted_same`). -/
theorem axesComplete : Obligations.AxesComplete := by
  unfold Obligations.AxesComplete
  refine ⟨fun s h m e a hp hm hopen hsupply => ?enable, fun s h b d u hp hu hb hd hopen hon hhome hcal hmode hfast => ?home,
    fun s h b w hp hb hlo hhi hopen hrest => ?place, fun s h b w u v hp hu hw hb hfast hopen hon hrest hhome hcal => ?calibrate,
    fun s h m u hp hu => ?status, fun s a ha hon hopen hrest => ?hold,
    fun s a e ha hon hmoves harmed => exec_loadAngleSample_unsettled ha e hon hmoves harmed,
    fun s a e ha hon hmoves hcal harmed => exec_loadAngleSample_settled ha e hon hmoves hcal harmed,
    fun s a ha => ?overcurrent, fun s a p ha => ?openCoil, fun s mv hlow => ?supplyLow, fun s mv hhigh => ?supplyBack,
    fun s l hshutdown hup => ?hot, fun s a t0 ha hsince hfire haway => exec_sf4Incomplete ha hsince hfire haway⟩
  case enable =>
    have hsame := s.admitted_same 0x0403 h [m, e]
    have ha := lt_of_bitsSet_eq hm
    refine ⟨_, exec_axisEnable hp rfl hm (hsame.axis_eq _ ▸ hopen) (hsame.actMv_eq ▸ hsupply), ?_⟩
    rw [(State.reply_same _ _ _ _ _).axis_eq]
    split
    next hon => rw [State.energised_energise _ ha, hon]
    next hoff => rw [State.off_deenergise_same _ ha, Bool.eq_false_iff.2 hoff]
  case home =>
    have hsame : Same u s := hu ▸ s.admitted_same _ _ _
    rw [← hsame.axis_eq] at hopen hon hhome hcal
    rw [← hsame.gen_eq] at hmode
    refine ⟨_, exec_axisHome hp hu hb hd hopen hon hhome hcal hmode hfast, ?_, ?_⟩
    · rw [(State.reply_same _ _ _ _ _).axis_eq, State.home_beginHome _ hb, hsame.gen_eq]
    · rw [(State.reply_same _ _ _ _ _).gen_eq, State.tgt_beginHome _ hb]
  case place =>
    have hsame := s.admitted_same 0x0405 h (b :: [0, 0, 0] ++ leBytes 8 w.toNat)
    refine ⟨_, exec_axisSetPos hp rfl hb hlo hhi (hsame.axis_eq _ ▸ hopen) (hsame.gen_eq _ ▸ hrest), ?_⟩
    rw [(State.reply_same _ _ _ _ _).axis_eq, (State.reply_same _ _ _ _ _).gen_eq, State.gen_placeAxis _ hb]
    exact ⟨State.posValid_placeAxis _ hb _, rfl, rfl⟩
  case calibrate =>
    have hsame : Same u s := hu ▸ s.admitted_same _ _ _
    rw [← hsame.axis_eq] at hopen hon hhome hcal
    rw [← hsame.gen_eq] at hrest
    refine ⟨_, exec_axisCalibrate hp hu hw hb hfast hopen hon hrest hhome hcal, ?_⟩
    rw [(State.reply_same _ _ _ _ _).axis_eq, State.cal_beginCalibration _ hb]
  case status =>
    show Host.Outcome.next (s.wcpReq _ _ _ _) = _
    rw [State.wcpReq_of_passes _ _ _ _ _ hp, hu]
  case hold => exact ⟨_, exec_holdDelayExpiry ha hon hopen hrest, State.axis_updAxis_same _ _ ha, rfl⟩
  case overcurrent =>
    refine ⟨_, exec_bridgeOvercurrent ha, ?_, ?_, State.raise_waits _ _ _ _ _ (by decide)⟩ <;>
      rw [(State.raise_same _ _ _ _ _).axis_eq, (State.inc_same _ _ _).axis_eq, State.axis_updAxis_same _ _ ha]
    exact s.off_deenergise_same ha
  case openCoil =>
    refine ⟨_, exec_coilOpen ha p, ?_, State.raise_waits _ _ _ _ _ (by decide), ?_⟩ <;>
      rw [(State.raise_same _ _ _ _ _).axis_eq, State.axis_updAxis_same _ _ ha]
    · split <;> exact s.off_deenergise_same ha
    · split <;> rfl
  case supplyLow =>
    refine ⟨_, exec_actSupplyLow hlow, ?_, State.raise_waits _ _ _ _ _ (by decide), fun a ha => ?_⟩
    · have hfold := foldl_view State.bridgeSensors (f := fun s a => (s.deenergise a).estop (a + 4))
        (fun s a => by simp) (List.range 4) (s.supplyMeasured mv)
      exact (State.bridgeSensors_fields ((State.raise_same _ _ _ _ _).bridgeSensors_eq.trans hfold)).1
    · rw [(State.raise_same _ _ _ _ _).axis_eq]
      exact off_of_deenergises (fun s a b => State.axis_estop _ _ _) _ ha
  case supplyBack => exact congrArg Host.Outcome.next (if_pos hhigh)
  case hot =>
    refine ⟨_, exec_bridgeHot hshutdown hup, ?_, State.raise_waits _ _ _ _ _ (by decide), fun a ha => ?_⟩
    · have hfold := foldl_view State.bridgeSensors State.deenergise_bridgeSensors (List.range 4) (s.bridgesMeasured l)
      exact (State.bridgeSensors_fields ((State.raise_same _ _ _ _ _).bridgeSensors_eq.trans hfold)).2.trans (min_eq_right hshutdown)
    · rw [(State.raise_same _ _ _ _ _).axis_eq]
      exact off_of_deenergises (fun _ _ _ => rfl) _ ha

end Sys2Proof.Machine
end

section
/-! SUPPORT. The rules that O59 turns on: the parts of a Welfer Safe Frame PDU and what a consumer reads in each of their places (12 R365, Table 12.6). -/
namespace Sys2Proof.Machine
open Sys2Proof

set_option Elab.async false

/-- The six bytes before the data: version and type, LEN, SEQ and WD. -/
def wsfHead (type : Nat) (seq : BitVec 16) (wd len : Nat) : Bytes := u8 (1 + 16 * type) ++ u8 len ++ leBytes 2 seq.toNat ++ u16 wd

/-- What the CRC covers behind CONN_ID. -/
def wsfBody (type : Nat) (seq : BitVec 16) (wd : Nat) (data : Bytes) : Bytes := wsfHead type seq wd data.length ++ data

section
variable (type : Nat) (seq : BitVec 16) (wd : Nat) (data rest : Bytes)

theorem wsfPdu_eq (id : Nat) : wsfPdu id type seq wd data = wsfBody type seq wd data ++ u32 (wsfCrc id (wsfBody type seq wd data)) := rfl

theorem wsfBody_length : (wsfBody type seq wd data).length = 6 + data.length := List.length_append

theorem wsfPdu_length (id : Nat) : (wsfPdu id type seq wd data).length = 10 + data.length := by
  rw [wsfPdu_eq, List.length_append, wsfBody_length]
  simp only [u32, leBytes_length]
  omega

/-- A field of the head holds the number written there, whatever follows the data. -/
theorem fieldAt_wsfBody {k n v : Nat} (hv : slice (wsfBody type seq wd data ++ rest) k n = leBytes n v) :
    fieldAt (wsfBody type seq wd data ++ rest) k n = v % 256 ^ n := by
  rw [fieldAt, hv, ofLe_leBytes]

theorem wsfBody_type : fieldAt (wsfBody type seq wd data ++ rest) 0 1 = (1 + 16 * type) % 256 := fieldAt_wsfBody _ _ _ _ _ rfl

theorem wsfBody_seq : fieldAt (wsfBody type seq wd data ++ rest) 2 2 = seq.toNat :=
  (fieldAt_wsfBody _ _ _ _ _ rfl).trans (Nat.mod_eq_of_lt seq.isLt)

theorem wsfBody_wd : fieldAt (wsfBody type seq wd data ++ rest) 4 2 = wd % 65536 := fieldAt_wsfBody _ _ _ _ _ rfl

theorem wsfBody_data : slice (wsfBody type seq wd data ++ rest) 6 data.length = data := slice_middle (wsfHead type seq wd data.length) data rest

variable {data} (hlen : data.length ≤ 255)
include hlen

theorem wsfBody_len : fieldAt (wsfBody type seq wd data ++ rest) 1 1 = data.length :=
  (fieldAt_wsfBody _ _ _ _ _ rfl).trans (Nat.mod_eq_of_lt (Nat.lt_succ_of_le hlen))

/-- The CRC is taken over CONN_ID, head and data, whatever follows them (R365). -/
theorem wsfCrc_wsfBody (id : Nat) : wsfCrc id (wsfBody type seq wd data ++ rest) = crc32s (u32 id ++ wsfBody type seq wd data) := by
  rw [wsfCrc, wsfBody_len type seq wd rest hlen, ← wsfBody_length type seq wd data, List.take_left']
  rfl

theorem wsfPdu_crcOk (id : Nat) : wsfCrcOk id (wsfPdu id type seq wd data) = true := by
  have hcrc : wsfCrc id (wsfBody type seq wd data) = crc32s (u32 id ++ wsfBody type seq wd data) := by
    simpa using wsfCrc_wsfBody type seq wd [] hlen id
  have hfield : fieldAt (wsfPdu id type seq wd data) (6 + data.length) 4 = crc32s (u32 id ++ wsfBody type seq wd data) := by
    have hslice := slice_middle (wsfBody type seq wd data) (u32 (crc32s (u32 id ++ wsfBody type seq wd data))) []
    rw [List.append_nil, wsfBody_length] at hslice
    rw [wsfPdu_eq, hcrc, fieldAt]
    exact (congrArg ofLe hslice).trans ((ofLe_leBytes _ _).trans (Nat.mod_eq_of_lt (crc32s_lt _)))
  have hread : wsfCrc id (wsfPdu id type seq wd data) = crc32s (u32 id ++ wsfBody type seq wd data) := wsfCrc_wsfBody type seq wd _ hlen id
  have hlenField : fieldAt (wsfPdu id type seq wd data) 1 1 = data.length := wsfBody_len type seq wd _ hlen
  rw [wsfCrcOk, hlenField, hfield, hread, wsfPdu_length]
  simp

end

/-- Settles O59: each field reads back what was written there, and the CRC field the CRC over CONN_ID, head and data. -/
theorem producedPdusPassTheirCheck : Obligations.ProducedPdusPassTheirCheck := by
  unfold Obligations.ProducedPdusPassTheirCheck
  intro id type seq wd data hlen htype hwd
  have hlength := wsfPdu_length type seq wd data id
  have hlenField : fieldAt (wsfPdu id type seq wd data) 1 1 = data.length := wsfBody_len type seq wd _ hlen
  refine ⟨wsfPdu_crcOk type seq wd hlen id, ?_, hlength, ?_, hlenField, wsfBody_seq type seq wd data _, ?_, wsfBody_data type seq wd data _⟩
  · simp [wsfWhole, hlength, hlenField]
  · exact (wsfBody_type type seq wd data _).trans (Nat.mod_eq_of_lt (by omega))
  · exact (wsfBody_wd type seq wd data _).trans (Nat.mod_eq_of_lt hwd)

end Sys2Proof.Machine
end

section
/-! SUPPORT. The rules that O50, O51, O23 and O24 share: strings, outputs and inputs under writes, and what the operations that open strings, shut
gates and end resets and tests leave of chapters 7, 8 and 12. -/
namespace Sys2Proof.Machine
open Sys2Proof

set_option Elab.async false

/-! ### Strings, outputs and inputs under writes (R337, R353) -/

section
variable (s : State)

theorem State.so_setSo_same (n : Nat) (x : SoSt) : (s.setSo n x).so n = x := SMap.at_set_same _ _ _ _

theorem State.so_setSo_other {n k : Nat} (x : SoSt) (hne : k ≠ n) : (s.setSo n x).so k = s.so k := SMap.at_set_other _ _ _ hne

theorem State.so_setSo (n k : Nat) (x : SoSt) : (s.setSo n x).so k = if k = n then x else s.so k := by
  split
  next h => rw [h, State.so_setSo_same]
  next h => exact s.so_setSo_other x h

theorem State.str_updStr {k : Nat} (r : Nat) (f : StringSt → StringSt) (hk : k < 4) :
    (s.updStr r f).str k = if k = r then f (s.str k) else s.str k := by
  split
  next h => rw [← h]; exact Four.get_set_same _ _ _ hk
  next h =>
    by_cases hr : r < 4
    · exact Four.get_set_other _ _ hr hk h
    · have hout : s.safe.str.set r (f (s.str r)) = s.safe.str := by
        match r, hr with
        | _ + 4, _ => rfl
      exact congrArg (Four.get · k) hout

theorem State.str_updStr_same {r : Nat} (f : StringSt → StringSt) (hr : r < 4) : (s.updStr r f).str r = f (s.str r) :=
  Four.get_set_same _ _ _ hr

theorem State.si_setSi_same {k : Nat} (x : SiSt) (hk : k < 4) : (s.setSi k x).si k = x := Four.get_set_same _ _ _ hk

theorem State.wsfSt_setWsf_same {k : Nat} (c : WsfSt) (hk : k < 4) : (s.setWsf k c).wsfSt k = c := Four.get_set_same _ _ _ hk

/-- A channel beside the one written. -/
theorem State.ch_updCh_ne {c k : Nat} (f : ChSt → ChSt) (hc : c < 4) (hne : k ≠ c) : (s.updCh k f).ch c = s.ch c := by
  by_cases hk : k < 4
  · exact s.ch_updCh_other f hk hc hne
  · have hout : s.psi.ch.set k (f (s.ch k)) = s.psi.ch := by
      match k, hk with
      | _ + 4, _ => rfl
    exact congrArg (Four.get · c) hout

end

/-! ### The map of outputs to strings (R347) -/

theorem State.par_of_standing {t s : State} (g : t.standing = s.standing) (hslot : t.sys.slot = s.sys.slot) (id inst : Nat) :
    t.par id inst = s.par id inst := by
  have hparams : t.wcp.params = s.wcp.params := congrArg (·.2.2.2.params) g
  simp only [State.par, hparams, State.standing_upd g, hslot]

theorem State.outs_congr {t s : State} (h : t.par 0x610 0 = s.par 0x610 0) (r kind : Nat) : t.outs r kind = s.outs r kind := by
  simp only [State.outs, State.soMap, h]

theorem State.outsOf_congr {t s : State} (h : t.par 0x610 0 = s.par 0x610 0) (r : Nat) : t.outsOf r = s.outsOf r := by
  simp only [State.outsOf, State.outs_congr h]

/-- An output is of one kind. -/
theorem State.not_mem_outs_of_mem {s : State} {r k j n : Nat} (hn : n ∈ s.outs r k) (hne : k ≠ j) : n ∉ s.outs r j := by
  intro hj
  simp only [State.outs, List.mem_filter, beq_iff_eq] at hn hj
  exact hne (Prod.mk.inj (hn.2.symm.trans hj.2)).2

/-! ### Chapters 7, 8 and 12 -/

/-- The loop engine, the power stages and the safety functions, without the close requests and resets that wait to be reported. -/
def State.plant (s : State) : LoopSt × PsiSt × SafeSt := (s.loop, s.psi, { s.safe with closes := [], reset := none })

section
variable {t s : State} (g : t.plant = s.plant)
include g

theorem State.plant_str (r : Nat) : t.str r = s.str r := congrArg (·.2.2.str.get r) g
theorem State.plant_so (n : Nat) : t.so n = s.so n := congrArg (·.2.2.so.at n {}) g
theorem State.plant_ch (c : Nat) : t.ch c = s.ch c := congrArg (·.2.1.ch.get c) g
theorem State.plant_lane (c : Nat) : t.lane c = s.lane c := congrArg (·.1.lane.get c) g
theorem State.plant_ct : t.safe.ct = s.safe.ct := congrArg (·.2.2.ct) g
theorem State.plant_fireCore : t.safe.fireCore = s.safe.fireCore := congrArg (·.2.2.fireCore) g
theorem State.plant_fireTurnip : t.safe.fireTurnip = s.safe.fireTurnip := congrArg (·.2.2.fireTurnip) g

end

theorem Same.plant_eq {t s : State} (g : Same t s) : t.plant = s.plant := by simp only [State.plant, g.loop_eq, g.psi_eq, g.safe_eq]

theorem State.plant_ite (p : Prop) [Decidable p] (t u : State) : (if p then t else u).plant = if p then t.plant else u.plant := apply_ite _ _ _ _

theorem State.updStr_plant {t s : State} (g : t.plant = s.plant) (r : Nat) (f : StringSt → StringSt) :
    (t.updStr r f).plant = (s.updStr r f).plant :=
  congrArg (fun p : LoopSt × PsiSt × SafeSt => (p.1, p.2.1, { p.2.2 with str := p.2.2.str.set r (f (p.2.2.str.get r)) })) g

/-! ### Close requests and resets in progress (R350, R358) -/

section
variable (s : State)

theorem State.closeDone_plant (q : CloseReq) : (s.closeDone q).plant = s.plant := by
  unfold State.closeDone
  split
  · exact (State.complete_same _ _ _ _).plant_eq
  · rfl

theorem State.closeEnd_plant (r : Nat) (abandoned : Option Nat) : (s.closeEnd r abandoned).plant = s.plant :=
  foldl_view State.plant State.closeDone_plant _ _

theorem State.updStr_unchanged {s : State} {r : Nat} {f : StringSt → StringSt} (h : f (s.str r) = s.str r) : s.updStr r f = s := by
  have hset : ∀ x : Four StringSt, x.set r (x.get r) = x := fun x => by
    unfold Four.set Four.get
    split <;> rfl
  show s.setStr r (f (s.str r)) = s
  rw [h, State.setStr, State.str, hset]

theorem State.abandonClose_plant (r status : Nat) :
    (s.abandonClose r status).plant = (s.updStr r fun x => { x with closing := 0 }).plant := by
  unfold State.abandonClose
  split
  next hidle =>
    have hsame : ({ s.str r with closing := 0 } : StringSt) = s.str r := by rw [← hidle]
    rw [State.updStr_unchanged hsame]
  next => exact State.closeEnd_plant _ _ _

theorem State.lapseArm_plant : s.lapseArm.plant = s.plant := by
  unfold State.lapseArm
  split
  · rfl
  split
  · rfl
  · exact ((State.complete_same _ _ _ _).plant_eq).trans (State.raise_same _ _ _ _ _).plant_eq

/-! ### What a demand pre-empts (R467) -/

theorem State.bistEnd_plant (code outcome count : Nat) (startup preempted : Bool) : (s.bistEnd code outcome count startup preempted).plant = s.plant := by
  have hrun : ∀ (u : State) (r : BistRun), (u.bistRunEnd r).plant = u.plant := fun u r => by
    unfold State.bistRunEnd
    split
    · rfl
    · exact (State.completeWith_same _ _ _ _ _).plant_eq
  simp only [State.bistEnd]
  rw [foldl_view State.plant (fun u r => hrun u _)]
  simp only [State.plant_ite, (State.raise_same _ _ _ _ _).plant_eq, (State.inc_same _ _ _).plant_eq, ite_self]
  rfl

theorem State.preempt_plant : s.preempt.plant = s.plant := by
  refine foldl_view State.plant (fun u c => ?_) _ _
  rw [State.plant_ite]
  split
  · exact State.bistEnd_plant _ _ _ _ _ _
  · exact State.bistEnd_plant _ _ _ _ _ _

/-! ### Outputs open (R338, R342) -/

/-- An output open by one way. -/
def SoSt.opened (how : Opening) : SoSt := ⟨false, false, how⟩

theorem State.openSo_plant (how : Opening) (n : Nat) : (s.openSo how n).plant = (s.setSo n (.opened how)).plant := by
  unfold State.openSo
  simp only []
  split <;> rfl

theorem State.so_openSo (how : Opening) (n k : Nat) : (s.openSo how n).so k = if k = n then .opened how else s.so k := by
  rw [State.plant_so (s.openSo_plant how n), State.so_setSo]

theorem State.so_openSos (how : Opening) (l : List Nat) (k : Nat) :
    (l.foldl (fun u n => u.openSo how n) s).so k = if k ∈ l then .opened how else s.so k := by
  induction l generalizing s with
  | nil => simp
  | cons n l ih =>
    rw [List.foldl_cons, ih, State.so_openSo]
    by_cases hl : k ∈ l
    · simp [hl]
    · simp [hl]

/-- All of it but the outputs. -/
def State.butOutputs (s : State) : LoopSt × PsiSt × SafeSt := (s.loop, s.psi, { s.safe with closes := [], reset := none, so := [] })

theorem State.plant_butOutputs {t s : State} (g : t.plant = s.plant) : t.butOutputs = s.butOutputs :=
  congrArg (fun p : LoopSt × PsiSt × SafeSt => (p.1, p.2.1, { p.2.2 with so := [] })) g

theorem State.openSo_butOutputs (how : Opening) (n : Nat) : (s.openSo how n).butOutputs = s.butOutputs :=
  (State.plant_butOutputs (s.openSo_plant how n)).trans rfl

end
end Sys2Proof.Machine
end

section
/-! SUPPORT. What the opening of strings and the shutting of gates bring about (12 R338, R342, R345), and that the end of resets and tests, the
other demands and the end of drive leave it so. -/
namespace Sys2Proof.Machine
open Sys2Proof

set_option Elab.async false

/-! ### Strings open (R350, Table 12.5) -/

/-- A string open, with no close sequence. -/
def StringSt.opened (x : StringSt) : StringSt := { x with closing := 0, closed := false }

section
variable {t s : State} (g : t.butOutputs = s.butOutputs)
include g

theorem State.butOutputs_str (r : Nat) : t.str r = s.str r := congrArg (·.2.2.str.get r) g
theorem State.butOutputs_ch (c : Nat) : t.ch c = s.ch c := congrArg (·.2.1.ch.get c) g
theorem State.butOutputs_lane (c : Nat) : t.lane c = s.lane c := congrArg (·.1.lane.get c) g
theorem State.butOutputs_ct : t.safe.ct = s.safe.ct := congrArg (·.2.2.ct) g

theorem State.updStr_butOutputs (r : Nat) (f : StringSt → StringSt) : (t.updStr r f).butOutputs = (s.updStr r f).butOutputs :=
  congrArg (fun p : LoopSt × PsiSt × SafeSt => (p.1, p.2.1, { p.2.2 with str := p.2.2.str.set r (f (p.2.2.str.get r)) })) g

end

section
variable (s : State) (r : Nat) (how : Opening) (status : Nat)

theorem State.updStr_updStr (f f' : StringSt → StringSt) : (s.updStr r f).updStr r f' = s.updStr r fun x => f' (f x) := by
  match r with
  | 0 => rfl
  | 1 => rfl
  | 2 => rfl
  | 3 => rfl
  | _ + 4 => rfl

theorem State.abandonClose_outsOf (j : Nat) : (s.abandonClose r status).outsOf j = s.outsOf j :=
  State.outsOf_congr (State.par_of_standing (State.abandonClose_standing _ _ _) (congrArg SysSt.slot (State.abandonClose_sys _ _ _)) _ _) j

theorem State.openString_butOutputs : (s.openString r how status).butOutputs = (s.updStr r StringSt.opened).butOutputs := by
  have houts := foldl_view State.butOutputs (fun u n => u.openSo_butOutputs how n) ((s.abandonClose r status).outsOf r) (s.abandonClose r status)
  refine (State.updStr_butOutputs (houts.trans (State.plant_butOutputs (s.abandonClose_plant r status))) r _).trans ?_
  rw [State.updStr_updStr]
  rfl

theorem State.openString_str {k : Nat} (hk : k < 4) : (s.openString r how status).str k = if k = r then (s.str k).opened else s.str k :=
  (State.butOutputs_str (s.openString_butOutputs r how status) k).trans (s.str_updStr r _ hk)

theorem State.openString_so (n : Nat) : (s.openString r how status).so n = if n ∈ s.outsOf r then .opened how else s.so n := by
  refine ((s.abandonClose r status).so_openSos how _ n).trans ?_
  rw [State.abandonClose_outsOf, State.plant_so (s.abandonClose_plant r status)]
  rfl

end

/-! ### Channels stop and gates shut (R342, Table 8.5) -/

section
variable (s : State)

theorem State.abandonRun_safe (k code : Nat) : (s.abandonRun k code).safe = s.safe := by
  unfold State.abandonRun
  split
  · rw [State.driveOf_safe (State.syncNext_driveOf _ 0 k), State.driveOf_safe (State.runEnded_driveOf _ 0 k true), (State.raise_same _ _ _ _ _).safe_eq]
    rfl
  · rfl

theorem State.endChannel_safe (c state start stop : Nat) : (s.endChannel c state start stop).safe = s.safe := by
  simp only [State.endChannel, State.abandonRun_safe, State.driveOf_safe (State.stopStatus_driveOf _ 0 c stop)]
  split <;> split <;> split <;>
    simp only [State.driveOf_safe (State.startStatus_driveOf _ 0 c start), State.driveOf_safe (State.zeroGen_driveOf _ 0 c), State.updLane_safe,
      State.inc_safe, State.updCh_safe]

theorem State.ch_endChannel_ne {c k : Nat} (hc : c < 4) (hne : k ≠ c) (state start stop : Nat) : (s.endChannel k state start stop).ch c = s.ch c := by
  rw [State.ch, State.endChannel_psi_ch]
  exact s.ch_updCh_ne _ hc hne

theorem State.shutGates_safe (c : Nat) : (s.shutGates c).safe = s.safe := State.endChannel_safe _ _ _ _ _

theorem State.sweepGates_safe : s.sweepGates.safe = s.safe := by
  unfold State.sweepGates
  split
  · rfl
  · exact foldl_view State.safe (fun u c => by rw [apply_ite State.safe, State.faultChannel, State.endChannel_safe, ite_self]) _ _

end

/-- A channel FAULTED by a demand: both gates shut and its outputs high-impedance (R342, R346). -/
def ChSt.Shut (x : ChSt) : Prop :=
  x.gateSafeShut = true ∧ x.gateTurnipShut = true ∧ x.state = 4 ∧ x.driven = false ∧ x.pwm = ⟨[], [], [], []⟩

theorem State.shut_shutGates_same (s : State) {c : Nat} (hc : c < 4) : ((s.shutGates c).ch c).Shut := by
  rw [State.shutGates, State.faultChannel, State.ch_endChannel_same _ hc, State.ch_updCh_same _ _ hc]
  exact ⟨rfl, rfl, rfl, rfl, rfl⟩

theorem State.shutGates_driveOf_other (s : State) {c k : Nat} (hk : k < 4) (hc : c < 4) (hne : k ≠ c) : (s.shutGates k).driveOf c = s.driveOf c :=
  (State.endChannel_driveOf_other _ hk hc hne _ _ _).trans (s.updCh_driveOf_other hk hc hne _)

/-! ### The end of a commissioning test (R364) -/

/-- No commissioning test waits or runs. -/
def State.withoutCt (s : State) : State := { s with safe := { s.safe with ct := none } }

/-- The channel under test stops. -/
def State.stopTested (s : State) (c : Nat) : State :=
  if (s.ch c).state = 1 then s.stopChannel c
  else if (s.ch c).state = 2 ∨ (s.ch c).state = 3 then s.updCh c fun x => { x with stopNow := true } else s

theorem State.stopTested_safe (s : State) (c : Nat) : (s.stopTested c).safe = s.safe := by
  unfold State.stopTested
  split
  · exact State.endChannel_safe _ _ _ _ _
  · split <;> rfl

/-- A channel that is FAULTED does not stop, and the stop of another leaves it. -/
theorem State.ch_stopTested_of_faulted {s : State} {c : Nat} (hc : c < 4) (hfaulted : (s.ch c).state = 4) (k : Nat) :
    (s.stopTested k).ch c = s.ch c := by
  by_cases hk : k = c
  · subst hk
    simp [State.stopTested, hfaulted]
  · unfold State.stopTested
    split
    · exact s.ch_endChannel_ne hc hk _ _ _
    split
    · exact s.ch_updCh_ne _ hc hk
    · rfl

/-- The end of a test: none stands, one that waits for its edge is given up, or one that runs stops its channel and opens its string. -/
theorem State.endCt_cases (s : State) : s.endCt = s ∨ s.endCt.plant = s.withoutCt.plant
    ∨ ∃ k, s.endCt.plant = ((s.withoutCt.stopTested k).openString k .clamp 0x0109).plant := by
  unfold State.endCt
  split
  · exact .inl rfl
  simp only []
  split
  · exact .inr (.inl (State.complete_same _ _ _ _).plant_eq)
  · exact .inr (.inr ⟨_, (State.raise_same _ _ _ _ _).plant_eq⟩)

/-! ### Strings open by the clamp with their channel off -/

/-- String r is open and the outputs listed opened by the clamp. -/
def State.Clamped (s : State) (r : Nat) (outs : List Nat) : Prop := (s.str r).closed = false ∧ ∀ n ∈ outs, s.so n = .opened .clamp

/-- String r is open, the outputs listed opened by the clamp, and its channel is off. -/
def State.SafelyOpen (s : State) (r : Nat) (outs : List Nat) : Prop := s.Clamped r outs ∧ (s.ch r).Shut

section
variable {t s : State} {r : Nat} {outs : List Nat}

theorem State.Clamped.of_safe (h : s.Clamped r outs) (g : t.safe = s.safe) : t.Clamped r outs := by
  unfold State.Clamped State.str State.so at *
  rwa [g]

theorem State.SafelyOpen.of_plant (h : s.SafelyOpen r outs) (g : t.plant = s.plant) : t.SafelyOpen r outs := by
  obtain ⟨⟨hclosed, houts⟩, hshut⟩ := h
  exact ⟨⟨State.plant_str g r ▸ hclosed, fun n hn => (State.plant_so g n).trans (houts n hn)⟩, State.plant_ch g r ▸ hshut⟩

theorem State.clamped_openString_same (s : State) (hr : r < 4) (status : Nat) : (s.openString r .clamp status).Clamped r (s.outsOf r) := by
  refine ⟨?_, fun n hn => ?_⟩
  · rw [State.openString_str _ _ _ _ hr, if_pos rfl]
    rfl
  · rw [State.openString_so, if_pos hn]

/-- Another string that opens by the clamp leaves the open one so. -/
theorem State.Clamped.openString (h : s.Clamped r outs) (hr : r < 4) (k status : Nat) : (s.openString k .clamp status).Clamped r outs := by
  obtain ⟨hclosed, houts⟩ := h
  refine ⟨?_, fun n hn => ?_⟩
  · rw [State.openString_str _ _ _ _ hr]
    split
    · rfl
    · exact hclosed
  · rw [State.openString_so, houts n hn, ite_self]

theorem State.SafelyOpen.endCt (h : s.SafelyOpen r outs) (hr : r < 4) : s.endCt.SafelyOpen r outs := by
  obtain ⟨hclamped, hshut⟩ := h
  obtain hnone | hwaits | ⟨k, hruns⟩ := s.endCt_cases
  · exact hnone.symm ▸ ⟨hclamped, hshut⟩
  · exact State.SafelyOpen.of_plant (s := s.withoutCt) ⟨hclamped, hshut⟩ hwaits
  · obtain ⟨-, -, hfaulted, -⟩ := id hshut
    have hstopped : (s.withoutCt.stopTested k).Clamped r outs :=
      State.Clamped.of_safe (s := s.withoutCt) hclamped (State.stopTested_safe _ k)
    have hch : (s.withoutCt.stopTested k).ch r = s.ch r := State.ch_stopTested_of_faulted (s := s.withoutCt) hr hfaulted k
    refine State.SafelyOpen.of_plant ⟨hstopped.openString hr k _, ?_⟩ hruns
    rw [State.ch, State.openString_psi, ← State.ch, hch]
    exact hshut

theorem State.SafelyOpen.demandEnds (h : s.SafelyOpen r outs) (hr : r < 4) : s.demandEnds.SafelyOpen r outs :=
  ((h.of_plant s.lapseArm_plant).endCt hr).of_plant (State.preempt_plant _)

end

/-! ### SF1 opens its string (R342) -/

theorem State.safeOpen_safelyOpen (s : State) {r : Nat} (hr : r < 4) : (s.safeOpen r).SafelyOpen r (s.outsOf r) :=
  State.SafelyOpen.demandEnds ⟨(s.clamped_openString_same hr _).of_safe (State.shutGates_safe _ r), State.shut_shutGates_same _ hr⟩ hr

/-- Without a commissioning test a demand ends what waits and what is tested, and nothing of the plant. -/
theorem State.demandEnds_plant {s : State} (h : s.safe.ct = none) : s.demandEnds.plant = s.plant := by
  have hct : s.lapseArm.safe.ct = none := (State.plant_ct s.lapseArm_plant).trans h
  rw [State.demandEnds, State.preempt_plant, State.endCt, hct, State.lapseArm_plant]

/-- The other strings, channels and lanes, and the outputs that belong to none of string r's (R342). -/
def State.OthersStand (s t : State) (r : Nat) : Prop :=
  (∀ k, k < 4 → k ≠ r → t.str k = s.str k ∧ t.ch k = s.ch k ∧ t.lane k = s.lane k) ∧ ∀ n, n ∉ s.outsOf r → t.so n = s.so n

theorem State.safeOpen_othersStand {s : State} {r : Nat} (hr : r < 4) (hct : s.safe.ct = none) : s.OthersStand (s.safeOpen r) r := by
  have hopen := s.openString_butOutputs r .clamp 0x0109
  have hsafe := (s.openString r .clamp 0x0109).shutGates_safe r
  have hplant : (s.safeOpen r).plant = ((s.openString r .clamp 0x0109).shutGates r).plant :=
    State.demandEnds_plant (by rw [hsafe, State.butOutputs_ct hopen]; exact hct)
  refine ⟨fun k hk hne => ⟨?_, ?_, ?_⟩, fun n hn => ?_⟩
  · rw [State.plant_str hplant, State.str, hsafe]
    exact (s.openString_str r .clamp 0x0109 hk).trans (if_neg hne)
  · rw [State.plant_ch hplant, State.driveOf_ch (State.shutGates_driveOf_other _ hr hk hne.symm), State.butOutputs_ch hopen]
    rfl
  · rw [State.plant_lane hplant, State.driveOf_lane (State.shutGates_driveOf_other _ hr hk hne.symm), State.butOutputs_lane hopen]
    rfl
  · rw [State.plant_so hplant, State.so, hsafe]
    exact (s.openString_so r .clamp 0x0109 n).trans (if_neg hn)

end Sys2Proof.Machine
end

section
/-! SUPPORT. Latches under openings and demands (12 R355), the demands SF1 and SF3 (R342, R345), and that faults once raised stay raised. -/
namespace Sys2Proof.Machine
open Sys2Proof

set_option Elab.async false

/-! ### What openings and the end of tests leave of the latches (R355) -/

/-- Chapter 12 without what opens and what ends: outputs, closed strings, close sequences, resets and tests. -/
def State.latchView (s : State) : SafeSt :=
  { s.safe with so := [], closes := [], reset := none, ct := none, str := s.safe.str.map StringSt.opened }

section
variable {t s : State}

theorem State.latchView_of_safe (g : t.safe = s.safe) : t.latchView = s.latchView := by rw [State.latchView, g, ← State.latchView]

theorem State.latchView_of_plant (g : t.plant = s.plant) : t.latchView = s.latchView :=
  congrArg (fun p : LoopSt × PsiSt × SafeSt => { p.2.2 with so := [], ct := none, str := p.2.2.str.map StringSt.opened }) g

theorem State.latchView_of_butOutputs (g : t.butOutputs = s.butOutputs) : t.latchView = s.latchView :=
  congrArg (fun p : LoopSt × PsiSt × SafeSt => { p.2.2 with ct := none, str := p.2.2.str.map StringSt.opened }) g

theorem State.latchView_lockout (g : t.latchView = s.latchView) : t.safe.lockout = s.safe.lockout :=
  show t.latchView.lockout = s.latchView.lockout from congrArg _ g

theorem State.latchView_fire (g : t.latchView = s.latchView) : t.safe.fireCore = s.safe.fireCore ∧ t.safe.fireTurnip = s.safe.fireTurnip :=
  ⟨show t.latchView.fireCore = s.latchView.fireCore from congrArg _ g, show t.latchView.fireTurnip = s.latchView.fireTurnip from congrArg _ g⟩

theorem State.opened_str (s : State) (r : Nat) : s.latchView.str.get r = (s.str r).opened := by
  unfold State.latchView State.str Four.map Four.get
  split <;> rfl

theorem State.latchView_latches (g : t.latchView = s.latchView) (r : Nat) : (t.str r).core = (s.str r).core ∧ (t.str r).turnip = (s.str r).turnip := by
  have h : (t.str r).opened = (s.str r).opened := by rw [← State.opened_str, ← State.opened_str, g]
  exact ⟨show (t.str r).opened.core = (s.str r).opened.core from congrArg _ h,
    show (t.str r).opened.turnip = (s.str r).opened.turnip from congrArg _ h⟩

end

section
variable (s : State)

theorem State.updStr_opened_latchView (r : Nat) : (s.updStr r StringSt.opened).latchView = s.latchView := by
  match r with
  | 0 => rfl
  | 1 => rfl
  | 2 => rfl
  | 3 => rfl
  | _ + 4 => rfl

theorem State.openString_latchView (r : Nat) (how : Opening) (status : Nat) : (s.openString r how status).latchView = s.latchView :=
  (State.latchView_of_butOutputs (s.openString_butOutputs r how status)).trans (s.updStr_opened_latchView r)

theorem State.openSo_latchView (how : Opening) (n : Nat) : (s.openSo how n).latchView = s.latchView :=
  State.latchView_of_butOutputs (s.openSo_butOutputs how n)

theorem State.openAll_latchView : s.openAll.latchView = s.latchView :=
  (foldl_view State.latchView (fun u n => u.openSo_latchView .clamp n) _ _).trans
    (foldl_view State.latchView (fun u r => u.openString_latchView r .clamp 0x0109) _ _)

theorem State.endCt_latchView : s.endCt.latchView = s.latchView := by
  obtain hnone | hwaits | ⟨k, hruns⟩ := s.endCt_cases
  · rw [hnone]
  · exact (State.latchView_of_plant hwaits).trans rfl
  · rw [State.latchView_of_plant hruns, State.openString_latchView, State.latchView_of_safe (State.stopTested_safe _ k)]
    rfl

theorem State.demandEnds_latchView : s.demandEnds.latchView = s.latchView := by
  rw [State.demandEnds, State.latchView_of_plant (State.preempt_plant _), State.endCt_latchView, State.latchView_of_plant s.lapseArm_plant]

theorem State.safeOpen_latchView (r : Nat) : (s.safeOpen r).latchView = s.latchView := by
  rw [State.safeOpen, State.demandEnds_latchView, State.latchView_of_safe (State.shutGates_safe _ r), State.openString_latchView]

/-- The end of drive opens outputs and stops channels (R375). -/
theorem State.endDrive_latchView : s.endDrive.latchView = s.latchView := by
  unfold State.endDrive
  extract_lets opened freed undriven
  have hopened : opened.latchView = s.latchView :=
    foldl_view State.latchView (f := fun u r => u.openString r .freewheel 0x0109) (fun u r => u.openString_latchView r _ _) [0, 1, 2, 3] s
  have hfreed : freed.latchView = opened.latchView :=
    foldl_view State.latchView (f := fun u n => if u.soOn n then u.openSo .freewheel n else u)
      (fun u n => by rw [apply_ite State.latchView, State.openSo_latchView, ite_self]) (List.range 8) opened
  have hundriven : undriven.latchView = freed.latchView :=
    foldl_view State.latchView (f := fun u c => u.updCh c fun x => { x with driven := false })
      (fun u c => State.latchView_of_safe (u.updCh_safe c _)) [0, 1, 2, 3] freed
  have hlast := hundriven.trans (hfreed.trans hopened)
  clear_value undriven
  exact (State.latchView_of_safe (State.sweepGates_safe _)).trans hlast

end

/-! ### SF1 (R339, R342) -/

/-- TRIPPED in both channels, with the cause of the first trigger. -/
def StringSt.trip (cause : Nat) (x : StringSt) : StringSt :=
  if x.core.tripped && x.turnip.tripped then x
  else ({ x with core := { x.core with tripped := true }, turnip := { x.turnip with tripped := true } } : StringSt).blame cause

theorem StringSt.tripped_trip (x : StringSt) (cause : Nat) : (x.trip cause).core.tripped = true ∧ (x.trip cause).turnip.tripped = true := by
  unfold StringSt.trip
  split
  next h => exact Bool.and_eq_true_iff.1 h
  next => exact ⟨rfl, rfl⟩

/-- The latching of a trip, which ends a check visit (R60). -/
def State.tripLatched (s : State) (r cause : Nat) : State :=
  let u := { s with sys := { s.sys with checkVisit := false } }
  if (s.str r).core.tripped && (s.str r).turnip.tripped then u else (u.updStr r (StringSt.trip cause)).inc 0x690 0

section
variable (s : State) (r cause : Nat)

theorem State.trip_eq : s.trip r cause = (s.tripLatched r cause).safeOpen r := by
  unfold State.trip State.tripLatched
  simp only []
  split
  next => rfl
  next h =>
    have htrip : (s.str r).trip cause = _ := if_neg h
    simp only [State.updStr]
    rw [show ({ s with sys := { s.sys with checkVisit := false } } : State).str r = s.str r from rfl, htrip]

theorem State.tripLatched_plant : (s.tripLatched r cause).plant = (s.updStr r (StringSt.trip cause)).plant := by
  unfold State.tripLatched
  split
  next h => rw [State.updStr_unchanged (show (s.str r).trip cause = s.str r from if_pos h)]; rfl
  next => rfl

theorem State.tripLatched_outsOf (j : Nat) : (s.tripLatched r cause).outsOf j = s.outsOf j := by
  unfold State.tripLatched
  simp only []
  split <;> rfl

variable {r} (hr : r < 4)
include hr

theorem State.trip_latches : ((s.trip r cause).str r).core.tripped = true ∧ ((s.trip r cause).str r).turnip.tripped = true := by
  obtain ⟨hcore, hturnip⟩ := State.latchView_latches (State.safeOpen_latchView (s.tripLatched r cause) r) r
  have hstr : (s.tripLatched r cause).str r = (s.str r).trip cause :=
    (State.plant_str (s.tripLatched_plant r cause) r).trans (s.str_updStr_same _ hr)
  rw [State.trip_eq, hcore, hturnip, hstr]
  exact (s.str r).tripped_trip cause

theorem State.trip_safelyOpen : (s.trip r cause).SafelyOpen r (s.outsOf r) := by
  rw [State.trip_eq, ← s.tripLatched_outsOf r cause]
  exact State.safeOpen_safelyOpen _ hr

theorem State.trip_othersStand (hct : s.safe.ct = none) : s.OthersStand (s.trip r cause) r := by
  have hplant := s.tripLatched_plant r cause
  obtain ⟨hstrings, houts⟩ := State.safeOpen_othersStand hr ((State.plant_ct hplant).trans hct)
  rw [State.trip_eq]
  refine ⟨fun k hk hne => ?_, fun n hn => (houts n (by rwa [State.tripLatched_outsOf])).trans (State.plant_so hplant n)⟩
  obtain ⟨hstr, hch, hlane⟩ := hstrings k hk hne
  exact ⟨hstr.trans ((State.plant_str hplant k).trans ((s.str_updStr r _ hk).trans (if_neg hne))), hch.trans (State.plant_ch hplant k),
    hlane.trans (State.plant_lane hplant k)⟩

end

/-! ### Raised faults stay raised (20 R524) -/

section
variable (s : State)

theorem State.post_fm (p : Packet) : (s.post p).fm = s.fm := by
  unfold State.post; split <;> rfl

theorem State.sendBatch_fm (id : Nat) (b : Batch) : (s.sendBatch id b).fm = s.fm := by
  unfold State.sendBatch
  split
  · rfl
  · exact State.post_fm _ _

theorem State.closeBatch_fm (id : Nat) : (s.closeBatch id).fm = s.fm := by
  unfold State.closeBatch
  split
  · rfl
  split
  · rfl
  · exact State.sendBatch_fm _ _ _

theorem State.enqueueRec_raised (r : Rec) : (s.enqueueRec r).fm.raised = s.fm.raised := by
  simp only [State.enqueueRec]
  split
  · rfl
  · split <;> rfl

theorem State.recordPlain_raised (f : FRec) : (s.recordPlain f).fm.raised = s.fm.raised :=
  (congrArg FaultSt.raised (foldl_view State.fm (fun u (x : Sess) => u.closeBatch_fm x.id) _ _)).trans (State.enqueueRec_raised _ _)

theorem State.fbTrigger_fm (seq code : Nat) : (s.fbTrigger seq code).fm = s.fm := by
  simp only [State.fbTrigger]
  split
  · rfl
  · split <;> exact State.fbPush_fm _ _ _ _

theorem State.record_raised (f : FRec) : (s.record f).fm.raised = s.fm.raised := by
  simp only [State.record]
  split
  · exact State.recordPlain_raised _ _
  split
  · exact (State.recordPlain_raised _ _).trans (State.recordPlain_raised _ _)
  · rw [State.fbTrigger_fm, State.recordPlain_raised]

/-- A fault or event that is raised joins those that are. -/
theorem State.raiseWith_raised (code inst sev : Nat) (data : Bytes) (parent : Option (Nat × Nat)) (strings : Option (BitVec 4)) :
    s.fm.raised ⊆ (s.raiseWith code inst sev data parent strings).fm.raised := by
  simp only [State.raiseWith]
  split
  · split
    · exact List.Subset.refl _
    · exact (State.record_raised _ _).symm ▸ List.Subset.refl _
  · exact List.subset_append_left _ _

theorem State.complete_raised (op : OpRef) (status : Nat) (result : Bytes) : s.fm.raised ⊆ (s.complete op status result).fm.raised :=
  State.raiseWith_raised _ _ _ _ _ _ _

theorem State.waits_of_raised {t s : State} (h : s.fm.raised ⊆ t.fm.raised) {code inst sev : Nat} (hwaits : s.waits code inst sev = true) :
    t.waits code inst sev = true := by
  obtain ⟨f, hf, hmatch⟩ := List.any_eq_true.1 hwaits
  exact List.any_eq_true.2 ⟨f, h hf, hmatch⟩

end

/-! ### What follows a fire (R263, R345) -/

/-- Chapters 7, 8 and 12 stand, and every fault raised before is raised still. -/
def State.Follows (t s : State) : Prop := t.plant = s.plant ∧ s.fm.raised ⊆ t.fm.raised

section
variable {s t u : State}

theorem State.Follows.rfl' : s.Follows s := ⟨rfl, List.Subset.refl _⟩

theorem State.Follows.trans (h : u.Follows t) (g : t.Follows s) : u.Follows s := ⟨h.1.trans g.1, List.Subset.trans g.2 h.2⟩

theorem State.Follows.ite {p : Prop} [Decidable p] (ht : t.Follows s) (hu : u.Follows s) : (if p then t else u).Follows s := by
  split
  · exact ht
  · exact hu

theorem State.Follows.foldl {α : Type} {f : State → α → State} (hf : ∀ s a, (f s a).Follows s) (l : List α) (s : State) : (l.foldl f s).Follows s :=
  List.foldlRecOn l f (motive := (State.Follows · s)) .rfl' fun t h a _ => (hf t a).trans h

end

section
variable (s : State)

theorem State.raiseWith_follows (code inst sev : Nat) (data : Bytes) (parent : Option (Nat × Nat)) (strings : Option (BitVec 4)) :
    (s.raiseWith code inst sev data parent strings).Follows s :=
  ⟨(State.raiseWith_same _ _ _ _ _ _ _).plant_eq, State.raiseWith_raised _ _ _ _ _ _ _⟩

theorem State.raise_follows (code inst sev : Nat) (data : Bytes) : (s.raise code inst sev data).Follows s := State.raiseWith_follows _ _ _ _ _ _ _

theorem State.complete_follows (op : OpRef) (status : Nat) (result : Bytes) : (s.complete op status result).Follows s :=
  State.raise_follows _ _ _ _ _

theorem State.setGen_follows (g : Nat) (x : GenSt) : (s.setGen g x).Follows s := by
  unfold State.setGen
  split <;> exact .rfl'

theorem State.updAxis_follows (a : Nat) (f : AxisSt → AxisSt) : (s.updAxis a f).Follows s := .rfl'

theorem State.estop_follows (g : Nat) : (s.estop g).Follows s :=
  (State.raise_follows _ _ _ _ _).trans (.trans (t := s.setGen g _) .rfl' (s.setGen_follows g _))

theorem State.endRuns_follows (a : Nat) : (s.endRuns a).Follows s := by
  have hhome : ∀ (r : HomeRun) (u : State), (if r.found then u else u.complete r.op 0x0105).Follows u := fun r u =>
    .ite .rfl' (u.complete_follows _ _ _)
  refine .trans (t := s.setAxis a { s.axis a with home := none, cal := none }) ?_ .rfl'
  simp only [State.endRuns]
  cases (s.axis a).home with
  | none =>
    cases (s.axis a).cal with
    | none => exact .rfl'
    | some c => exact State.complete_follows _ _ _ _
  | some r =>
    cases (s.axis a).cal with
    | none => exact hhome r _
    | some c => exact (State.complete_follows _ _ _ _).trans (hhome r _)

theorem State.fireAxis_follows (a : Nat) : (s.fireAxis a).Follows s := by
  have hruns := s.endRuns_follows a
  unfold State.fireAxis
  split
  simp only []
  split
  · exact (State.estop_follows _ _).trans hruns
  split
  · exact .rfl'
  · have haims : ∀ x, (((s.endRuns a).updAxis a fun x => { x with fire := true, holding := false }).setGen (a + 4) x).Follows s := fun x =>
      (State.setGen_follows _ _ _).trans ((State.updAxis_follows _ _ _).trans hruns)
    have hacts : ∀ u : State, u.Follows s → (if 19000 ≤ u.actMv then u.energise a else u).Follows s := fun u h =>
      .ite ((u.updAxis_follows a _).trans h) h
    exact .ite ((State.raise_follows _ _ _ _ _).trans (hacts _ (haims _))) (hacts _ (haims _))

theorem State.sf4_follows : s.sf4.Follows s := (State.Follows.foldl State.fireAxis_follows _ _).trans ⟨rfl, List.Subset.refl _⟩

theorem State.startSf4_follows : s.startSf4.Follows s := .ite ((State.sf4_follows _).trans (State.raiseWith_follows _ _ _ _ _ _ _)) .rfl'

theorem State.dropTarget_follows (status : Nat) : (s.dropTarget status).Follows s := by
  unfold State.dropTarget
  split
  · exact .rfl'
  · exact (State.complete_follows _ _ _ _).trans ⟨rfl, List.Subset.refl _⟩

theorem State.wake_follows : s.wake.Follows s :=
  .ite .rfl' (.trans (t := s.dropTarget 0x0105) ⟨rfl, List.Subset.refl _⟩ (s.dropTarget_follows _))

/-! ### SF3 (R345) -/

/-- FIRE latched in both channels. -/
def State.fireLatched : State := { s with safe := { s.safe with fireCore := true, fireTurnip := true } }

/-- What SF3 does at once: every output opens, every gate shuts, and what a demand ends has ended. -/
def State.fireOpens : State := ([0, 1, 2, 3].foldl State.shutGates s.fireLatched.openAll).demandEnds

theorem State.sf3_eq : s.sf3 = (if !(s.safe.fireCore && s.safe.fireTurnip) then s.fireOpens.raiseWith 0x6030 0 2 [] none (some 0)
    else s.fireOpens).wake.startSf4 := rfl

theorem State.sf3_follows : s.sf3.Follows s.fireOpens := by
  rw [State.sf3_eq]
  exact (State.startSf4_follows _).trans ((State.wake_follows _).trans (.ite (State.raiseWith_follows _ _ _ _ _ _ _) .rfl'))

/-- The first FIRE is raised (R345). -/
theorem State.sf3_waits {s : State} (h : s.safe.fire = false) : s.sf3.waits 0x6030 0 2 = true := by
  obtain ⟨hcore, -⟩ := Bool.or_eq_false_iff.1 h
  have hfirst : (!(s.safe.fireCore && s.safe.fireTurnip)) = true := by rw [hcore]; rfl
  rw [State.sf3_eq, if_pos hfirst]
  obtain ⟨-, hraised⟩ := (State.startSf4_follows _).trans (State.wake_follows (s.fireOpens.raiseWith 0x6030 0 2 [] none (some 0)))
  exact State.waits_of_raised hraised (State.raiseWith_waits _ _ _ _ _ _ _ (by decide))

theorem State.openSos_clamped {s : State} {r : Nat} (h : (s.str r).closed = false) (l : List Nat) :
    (l.foldl (fun u n => u.openSo .clamp n) s).Clamped r l := by
  refine ⟨?_, fun n hn => ?_⟩
  · rw [State.butOutputs_str (foldl_view State.butOutputs (fun u n => u.openSo_butOutputs .clamp n) l s)]
    exact h
  · rw [State.so_openSos, if_pos hn]

theorem State.openStrings_closed {r : Nat} (hr : r < 4) : (([0, 1, 2, 3].foldl (fun u r => u.openString r .clamp 0x0109) s).str r).closed = false := by
  have hopen := foldl_reaches (P := (State.Clamped · r [])) (f := fun u r => u.openString r .clamp 0x0109) (b := r) (l := [0, 1, 2, 3])
    (fun u => ⟨(u.clamped_openString_same hr _).1, nofun⟩) (fun u k h => h.openString hr k _) (by simp; omega) s
  exact hopen.1

theorem State.openAll_clamped {r : Nat} (hr : r < 4) : s.openAll.Clamped r (List.range 8) :=
  State.openSos_clamped (s.openStrings_closed hr) (List.range 8)

theorem State.shut_shutGates {c : Nat} (hc : c < 4) : (([0, 1, 2, 3].foldl State.shutGates s).ch c).Shut := by
  refine foldl_reaches (P := fun u => (u.ch c).Shut) (fun u => u.shut_shutGates_same hc) (fun u k h => ?_) (b := c) (by simp; omega) s
  by_cases hk : k = c
  · exact hk ▸ u.shut_shutGates_same (hk ▸ hc)
  · have hch : (u.shutGates k).ch c = u.ch c := (State.ch_endChannel_ne _ hc hk _ _ _).trans (u.ch_updCh_ne _ hc hk)
    exact hch.symm ▸ h

theorem State.shutGatesAll_safe : ([0, 1, 2, 3].foldl State.shutGates s).safe = s.safe := foldl_view State.safe State.shutGates_safe _ _

/-- SF3 leaves every string open with its channel off, and every output opened by the clamp. -/
theorem State.sf3_safelyOpen {r : Nat} (hr : r < 4) : s.sf3.SafelyOpen r (List.range 8) := by
  have hclamped : ([0, 1, 2, 3].foldl State.shutGates s.fireLatched.openAll).Clamped r (List.range 8) :=
    (s.fireLatched.openAll_clamped hr).of_safe (State.shutGatesAll_safe _)
  exact (State.SafelyOpen.demandEnds ⟨hclamped, State.shut_shutGates _ hr⟩ hr).of_plant s.sf3_follows.1

theorem State.sf3_fire : s.sf3.safe.fireCore = true ∧ s.sf3.safe.fireTurnip = true := by
  have hlatched : s.sf3.latchView = s.fireLatched.latchView := by
    rw [State.latchView_of_plant s.sf3_follows.1, State.fireOpens, State.demandEnds_latchView, State.latchView_of_safe (State.shutGatesAll_safe _),
      State.openAll_latchView]
  obtain ⟨hcore, hturnip⟩ := State.latchView_fire hlatched
  exact ⟨hcore, hturnip⟩

end

end Sys2Proof.Machine
end

section
/-! SUPPORT. The rules that O51 and O23 turn on: the next states of the safety inputs and of the outputs' pulses and faults (12 R347, R351 to R357). -/
namespace Sys2Proof.Machine
open Sys2Proof

set_option Elab.async false

/-! ### Demands of inputs (R353) -/

/-- The channel's demand on pair k takes effect once it has held for the filter's time. -/
def State.siDemanded (s : State) (k : Nat) (b : Bool) : State :=
  let u := s.advanceTo ((s.si k).since.getD s.now + s.parN 0x619 0 * 1000000)
  u.setSi k ((u.si k).demand b u.now)

theorem SiSt.demand_marks (x : SiSt) (b : Bool) (now : Nat) : if b then (x.demand b now).turnip = true else (x.demand b now).core = true := by
  cases b <;> rfl

section
variable {s : State} {k : Nat} (b : Bool)

theorem State.siDemanded_marks (s : State) (hk : k < 4) : if b then ((s.siDemanded k b).si k).turnip = true else ((s.siDemanded k b).si k).core = true := by
  rw [State.siDemanded, State.si_setSi_same _ _ hk]
  exact SiSt.demand_marks _ _ _

variable (hk : k < 4) (hfield : s.fieldOn = true)
include hk hfield

/-- A demand that takes effect acts by the pair's function. -/
theorem State.siDemand_passes {n : Nat} (hfunc : (s.siFunc k).1 = n + 1) : ¬ (4 ≤ k ∨ (s.siFunc k).1 = 0 ∨ !s.fieldOn) := by
  simp [hfield, hfunc, hk]

theorem exec_siDemand_fire (hfunc : (s.siFunc k).1 = 1) : exec (.siDemand k b) s = .next (s.siDemanded k b).sf3 := by
  show execSiDemand k b s = _
  simp only [execSiDemand, if_neg (State.siDemand_passes hk hfield hfunc)]
  simp only [hfunc]
  rfl

theorem exec_siDemand_stop (hfunc : (s.siFunc k).1 = 2) :
    exec (.siDemand k b) s = .next ((bitsSet 4 (s.siFunc k).2.2).foldl State.sf1 (s.siDemanded k b)) := by
  show execSiDemand k b s = _
  simp only [execSiDemand, if_neg (State.siDemand_passes hk hfield hfunc)]
  simp only [hfunc]
  rfl

theorem exec_siDemand_run (hfunc : (s.siFunc k).1 = 3) :
    exec (.siDemand k b) s = .next ((bitsSet 4 (s.siFunc k).2.2).foldl State.sf2 (s.siDemanded k b)) := by
  show execSiDemand k b s = _
  simp only [execSiDemand, if_neg (State.siDemand_passes hk hfield hfunc)]
  simp only [hfunc]
  rfl

end

/-! ### Discrepancies (R353, R357) -/

/-- The two channels of pair k disagree, t0 being since when one demand stands alone. -/
def State.siDisagreed (s : State) (k t0 : Nat) : State :=
  let u := s.advanceTo (t0 + s.parN 0x61A 0 * 1000000)
  u.setSi k { u.si k with disagree := true }

theorem exec_siDiscrepancy {s : State} {k t0 : Nat} (hk : k < 4) (hfunc : (s.siFunc k).1 ≠ 0) (hapart : (s.si k).apart = some t0) :
    exec (.siDiscrepancy k) s = .next ((s.siDisagreed k t0).lockFault 0x6060 k (s.siStrings k)) := by
  show execSiDiscrepancy k s = _
  simp only [execSiDiscrepancy, hapart, if_neg (show ¬ (4 ≤ k ∨ (s.siFunc k).1 = 0) by simp [hk, hfunc])]
  rfl

/-- The doubt over string r's decision at t0 is due. -/
def State.doubtDue (s : State) (r t0 : Nat) : State := (s.advanceTo (t0 + 50000000)).updStr r fun x => { x with doubt := none }

theorem exec_channelDiscrepancy {s : State} {r t0 : Nat} {cause : Option Nat} (hr : r < 4) (hdoubt : (s.str r).doubt = some (t0, cause)) :
    exec (.channelDiscrepancy r) s = .next (if (s.doubtDue r t0).causeSeen r cause then s.doubtDue r t0
      else (s.doubtDue r t0).lockFault 0x6040 r [r]) := by
  show execChannelDiscrepancy r s = _
  simp only [execChannelDiscrepancy, hdoubt, if_neg (Nat.not_le.2 hr)]
  rfl

/-! ### Test pulses (R351, R352, R354) -/

/-- The failures of input i's test pulse start over. -/
def SiSt.pulsePassed (x : SiSt) (i : Nat) : SiSt := if i % 2 = 0 then { x with failsA := 0 } else { x with failsB := 0 }

theorem SiSt.pulsePassed_fails (x : SiSt) (i : Nat) : if i % 2 = 0 then (x.pulsePassed i).failsA = 0 else (x.pulsePassed i).failsB = 0 := by
  unfold SiSt.pulsePassed
  split <;> rfl

/-- Input i answers its test pulse. -/
def State.siPulsed (s : State) (i : Nat) : State :=
  (((s.advanceTo (sitAt s.now i)).emit (.sit i (sitAt s.now i))).setSi (i / 2) ((s.si (i / 2)).pulsePassed i)).clearFaulty 0x6061 i

theorem exec_siTestPulse {s : State} {i us : Nat} (hi : i < 8) (hfunc : (s.siFunc (i / 2)).1 ≠ 0)
    (hmode : (s.siFunc (i / 2)).2.1.testBit 1 = false) (hfield : s.fieldOn = true) (hpermit : s.permit = true) (hus : us ≤ 250) :
    exec (.siTestPulse i (some us) false) s = .next (s.siPulsed i) := by
  have hguard : ¬ (8 ≤ i ∨ (s.siFunc (i / 2)).1 = 0 ∨ (s.siFunc (i / 2)).2.1.testBit 1 ∨ !s.fieldOn ∨ !s.permit) := by
    simp [hi, hfunc, hmode, hfield, hpermit]
  show execSiTestPulse i (some us) false s = _
  simp only [execSiTestPulse, if_neg hguard, Option.any_some, decide_eq_true hus, Bool.not_false, Bool.and_self, if_true]
  rfl

theorem State.not_mem_clearFaulty (s : State) (code inst : Nat) : (code, inst) ∉ (s.clearFaulty code inst).safe.faulty := by
  simp [State.clearFaulty]

theorem State.mem_markFaulty (s : State) (code inst : Nat) : (code, inst) ∈ (s.markFaulty code inst).safe.faulty := by
  unfold State.markFaulty
  split
  next h => exact List.contains_iff_mem.1 h
  next => exact List.mem_append_right _ (List.mem_singleton_self _)

theorem State.markFaulty_lockout (s : State) (code inst : Nat) : (s.markFaulty code inst).safe.lockout = s.safe.lockout := by
  unfold State.markFaulty
  split <;> rfl

section
variable {s : State} {o w : Nat} {a b : SwitchLevels} (ho : o < 8)
include ho

theorem exec_offPulse (hw : w < 2) (hfield : s.fieldOn = true) (hon : s.soOn o = true) (ha : pulsePass true w a = true)
    (hb : pulsePass true w b = true) :
    exec (.offPulse o w a b) s = .next (((s.advanceTo (pulseAt s.now o w)).inc 0x691 0).clearFaulty 0x6050 (2 * o + w)) := by
  show execOffPulse o w a b s = _
  simp only [execOffPulse, if_neg (show ¬ (8 ≤ o ∨ 2 ≤ w ∨ !s.fieldOn ∨ !s.soOn o) by simp [ho, hw, hfield, hon]), State.pulse, ha, hb,
    Bool.and_self, if_true]

theorem exec_onPulse (hw : w < 2) (hfield : s.fieldOn = true) (hoff : s.soOn o = false) (hlife : (s.isActive || s.isStandby) = true)
    (ha : pulsePass false w a = true) (hb : pulsePass false w b = true) :
    exec (.onPulse o w a b) s = .next (((s.advanceTo (pulseAt s.now o w)).inc 0x691 0).clearFaulty 0x6050 (2 * o + w)) := by
  have hguard : ¬ (8 ≤ o ∨ 2 ≤ w ∨ !s.fieldOn ∨ s.soOn o ∨ !(s.isActive || s.isStandby || s.safe.reset.isSome)) := by
    simp [ho, hw, hfield, hoff, hlife]
  show execOnPulse o w a b s = _
  simp only [execOnPulse, if_neg hguard, State.pulse, ha, hb, Bool.and_self, if_true]

/-! ### Outputs (R338, R347, 16 R455) -/

theorem exec_soOverload (hon : s.soOn o = true) :
    exec (.soOverload o) s = .next ((s.openSo .clamp o).lockFault 0x6051 o [(s.soMap o).1]) :=
  congrArg Host.Outcome.next (if_neg (by simp [ho, hon]))

theorem exec_soOpenLoad (hon : s.soOn o = true) : exec (.soOpenLoad o) s = .next (s.lockFault 0x6052 o [(s.soMap o).1]) :=
  congrArg Host.Outcome.next (if_neg (by simp [ho, hon]))

theorem exec_freewheelToClamp (hoff : s.soOn o = false) (hfree : (s.so o).opening ≠ .clamp) :
    exec (.freewheelToClamp o) s = .next (s.setSo o { s.so o with opening := .clamp }) :=
  congrArg Host.Outcome.next (if_neg (by simp [ho, hoff, hfree]))

end

/-- A fold that writes outputs, each from what it was, brings every output listed under what it writes. -/
theorem State.so_writes {P : SoSt → Prop} {f : SoSt → SoSt} (hf : ∀ x, P (f x)) {l : List Nat} {n : Nat} (hn : n ∈ l) (s : State) :
    P ((l.foldl (fun u k => u.setSo k (f (u.so k))) s).so n) := by
  refine foldl_reaches (P := fun u => P (u.so n)) (fun u => ?_) (fun u k h => ?_) hn s
  · rw [State.so_setSo_same]
    exact hf _
  · rw [State.so_setSo]
    split
    · exact hf _
    · exact h

/-- One channel's switch of an output opens by the clamp: P where the demand comes from Turnip, else T (R339). -/
def SoSt.halfOpened (fromTurnip : Bool) (x : SoSt) : SoSt :=
  if fromTurnip then { x with p := false, opening := .clamp } else { x with t := false, opening := .clamp }

theorem SoSt.halfOpened_open (fromTurnip : Bool) (x : SoSt) : (x.halfOpened fromTurnip).opening = .clamp
    ∧ if fromTurnip then (x.halfOpened fromTurnip).p = false else (x.halfOpened fromTurnip).t = false := by
  cases fromTurnip <;> exact ⟨rfl, rfl⟩

/-- The other channel's FIRE reaches this one, which latches on every string and opens its own switches (R339). -/
def State.fireCrossed (s : State) (fromTurnip : Bool) : State :=
  let u := { s with safe := if fromTurnip then { s.safe with fireCore := true } else { s.safe with fireTurnip := true } }
  (List.range 8).foldl (fun u n => u.setSo n ((u.so n).halfOpened fromTurnip))
    ([0, 1, 2, 3].foldl (fun u r => u.latchOne fromTurnip r (u.str r).cause id true) u)

theorem exec_crossDemand_fire (s : State) (n : Nat) (f : Bool) : exec (.crossDemand .fire n f) s = .next (s.fireCrossed f).startSf4 := rfl

theorem State.fireCrossed_so (s : State) (f : Bool) {n : Nat} (hn : n < 8) : ((s.fireCrossed f).so n).opening = .clamp
    ∧ if f then ((s.fireCrossed f).so n).p = false else ((s.fireCrossed f).so n).t = false := by
  unfold State.fireCrossed
  extract_lets safe fired
  exact State.so_writes (P := fun x => x.opening = .clamp ∧ if f then x.p = false else x.t = false) (f := SoSt.halfOpened f)
    (SoSt.halfOpened_open f) (List.mem_range.2 hn) ([0, 1, 2, 3].foldl (fun u r => u.latchOne f r (u.str r).cause id true) fired)

/-- An output whose switch of one channel has opened with the frames that drive it; switch P too where the hold register held it (R59). -/
def SoSt.frameLost (sw held : Bool) (x : SoSt) : SoSt := { x with p := x.p && sw && !held, t := x.t && !sw, opening := .clamp }

theorem SoSt.frameLost_open (sw held : Bool) (x : SoSt) :
    ((x.frameLost sw held).p && (x.frameLost sw held).t) = false ∧ (x.frameLost sw held).opening = .clamp
      ∧ (held = true → (x.frameLost sw held).p = false) := by
  refine ⟨?_, rfl, ?_⟩
  · cases sw <;> simp [SoSt.frameLost]
  · rintro rfl
    simp [SoSt.frameLost]

/-- The switches open; in P3 the hold register lets go of all (R59). -/
def State.switchesLost (s : State) (sw : Bool) : State :=
  let u := (List.range 8).foldl (fun u n => u.setSo n ((u.so n).frameLost sw s.sys.holdOn)) s
  if s.sys.holdOn then { u with sys := { u.sys with holdReg := 0 } } else u

/-- A string shows open, its close sequence given up. -/
def State.showOpen (s : State) (r : Nat) : State := (s.abandonClose r 0x0109).updStr r fun x => { x with closed := false }

theorem State.showOpen_so (s : State) (r n : Nat) : (s.showOpen r).so n = s.so n := State.plant_so (s.abandonClose_plant r 0x0109) n

theorem State.showOpen_sys (s : State) (r : Nat) : (s.showOpen r).sys = s.sys := s.abandonClose_sys r 0x0109

theorem exec_safetySwitchFrameLoss (s : State) (sw : Bool) :
    exec (.safetySwitchFrameLoss sw) s = .next ([0, 1, 2, 3].foldl State.showOpen (s.switchesLost sw)) := rfl

theorem State.switchesLost_so (s : State) (sw : Bool) {n : Nat} (hn : n < 8) :
    (((s.switchesLost sw).so n).p && ((s.switchesLost sw).so n).t) = false ∧ ((s.switchesLost sw).so n).opening = .clamp
      ∧ (s.sys.holdOn = true → ((s.switchesLost sw).so n).p = false) := by
  have hwritten := State.so_writes
    (P := fun x => (x.p && x.t) = false ∧ x.opening = .clamp ∧ (s.sys.holdOn = true → x.p = false))
    (SoSt.frameLost_open sw s.sys.holdOn) (List.mem_range.2 hn) s
  unfold State.switchesLost
  simp only []
  split <;> exact hwritten

end Sys2Proof.Machine
end

section
/-! SUPPORT. O50 and O51: overcurrent and fire. -/
namespace Sys2Proof.Machine
open Sys2Proof

set_option Elab.async false

/-- Settles O50: the trip opens the string and shuts its channel, and where no commissioning test stands it leaves the others alone. -/
theorem overcurrentTripsItsStringAlone : Obligations.OvercurrentTripsItsStringAlone := by
  unfold Obligations.OvercurrentTripsItsStringAlone
  intro s c bits hc htrips
  let u := (s.updCh c fun x => { x with oc := true }).inc 0x3B6 c
  refine ⟨_, exec_overcurrent hc htrips, ?_⟩
  have hplant : ((u.tripFault 0x6011 c [c]).plant = (u.trip c 0x6011).plant) := (State.raiseWith_same _ _ _ _ _ _ _).plant_eq
  obtain ⟨hcore, hturnip⟩ := u.trip_latches 0x6011 hc
  obtain ⟨⟨hclosed, houts⟩, hsafeShut, hturnipShut, hstate, hdriven, hpwm⟩ := (u.trip_safelyOpen 0x6011 hc).of_plant hplant
  refine ⟨?_, ?_, hclosed, fun n hn => ?_, ?_, ?_, hstate, hdriven, hpwm, State.raiseWith_waits _ _ _ _ _ _ _ (by decide), fun hct => ?_⟩
  · rw [State.plant_str hplant]; exact hcore
  · rw [State.plant_str hplant]; exact hturnip
  · rw [State.soOn, houts n hn]; exact ⟨rfl, rfl⟩
  · rw [State.gateSafe, hsafeShut]; rfl
  · rw [State.gateTurnip, hturnipShut]; rfl
  · obtain ⟨hstrings, hothers⟩ := u.trip_othersStand 0x6011 hc hct
    refine ⟨fun k hk hne => ?_, fun n hn => (State.plant_so hplant n).trans (hothers n hn)⟩
    obtain ⟨hstr, hch, hlane⟩ := hstrings k hk hne
    exact ⟨(State.plant_str hplant k).trans hstr, (State.plant_ch hplant k).trans (hch.trans (s.ch_updCh_ne (fun x => { x with oc := true }) hk hne.symm)),
      (State.plant_lane hplant k).trans hlane⟩

/-- Settles O51: SF3 leaves every string open with its channel off, and only what starts SF4 follows. -/
theorem fireOpensEverything : Obligations.FireOpensEverything := by
  unfold Obligations.FireOpensEverything
  intro s k b hk hfire hfield
  refine ⟨_, exec_siDemand_fire b hk hfield hfire, ?_⟩
  obtain ⟨hcore, hturnip⟩ := (s.siDemanded k b).sf3_fire
  have hopen : ∀ n < 8, (s.siDemanded k b).sf3.so n = .opened .clamp := fun n hn => by
    obtain ⟨⟨-, houts⟩, -⟩ := (s.siDemanded k b).sf3_safelyOpen (r := 0) (by decide)
    exact houts n (List.mem_range.2 hn)
  refine ⟨hcore, hturnip, ?_, fun n hn => ?_, fun c hc => ?_, fun hfirst => State.sf3_waits (show (s.siDemanded k b).safe.fire = false from hfirst)⟩
  · refine List.any_eq_false.2 fun n hn => ?_
    rw [State.soOn, hopen n (List.mem_range.1 hn)]
    exact Bool.false_ne_true
  · rw [hopen n hn]; rfl
  · obtain ⟨⟨hclosed, -⟩, hsafeShut, hturnipShut, hstate, hdriven, hpwm⟩ := (s.siDemanded k b).sf3_safelyOpen hc
    refine ⟨hclosed, ?_, ?_, hstate, hdriven, hpwm⟩
    · rw [State.gateSafe, hsafeShut]; rfl
    · rw [State.gateTurnip, hturnipShut]; rfl

end Sys2Proof.Machine
end

section
/-! SUPPORT. O23: demands, pulses and faults of inputs and outputs. -/
namespace Sys2Proof.Machine
open Sys2Proof

set_option Elab.async false

/-- Settles O23: each command's next state is named by its own lemma, and each clause reads off what it leaves. That the instance of 0x6060 is the
pair and that of 0x6061 the input are assumption log entries 35 and 126; that an output is unchanged on its side of 3 V is entry 208. -/
theorem safetyDemandsComplete : Obligations.SafetyDemandsComplete := by
  unfold Obligations.SafetyDemandsComplete
  refine ⟨?heartbeat, ?lockstep, ?crossTimeout, fun s n f => ⟨rfl, rfl, rfl⟩, fun s n f _ => ⟨_, rfl, rfl⟩, ?fire, ?doubt, ?siFire, ?siStop, ?siRun,
    ?disagree, ?testPulse, ?offPulse, ?onPulse, ?overload, ?openLoad, ?frameLoss, ?freewheel⟩
  case heartbeat =>
    intro s
    refine ⟨_, rfl, rfl, State.mem_markFaulty _ _ _, ?_, ?_⟩
    · rw [State.markFaulty_lockout, State.latchView_lockout (State.endDrive_latchView _), State.latchView_lockout (State.demandEnds_latchView _)]
    · rw [State.markFaulty_sys, State.endDrive_roleOut]
  case lockstep =>
    exact fun s => ⟨_, rfl, s.mem_markFaulty 0x6042 0⟩
  case crossTimeout =>
    exact fun s => ⟨_, rfl, s.mem_markFaulty 0x6043 0⟩
  case fire =>
    exact fun s n f => ⟨_, exec_crossDemand_fire s n f, fun k hk => s.fireCrossed_so f hk⟩
  case doubt =>
    intro s r t0 cause hr hdoubt
    refine ⟨_, rfl, ?_, exec_channelDiscrepancy hr hdoubt⟩
    rw [State.doubtDue, State.str_updStr_same _ _ hr]
  case siFire =>
    exact fun s k b hk hfunc hfield => ⟨_, exec_siDemand_fire b hk hfield hfunc, rfl, s.siDemanded_marks b hk⟩
  case siStop =>
    exact fun s k b hk hfunc hfield => ⟨_, exec_siDemand_stop b hk hfield hfunc, rfl⟩
  case siRun =>
    exact fun s k b hk hfunc hfield => ⟨_, exec_siDemand_run b hk hfield hfunc, rfl⟩
  case disagree =>
    intro s k t0 hk hfunc hapart
    refine ⟨_, exec_siDiscrepancy hk hfunc hapart, ?_, rfl⟩
    rw [State.siDisagreed, State.si_setSi_same _ _ hk]
  case testPulse =>
    intro s i hi hfunc hmode hfield hpermit us hus
    refine ⟨_, exec_siTestPulse hi hfunc hmode hfield hpermit hus, State.not_mem_clearFaulty _ _ _, rfl, ?_⟩
    have hsi : (s.siPulsed i).si (i / 2) = (s.si (i / 2)).pulsePassed i := State.si_setSi_same _ _ (by omega)
    rw [hsi]
    exact SiSt.pulsePassed_fails _ _
  case offPulse =>
    exact fun s o w a b ho hw hfield hon ha hb => exec_offPulse ho hw hfield hon ha hb
  case onPulse =>
    exact fun s o w a b ho hw hfield hoff hlife ha hb => exec_onPulse ho hw hfield hoff hlife ha hb
  case overload =>
    exact fun s o ho hon => exec_soOverload ho hon
  case openLoad =>
    exact fun s o ho hon => exec_soOpenLoad ho hon
  case frameLoss =>
    intro s w
    have hso : ∀ n, ([0, 1, 2, 3].foldl State.showOpen (s.switchesLost w)).so n = (s.switchesLost w).so n := fun n =>
      foldl_view (State.so · n) (fun u r => u.showOpen_so r n) [0, 1, 2, 3] (s.switchesLost w)
    have hsys := foldl_view State.sys State.showOpen_sys [0, 1, 2, 3] (s.switchesLost w)
    refine ⟨_, exec_safetySwitchFrameLoss s w, fun n hn => ?_, fun hheld => ⟨?_, fun n hn => ?_⟩⟩
    · obtain ⟨hoff, hclamp, -⟩ := s.switchesLost_so w hn
      rw [State.soOn, hso]
      exact ⟨hoff, hclamp⟩
    · rw [hsys, State.switchesLost, if_pos hheld]
    · obtain ⟨-, -, hp⟩ := s.switchesLost_so w hn
      rw [hso]
      exact hp hheld
  case freewheel =>
    intro s o ho hoff hfree
    exact ⟨_, exec_freewheelToClamp ho hoff hfree, s.so_setSo_same _ _, fun n _ hne => s.so_setSo_other _ hne⟩

end Sys2Proof.Machine
end

section
/-! SUPPORT. The rules that O24 turns on: the next states of closing and opening strings, of the two-part reset, of the block and of the commissioning
test (12 R350, R358, R361, R362, R364, R371). -/
namespace Sys2Proof.Machine
open Sys2Proof

set_option Elab.async false

/-! ### Outputs close (R350) -/

section
variable (s : State)

theorem State.soOn_closeSo (n k : Nat) : (s.closeSo n).soOn k = (decide (k = n) || s.soOn k) := by
  by_cases hk : k = n
  · subst hk
    simp [State.soOn, State.closeSo, State.so_setSo_same]
  · simp [State.soOn, State.closeSo, State.so_setSo_other _ _ hk, hk]

theorem State.soOn_closeSos (l : List Nat) (k : Nat) : (l.foldl State.closeSo s).soOn k = (decide (k ∈ l) || s.soOn k) := by
  induction l generalizing s with
  | nil => simp
  | cons n l ih =>
    rw [List.foldl_cons, ih, State.soOn_closeSo]
    by_cases hn : k = n <;> simp [hn]

theorem State.closeSos_str (l : List Nat) (r : Nat) : (l.foldl State.closeSo s).str r = s.str r :=
  foldl_view (State.str · r) (f := State.closeSo) (fun _ _ => rfl) l s

theorem State.openSos_str (how : Opening) (l : List Nat) (r : Nat) : (l.foldl (fun u n => u.openSo how n) s).str r = s.str r :=
  State.butOutputs_str (foldl_view State.butOutputs (fun u n => u.openSo_butOutputs how n) l s) r

/-! ### STRING_CLOSE (R350) -/

theorem State.beginClose_str {r : Nat} (hr : r < 4) : (s.beginClose r).str r = { s.str r with closing := 1, closeAt := s.now } := by
  rw [State.beginClose, State.closeSos_str, State.str_updStr_same _ _ hr]

theorem State.beginClose_soOn {r n : Nat} (hn : n ∈ s.outs r 2) : (s.beginClose r).soOn n = true := by
  rw [State.beginClose, State.soOn_closeSos, decide_eq_true hn, Bool.true_or]

theorem State.beginClose_closes (r : Nat) : (s.beginClose r).safe.closes = s.safe.closes :=
  foldl_view (·.safe.closes) (f := State.closeSo) (fun _ _ => rfl) _ _

/-- String r's close sequence begins for a request that waits for it. -/
def State.closeBegun (r : Nat) (op : OpRef) : State :=
  let u := s.beginClose r
  { u with safe := { u.safe with closes := u.safe.closes ++ [⟨op, [r], [], [], 0⟩] } }

end

theorem exec_stringClose {s : State} {h : Hdr} {m : Byte} {r : Nat} (hpass : s.passes 0x0310 h true [0x01, 0x02, 0x50] = true)
    (hm : bitsSet 4 m.toNat = [r]) (hopen : (s.str r).closed = false) (hidle : (s.str r).closing = 0)
    (hok : (s.admitted 0x0310 h [m]).closeOk r = true) : exec (.stringClose h m) s
      = .next (((s.admitted 0x0310 h [m]).closeBegun r (opRef 0x0310 h)).reply 0x0310 h 1 (statusBytes [(r, 1)])) := by
  have hstr : (s.admitted 0x0310 h [m]).str r = s.str r := State.plant_str (s.admitted_same _ _ _).plant_eq r
  have hjudge : (s.admitted 0x0310 h [m]).closeJudge r = 1 := by simp [State.closeJudge, hstr, hopen, hidle, hok]
  show execStringClose h m s = _
  simp only [execStringClose, State.wcpRun_of_passes s _ h _ _ _ _ hpass, hm, List.map_cons, List.map_nil, hjudge]
  rfl

/-! ### PRECHARGE_ELAPSED (R350) -/

section
variable (s : State) (r : Nat)

/-- The main outputs close when the precharge time has passed. -/
def State.mainOn : State :=
  let u := s.advanceTo ((s.str r).closeAt + s.parN 0x611 0 * 1000000)
  (u.outs r 1).foldl State.closeSo (u.updStr r fun x => { x with closed := true })

/-- The precharge outputs open 100 ms later. -/
def State.prechargeOff : State :=
  let u := s.advanceTo (s.now + 100000000)
  (u.outs r 2).foldl (fun u n => u.openSo .clamp n) (u.updStr r fun x => { x with closing := 0 })

theorem exec_prechargeElapsed {s : State} {r : Nat} (hr : r < 4) (hclosing : (s.str r).closing = 1) :
    exec (.prechargeElapsed r) s = .next (((s.mainOn r).prechargeOff r).closeEnd r none) :=
  congrArg Host.Outcome.next (if_neg (by simp [hr, hclosing]))

theorem State.mainOn_now : (s.mainOn r).now = max s.now ((s.str r).closeAt + s.parN 0x611 0 * 1000000) :=
  foldl_view State.now (f := State.closeSo) (fun _ _ => rfl) _ _

theorem State.prechargeOff_now : (s.prechargeOff r).now = s.now + 100000000 :=
  (foldl_view State.now (fun u n => u.openSo_now .clamp n) _ _).trans (Nat.max_eq_right (Nat.le_add_right _ _))

theorem State.mainOn_outs (kind : Nat) : (s.mainOn r).outs r kind = s.outs r kind :=
  State.outs_congr (foldl_view (State.par · 0x610 0) (f := State.closeSo) (fun _ _ => rfl) _ _) r kind

theorem State.mainOn_soOn {n : Nat} (hn : n ∈ s.outs r 1) : (s.mainOn r).soOn n = true := by
  have hmain : n ∈ (s.advanceTo ((s.str r).closeAt + s.parN 0x611 0 * 1000000)).outs r 1 := hn
  rw [State.mainOn, State.soOn_closeSos, decide_eq_true hmain, Bool.true_or]

theorem State.prechargeOff_so (n : Nat) : (s.prechargeOff r).so n = if n ∈ s.outs r 2 then .opened .clamp else s.so n :=
  State.so_openSos _ .clamp _ n

theorem State.prechargeOff_soOn {n : Nat} (hn : n ∉ s.outs r 2) : (s.prechargeOff r).soOn n = s.soOn n := by
  rw [State.soOn, State.prechargeOff_so, if_neg hn, State.soOn]

theorem State.prechargeOff_off {n : Nat} (hn : n ∈ s.outs r 2) : (s.prechargeOff r).soOn n = false := by
  rw [State.soOn, State.prechargeOff_so, if_pos hn]
  rfl

variable {r} (hr : r < 4)
include hr

theorem State.mainOn_str : (s.mainOn r).str r = { s.str r with closed := true } := by
  rw [State.mainOn, State.closeSos_str, State.str_updStr_same _ _ hr]
  rfl

theorem State.prechargeOff_str : (s.prechargeOff r).str r = { s.str r with closing := 0 } := by
  rw [State.prechargeOff, State.openSos_str, State.str_updStr_same _ _ hr]
  rfl

end

/-! ### STRING_OPEN and SAFETY_STATUS (R350, R371) -/

section
variable {s u : State} {h : Hdr} {m : Byte}

theorem exec_stringOpenStopped (hpass : s.passes 0x0311 h false [] = true) (hu : u = s.admitted 0x0311 h [m, 0])
    (hstopped : ((bitsSet 4 m.toNat).all fun r => (s.ch r).state == 0) = true) : exec (.stringOpenStopped h m) s
      = .next (((bitsSet 4 m.toNat).foldl (fun v r => v.openString r .clamp 0x0105) u).reply 0x0311 h 0) := by
  have hnone : ((bitsSet 4 m.toNat).any fun r => (u.ch r).state != 0) = false := by
    simp only [hu, (s.admitted_same _ _ _).ch_eq]
    simpa using hstopped
  subst hu
  show execStringOpenStopped h m s = _
  simp only [execStringOpenStopped, State.wcpReq_of_passes s _ h _ _ hpass, hnone, Bool.false_eq_true, if_false]

theorem exec_safetyStatus (hpass : s.passes 0x0600 h false [] = true) (hu : u = s.admitted 0x0600 h []) (hsame : s.safe.mismatch = false) :
    exec (.safetyStatus h) s = .next (u.reply 0x0600 h 0 (u32 u.safeStatus ++ u32 u.blockCrc ++ u32 u.blockCrc
      ++ [0, 1, 2, 3].flatMap (fun r => u32 (u.latchWord r))
      ++ [0, 1, 2, 3].flatMap fun k => u8 (u.safe.wsf.get k).state ++ [0] ++ leBytes 2 (u.safe.wsf.get k).last.toNat)) := by
  have hu' : u.safe.mismatch = false := by rw [hu, (s.admitted_same _ _ _).safe_eq, hsame]
  subst hu
  show execSafetyStatus h s = _
  simp only [execSafetyStatus, State.wcpReq_of_passes s _ h _ _ hpass, hu', Bool.false_eq_true, if_false]

end

/-! ### The two-part reset (R358) -/

theorem exec_safetyReset {s u : State} {h : Hdr} {c m : Byte} (hpass : s.passes 0x0601 h false [] = true) (hu : u = s.admitted 0x0601 h [c, m])
    (hscope : c.toNat ≤ 2) (htarget : c.toNat ≠ 2 → h.target = 0) (hlatched : s.nothingLatched c.toNat m.toNat = false)
    (hfree : s.safe.reset = none) : exec (.safetyReset h c m) s =
      .next ((((({ u.reply 0x0601 h 1 with safe := { s.safe with reset := some ⟨opRef 0x0601 h, c.toNat, m.toNat, s.now, none⟩ } } :
        State)).clearTrips (resetStrings c.toNat m.toNat)).retest c.toNat m.toNat).tryArm) := by
  have hadm : Same u s := hu ▸ s.admitted_same _ _ _
  have hreply : Same (u.reply 0x0601 h 1) s := (u.reply_same _ _ _ _).trans hadm
  have hguard : ¬ ((c.toNat ≠ 2 ∧ h.target ≠ 0) ∨ u.nothingLatched c.toNat m.toNat) := by
    have hsame : u.nothingLatched c.toNat m.toNat = s.nothingLatched c.toNat m.toNat := by
      simp only [State.nothingLatched, State.str, hadm.safe_eq]
    rw [hsame, hlatched]
    simpa using htarget
  subst hu
  show execSafetyReset h c m s = _
  simp only [execSafetyReset, State.wcpReq_of_passes s _ h _ _ hpass, if_neg (Nat.not_lt.2 hscope), if_neg hguard, hreply.safe_eq, hreply.now_eq,
    hfree]

/-- A cause still present when the time for arming is over ends the reset (R358). -/
theorem exec_resetArmTimeout {s : State} {a : ResetReq} {c : Nat} (hreset : s.safe.reset = some a) (hwaits : a.armed = none)
    (hcause : (s.advanceTo (a.since + 2000000000)).firstCause a.scope a.mask = some c) : exec .resetArmTimeout s
      = .next ((({ s.advanceTo (a.since + 2000000000) with safe := { s.safe with reset := none } } : State).raise 0x6082 0 0 (u8 c)).complete
        a.op 0x0109) := by
  have harm : (s.advanceTo (a.since + 2000000000)).tryArm = s.advanceTo (a.since + 2000000000) := by
    simp only [State.tryArm, State.advanceTo_safe, hreset, hcause, Option.isSome_some, or_true, if_true]
  show execResetArmTimeout s = _
  simp only [execResetArmTimeout, hreset, hwaits, harm, hcause, Option.isSome_none, Bool.false_eq_true, if_false, State.advanceTo_safe]

theorem exec_resetInputEdge {s : State} {i lo sk t0 : Nat} {a : ResetReq} (hi : i = s.parN 0x61B 0) (hlo : 100 ≤ lo) (hsk : sk ≤ 20)
    (hreset : s.safe.reset = some a) (harmed : a.armed = some t0) (htime : s.now ≤ t0 + 10000000000) :
    exec (.resetInputEdge i lo sk) s = .next s.completeReset.beginCt := by
  have hedge : s.edgeOk i lo sk = true := by simp [State.edgeOk, hi, hlo, hsk]
  have hnow : s.armedNow = true := by simp [State.armedNow, hreset, harmed, htime]
  show execResetInputEdge i lo sk s = _
  simp only [execResetInputEdge, hedge, hnow, Bool.not_true, Bool.false_eq_true, if_false, if_true]

theorem exec_resetLapsed {s : State} {a : ResetReq} {t0 : Nat} (hreset : s.safe.reset = some a) (harmed : a.armed = some t0) :
    exec .resetLapsed s = .next (s.advanceTo (t0 + 10000000000)).lapseArm := by
  show execResetLapsed s = _
  simp only [execResetLapsed, hreset, harmed]

/-- An armed reset lapses with nothing else of chapter 12 (R358). -/
theorem State.lapseArm_safe {s : State} {a : ResetReq} {t0 : Nat} (hreset : s.safe.reset = some a) (harmed : a.armed = some t0) :
    s.lapseArm.safe = { s.safe with reset := none } := by
  simp only [State.lapseArm, hreset, harmed, Option.isNone_some, Bool.false_eq_true, if_false]
  rw [(State.complete_same _ _ _ _).safe_eq, (State.raise_same _ _ _ _ _).safe_eq]

/-! ### The block (R361, R362) -/

theorem exec_confirmSafetyConfig {s : State} {h : Hdr} {c : BitVec 32} (hpass : s.passes 0x0602 h false [] = true)
    (hsame : s.safe.mismatch = false) (hcrc : c.toNat = (s.admitted 0x0602 h (leBytes 4 c.toNat)).blockCrc) :
    ∃ t, exec (.confirmSafetyConfig h c) s = .next t ∧ t.safe = { s.safe with confirmed := true } := by
  have hadm := s.admitted_same 0x0602 h (leBytes 4 c.toNat)
  have hguard : ¬ ((s.admitted 0x0602 h (leBytes 4 c.toNat)).safe.mismatch ∨ c.toNat ≠ (s.admitted 0x0602 h (leBytes 4 c.toNat)).blockCrc) := by
    simp [hadm.safe_eq, hsame, ← hcrc]
  have hexec : exec (.confirmSafetyConfig h c) s = execConfirmSafetyConfig h c s := rfl
  simp only [execConfirmSafetyConfig, State.wcpReq_of_passes s _ h _ _ hpass, if_neg hguard] at hexec
  refine ⟨_, hexec, ?_⟩
  rw [(State.reply_same _ _ _ _ _).safe_eq, (State.raise_same _ _ _ _ _).safe_eq]
  exact congrArg (fun x : SafeSt => { x with confirmed := true }) hadm.safe_eq

/-- The committed values of the block apply: it is unconfirmed, and every node takes its thresholds (R361). -/
theorem exec_safeBlockApply {s : State} {k : Commit} (hcommit : s.wcp.commit = some k) (hdue : (k.entries.any fun v => inBlock v.id) = true)
    (hhalted : s.halted 0x600 0 = true) : ∃ u : State, exec .safeBlockApply s
      = .next ((((u.writeThresholds 0).writeThresholds 1).writeThresholds 2).writeThresholds 3)
        ∧ u.safe.confirmed = false ∧ u.safe.mismatch = false := by
  have hexec : exec .safeBlockApply s = execSafeBlockApply s := rfl
  simp only [execSafeBlockApply, hcommit, hdue, hhalted, Bool.not_true, Bool.false_eq_true, or_self, if_false] at hexec
  refine ⟨_, hexec, ?_, ?_⟩ <;> rw [(State.raise_same _ _ _ _ _).safe_eq, State.sweepGates_safe]

/-! ### The commissioning test (R364) -/

section
variable {s : State} {h : Hdr} {c : Byte}

theorem exec_commissioningTestStart (hpass : s.passes 0x0603 h true [] = true) (hc : c.toNat < 4) (hfree : s.safe.ct = none)
    (hlockout : s.safe.lockout = false) (hlocked : (s.str c.toNat).locked = false) :
    ∃ t, exec (.commissioningTestStart h c) s = .next t ∧ t.safe = { s.safe with ct := some ⟨opRef 0x0603 h, c.toNat, s.now, none⟩ } := by
  have hadm := s.admitted_same 0x0603 h [0, c]
  have hfreed : ((s.admitted 0x0603 h [0, c]).str c.toNat).locked = false := by rwa [State.plant_str hadm.plant_eq]
  have hexec : exec (.commissioningTestStart h c) s = execCommissioningTestStart h c s := rfl
  have hguard : ¬ (s.safe.ct.isSome = true ∨ s.safe.lockout = true ∨ ((s.admitted 0x0603 h [0, c]).str c.toNat).locked = true) := by
    rw [hfree, hlockout, hfreed]; simp
  simp only [execCommissioningTestStart, State.wcpRun_of_passes s _ h _ _ _ _ hpass, if_neg (Nat.not_le.2 hc), hadm.safe_eq,
    hadm.now_eq, if_neg hguard] at hexec
  exact ⟨_, hexec, (State.reply_same _ _ _ _ _).safe_eq⟩

theorem exec_commissioningTestStop {u : State} {x : CtRun} (hpass : s.passes 0x0603 h false [] = true) (hu : u = s.admitted 0x0603 h [1, c])
    (htest : s.safe.ct = some x) (hch : x.ch = c.toNat) : exec (.commissioningTestStop h c) s = .next (u.endCt.reply 0x0603 h 0) := by
  subst hu
  show execCommissioningTestStop h c s = _
  simp only [execCommissioningTestStop, State.wcpReq_of_passes s _ h _ _ hpass, (s.admitted_same _ _ _).safe_eq, htest, hch, if_true]

theorem exec_ctTimeExpiry {c b : Nat} {x : CtRun} (htest : s.safe.ct = some x) (hch : x.ch = c) (hbegun : x.begun = some b) :
    exec (.ctTimeExpiry c) s = .next ((s.advanceTo (b + s.parN 0x632 0 * 1000000000)).endCt) := by
  show execCtTimeExpiry c s = _
  simp only [execCtTimeExpiry, htest, hch, hbegun, ne_eq, not_true_eq_false, if_false]

end

end Sys2Proof.Machine
end

section
/-! SUPPORT. O24: strings, resets, the safety block and the commissioning test. -/
namespace Sys2Proof.Machine
open Sys2Proof

set_option Elab.async false

/-- Settles O24: each request passes its conditions by its own lemma, and each clause reads off what it leaves. -/
theorem safetyRequestsComplete : Obligations.SafetyRequestsComplete := by
  unfold Obligations.SafetyRequestsComplete
  refine ⟨?close, ?precharge, ?openStopped, ?openRunning, ?status, ?reset, ?armTimeout, ?edge, ?lapsed, ?confirm, ?testStart, ?testStop, ?testTime,
    ?blockApply⟩
  case close =>
    intro s h m r hpass hm hopen hidle hok
    have hr : r < 4 := by
      have hmem : r ∈ bitsSet 4 m.toNat := hm ▸ List.mem_singleton_self r
      exact List.mem_range.1 (List.mem_of_mem_filter hmem)
    have hadm := s.admitted_same 0x0310 h [m]
    have hplant : (((s.admitted 0x0310 h [m]).closeBegun r (opRef 0x0310 h)).reply 0x0310 h 1 (statusBytes [(r, 1)])).safe = _ :=
      (State.reply_same _ _ _ _ _).safe_eq
    have hstr := (s.admitted 0x0310 h [m]).beginClose_str hr
    refine ⟨_, exec_stringClose hpass hm hopen hidle hok, ?_, ?_, fun n hn => ?_, ?_⟩
    · rw [State.str, hplant]
      exact congrArg StringSt.closing hstr
    · rw [State.str, hplant]
      exact (congrArg StringSt.closeAt hstr).trans (s.admitted_now _ _ _)
    · rw [State.soOn, State.so, hplant]
      exact State.beginClose_soOn _ (by rwa [State.outs_congr (hadm.par _ _)])
    · rw [hplant]
      exact congrArg (· ++ _) ((State.beginClose_closes _ r).trans (congrArg SafeSt.closes hadm.safe_eq))
  case precharge =>
    intro s r hr hclosing
    refine ⟨_, exec_prechargeElapsed hr hclosing, ?_, ?_, fun n hn => ?_, fun n hn => ?_, ?_⟩
    · rw [State.prechargeOff_str _ hr, State.mainOn_str _ hr]
    · rw [State.prechargeOff_str _ hr]
    · have hother : n ∉ (s.mainOn r).outs r 2 := by
        rw [State.mainOn_outs]
        exact State.not_mem_outs_of_mem hn (by decide)
      rw [State.prechargeOff_soOn _ _ hother, State.mainOn_soOn _ _ hn]
    · exact State.prechargeOff_off _ _ (by rwa [State.mainOn_outs])
    · rw [State.prechargeOff_now, State.mainOn_now]
  case openStopped =>
    exact fun s h m u hpass hu hstopped => exec_stringOpenStopped hpass hu hstopped
  case openRunning =>
    rintro s h m _ hpass rfl
    show execStringOpenRunning h m s = _
    rw [execStringOpenRunning, State.wcpReq_of_passes s _ h _ _ hpass]
  case status =>
    exact fun s h u hpass hu hsame => exec_safetyStatus hpass hu hsame
  case reset =>
    exact fun s h c m u hpass hu hscope htarget hlatched hfree => exec_safetyReset hpass hu hscope htarget hlatched hfree
  case armTimeout =>
    intro s a c hreset hwaits hcause
    have hsame := fun u : State => ((u.raise 0x6082 0 0 (u8 c)).complete_same a.op 0x0109 []).trans (u.raise_same 0x6082 0 0 (u8 c))
    exact ⟨_, exec_resetArmTimeout hreset hwaits hcause, by rw [(hsame _).safe_eq], by rw [(hsame _).safe_eq],
      (hsame _).now_eq⟩
  case edge =>
    exact fun s i lo sk a t0 hi hlo hsk hreset harmed htime => exec_resetInputEdge hi hlo hsk hreset harmed htime
  case lapsed =>
    intro s a t0 hreset harmed
    have hsafe := State.lapseArm_safe (s := s.advanceTo (t0 + 10000000000)) hreset harmed
    exact ⟨_, exec_resetLapsed hreset harmed, by rw [hsafe], by rw [hsafe]; rfl,
      State.standing_now (State.lapseArm_standing _)⟩
  case confirm =>
    exact fun s h c hpass hsame hcrc => exec_confirmSafetyConfig hpass hsame hcrc
  case testStart =>
    intro s h c hpass hc hfree hlockout hlocked
    obtain ⟨t, hexec, hsafe⟩ := exec_commissioningTestStart hpass hc hfree hlockout hlocked
    exact ⟨t, hexec, by rw [hsafe], by rw [hsafe]⟩
  case testStop =>
    exact fun s h c x u hpass hu htest hch => exec_commissioningTestStop hpass hu htest hch
  case testTime =>
    exact fun s c x b htest hch hbegun => exec_ctTimeExpiry htest hch hbegun
  case blockApply =>
    exact fun s k hcommit hdue hhalted => exec_safeBlockApply hcommit hdue hhalted

end Sys2Proof.Machine
end

section
/-! SUPPORT. O25: the Welfer Safe Frame. -/
namespace Sys2Proof.Machine
open Sys2Proof

set_option Elab.async false

/-! ### The commands of the Welfer Safe Frame (R366 to R368) -/

section
variable {s : State} {k : Nat}

theorem State.le_advanceTo_now (s : State) (t : Nat) : t ≤ (s.advanceTo t).now := Nat.le_max_right _ _

/-- A PDU reaches the connection whose CONN_ID makes its CRC correct (R366). -/
theorem exec_wsfPdu {tr p : Nat} {b : Bytes} (hactive : s.isActive = true)
    (hfind : ((s.consumed.filter fun k => (s.wsfEntry k).transport == tr && (s.wsfEntry k).peer == p).find?
      fun k => wsfWhole tr b && wsfCrcOk (s.wsfEntry k).id b) = some k) : exec (.wsfPdu tr p b) s = .next (s.wsfJudge k b) := by
  have hsome : (s.consumed.filter fun k => (s.wsfEntry k).transport == tr && (s.wsfEntry k).peer == p) ≠ [] :=
    List.ne_nil_of_mem (List.mem_of_find?_eq_some hfind)
  show execWsfPdu tr p b s = _
  simp only [execWsfPdu, State.wsfReceive, hactive, hsome, hfind, Bool.not_true, Bool.false_eq_true, or_self, if_false]

/-- A missed deadline of a running connection at the check after it: FAILSAFE and its fault, before its data in use fall (R367). -/
theorem exec_wsfWatchdog {v : State} (hk : k < 4) (hactive : s.isActive = true) (hstarted : (s.wsfSt k).started = true)
    (hkind : (s.wsfEntry k).kind = 1) (hrun : (s.wsfSt k).state = 1)
    (hv : v = (s.advanceTo (((s.wsfSt k).deadline / 100000 + 1) * 100000)).inc 0x695 0) : exec (.wsfWatchdog k) s
      = .next (((v.setWsf k { s.wsfSt k with state := 2, good := 0 }).raise 0x6070 k 1).useData k 0) := by
  have hguard : ¬ (4 ≤ k ∨ (!s.isActive) = true ∨ (!(s.wsfSt k).started) = true ∨ (s.wsfEntry k).kind ≠ 1) := by
    simp [Nat.not_le.2 hk, hactive, hstarted, hkind]
  show execWsfWatchdog k s = _
  simp only [execWsfWatchdog, if_neg hguard, if_pos hrun, ← hv]

/-- A produce connection past its START sends its data at its next launch instant, which is no earlier than its offset (R368, R421). -/
theorem exec_wsfProduce (hk : k < 4) (hactive : s.isActive = true) (hkind : (s.wsfEntry k).kind = 2) (hperiod : (s.wsfEntry k).period ≠ 0)
    (hsent : (s.wsfSt k).startSent = true) : ∃ i, k * 250000 ≤ i ∧ exec (.wsfProduce k) s
      = .next ((s.advanceTo i).wsfSend k 0 (s.advanceTo i).moduleStatus) := by
  have hexec : exec (.wsfProduce k) s = execWsfProduce k s := rfl
  have hsent' (t : Nat) : ((s.advanceTo t).wsfSt k).startSent = true := hsent
  simp only [execWsfProduce, Nat.not_le.2 hk, hactive, hkind, hperiod, hsent', Bool.not_true, Bool.false_eq_true, ne_eq, not_true_eq_false,
    or_self, if_false, if_true] at hexec
  refine ⟨_, ?_, hexec⟩
  split
  next => exact Nat.le_refl _
  next => exact Nat.le_add_left _ _

end

/-- Settles O25: what each command of the Welfer Safe Frame leaves, read off its own lemma. -/
theorem safeFramesComplete : Obligations.SafeFramesComplete := by
  unfold Obligations.SafeFramesComplete
  refine ⟨?pdu, ?watchdog, ?produce⟩
  case pdu => exact fun s tr p b k hactive _ hfind => exec_wsfPdu hactive hfind
  case watchdog =>
    intro s k hk hactive hstarted hkind hrun
    have hst (v : State) : ((v.setWsf k { s.wsfSt k with state := 2, good := 0 }).raise 0x6070 k 1).wsfSt k = { s.wsfSt k with state := 2, good := 0 } :=
      (congrArg (fun x : SafeSt => x.wsf.get k) (State.raise_same _ _ _ _ _).safe_eq).trans (v.wsfSt_setWsf_same _ hk)
    exact ⟨_, exec_wsfWatchdog hk hactive hstarted hkind hrun rfl, by rw [hst], by rw [hst], State.raise_waits _ _ _ _ _ (by decide)⟩
  case produce =>
    intro s k hk hactive hkind hperiod hsent
    obtain ⟨i, hle, hexec⟩ := exec_wsfProduce hk hactive hkind hperiod hsent
    exact ⟨_, hexec, s.advanceTo_safe i, hle.trans (s.le_advanceTo_now i)⟩

end Sys2Proof.Machine
end

section
/-! SUPPORT. The rules that O30, O31 and O32 share: chapter 13 of states that agree, and what a frame finds of the module it reaches (13 R374,
R377). -/
namespace Sys2Proof.Machine
open Sys2Proof

/-! ### The twin of states that agree -/

theorem Same.twin_eq {t s : State} (g : Same t s) : t.twin = s.twin := by
  obtain ⟨-, -, -, -, -, -, -, -, -, -, -, htwin, -⟩ := g.fields
  exact htwin

theorem Same.activeEligible_eq {t s : State} (g : Same t s) : t.activeEligible = s.activeEligible := by
  simp only [State.activeEligible, g.sys_eq, g.bist_eq, g.safe_eq]

theorem Same.isActive_eq {t s : State} (g : Same t s) : t.isActive = s.isActive := by simp only [State.isActive, g.sys_eq]

theorem Same.isStandby_eq {t s : State} (g : Same t s) : t.isStandby = s.isStandby := by simp only [State.isStandby, g.sys_eq]

/-! ### A frame reaches the module (R374, R377) -/

section
variable (s : State) (bulk : Bool) (f : Link)

@[simp] theorem State.heard_isActive : (s.heard bulk f).isActive = s.isActive := rfl
@[simp] theorem State.heard_isStandby : (s.heard bulk f).isStandby = s.isStandby := rfl
@[simp] theorem State.heard_now : (s.heard bulk f).now = s.now := rfl
@[simp] theorem State.heard_wcp : (s.heard bulk f).wcp = s.wcp := rfl
@[simp] theorem State.heard_arb : (s.heard bulk f).twin.arb = s.twin.arb := rfl

variable {s bulk f} {act : State → State}

theorem State.onLink_ok (hcrc : f.crcOk = true) : s.onLink bulk f act = act (s.heard bulk f) := if_pos hcrc

theorem State.onLink_bad (hcrc : f.crcOk = false) : s.onLink bulk f act = s.badLink := if_neg (by simp [hcrc])

/-- What a STANDBY does with a valid frame that only a STANDBY takes. -/
theorem State.onLink_standby (hcrc : f.crcOk = true) (hstandby : s.isStandby = true) :
    s.onLink bulk f (fun u => if !u.isStandby then u else act u) = act (s.heard bulk f) := by
  rw [State.onLink_ok hcrc, State.heard_isStandby, hstandby]
  rfl

end
end Sys2Proof.Machine
end

section
/-! SUPPORT. The rules that O30 turns on: the next states of the frames over Shallot (13 R375 to R384, R396, 04 R91, R92, R100, 09 R250, 12 R368, 20
R526), and what their operations leave. -/
namespace Sys2Proof.Machine
open Sys2Proof

section
variable {s : State} {f : Link}

/-! ### Keepalives (R377) -/

/-- The twin's states, and the role line, as a keepalive reports them (R377, R38). -/
def State.reported (s : State) (l : Lifecycle) (p : PState) (st : BitVec 32) (k : Nat) : State :=
  { s with twin := { s.twin with life := some l, power := p, rstate := st, timeState := k },
           sys := { s.sys with roleIn := s.sys.roleIn || (l == .active && !s.sys.roleOut) } }

@[simp] theorem State.sendDict_twin (s : State) : s.sendDict.twin = s.twin := by
  unfold State.sendDict
  split <;> rfl

/-- A module that is not ACTIVE answers a keepalive at most with its dictionary, to a twin newly in NEGOTIATE. -/
theorem exec_shallotKeepalive {l : Lifecycle} {p : PState} {st ts : BitVec 32} {k : Nat} (hcrc : f.crcOk = true) (hactive : s.isActive = false)
    {v : State} (hv : v = (s.heard false f).reported l p st k) : exec (.shallotKeepalive f l p st ts k) s
      = .next (if l = .negotiate ∧ s.twin.life ≠ some .negotiate then v.sendDict else v).followTwin.joinTwin := by
  have hidle : ¬ (((s.heard false f).reported l p st k).isActive = true ∧ l = .standby ∧ (s.heard false f).twin.life ≠ some .standby) :=
    fun h => Bool.eq_false_iff.1 hactive h.1
  subst hv
  show execShallotKeepalive f l p st ts k s = _
  rw [execShallotKeepalive, State.onLink_ok hcrc]
  exact congrArg
    (fun w : State => (.next (if l = .negotiate ∧ s.twin.life ≠ some .negotiate then w.sendDict else w).followTwin.joinTwin : Result))
    (if_neg hidle)

/-- A STANDBY beside an ACTIVE, with no update or COMMIT under way, sends the keepalive alone. -/
theorem exec_keepaliveDue_standby (hlife : s.sys.lifecycle = .standby) (htwin : s.twin.life = some .active) (htx : s.upd.tx = none)
    (hstage : s.upd.stage = none) (hcommit : s.wcp.commit = none) : exec .keepaliveDue s
      = .next (s.emit (.shallot 0x01 (u8 3 ++ u8 (pstateCode s.sys.power) ++ u32 s.twinState ++ leBytes 4 (ts32 s.now).toNat
        ++ u8 s.net.servo))) := by
  show execKeepaliveDue s = _
  simp [execKeepaliveDue, State.place, State.sendSafety, State.isActive, hlife, htwin, htx, hstage, hcommit, lifeCode]

/-! ### Copies of the control loop (R378, R384) -/

/-- The copy taken, with the active's generation. -/
def State.copied (s : State) (c : LoopCopy) : State :=
  { s with twin := { s.twin with copy := some (c, s.now), copyNew := c.period == s.loop.period }, wcp := { s.wcp with generation := c.generation } }

theorem State.compareLoop_now (s : State) (c : LoopCopy) : (s.compareLoop c).now = s.now := by
  simp [State.compareLoop, State.startArb, State.sendArb, apply_ite State.now]

theorem State.compareLoop_loop (s : State) (c : LoopCopy) : (s.compareLoop c).loop = s.loop := by
  simp [State.compareLoop, State.startArb, State.sendArb, apply_ite State.loop]

theorem State.steerBy_leaves (s : State) (d : Int) :
    (s.steerBy d).now = s.now ∧ (s.steerBy d).twin = s.twin ∧ (s.steerBy d).loop.period = s.loop.period := by
  simp only [State.steerBy]
  split <;> exact ⟨rfl, rfl, rfl⟩

theorem exec_loopCopy_other {c : LoopCopy} (hcrc : f.crcOk = true) (hstandby : s.isStandby = true) (hcommit : c.flags.getLsbD 0 = false)
    (hperiod : c.period ≠ s.loop.period) : exec (.loopCopy f c) s = .next ((s.heard false f).copied c).copyValues := by
  have hother : c.period ≠ (s.heard false f).loop.period := hperiod
  show execLoopCopy f c s = _
  rw [execLoopCopy, State.onLink_standby hcrc hstandby]
  simp only [hcommit, Bool.false_eq_true, if_false, if_neg hother]
  rfl

/-- A copy of the present period is compared, and the time base steers by its stamp, before it is taken. -/
theorem exec_loopCopy_same {c : LoopCopy} (hcrc : f.crcOk = true) (hstandby : s.isStandby = true) (hcommit : c.flags.getLsbD 0 = false)
    (hperiod : c.period = s.loop.period) : exec (.loopCopy f c) s
      = .next ((((s.heard false f).compareLoop c).steerBy (c.stamp - s.loop.stamp).toInt).copied c).copyValues := by
  have hsame : c.period = (s.heard false f).loop.period := hperiod
  show execLoopCopy f c s = _
  rw [execLoopCopy, State.onLink_standby hcrc hstandby]
  simp only [hcommit, Bool.false_eq_true, if_false, if_pos hsame, State.compareLoop_loop]
  rfl

/-! ### Copies of axes and safety functions (09 R250, 12 R355, R368) -/

/-- What AXIS_COPY carries of an axis: its generator and its state. -/
def State.axisView (s : State) (a : Nat) : GenSt × AxisSt := (s.gen (a + 4), s.axis a)

theorem State.takeAxis_axisView_other (s : State) {a k : Nat} (r : AxisRec) (hk : k < 4) (ha : a < 4) (hne : k ≠ a) :
    (s.takeAxis k r).axisView a = s.axisView a := by
  have hgen : ∀ x, (s.setGen (k + 4) x).gen (a + 4) = s.gen (a + 4) := fun x => by
    simp [State.setGen, State.gen, ProfSt.gen, Four.get_set_other _ _ hk ha hne.symm]
  have haxis : ∀ (u : State) g, (u.updAxis k g).axis a = u.axis a := fun u g => Four.get_set_other _ _ hk ha hne.symm
  simp only [State.axisView, State.takeAxis, haxis, State.gen_updAxis, State.axis_updGen]
  exact congrArg (·, _) (hgen _)

theorem exec_axisCopy {rs : Four AxisRec} (hcrc : f.crcOk = true) (hstandby : s.isStandby = true) :
    exec (.axisCopy f rs) s = .next ([0, 1, 2, 3].foldl (fun u a => u.takeAxis a (rs.get a)) (s.heard false f)) := by
  show execAxisCopy f rs s = _
  rw [execAxisCopy, State.onLink_standby hcrc hstandby]

/-- Every axis is taken from its own record. -/
theorem State.takeAxes_axisView (s : State) (rs : Four AxisRec) {a : Nat} (ha : a < 4) :
    ∃ u : State, ([0, 1, 2, 3].foldl (fun u a => u.takeAxis a (rs.get a)) s).axisView a = (u.takeAxis a (rs.get a)).axisView a := by
  obtain ⟨u, -, hu⟩ := foldl_channels_view (State.axisView · a) ha (fun u k hk hne => u.takeAxis_axisView_other (rs.get k) hk ha hne) s
  exact ⟨u, hu⟩

/-- The generator takes position, speed and target, the axis whether it is energised. -/
theorem State.takeAxis_taken (s : State) {a : Nat} (r : AxisRec) (ha : a < 4) {g : GenSt} {x : AxisSt} (h : (s.takeAxis a r).axisView a = (g, x)) :
    g.x = r.x ∧ g.v = r.v ∧ g.tgt = r.t ∧ x.energised = r.status.getLsbD 0 := by
  have hg : a + 4 < 8 := by omega
  obtain ⟨rfl, rfl⟩ := Prod.mk.inj h
  simp [State.takeAxis, State.axis_updAxis_same _ _ ha, State.gen_updGen_self _ _ hg]

theorem Four.get_mapIdx {α β : Type} (x : Four α) (g : Nat → α → β) {r : Nat} (hr : r < 4) : (x.mapIdx g).get r = g r (x.get r) := by
  match r, hr with
  | 0, _ | 1, _ | 2, _ | 3, _ => rfl

theorem State.reopenGates_leaves (s : State) (c : Nat) : (s.reopenGates c).safe = s.safe ∧ (s.reopenGates c).twin = s.twin := by
  simp only [State.reopenGates]
  split <;> exact ⟨rfl, rfl⟩

/-- A channel's gates follow the latches of its string: shut while one stands, open again once the last one falls (R355). -/
def State.followLatches (was : SafetyCopyMsg) (s : State) (c : Nat) : State :=
  let x := s.str c
  if x.tripped || x.stopped || x.locked || s.safe.fire then s.updCh c fun y => { y with gateSafeShut := true, gateTurnipShut := true }
  else if (was.latch.get c).toNat % 8 ≠ 0 ∨ was.status.getLsbD 3 then s.reopenGates c else s

theorem State.followLatches_leaves (was : SafetyCopyMsg) (s : State) (c : Nat) :
    (s.followLatches was c).safe = s.safe ∧ (s.followLatches was c).twin = s.twin := by
  simp only [State.followLatches]
  split
  · exact ⟨rfl, rfl⟩
  split
  · exact s.reopenGates_leaves c
  · exact ⟨rfl, rfl⟩

/-- A STANDBY holds the latches of the copy, whatever its gates do (R355). -/
theorem exec_safetyCopy {m : SafetyCopyMsg} (hcrc : f.crcOk = true) (hstandby : s.isStandby = true) : ∃ t, exec (.safetyCopy f m) s = .next t
    ∧ t.twin.safety = some (m, s.now)
    ∧ ∀ r, r < 4 → (t.str r).closed = (m.latch.get r).getLsbD 3
      ∧ ((m.latch.get r).getLsbD 0 = true → (t.str r).core.tripped = true ∧ (t.str r).turnip.tripped = true) := by
  have hexec : exec (.safetyCopy f m) s = execSafetyCopy f m s := rfl
  rw [execSafetyCopy, State.onLink_standby hcrc hstandby] at hexec
  extract_lets was str fire wsf safe twin u at hexec
  have hsafe : ([0, 1, 2, 3].foldl (State.followLatches was) u).safe = u.safe :=
    foldl_view State.safe (fun v c => (v.followLatches_leaves was c).1) _ _
  have htwin : ([0, 1, 2, 3].foldl (State.followLatches was) u).twin = u.twin :=
    foldl_view State.twin (fun v c => (v.followLatches_leaves was c).2) _ _
  refine ⟨_, hexec, congrArg TwinSt.safety htwin, fun r hr => ?_⟩
  have hstr := (congrArg (fun x : SafeSt => x.str.get r) hsafe).trans (Four.get_mapIdx _ _ hr)
  refine ⟨congrArg StringSt.closed hstr, fun htripped => ⟨?_, ?_⟩⟩
  · refine (congrArg (fun x : StringSt => x.core.tripped) hstr).trans ?_
    simp [shadowBit, htripped]
  · refine (congrArg (fun x : StringSt => x.turnip.tripped) hstr).trans ?_
    simp [shadowBit, htripped]

/-! ### The sweep exchange (R379) -/

theorem State.exch_setExch_same (s : State) (r : Nat) (x : SweepExch) : (s.setExch r x).exch r = some x := SMap.find_set_same _ _ _

/-- The exchange of a sweep open, with the frames that the STANDBY asks for. -/
def State.asks (s : State) (m : SweepFinalMsg) (need : Nat) : State :=
  (s.setExch m.ring ⟨m.sweep, some (m.rxMask.toNat, m.stamp), need⟩).emit (.shallot 0x11 (u8 m.ring ++ [0] ++ leBytes 2 m.sweep.toNat ++ u32 need))

theorem State.asks_exch (s : State) (m : SweepFinalMsg) (need : Nat) :
    (s.asks m need).exch m.ring = some ⟨m.sweep, some (m.rxMask.toNat, m.stamp), need⟩ := s.exch_setExch_same _ _

/-- An exchange that waits for frames stays open. -/
theorem State.closeExch_asks (s : State) (m : SweepFinalMsg) {need : Nat} (hlacks : need ≠ 0) : (s.asks m need).closeExch m.ring = s.asks m need := by
  rw [State.closeExch, State.asks_exch]
  exact if_neg hlacks

/-- A SWEEP_FINAL of the sweep in progress, at its own instant, asks for the frames that are wrong or missing. -/
theorem exec_sweepFinal {m : SweepFinalMsg} (hcrc : f.crcOk = true) (hstandby : s.isStandby = true) (hring : m.ring < 4)
    (hsweep : m.sweep = (s.ring m.ring).sweep) (hstamp : m.stamp = ts32 (s.sampleAt m.ring m.sweep)) {need : Nat}
    (hneed : need = (s.heard true f).sweepNeed m) (hlacks : need ≠ 0) : exec (.sweepFinal f m) s = .next ((s.heard true f).asks m need) := by
  have htakes : ¬ ((!(s.heard true f).isStandby) = true ∨ 4 ≤ m.ring ∨ m.sweep ≠ ((s.heard true f).ring m.ring).sweep) := by
    have hsweep' : m.sweep = ((s.heard true f).ring m.ring).sweep := hsweep
    simp [hstandby, ← hsweep', hring]
  have hstamp' : m.stamp = ts32 ((s.heard true f).sampleAt m.ring m.sweep) := hstamp
  show execSweepFinal f m s = _
  rw [execSweepFinal, State.onLink_ok hcrc, if_neg htakes]
  simp only [← hneed, if_pos hstamp', if_neg hlacks]
  exact congrArg Host.Outcome.next ((s.heard true f).closeExch_asks m hlacks)

theorem exec_sweepNeed {r : Nat} {w : BitVec 16} {n : BitVec 32} (hcrc : f.crcOk = true) (hactive : s.isActive = true) (hr : r < 4) :
    exec (.sweepNeed f r w n) s = .next { (s.heard true f) with
      out := s.out ++ (bitsSet 28 n.toNat).filterMap fun i => ((s.ring r).frameOf w (i + 1)).map fun p =>
        (.shallot 0x12 (u8 r ++ u8 (i + 1) ++ frameBytes (i + 1) p ++ u16 (crc16 (frameBytes (i + 1) p))) : Out) } := by
  have htakes : ¬ ((!(s.heard true f).isActive) = true ∨ 4 ≤ r) := by simp [hactive, hr]
  show execSweepNeed f r w n s = _
  rw [execSweepNeed, State.onLink_ok hcrc, if_neg htakes]
  rfl

/-- A frame in the sweep it was asked for. -/
def State.holdFrame (s : State) (r n : Nat) (p : SweepPayload) : State := s.updRing r fun y => { y with held := y.held.set n p }

theorem State.holdFrame_ring (s : State) {r : Nat} (n : Nat) (p : SweepPayload) (hr : r < 4) :
    (s.holdFrame r n p).ring r = { s.ring r with held := (s.ring r).held.set n p } := s.ring_setRing_same _ hr

/-- A frame that was asked for joins the sweep while it is collected. -/
theorem exec_sweepFrame {r n : Nat} {p : SweepPayload} {x : SweepExch} (hcrc : f.crcOk = true) (hstandby : s.isStandby = true) (hr : r < 4)
    (hexch : s.exch r = some x) (hsweep : x.sweep = (s.ring r).sweep) (hn : n ≠ 0) (hasked : x.need.testBit (n - 1) = true)
    (hcollects : (s.ring r).collecting = true) : exec (.sweepFrame f r x.sweep n p) s
      = .next ((((s.heard true f).holdFrame r n p).setExch r { x with need := x.need - 2 ^ (n - 1) }).closeExch r) := by
  have htakes : ¬ ((!(s.heard true f).isStandby) = true ∨ 4 ≤ r ∨ x.sweep ≠ x.sweep ∨ x.sweep ≠ ((s.heard true f).ring r).sweep
      ∨ (!x.need.testBit (n - 1)) = true ∨ n = 0) := by
    have hsweep' : x.sweep = ((s.heard true f).ring r).sweep := hsweep
    simp [hstandby, ← hsweep', hasked, hn, hr]
  have hexch' : (s.heard true f).exch r = some x := hexch
  have hcollects' : (((s.heard true f).holdFrame r n p).ring r).collecting = true := by
    rw [State.holdFrame_ring _ _ _ hr]
    exact hcollects
  show execSweepFrame f r x.sweep n p s = _
  rw [execSweepFrame, State.onLink_ok hcrc]
  simp only [hexch', if_neg htakes]
  exact congrArg (fun u : State => (.next ((u.setExch r { x with need := x.need - 2 ^ (n - 1) }).closeExch r) : Result)) (if_pos hcollects')

/-! ### Copies of the estimator (R380) -/

/-- The header of EST_COPY reads back (Table 13.5). -/
theorem estCopy_header {c r part off : Nat} (hc : c < 2 ^ 32) (hr : r < 4) (hpart : part < 3) (hoff : off < 65536) {block : Nat}
    (hblock : block = c + r * 2 ^ 32 + part * 2 ^ 40 + off * 2 ^ 48) :
    block % 2 ^ 32 = c ∧ block / 2 ^ 32 % 256 = r ∧ block / 2 ^ 40 % 256 = part ∧ block / 2 ^ 48 % 65536 = off := by
  omega

theorem exec_estCopy {c r part off : Nat} {d : Bytes} (hcrc : f.crcOk = true) (hstandby : s.isStandby = true) (hc : c < 2 ^ 32) (hr : r < 4)
    (hpart : part < 3) (hoff : off < 65536) (hcycle : s.twin.estCopyCycle = some c) :
    exec (.estCopy f (c + r * 2 ^ 32 + part * 2 ^ 40 + off * 2 ^ 48) d) s
      = .next { s.heard true f with twin := { (s.heard true f).twin with
          estCopy := (s.twin.estCopy : SMap Bytes).set (4 * r + part)
            (putAt ((s.twin.estCopy : SMap Bytes).at (4 * r + part) []) (off * 8) d) } } := by
  obtain ⟨hcyc, hring, hkind, hat⟩ := estCopy_header hc hr hpart hoff rfl
  have htakes : ¬ ((!(s.heard true f).isStandby) = true ∨ 4 ≤ r ∨ 4 ≤ part) := by
    simp [hstandby, hr]
    omega
  have hcycle' : (s.heard true f).twin.estCopyCycle = some c := hcycle
  show execEstCopy f _ d s = _
  rw [execEstCopy, State.onLink_ok hcrc]
  simp only [hcyc, hring, hkind, hat, if_neg htakes, if_pos hcycle']
  exact congrArg Host.Outcome.next (if_neg fun h => by omega)

/-! ### The dictionary (R92, R100, R396) -/

/-- The whole dictionary has come: it applies, and is stored where the supply stands (R396, 02 R40). -/
theorem exec_dictCopy_last {es : List SetEntry} (hcrc : f.crcOk = true) (hstandby : s.isStandby = true) (hsupply : s.sys.vinWarn = false) :
    ∃ u : State, exec (.dictCopy f 0 true es true) s = .next u.storeParams ∧ u.sys.notActive.dictionary = false := by
  have htakes : ¬ ((!(s.heard true f).isStandby) = true
      ∧ (!decide ((s.heard true f).sys.lifecycle = .negotiate ∧ (s.heard true f).noDict = true)) = true) := by simp [hstandby]
  have hexec : exec (.dictCopy f 0 true es true) s = execDictCopy f 0 true es true s := rfl
  rw [execDictCopy, State.onLink_ok hcrc] at hexec
  extract_lets vs all _ begun take applied _ _ _ marked _ stamped _ at hexec
  have hmarked : marked.sys = { s.sys with notActive := { s.sys.notActive with dictionary := false } } := by
    have happlied : applied.sys = s.sys := foldl_sys (fun v e => v.applyCommitted_sys e) _ _
    simp only [marked, ← happlied]
    rfl
  have hstamped : stamped.sys = marked.sys := by
    simp only [stamped]
    split <;> rfl
  have hstays : ¬ (!stamped.isStandby) = true := by
    have hlife : stamped.isStandby = s.isStandby := by rw [State.isStandby, hstamped, hmarked, State.isStandby]
    simp [hlife, hstandby]
  have hsupplied : ¬ stamped.sys.vinWarn = true := by
    rw [hstamped, hmarked]
    exact Bool.eq_false_iff.1 hsupply
  rw [if_neg htakes, if_neg (by decide), if_neg hstays, if_neg hsupplied] at hexec
  exact ⟨stamped, hexec, by rw [hstamped, hmarked]⟩

/-! ### Requests of the twin (04 R91) -/

theorem State.mem_enqueue (s : State) (w : Waiting) : w ∈ (s.enqueue w).wcp.queue := by
  simp only [State.enqueue]
  split <;> simp

theorem exec_wcpFwd_request {h : Hdr} {role : Role} {op : Nat} {pl : Bytes} (hcrc : f.crcOk = true) (hform : malformed op pl = none) :
    exec (.wcpFwd f false h role op pl) s = .next (({ s.heard true f with
      wcp := { s.wcp with guests := s.wcp.guests ++ [(h, op, role)] } } : State).enqueue ⟨h, op, pl⟩) := by
  show execWcpFwd f false h role op pl s = _
  rw [execWcpFwd, State.onLink_ok hcrc, hform]
  rfl

/-- The reply to a forwarded request goes to the host that asked, under the twin's slot. -/
theorem exec_wcpFwd_reply {h h0 : Hdr} {role : Role} {op : Nat} {pl : Bytes} (hcrc : f.crcOk = true)
    (hasked : s.wcp.forwarded.find? (fun p => p.1.session == h.session && p.1.seq == h.seq && p.2 == op) = some (h0, op)) {p : Packet}
    (hp : p = { (s.heard true f).replyPacket op h0 (fieldAt pl 0 2) (pl.drop 2) true with target := 3 - s.sys.slot }) :
    exec (.wcpFwd f true h role op pl) s = .next ((({ s.heard true f with
      wcp := { s.wcp with forwarded := s.wcp.forwarded.erase (h0, op) } } : State).updSess h0.session.toNat fun x => x.remember p.seq p).post p) := by
  subst hp
  show execWcpFwd f true h role op pl s = _
  rw [execWcpFwd, State.onLink_ok hcrc, State.heard_wcp, hasked]
  rfl

/-! ### State transfer and reports (R70, 20 R526) -/

theorem exec_stateXfer_last {k : Nat} {d : Bytes} (hcrc : f.crcOk = true) (hstandby : s.isStandby = true) :
    ∃ t, exec (.stateXfer f k d true) s = .next t ∧ t.twin.xfer = true := by
  have hexec : exec (.stateXfer f k d true) s = execStateXfer f k d true s := rfl
  rw [execStateXfer, State.onLink_standby hcrc hstandby] at hexec
  exact ⟨_, hexec, rfl⟩

theorem exec_standbyReport {c i v : Nat} {d : Bytes} (hcrc : f.crcOk = true) (hactive : s.isActive = true) (hc : c ≠ 0x1071) :
    exec (.standbyReport f c i v d) s
      = .next ((s.heard true f).record { mkFault (s.heard true f) c i v (padTo 12 d) none none with twin := true }) := by
  have htakes : ¬ (!(s.heard true f).isActive) = true := by simp [hactive]
  show execStandbyReport f c i v d s = _
  rw [execStandbyReport, State.onLink_ok hcrc, if_neg htakes]
  simp only [if_neg hc]

/-! ### The end of drive (R375) -/

/-- Every channel's outputs off. -/
def State.undriven (s : State) : State := [0, 1, 2, 3].foldl (fun s c => s.updCh c fun x => { x with driven := false }) s

/-- Strings and outputs open by freewheel. -/
def State.freed (s : State) : State :=
  (List.range 8).foldl (fun s n => if s.soOn n then s.openSo .freewheel n else s) ([0, 1, 2, 3].foldl (fun s r => s.openString r .freewheel 0x0109) s)

/-- The role line low, and the end of drive remembered. -/
def State.driveOver (s : State) : State := { s with sys := { s.sys with roleOut := false, driveEnded := true } }

theorem State.endDrive_eq (s : State) : s.endDrive = s.freed.undriven.driveOver.sweepGates := by
  simp only [State.endDrive, State.undriven, State.freed, State.driveOver]

theorem State.driveOver_ch (s : State) (c : Nat) : s.driveOver.ch c = s.ch c := rfl
theorem State.driveOver_lifecycle (s : State) : s.driveOver.sys.lifecycle = s.sys.lifecycle := rfl

theorem State.undriven_sys (s : State) : s.undriven.sys = s.sys := foldl_view State.sys (fun u c => u.updCh_sys c _) _ _

theorem State.freed_role (s : State) : s.freed.sys.role = s.sys.role :=
  (State.foldl_role (fun u n => by simp) _ _).trans (State.foldl_role (fun u r => u.openString_role r _ _) _ _)

theorem State.undriven_off (s : State) {c : Nat} (hc : c < 4) : (s.undriven.ch c).driven = false := by
  refine foldl_reaches (P := fun u : State => (u.ch c).driven = false) (b := c) (fun u => ?_) (fun u k hoff => ?_) (by simp; omega) s
  · rw [u.ch_updCh_same _ hc]
  · by_cases hk : k = c
    · rw [hk, u.ch_updCh_same _ hc]
    · rw [u.ch_updCh_ne _ hc hk, hoff]

theorem SysSt.lifecycle_of_role {x y : SysSt} (h : x.role = y.role) : x.lifecycle = y.lifecycle := congrArg (·.2.1) h

/-- The gates that close let no channel begin to drive. -/
theorem State.sweepGates_off {s : State} {c : Nat} (hoff : (s.ch c).driven = false) : (s.sweepGates.ch c).driven = false :=
  Bool.eq_false_iff.2 fun hdriven => Bool.eq_false_iff.1 hoff (State.sweepGates_drivenWithin (DrivenWithin.refl _) c hdriven)

/-- The end of drive leaves the lifecycle as it is, and no channel drives its outputs. -/
theorem State.endDrive_lifecycle (s : State) : s.endDrive.sys.lifecycle = s.sys.lifecycle := by
  rw [State.endDrive_eq, State.sweepGates_sys, State.driveOver_lifecycle, State.undriven_sys]
  exact SysSt.lifecycle_of_role s.freed_role

theorem State.endDrive_off (s : State) {c : Nat} (hc : c < 4) : (s.endDrive.ch c).driven = false := by
  rw [State.endDrive_eq]
  exact State.sweepGates_off (by rw [State.driveOver_ch, State.undriven_off _ hc])

/-! ### Framing (R374, R377) -/

theorem State.badLink_leaves (s : State) :
    s.badLink.count 0x724 0 = min 0xFFFFFFFF (s.count 0x724 0 + 1) ∧ s.badLink.twin.heardAt = s.twin.heardAt := by
  simp only [State.badLink]
  split
  · rw [State.count_congr (State.raise_wcp _ _ _ _ (by decide)), (State.raise_same _ _ _ _ _).twin_eq]
    exact ⟨State.count_inc_same _ _ _, rfl⟩
  · exact ⟨State.count_inc_same _ _ _, rfl⟩

theorem shallotFraming_holds : shallotFraming := by
  unfold shallotFraming
  refine ⟨fun _ _ _ => rfl, fun s u b x => ⟨rfl, ?_⟩, ?_, ?_, State.badLink_leaves⟩
  · cases x <;> rfl
  · exact fun s f l p st ts k hbad => congrArg Host.Outcome.next (State.onLink_bad hbad)
  · refine fun s f hbad => ⟨fun c => ?_, fun c => ?_, fun m => ?_, fun m => ?_, fun m => ?_, fun m => ?_, fun m => ?_⟩
    all_goals exact congrArg Host.Outcome.next (State.onLink_bad hbad)

end
end Sys2Proof.Machine
end

section
/-! SUPPORT. O30: frames over Shallot. -/
namespace Sys2Proof.Machine
open Sys2Proof

/-- Settles O30: what each frame leaves, read off its own lemma. -/
theorem shallotFramesComplete : Obligations.ShallotFramesComplete := by
  unfold Obligations.ShallotFramesComplete
  refine ⟨?keepalive, ?keepaliveDue, ?copyOther, ?copySame, ?axes, fun s f m hcrc hstandby => exec_safetyCopy hcrc hstandby, ?snapshot, ?p0, ?time,
    ?final, ?need, ?frame, ?est, ?digest, ?mirrorEmpty, ?mirror, ?dict, ?dictLast, ?request, ?reply, ?xfer, ?report, ?lockLoss, ?sendWatch,
    shallotFraming_holds⟩
  case keepalive =>
    intro s f l p st ts k hcrc hactive
    refine ⟨_, exec_shallotKeepalive hcrc hactive rfl, ?_⟩
    split
    · rw [State.sendDict_twin, State.sendDict_sys]
      exact ⟨rfl, rfl, rfl, rfl, rfl⟩
    · exact ⟨rfl, rfl, rfl, rfl, rfl⟩
  case keepaliveDue =>
    exact fun s hlife htwin htx hstage hcommit => ⟨_, exec_keepaliveDue_standby hlife htwin htx hstage hcommit, rfl, rfl⟩
  case copyOther =>
    intro s f c hcrc hstandby hperiod hcommit
    exact ⟨_, exec_loopCopy_other hcrc hstandby hcommit hperiod, rfl, beq_eq_false_iff_ne.2 hperiod, rfl, rfl⟩
  case copySame =>
    intro s f c hcrc hstandby hperiod hcommit
    obtain ⟨hnow, htwin, hkept⟩ := ((s.heard false f).compareLoop c).steerBy_leaves (c.stamp - s.loop.stamp).toInt
    refine ⟨_, exec_loopCopy_same hcrc hstandby hcommit hperiod, ?_, ?_, ?_⟩
    · simp only [State.copied, hnow, State.compareLoop_now, State.heard_now]
    · simp only [State.copied, hkept, State.compareLoop_loop]
      exact beq_iff_eq.2 hperiod
    · simp only [State.copied, htwin]
  case axes =>
    intro s f rs hcrc hstandby
    refine ⟨_, exec_axisCopy hcrc hstandby, fun a ha => ?_⟩
    obtain ⟨u, hu⟩ := State.takeAxes_axisView (s.heard false f) rs ha
    exact u.takeAxis_taken (rs.get a) ha hu.symm
  case snapshot =>
    intro s f n t hcrc hstandby
    have hexec : exec (.shallotControl f (.snapshot n t)) s = execShallotControl f (.snapshot n t) s := rfl
    simp only [execShallotControl, State.onLink_ok hcrc, State.heard_isStandby, hstandby] at hexec
    exact ⟨_, hexec, rfl⟩
  case p0 =>
    exact fun s f hcrc => ⟨_, congrArg Host.Outcome.next (State.onLink_ok hcrc), rfl⟩
  case time =>
    intro s f x n hcrc hstandby hunset
    have hacts : ¬ ((!(s.heard false f).isStandby) = true ∨ (s.heard false f).net.twinSet = true) := by
      have hunset' : (s.heard false f).net.twinSet = false := hunset
      simp [hstandby, hunset']
    exact ⟨_, congrArg Host.Outcome.next ((State.onLink_ok hcrc).trans (if_neg hacts)), rfl, rfl⟩
  case final =>
    intro s f m hcrc hstandby hring hsweep hstamp hlacks
    exact ⟨_, exec_sweepFinal hcrc hstandby hring hsweep hstamp rfl hlacks, State.asks_exch _ _ _, rfl⟩
  case need =>
    exact fun s f r w n hcrc hactive hr => exec_sweepNeed hcrc hactive hr
  case frame =>
    intro s f r n p x hcrc hstandby hr hexch hsweep hn hasked hcollects
    refine ⟨_, exec_sweepFrame hcrc hstandby hr hexch hsweep hn hasked hcollects, State.exch_setExch_same _ _ _, ?_⟩
    exact (congrArg (fun y : RingSt => y.held.find n) (State.holdFrame_ring _ n p hr)).trans (SMap.find_set_same _ _ _)
  case est =>
    exact fun s f c r part off d hcrc hstandby hc hr hpart hoff hcycle =>
      ⟨_, exec_estCopy hcrc hstandby hc hr hpart hoff hcycle, SMap.at_set_same _ _ _ _, rfl⟩
  case digest =>
    intro s f m hcrc hstandby
    have hexec : exec (.estDigest f m) s = execEstDigest f m s := rfl
    rw [execEstDigest, State.onLink_ok hcrc, State.heard_isStandby, if_pos hstandby] at hexec
    exact ⟨_, hexec, rfl, rfl⟩
  case mirrorEmpty =>
    intro s f i hcrc hstandby
    have hexec : exec (.paramMirror f i []) s = execParamMirror f i [] s := rfl
    rw [execParamMirror, State.onLink_standby hcrc hstandby, if_pos rfl] at hexec
    refine ⟨_, hexec, fun p hp => ?_, rfl⟩
    exact bne_iff_ne.1 (List.mem_filter.1 hp).2
  case mirror =>
    intro s f i es hcrc hstandby hes
    show execParamMirror f i es s = _
    rw [execParamMirror, State.onLink_standby hcrc hstandby, if_neg hes]
  case dict =>
    intro s f i es ok hcrc hstandby hi
    have hexec : exec (.dictCopy f i false es ok) s = execDictCopy f i false es ok s := rfl
    simp only [execDictCopy, State.onLink_ok hcrc, State.heard_isStandby, hstandby, if_neg hi] at hexec
    exact ⟨_, hexec, rfl, rfl⟩
  case dictLast =>
    exact fun s f es hcrc hstandby hsupply => exec_dictCopy_last hcrc hstandby hsupply
  case request =>
    intro s f h role op pl hcrc hform
    refine ⟨_, exec_wcpFwd_request hcrc hform, ?_, State.mem_enqueue _ _⟩
    exact List.mem_append_right _ (List.mem_singleton.2 rfl)
  case reply =>
    intro s f h role op pl h0 hcrc hasked
    exact ⟨_, _, exec_wcpFwd_reply hcrc hasked rfl, rfl, rfl⟩
  case xfer =>
    exact fun s f k d hcrc hstandby => exec_stateXfer_last hcrc hstandby
  case report =>
    exact fun s f c i v d hcrc hactive hc => exec_standbyReport hcrc hactive hc
  case lockLoss =>
    exact fun s => ⟨_, rfl, rfl⟩
  case sendWatch =>
    intro s hactive
    exact ⟨_, congrArg Host.Outcome.next (if_pos hactive), s.endDrive_roleOut, s.endDrive_driveEnded, s.endDrive_lifecycle,
      fun c hc => s.endDrive_off hc⟩

end Sys2Proof.Machine
end

section
/-! SUPPORT. The rules that O31 turns on: the lanes that passed their known-answer test (13 R387), and the next states of comparison, silence,
arbitration and swap drill (R383, R386 to R394). -/
namespace Sys2Proof.Machine
open Sys2Proof

/-! ### The lanes that passed (R387) -/

theorem ofBits_testBit (l : List Bool) (i : Nat) : (ofBits l).testBit i = l.getD i false := by
  induction l generalizing i with
  | nil => exact Nat.zero_testBit i
  | cons b l ih =>
    have hcons : ofBits (b :: l) = Nat.bit b (ofBits l) := by
      rw [Nat.bit_val, Nat.add_comm, Bool.toNat]
      cases b <;> rfl
    rw [hcons]
    cases i with
    | zero => simp
    | succ i => rw [Nat.testBit_bit_succ, ih, List.getD_cons_succ]

theorem laneOutcome_eq_two_iff (x : LaneTest) : laneOutcome x = 2 ↔ x.sigOk = true ∧ x.count = x.expected := by
  unfold laneOutcome testOutcome
  split
  next hfew => exact iff_of_false (by decide) fun h => hfew.ne h.2
  next => cases x.sigOk <;> simp

theorem laneMask_testBit (l : Four LaneTest) {c : Nat} (hc : c < 4) :
    (laneMask l).testBit c = true ↔ (l.get c).sigOk = true ∧ (l.get c).count = (l.get c).expected := by
  rw [laneMask, ofBits_testBit, ← laneOutcome_eq_two_iff]
  match c, hc with
  | 0, _ | 1, _ | 2, _ | 3, _ => simp

/-! ### Arbitration (R386 to R388) -/

section
variable {s : State} {f : Link}

theorem exec_arbStart {c : Byte} (hcrc : f.crcOk = true) (hstandby : s.isStandby = true) (hidle : s.twin.arb = none) :
    exec (.arbStart f c) s = .next ((s.heard false f).startArb true) := by
  have harb : (!(s.heard false f).arbitrates) = false := by simp [State.arbitrates, hstandby]
  show execArbStart f c s = _
  rw [execArbStart, State.onLink_ok hcrc, State.heard_arb, hidle, harb]
  rfl

theorem exec_arbHandover {p : BitVec 32} {d : Bool} (hcrc : f.crcOk = true) (hstandby : s.isStandby = true) :
    exec (.arbHandover f p d) s
      = .next { s.heard false f with twin := { (s.heard false f).twin with handTwin := some p, handDrill := d } } := by
  show execArbHandover f p d s = _
  rw [execArbHandover, State.onLink_ok hcrc, State.heard_isStandby, if_pos hstandby]

/-- The state as the own known-answer test ends, before its result is sent (R387). -/
def State.katDone (s : State) (t : Nat) (m : Nat) (a : Arb) : State :=
  let u := (s.advanceTo (t + 40000)).katEvent t
  { u with twin := { u.twin with kat := none, ownLanes := m, arb := some { a with own := some m } } }

theorem State.katEvent_same (s : State) (t : Nat) : Same (s.katEvent t) s := by
  unfold State.katEvent
  exact Same.ite (s.fbEvent_same _ _) Same.rfl'

theorem State.katEvent_out (s : State) (t : Nat) : (s.katEvent t).out = s.out := by
  unfold State.katEvent State.fbEvent State.fbPush
  split
  · split <;> rfl
  · rfl

theorem exec_katComplete {l : Four LaneTest} {t : Nat} {a : Arb} (hkat : s.twin.kat = some t) (harb : s.twin.arb = some a) :
    exec (.katComplete l) s = .next (((s.katDone t (laneMask l) a).sendArb 1 (if a.mismatch then 1 else 2) (laneMask l) []).outcome) := by
  have harb' : ((s.advanceTo (t + 40000)).katEvent t).twin.arb = some a := by rw [(State.katEvent_same _ t).twin_eq]; exact harb
  show execKatComplete l s = _
  simp only [execKatComplete, hkat, harb', Option.map_some]
  rfl

/-- Silence starts an arbitration 50 µs after the last valid frame (R386). -/
theorem exec_shallotSilence (hnone : s.twin.silence = none) (hlife : s.twin.life = some .active) (hstandby : s.isStandby = true) :
    exec .shallotSilence s = .next (({ s.advanceTo (s.twin.heardAt + 50000) with
      twin := { s.twin with silence := some s.twin.heardAt, linkUp := false } } : State).startArb false) := by
  have hacts : ¬ (s.twin.silence.isSome || !(s.twin.life == some .active || s.twin.life == some .standby || s.sys.conflict)
      || !s.arbitrates) = true := by simp [hnone, hlife, State.arbitrates, hstandby]
  exact congrArg Host.Outcome.next (if_neg hacts)

/-- A STANDBY whose own test passed runs ahead while the role line stays high (R388, Table 13.6). -/
def State.runsAhead (s : State) : State := if s.twin.ahead then s else { s with twin := { s.twin with ahead := true, aheadSince := s.now } }

theorem exec_silenceRoleHeld {t : Nat} (hsilence : s.twin.silence = some t) (hstandby : s.isStandby = true) (hin : s.sys.roleIn = true)
    (hown : s.twin.ownLanes = 15) (hkat : s.twin.kat = none) :
    exec .silenceRoleHeld s = .next ((s.advanceTo (t + 250000)).endArb.runsAhead.raise 0x7030 0 1) := by
  have hacts : ¬ (!s.isStandby || !s.sys.roleIn || s.twin.ownLanes != 15 || s.twin.kat.isSome) = true := by simp [hstandby, hin, hown, hkat]
  show execSilenceRoleHeld s = _
  rw [execSilenceRoleHeld, hsilence]
  exact congrArg Host.Outcome.next (if_neg hacts)

theorem State.runsAhead_leaves (s : State) : s.runsAhead.twin.ahead = true ∧ s.runsAhead.twin.arb = s.twin.arb ∧ s.runsAhead.now = s.now
    ∧ s.runsAhead.sys = s.sys := by
  unfold State.runsAhead
  split
  next hahead => exact ⟨hahead, rfl, rfl, rfl⟩
  next => exact ⟨rfl, rfl, rfl, rfl⟩

end

/-! ### Comparison and swap drill (R374, R383, R388, R393, R394) -/

section
variable {s : State}

theorem exec_aheadTimeout (hahead : s.twin.ahead = true) : exec .aheadTimeout s
    = .next { s.advanceTo (s.twin.aheadSince + s.parN 0x704 0 * 1000000) with twin := { s.twin with aheadLong := true } } := by
  show execAheadTimeout s = _
  rw [execAheadTimeout, hahead]
  rfl

theorem exec_uncomparedRun {c : Nat} (hc : c < 4) (hmixed : s.upd.mixed 2 = false) (hmany : s.parN 0x705 0 ≤ s.twin.uncomp.get c) :
    exec (.uncomparedRun c) s
      = .next (({ s with twin := { s.twin with uncomp := s.twin.uncomp.set c 0 } } : State).raise 0x7023 c 1) := by
  have hacts : ¬ (4 ≤ c ∨ s.upd.mixed 2 = true ∨ s.twin.uncomp.get c < s.parN 0x705 0) := by
    simp only [hmixed, Bool.false_eq_true, false_or]
    omega
  show execUncomparedRun c s = _
  rw [execUncomparedRun, if_neg hacts]

theorem exec_suspectClear (hsuspect : s.twin.suspect = true) : exec .suspectClear s
    = .next (s.advanceTo (s.twin.suspectAt + s.parN 0x706 0 * 3600000000000)).clearSuspect := by
  show execSuspectClear s = _
  rw [execSuspectClear, hsuspect]
  rfl

theorem exec_swapDrillDue_runs (hactive : s.isActive = true) (hon : s.parN 0x700 0 = 1) (hdue : s.twin.swapDue = false)
    (hfree : (s.advanceTo s.swapInstant).handRefused = false) : exec .swapDrillDue s
    = .next (({ s.advanceTo s.swapInstant with twin := { s.twin with swapDue := false } } : State).beginHand .drill none) := by
  show execSwapDrillDue s = _
  simp only [execSwapDrillDue, hactive, hon, hdue, Bool.false_eq_true, if_false, hfree]
  rfl

theorem exec_swapDrillDue_refused (hactive : s.isActive = true) (hon : s.parN 0x700 0 = 1) (hdue : s.twin.swapDue = true) {u : State}
    (hu : u = s.advanceTo (max s.now s.twin.swapTry)) (hrefused : u.handRefused = true) : exec .swapDrillDue s
    = .next { u with twin := { u.twin with swapDue := true, swapTry := u.now + 600000000000 } } := by
  subst hu
  show execSwapDrillDue s = _
  simp only [execSwapDrillDue, hactive, hon, hdue, if_true, hrefused, State.advanceTo_twin]
  rfl

theorem exec_swapWatchEnd {t : Nat} (hwatch : s.twin.watch = some t) {u : State} (hu : u = s.advanceTo (t + s.parN 0x703 0 * 1000000000)) :
    exec .swapWatchEnd s = .next (({ u with twin := { u.twin with watch := none, lastSwap := u.now } } : State).raise 0x7040 0 0) := by
  subst hu
  show execSwapWatchEnd s = _
  rw [execSwapWatchEnd, hwatch]

theorem exec_swapHandedBack {c : Nat} (hactive : s.isActive = true) (hwatch : s.twin.watch ≠ none) (hback : s.handsBack c = true) :
    exec (.swapHandedBack c) s = .next ((s.setLifecycle .standby).handedBack c) := by
  have hacts : ¬ (s.twin.watch.isNone || !s.isActive || !s.handsBack c) = true := by simp [hactive, hback, hwatch]
  show execSwapHandedBack c s = _
  rw [execSwapHandedBack, if_neg hacts]

end
end Sys2Proof.Machine
end

section
/-! SUPPORT. O31: comparison, silence, arbitration, handover and the swap drill. -/
namespace Sys2Proof.Machine
open Sys2Proof

/-- Settles O31: what each event leaves, read off its own lemma. -/
theorem twinEventsComplete : Obligations.TwinEventsComplete := by
  unfold Obligations.TwinEventsComplete
  refine ⟨?start, ?result, ?handover, ?kat, fun l c hc => laneMask_testBit l hc, ?silence, ?held, ?ahead, ?uncompared, ?suspect, ?drill, ?refused,
    ?watch, ?back⟩
  case start =>
    exact fun s f c hcrc hstandby hidle => ⟨_, exec_arbStart hcrc hstandby hidle, rfl, rfl, State.count_inc_same _ _ _⟩
  case result =>
    intro s f m a hcrc harb
    have hexec : exec (.arbResult f m) s = execArbResult f m s := rfl
    rw [execArbResult, State.onLink_ok hcrc, State.heard_arb, harb] at hexec
    exact ⟨_, hexec, rfl, rfl⟩
  case handover =>
    exact fun s f p d hcrc hstandby => ⟨_, exec_arbHandover hcrc hstandby, rfl, rfl, rfl⟩
  case kat =>
    intro s l t a hkat harb
    exact ⟨_, exec_katComplete hkat harb, rfl, rfl, rfl, congrArg (· ++ _) (State.katEvent_out _ t)⟩
  case silence =>
    exact fun s hnone hlife hstandby => ⟨_, exec_shallotSilence hnone hlife hstandby, rfl, rfl, rfl, rfl⟩
  case held =>
    intro s t hsilence hstandby hin hown hkat
    obtain ⟨hahead, harb, hnow, hsys⟩ := (s.advanceTo (t + 250000)).endArb.runsAhead_leaves
    have hsame := State.raise_same (s.advanceTo (t + 250000)).endArb.runsAhead 0x7030 0 1 []
    refine ⟨_, exec_silenceRoleHeld hsilence hstandby hin hown hkat, ?_, ?_, State.raise_waits _ _ _ _ _ (by decide), ?_, ?_⟩
    · rw [hsame.twin_eq, hahead]
    · rw [hsame.twin_eq, harb]
      rfl
    · rw [hsame.now_eq, hnow]
      rfl
    · rw [hsame.sys_eq, hsys]
      exact eq_of_beq hstandby
  case ahead =>
    exact fun s hahead => ⟨_, exec_aheadTimeout hahead, rfl, rfl⟩
  case uncompared =>
    intro s c hc hmixed hmany
    refine ⟨_, exec_uncomparedRun hc hmixed hmany, State.raise_waits _ _ _ _ _ (by decide), ?_⟩
    rw [(State.raise_same _ _ _ _ _).twin_eq]
    exact Four.get_set_same _ _ _ hc
  case suspect =>
    exact fun s hsuspect => ⟨_, exec_suspectClear hsuspect, rfl, rfl⟩
  case drill =>
    exact fun s hactive hon hdue hfree => ⟨_, exec_swapDrillDue_runs hactive hon hdue hfree, rfl, rfl⟩
  case refused =>
    exact fun s hactive hon hdue hrefused =>
      ⟨_, exec_swapDrillDue_refused hactive hon hdue rfl hrefused, rfl, eq_of_beq hactive⟩
  case watch =>
    exact fun s t hwatch => ⟨_, exec_swapWatchEnd hwatch rfl, rfl, rfl, rfl⟩
  case back =>
    intro s c hactive hwatch hback
    refine ⟨_, exec_swapHandedBack hactive hwatch hback, State.raise_waits _ _ _ _ _ (by decide), ?_⟩
    rw [State.handedBack, State.raise_sys, (State.raise_same _ _ _ _ _).twin_eq]
    exact ⟨rfl, rfl, rfl⟩

end Sys2Proof.Machine
end

section
/-! SUPPORT. The rules that O32 turns on: the next states of the twin opcodes (13 R388, R392, R395, R398). -/
namespace Sys2Proof.Machine
open Sys2Proof

section
variable {s u : State} {h : Hdr}

/-- What a request finds of the twin and of its own lifecycle. -/
@[simp] theorem State.admitted_twin (s : State) (op : Nat) (h : Hdr) (pl : Bytes) : (s.admitted op h pl).twin = s.twin :=
  (s.admitted_same op h pl).twin_eq

@[simp] theorem State.admitted_out (s : State) (op : Nat) (h : Hdr) (pl : Bytes) : (s.admitted op h pl).out = s.out := by
  unfold State.admitted State.fbCommand State.fbPush
  split
  · rfl
  · split <;> rfl

@[simp] theorem State.admitted_forwarded (s : State) (op : Nat) (h : Hdr) (pl : Bytes) :
    (s.admitted op h pl).wcp.forwarded = s.wcp.forwarded := by
  rw [State.admitted_wcp]
  rfl

/-- The age of the last LOOP_COPY in µs, saturated, or the mark of none (Table 13.11). -/
def State.copyAge (s : State) : Nat := s.twin.copy.elim 0xFFFFFFFF fun p => min 0xFFFFFFFF ((s.now - p.2) / 1000)

theorem exec_twinStatus (hpass : s.passes 0x0700 h false [] = true) (hu : u = s.admitted 0x0700 h []) : exec (.twinStatus h) s
    = .next (u.reply 0x0700 h 0 (u32 u.twinState ++ leBytes 4 s.twin.rstate.toNat ++ u32 s.copyAge ++ time80Bytes s.twin.lastSwap)) := by
  subst hu
  show execTwinStatus h s = _
  rw [execTwinStatus, State.wcpReq_of_passes _ _ _ _ _ hpass, State.admitted_twin, State.admitted_now, State.copyAge]
  cases s.twin.copy <;> rfl

theorem exec_twinHandover (hpass : s.passes 0x0701 h false [] = true) (hu : u = s.admitted 0x0701 h []) (hactive : s.isActive = true)
    (hfree : u.handRefused = false) :
    exec (.twinHandover h) s = .next ((u.reply 0x0701 h 1).beginHand .command (some (opRef 0x0701 h))) := by
  have hrun : ¬ ((!u.isActive) = true ∨ u.handRefused = true) := by
    have hactive' : u.isActive = true := by rw [hu, (s.admitted_same _ _ _).isActive_eq, hactive]
    simp [hactive', hfree]
  subst hu
  show execTwinHandover h s = _
  rw [execTwinHandover, State.wcpReq_of_passes _ _ _ _ _ hpass, if_neg hrun]

section
variable {k : Byte} (hpass : s.passes 0x0702 h false [] = true) (hu : u = s.admitted 0x0702 h [k]) (hnamed : k.toNat ≠ 0) (hslots : k.toNat ≤ 2)
include hpass hu hnamed hslots

/-- A STANDBY module leaves the pair at once (R395). -/
theorem exec_twinIsolate_standby (hown : k.toNat = s.sys.slot) (hstandby : s.sys.lifecycle = .standby) :
    exec (.twinIsolate h k) s = .next (((u.reply 0x0702 h 1).setLifecycle .isolated).complete (opRef 0x0702 h) 0) := by
  have hlife : (s.admitted 0x0702 h [k]).sys.lifecycle = .standby := by rw [State.admitted_sys, hstandby]
  subst hu
  show execTwinIsolate h k s = _
  rw [execTwinIsolate, State.wcpReq_of_passes _ _ _ _ _ hpass, if_neg (by omega), State.admitted_sys, if_pos hown, State.isolateSelf, hlife]

/-- A request that names the other slot goes to the twin (R91, R395). -/
theorem exec_twinIsolate_twin (hother : k.toNat ≠ s.sys.slot) : exec (.twinIsolate h k) s = .next (u.forwardReq 0x0702 h [k]) := by
  subst hu
  show execTwinIsolate h k s = _
  rw [execTwinIsolate, State.wcpReq_of_passes _ _ _ _ _ hpass, if_neg (by omega), State.admitted_sys, if_neg hother]

end

theorem exec_twinJoin (hpass : s.passes 0x0703 h false [] = true) (hu : u = s.admitted 0x0703 h []) (hisolated : s.sys.lifecycle = .isolated) :
    exec (.twinJoin h) s = .next (((u.reply 0x0703 h 1).setLifecycle .negotiate).complete (opRef 0x0703 h) 0) := by
  subst hu
  show execTwinJoin h s = _
  rw [execTwinJoin, State.wcpReq_of_passes _ _ _ _ _ hpass, State.admitted_sys, if_neg (not_not.2 hisolated)]

theorem exec_twinClearSuspect (hpass : s.passes 0x0704 h false [] = true) (hu : u = s.admitted 0x0704 h []) (hsuspect : s.twin.suspect = true)
    (htested : (suspectBlocks.all fun c => s.twin.tested.contains c) = true) :
    exec (.twinClearSuspect h) s = .next (u.clearSuspect.reply 0x0704 h 0) := by
  subst hu
  show execTwinClearSuspect h s = _
  rw [execTwinClearSuspect, State.wcpReq_of_passes _ _ _ _ _ hpass, State.admitted_twin, hsuspect, htested]
  rfl

theorem exec_twinPromote (hpass : s.passes 0x0705 h false [] = true) (hu : u = s.admitted 0x0705 h []) (hstandby : s.isStandby = true)
    (heligible : s.activeEligible = true) (hin : s.sys.roleIn = false) :
    exec (.twinPromote h) s = .next ((u.reply 0x0705 h 0).activeOpen) := by
  have hready : (u.isStandby && u.activeEligible && !u.sys.roleIn) = true := by
    have hsame : Same u s := hu ▸ s.admitted_same _ _ _
    rw [hsame.isStandby_eq, hsame.activeEligible_eq, hsame.sys_eq, hstandby, heligible, hin]
    rfl
  subst hu
  show execTwinPromote h s = _
  rw [execTwinPromote, State.wcpReq_of_passes _ _ _ _ _ hpass, if_pos hready]

end
end Sys2Proof.Machine
end

section
/-! SUPPORT. O32: the twin opcodes. -/
namespace Sys2Proof.Machine
open Sys2Proof

/-- Settles O32: what each request does, read off its own lemma. -/
theorem twinRequestsComplete : Obligations.TwinRequestsComplete := by
  unfold Obligations.TwinRequestsComplete
  refine ⟨?noCopy, ?copy, ?handover, ?isolate, ?forward, ?join, ?clear, ?promote⟩
  case noCopy =>
    intro s h u hpass hu hnone
    rw [exec_twinStatus hpass hu, State.copyAge, hnone]
    rfl
  case copy =>
    intro s h u c t hpass hu hcopy
    rw [exec_twinStatus hpass hu, State.copyAge, hcopy]
    rfl
  case handover =>
    exact fun s h u hpass hu hactive hfree => ⟨_, exec_twinHandover hpass hu hactive hfree, rfl⟩
  case isolate =>
    exact fun s h k u hpass hu hnamed hown hslots hstandby => exec_twinIsolate_standby hpass hu hnamed hslots hown hstandby
  case forward =>
    intro s h k hpass hnamed hslots hother
    refine ⟨_, exec_twinIsolate_twin hpass rfl hnamed hslots hother, ?_, ?_, ?_⟩
    · exact congrArg (· ++ _) (s.admitted_out _ _ _)
    · exact congrArg (· ++ _) (s.admitted_forwarded _ _ _)
    · exact s.admitted_sys _ _ _
  case join =>
    exact fun s h u hpass hu hisolated => exec_twinJoin hpass hu hisolated
  case clear =>
    intro s h hpass hsuspect htested
    refine ⟨_, exec_twinClearSuspect hpass rfl hsuspect htested, ?_⟩
    rw [(State.reply_same _ _ _ _ _).twin_eq]
    exact ⟨rfl, rfl⟩
  case promote =>
    exact fun s h u hpass hu hstandby heligible hin => exec_twinPromote hpass hu hstandby heligible hin

end Sys2Proof.Machine
end

section
/-! SUPPORT. O1, O2, O3: the block form, the idle step and the next state of every command. -/

namespace Sys2Proof.Machine
open Sys2Proof

/-- Settles O1: on a queue with a front, step is exec by definition. -/
theorem stepRunsTheFrontCommand : Obligations.StepRunsTheFrontCommand := by
  intro s c rest hpending
  simp only [step, hpending]

/-! ### The parts of a tick that find nothing to do -/

theorem State.pollNodes_of_none {s : State} (h : s.est.auth = []) : s.pollNodes = s := by
  rw [State.pollNodes, h]
  rfl

theorem State.lostSync_of_unlocked {s : State} (h : s.net.servo ≠ 2) : s.lostSync = s := if_neg fun hc => h hc.1

theorem State.endVisit_of_none {s : State} (h : s.sys.checkVisit = false) : s.endVisit = s := by simp [State.endVisit, h]

theorem State.cycle_checkVisit (s : State) : s.cycle.sys.checkVisit = s.sys.checkVisit := rfl

theorem State.cycle_bist (s : State) : s.cycle.bist = s.bist := rfl

/-- A tick whose cycle finds no poll due, no Sync to miss, no check visit to end and no thermal hold is that cycle. The tick is unfolded as a
function, as in `State.tick_inv`. -/
theorem State.tick_of_quiet {s v : State} (hpassed : s.cycle.pollNodes.lostSync = v) (hstays : v.endVisit = v)
    (hcold : v.bist.holdAt = none) : s.tick = v := by
  rw [show State.tick = _ from by delta State.tick; rfl]
  extract_lets passed visited
  have hvisited : visited = v := by simp only [visited, show passed = v from hpassed, hstays, ite_self]
  clear_value visited
  rw [hvisited, hcold]

/-- Where no node owes an answer, the servo is not LOCKED, no check visit and no thermal hold stands, a tick is its cycle. -/
theorem State.tick_eq_cycle {s : State} (hauth : s.est.auth = []) (hservo : s.net.servo ≠ 2) (hvisit : s.sys.checkVisit = false)
    (hhold : s.bist.holdAt = none) : s.tick = s.cycle := by
  have hpolled : s.cycle.pollNodes = s.cycle := State.pollNodes_of_none hauth
  have hlocked : s.cycle.lostSync = s.cycle := State.lostSync_of_unlocked hservo
  refine State.tick_of_quiet ?_ (State.endVisit_of_none (s.cycle_checkVisit.trans hvisit)) (s.cycle_bist ▸ hhold)
  rw [hpolled, hlocked]

/-- The nanoseconds of a cycle with the fraction it leaves are those before it with the addend (R409). -/
theorem State.cycle_time {s : State} (hnet : s.netOn = true) :
    s.cycle.now * 4294967296 + s.cycle.frac = s.now * 4294967296 + s.frac + s.net.addend ∧ s.cycle.frac < 4294967296 := by
  simp only [State.cycle, hnet, if_true]
  omega

/-- Settles O2: nothing but the cycle acts in such a tick (`State.tick_eq_cycle`), and a cycle is division with remainder (`State.cycle_time`). -/
theorem idleStepIsOneCycle : Obligations.IdleStepIsOneCycle := by
  intro s hpending hhold hnet hpowered hvisit hauth hservo
  obtain ⟨htime, hfrac⟩ := State.cycle_time hnet
  refine ⟨s.cycle, ?_, htime, hfrac, ?_, rfl, rfl, rfl, rfl, rfl, rfl, hpending⟩
  · simp only [step, hpending, State.tick_eq_cycle hauth hservo hvisit hhold]
  · simp [State.cycle, hpowered]

/-- Settles O3: the meaning of every command is written as a next state (assumption log 6). -/
theorem everyCommandAnswersANextState : Obligations.EveryCommandAnswersANextState := by
  intro c s
  cases c <;> exact ⟨_, rfl⟩

end Sys2Proof.Machine
end

section
/-! SUPPORT. The rules that O35 turns on: what is read back after the write of a controller, what faults, counters and replies leave of the
controllers, and the next state of each command of chapter 15 where it acts. -/

namespace Sys2Proof.Machine
open Sys2Proof

theorem Same.can_eq {t s : State} (g : Same t s) : t.can = s.can := by
  obtain ⟨-, -, -, -, -, -, -, -, -, -, -, -, hcan, -⟩ := g.fields
  exact hcan

theorem Same.ctl_eq {t s : State} (g : Same t s) (c : Nat) : t.ctl c = s.ctl c := by simp only [State.ctl, g.can_eq]

@[simp] theorem State.ctl_setCtl_same (s : State) (c : Nat) (x : CanCtl) : (s.setCtl c x).ctl c = x := by
  by_cases hc : c = 0 <;> simp [State.setCtl, State.ctl, hc]

theorem State.ctl_setCtl_other (s : State) {c d : Nat} (x : CanCtl) (hc : c < 2) (hd : d < 2) (hne : d ≠ c) :
    (s.setCtl c x).ctl d = s.ctl d := by
  obtain rfl | rfl : c = 0 ∨ c = 1 := by omega
  · simp [State.setCtl, State.ctl, hne]
  · obtain rfl : d = 0 := by omega
    rfl

theorem State.setCtl_setCtl (s : State) (c : Nat) (x y : CanCtl) : (s.setCtl c x).setCtl c y = s.setCtl c y := by
  by_cases hc : c = 0 <;> simp [State.setCtl, hc]

section
variable (s : State) (c : Nat)

@[simp] theorem State.inc_ctl (id inst : Nat) : (s.inc id inst).ctl c = s.ctl c := rfl
@[simp] theorem State.raise_ctl (code inst sev : Nat) (data : Bytes) : (s.raise code inst sev data).ctl c = s.ctl c :=
  (s.raise_same code inst sev data).ctl_eq c
@[simp] theorem State.reply_ctl (op : Nat) (h : Hdr) (status : Nat) (body : Bytes) : (s.reply op h status body).ctl c = s.ctl c :=
  (s.reply_same op h status body).ctl_eq c
@[simp] theorem State.admitted_ctl (op : Nat) (h : Hdr) (pl : Bytes) : (s.admitted op h pl).ctl c = s.ctl c :=
  (s.admitted_same op h pl).ctl_eq c

end

/-- Parameters read the applied values, the tables of the running image and the slot. -/
theorem State.par_congr {t s : State} (hparams : t.wcp.params = s.wcp.params) (hsys : t.sys = s.sys) (hupd : t.upd = s.upd) (id inst : Nat) :
    t.par id inst = s.par id inst := by
  simp only [State.par, hparams, hsys, hupd]

@[simp] theorem State.setCtl_par (s : State) (c : Nat) (x : CanCtl) (id inst : Nat) : (s.setCtl c x).par id inst = s.par id inst :=
  State.par_congr (by simp) (by simp) (by simp) id inst

@[simp] theorem State.setCtl_parN (s : State) (c : Nat) (x : CanCtl) (id inst : Nat) : (s.setCtl c x).parN id inst = s.parN id inst := by
  simp only [State.parN, State.setCtl_par]

@[simp] theorem State.setCtl_count (s : State) (c : Nat) (x : CanCtl) (id inst : Nat) : (s.setCtl c x).count id inst = s.count id inst :=
  State.count_congr (s.setCtl_wcp c x) id inst

@[simp] theorem State.inc_par (s : State) (i j id inst : Nat) : (s.inc i j).par id inst = s.par id inst := (s.inc_same i j).par id inst

@[simp] theorem State.inc_parN (s : State) (i j id inst : Nat) : (s.inc i j).parN id inst = s.parN id inst := (s.inc_same i j).parN_eq id inst

/-- What a controller receives for the WSF connections and through the filters is of the parameters alone (R438). -/
theorem State.wsfOfCan_congr {t s : State} (hpar : ∀ id inst, t.par id inst = s.par id inst) (c : Nat) (id : BitVec 32) :
    t.wsfOfCan c id = s.wsfOfCan c id := by
  simp only [State.wsfOfCan, State.consumed, State.wsfEntry, hpar]

theorem State.canFilter_congr {t s : State} (hpar : ∀ id inst, t.par id inst = s.par id inst) (c : Nat) (id : BitVec 32) :
    t.canFilter c id = s.canFilter c id := by
  simp only [State.canFilter, State.parN, hpar]

/-! ### Requests of the hosts (15 R433 to R442) -/

section
variable {s u : State} {h : Hdr} {k : Byte}

theorem exec_canTx {es : List CanEntry} (hpass : s.passes 0x0810 h false [] = true)
    (hu : u = s.admitted 0x0810 h ([k] ++ u8 es.length ++ es.flatMap canBytes)) (hk : k.toNat < 2) (hok : es.all canOk = true)
    (hroom : (s.ctl k.toNat).tx.length + es.length ≤ s.parN 0x8C8 k.toNat) :
    exec (.canTx h k es) s = .next ((u.setCtl k.toNat { s.ctl k.toNat with
      tx := (s.ctl k.toNat).tx ++ es.map fun f => ⟨canClean f, 0, false, false, false⟩ }).reply 0x0810 h 0 (u8 es.length)) := by
  subst hu
  have hpar := (s.admitted_same 0x0810 h ([k] ++ u8 es.length ++ es.flatMap canBytes)).parN_eq 0x8C8 k.toNat
  show execCanTx h k es s = _
  rw [execCanTx, State.wcpReq_of_passes _ _ _ _ _ hpass, if_neg, State.admitted_ctl]
  simp only [hok, hpar, State.admitted_ctl]
  simp
  omega

/-- An abort finds the head first where the head has the handle named. -/
theorem exec_canTxAbort_head {n : BitVec 16} {f : TxFrame} {rest : List TxFrame} (hpass : s.passes 0x0811 h false [] = true)
    (hu : u = s.admitted 0x0811 h ([k, 0] ++ leBytes 2 n.toNat)) (hk : k.toNat < 2) (htx : (s.ctl k.toNat).tx = f :: rest)
    (hn : f.f.handle = n) :
    exec (.canTxAbort h k n) s = .next (State.reply (if f.stage = 0 then
        (u.setCtl k.toNat { s.ctl k.toNat with tx := rest }).canResult k.toNat f 1 false 0
      else u.setCtl k.toNat { s.ctl k.toNat with tx := { f with abort := true } :: rest }) 0x0811 h 0) := by
  subst hu
  show execCanTxAbort h k n s = _
  simp [execCanTxAbort, State.wcpReq_of_passes _ _ _ _ _ hpass, Nat.not_le.mpr hk, htx, hn, List.findIdx_cons]

theorem exec_canTxFlush (hpass : s.passes 0x0812 h false [] = true) (hu : u = s.admitted 0x0812 h [k]) (hk : k.toNat < 2) :
    exec (.canTxFlush h k) s = .next ((u.setCtl k.toNat { s.ctl k.toNat with
        tx := ((s.ctl k.toNat).tx.filter fun f => f.stage != 0).map fun f => { f with abort := true } }).reply 0x0812 h 0
      (u8 ((s.ctl k.toNat).tx.filter fun f => f.stage == 0).length
        ++ ((s.ctl k.toNat).tx.filter fun f => f.stage == 0).flatMap fun f => canBytes f.f)) := by
  subst hu
  show execCanTxFlush h k s = _
  rw [execCanTxFlush, State.wcpReq_of_passes _ _ _ _ _ hpass]
  simp only [if_neg (Nat.not_le.mpr hk), State.admitted_ctl]

theorem exec_canTxResults {m : Byte} (hpass : s.passes 0x0813 h false [] = true) (hu : u = s.admitted 0x0813 h [k, m]) (hk : k.toNat < 2) :
    exec (.canTxResults h k m) s = .next ((u.setCtl k.toNat { s.ctl k.toNat with results := (s.ctl k.toNat).results.drop m.toNat }).reply
      0x0813 h 0 (u8 ((s.ctl k.toNat).results.take m.toNat).length ++ ((s.ctl k.toNat).results.take m.toNat).flatMap fun r =>
        leBytes 2 r.handle.toNat ++ u8 r.result ++ u8 r.flags ++ leBytes 4 r.stamp.toNat)) := by
  subst hu
  show execCanTxResults h k m s = _
  rw [execCanTxResults, State.wcpReq_of_passes _ _ _ _ _ hpass]
  simp only [if_neg (Nat.not_le.mpr hk), State.admitted_ctl]

theorem exec_canRxRead {fifo m : Byte} {x : CanCtl} (hpass : s.passes 0x0814 h false [] = true) (hk : k.toNat < 2)
    (hfifo : fifo = 0 ∨ fifo = 1)
    (hx : x = if fifo = 0 then { s.ctl k.toNat with rx0 := (s.ctl k.toNat).rx0.drop m.toNat }
      else { s.ctl k.toNat with rx1 := (s.ctl k.toNat).rx1.drop m.toNat }) :
    ∃ (u : State) (body : Bytes), exec (.canRxRead h k fifo m) s = .next ((u.setCtl k.toNat x).reply 0x0814 h 0 body) := by
  have hin : ¬ (2 ≤ k.toNat ∨ 2 ≤ fifo.toNat) := by
    obtain rfl | rfl := hfifo <;> simpa using hk
  have hexec : exec (.canRxRead h k fifo m) s = execCanRxRead h k fifo m s := rfl
  rw [execCanRxRead, State.wcpReq_of_passes _ _ _ _ _ hpass] at hexec
  simp only [if_neg hin, State.admitted_ctl] at hexec
  subst hx
  obtain rfl | rfl := hfifo
  · exact ⟨_, _, hexec⟩
  · exact ⟨_, _, hexec⟩

theorem exec_canRecover (hpass : s.passes 0x0815 h false [] = true) (hu : u = s.admitted 0x0815 h [k]) (hk : k.toNat < 2)
    (hoff : (s.ctl k.toNat).off = 2) :
    exec (.canRecover h k) s = .next ((u.setCtl k.toNat { s.ctl k.toNat with off := 3 }).reply 0x0815 h 0) := by
  subst hu
  show execCanRecover h k s = _
  rw [execCanRecover, State.wcpReq_of_passes _ _ _ _ _ hpass]
  simp only [if_neg (Nat.not_le.mpr hk), State.admitted_ctl, hoff, ne_eq, not_true_eq_false, if_false]

theorem exec_canStatus (hpass : s.passes 0x0816 h false [] = true) (hu : u = s.admitted 0x0816 h [k]) (hk : k.toNat < 2) :
    exec (.canStatus h k) s = .next (u.reply 0x0816 h 0 (u32 (u.canStatusWord k.toNat) ++ u8 (min 255 (s.ctl k.toNat).tec)
      ++ u8 (min 255 (s.ctl k.toNat).rec_) ++ u8 (s.ctl k.toNat).tx.length ++ u8 (s.ctl k.toNat).rx0.length
      ++ u8 (s.ctl k.toNat).rx1.length ++ u8 (min 255 (s.ctl k.toNat).delay))) := by
  subst hu
  show execCanStatus h k s = _
  rw [execCanStatus, State.wcpReq_of_passes _ _ _ _ _ hpass]
  simp only [if_neg (Nat.not_le.mpr hk), State.admitted_ctl]

end

/-! ### Events of the bus (15 R428 to R440) -/

section
variable {s : State} {k : Nat}

/-- The error counters of a controller that stays error active move without an event (R440). -/
theorem State.canCount_of_active {f : CanCtl → CanCtl} {x : CanCtl} (hmoved : f (s.ctl k) = x) (hactive : x.passive = false) :
    s.canCount k f = s.setCtl k x := by
  simp [State.canCount, hmoved, hactive]

theorem State.canResult_of_room {t : TxFrame} {result : Nat} {late : Bool} {stamp : BitVec 32} (hroom : (s.ctl k).results.length < 64) :
    s.canResult k t result late stamp = s.setCtl k { s.ctl k with
      results := (s.ctl k).results ++ [⟨t.f.handle, result, ofBits [late, t.lost, t.err], stamp⟩] } := if_pos hroom

/-- The FIFO head moves where no PDU is in transmission and none waits that would go ahead of it (R433). -/
theorem exec_canTxDone_head {f : TxFrame} {rest : List TxFrame} {o : CanOutcome} (hk : k < 2) (hon : s.canMonitor k = false)
    (hoff : (s.ctl k).off = 0) (hidle : (s.ctl k).wsfTx = none) (hturn : (s.ctl k).wsf = [] ∨ f.stage ≠ 0) (htx : (s.ctl k).tx = f :: rest) :
    exec (.canTxDone k o) s = .next (s.headOutcome k f o) := by
  refine congrArg Host.Outcome.next ((if_neg (by simp [hon, hoff, hk])).trans ?_)
  simp only [hidle, Option.bind_none, htx]
  cases hwsf : (s.ctl k).wsf with
  | nil => rfl
  | cons p l => exact if_pos (hturn.resolve_left (by simp [hwsf]))

/-- A PDU that waits is offered where the FIFO is empty. -/
theorem exec_canTxDone_wsf {n : Nat} {f : CanEntry} {l : SMap CanEntry} {o : CanOutcome} (hk : k < 2) (hon : s.canMonitor k = false)
    (hoff : (s.ctl k).off = 0) (hidle : (s.ctl k).wsfTx = none) (hwsf : (s.ctl k).wsf = (n, f) :: l) (htx : (s.ctl k).tx = []) :
    exec (.canTxDone k o) s = .next ((s.setCtl k { s.ctl k with wsfTx := some n }).wsfOutcome k n f o) := by
  refine congrArg Host.Outcome.next ((if_neg (by simp [hon, hoff, hk])).trans ?_)
  simp only [hidle, Option.bind_none, htx, hwsf]

/-- A whole frame of no WSF connection whose filter says FIFO 0 reaches it, and takes the receive error counter down (R438 to R440). -/
theorem exec_canRxFrame_stored {f : CanEntry} {sof : BitVec 32} (hk : k < 2) (hoff : (s.ctl k).off = 0) (hwsf : s.wsfOfCan k f.id = none)
    (hrec : (s.ctl k).rec_ < 128) (htec : (s.ctl k).tec < 128) (hfilter : s.canFilter k f.id = 1) (hroom : (s.ctl k).rx0.length < 64) :
    exec (.canRxFrame k f sof .none) s = .next ((s.inc 0x8E1 k).setCtl k { s.ctl k with
      rec_ := (s.ctl k).rec_ - 1, rx0 := (s.ctl k).rx0 ++ [(sof, f)] }) := by
  have hdown : (if 127 < (s.ctl k).rec_ then 127 else (s.ctl k).rec_ - 1) = (s.ctl k).rec_ - 1 := if_neg (by omega)
  have hactive : CanCtl.passive { s.ctl k with rec_ := (s.ctl k).rec_ - 1 } = false := by
    simp only [CanCtl.passive, Bool.or_eq_false_iff, decide_eq_false_iff_not]
    omega
  have hcounted : ((s.inc 0x8E1 k).canCount k fun x => { x with rec_ := if 127 < x.rec_ then 127 else x.rec_ - 1 })
      = (s.inc 0x8E1 k).setCtl k { s.ctl k with rec_ := (s.ctl k).rec_ - 1 } :=
    State.canCount_of_active (by rw [State.inc_ctl, hdown]) hactive
  have hpar : ∀ id inst, ((s.inc 0x8E1 k).setCtl k { s.ctl k with rec_ := (s.ctl k).rec_ - 1 }).par id inst = s.par id inst := by simp
  refine congrArg Host.Outcome.next ((if_neg (by simp [hoff, hk])).trans ?_)
  simp only [hcounted, State.wsfOfCan_congr hpar, hwsf, State.canStore, State.canFilter_congr hpar, hfilter, State.ctl_setCtl_same, hroom,
    if_true, State.setCtl_setCtl]

/-- A frame that meets an error takes the counter up (R440); no event while the controller stays error active. -/
theorem exec_canRxFrame_error {f : CanEntry} {sof : BitVec 32} (hk : k < 2) (hoff : (s.ctl k).off = 0) (hon : s.canMonitor k = false)
    (hrec : (s.ctl k).rec_ < 127) :
    ∃ t, exec (.canRxFrame k f sof .error) s = .next t ∧ (t.ctl k).rec_ = (s.ctl k).rec_ + 1
      ∧ t.count 0x8E3 k = min 0xFFFFFFFF (s.count 0x8E3 k + 1) ∧ t.fm = s.fm := by
  have hup : min 255 ((s.ctl k).rec_ + 1) = (s.ctl k).rec_ + 1 := by omega
  have hquiet : ¬ ((!(s.ctl k).passive) = true ∧ CanCtl.passive { s.ctl k with rec_ := (s.ctl k).rec_ + 1 } = true) := by
    simp only [CanCtl.passive, Bool.not_eq_true', Bool.or_eq_false_iff, Bool.or_eq_true, decide_eq_false_iff_not, decide_eq_true_eq]
    omega
  have hcounted : ((s.inc 0x8E3 k).canCount k fun x => { x with rec_ := min 255 (x.rec_ + 1) })
      = (s.inc 0x8E3 k).setCtl k { s.ctl k with rec_ := (s.ctl k).rec_ + 1 } := by
    simp only [State.canCount, State.inc_ctl, State.ctl_setCtl_same, hup]
    exact if_neg hquiet
  refine ⟨_, congrArg Host.Outcome.next (if_neg (by simp [hoff, hk])), ?_⟩
  simp only [State.rxError, hon, Bool.false_eq_true, if_false, hcounted]
  simp

/-- The head that leaves takes nothing of the error state with it. -/
theorem State.canLeave_errors (t : TxFrame) (result : Nat) (late : Bool) (stamp : BitVec 32) :
    ((s.canLeave k t result late stamp).ctl k).off = (s.ctl k).off ∧ ((s.canLeave k t result late stamp).ctl k).tec = (s.ctl k).tec := by
  simp only [State.canLeave, State.canResult]
  split <;> simp

/-- Bus-off (R440, Table 15.4) leaves the controller's state and counter as it set them, whatever becomes of its FIFO head. -/
theorem State.goBusOff_ctl :
    ((s.goBusOff k).ctl k).off = (if s.parN 0x8C7 k = 1 then 3 else 2) ∧ ((s.goBusOff k).ctl k).tec = 256 := by
  simp only [State.goBusOff, State.raise_ctl]
  cases (s.ctl k).tx with
  | nil => simp
  | cons t rest =>
    by_cases habort : t.abort = true
    · simp only [habort, if_true, State.canLeave_errors]
      simp
    · simp [habort]

theorem exec_canBusOff (hk : k < 2) (hon : s.canMonitor k = false) (hoff : (s.ctl k).off = 0) :
    exec (.canBusOff k) s = .next (s.goBusOff k) := congrArg Host.Outcome.next (if_neg (by simp [hon, hoff, hk]))

theorem exec_canRecovered (hk : k < 2) (hoff : (s.ctl k).off = 3) :
    exec (.canRecovered k) s = .next ((s.setCtl k { s.ctl k with off := 0, tec := 0, rec_ := 0 }).raise 0x9003 k 0) :=
  congrArg Host.Outcome.next (if_pos ⟨hk, hoff⟩)

end
end Sys2Proof.Machine
end

section
/-! SUPPORT. O35: the CAN FD controllers. -/

namespace Sys2Proof.Machine
open Sys2Proof

/-- Settles O35: each clause is the command's own next state above (`exec_canTx` to `exec_canRecovered`), read back at its controller. The steps
of the error counters are those of assumption log 143. -/
theorem canComplete : Obligations.CanComplete := by
  unfold Obligations.CanComplete
  refine ⟨?tx, ?abortWaiting, ?abortSent, ?flush, ?results, ?read0, ?read1, ?recover, ?status, ?head, ?wsf, ?stored, ?error, ?busOff, ?recovered⟩
  case tx =>
    exact fun s h k es hpass hk hok hroom => ⟨_, exec_canTx hpass rfl hk hok hroom, by simp⟩
  case abortWaiting =>
    intro s h k n f rest hpass hk htx hn hstage hroom
    refine ⟨_, exec_canTxAbort_head hpass rfl hk htx hn, ?_⟩
    rw [if_pos hstage, State.canResult_of_room (by simpa using hroom)]
    simp [hn]
  case abortSent =>
    intro s h k n f rest hpass hk htx hn hstage
    refine ⟨_, exec_canTxAbort_head hpass rfl hk htx hn, ?_⟩
    rw [if_neg hstage]
    simp
  case flush =>
    exact fun s h k hpass hk => ⟨_, exec_canTxFlush hpass rfl hk, by simp⟩
  case results =>
    exact fun s h k m u hpass hu hk => exec_canTxResults hpass hu hk
  case read0 =>
    intro s h k m hpass hk
    obtain ⟨u, body, hexec⟩ := exec_canRxRead (m := m) hpass hk (.inl rfl) rfl
    exact ⟨_, hexec, by simp⟩
  case read1 =>
    intro s h k m hpass hk
    obtain ⟨u, body, hexec⟩ := exec_canRxRead (m := m) hpass hk (.inr rfl) rfl
    exact ⟨_, hexec, by simp⟩
  case recover =>
    exact fun s h k hpass hk hoff => ⟨_, exec_canRecover hpass rfl hk hoff, by simp⟩
  case status =>
    intro s h k u x hpass hu hk hx
    rw [exec_canStatus hpass hu hk, hx]
  case head =>
    exact fun s k f rest o hk hon hoff hidle hturn htx => exec_canTxDone_head hk hon hoff hidle hturn htx
  case wsf =>
    exact fun s k n f l o hk hon hoff hidle hwsf htx => exec_canTxDone_wsf hk hon hoff hidle hwsf htx
  case stored =>
    exact fun s k f sof hk hoff hwsf hrec htec hfilter hroom =>
      ⟨_, exec_canRxFrame_stored hk hoff hwsf hrec htec hfilter hroom, by simp⟩
  case error =>
    exact fun s k f sof hk hoff hon hrec => exec_canRxFrame_error hk hoff hon hrec
  case busOff =>
    intro s k hk hon hoff
    exact ⟨_, exec_canBusOff hk hon hoff, State.goBusOff_ctl.1, State.goBusOff_ctl.2, State.raise_waits _ _ _ _ _ (by decide)⟩
  case recovered =>
    exact fun s k hk hoff => ⟨_, exec_canRecovered hk hoff, by simp⟩

end Sys2Proof.Machine
end

section
/-! SUPPORT. What a command of a part leaves alone (State.frame): one lemma per operation of the model, in the order of the model's files. -/

namespace Sys2Proof.Machine
open Sys2Proof

/-- What a command of a part leaves alone, and the applied parameters. -/
def State.frame (s : State) (p : Part) : State × SMap Bytes := (s.outside p, s.wcp.params)

theorem State.frame_eq_iff {t s : State} {p : Part} :
    t.frame p = s.frame p ↔ t.outside p = s.outside p ∧ t.wcp.params = s.wcp.params := Prod.mk.injEq _ _ _ _ ▸ Iff.rfl

/-- What leaves all that is kept alone leaves alone what any part does. -/
theorem State.frame_of_kept {t s : State} (hkept : t.kept = s.kept) (hparams : t.wcp.params = s.wcp.params) (p : Part) :
    t.frame p = s.frame p := by
  simp only [State.frame, State.outside, hkept, hparams]

theorem Same.frame_eq {t s : State} (g : Same t s) (p : Part) : t.frame p = s.frame p := State.frame_of_kept g.1 g.2.1 p

section
variable {t s : State}

theorem State.frame_timedAxes (h : t.frame .axes = s.frame .axes) : t.frame .timedAxes = s.frame .timedAxes :=
  congrArg (fun x : State × SMap Bytes => ({ x.1 with now := 0, sys := { x.1.sys with rtc := 0 } }, x.2)) h

theorem State.frame_timedField (h : t.frame .field = s.frame .field) : t.frame .timedField = s.frame .timedField :=
  congrArg (fun x : State × SMap Bytes => ({ x.1 with now := 0, sys := { x.1.sys with rtc := 0 } }, x.2)) h

theorem State.frame_timedEst (h : t.frame .est = s.frame .est) : t.frame .timedEst = s.frame .timedEst :=
  congrArg (fun x : State × SMap Bytes => ({ x.1 with now := 0, sys := { x.1.sys with rtc := 0 } }, x.2)) h

theorem State.frame_timedNet (h : t.frame .net = s.frame .net) : t.frame .timedNet = s.frame .timedNet :=
  congrArg (fun x : State × SMap Bytes => ({ x.1 with now := 0, free := 0, sys := { x.1.sys with rtc := 0 } }, x.2)) h

/-- The parts that a command of a channel works on together. -/
def State.besidesChannel (x : State × SMap Bytes) : State × SMap Bytes :=
  ({ x.1 with psi := {}, loop := {}, prof := {}, est := {}, rings := {} }, x.2)

theorem State.frame_channel_of_stage (h : t.frame .stage = s.frame .stage) : t.frame .channel = s.frame .channel :=
  congrArg State.besidesChannel h

theorem State.frame_channel_of_axes (h : t.frame .axes = s.frame .axes) : t.frame .channel = s.frame .channel :=
  congrArg State.besidesChannel h

theorem State.frame_channel_of_est (h : t.frame .est = s.frame .est) : t.frame .channel = s.frame .channel :=
  congrArg State.besidesChannel h

theorem State.frame_channel_of_rings (h : t.frame .rings = s.frame .rings) : t.frame .channel = s.frame .channel :=
  congrArg State.besidesChannel h

end

/-! ### Folds, branches and requests -/

@[simp] theorem State.frame_ite (c : Prop) [Decidable c] (t u : State) (p : Part) :
    (if c then t else u).frame p = if c then t.frame p else u.frame p := apply_ite (State.frame · p) _ _ _

@[simp] theorem State.foldl_frame {α : Type} {f : State → α → State} {p : Part} (hf : ∀ s a, (f s a).frame p = s.frame p) (l : List α)
    (s : State) : (l.foldl f s).frame p = s.frame p := foldl_view (State.frame · p) hf l s

/-- A request whose meaning keeps to a part does so whatever the checks decide. -/
@[simp] theorem State.wcpRun_frame (s : State) (op : Nat) (h : Hdr) (pl : Bytes) (energise : Bool) (blocks : List Nat) {body : State → State}
    {p : Part} (hb : ∀ u, (body u).frame p = u.frame p) : (s.wcpRun op h pl energise blocks body).frame p = s.frame p := by
  obtain g | ⟨u, hu, g | g⟩ := State.wcpRun_cases s op h pl energise blocks body
  · exact g.frame_eq p
  · rw [g]; exact (hb u).trans (hu.frame_eq p)
  · rw [g]; exact (((State.guestOut_same _).frame_eq p).trans (hb u)).trans (hu.frame_eq p)

@[simp] theorem State.wcpReq_frame (s : State) (op : Nat) (h : Hdr) (pl : Bytes) {body : State → State} {p : Part}
    (hb : ∀ u, (body u).frame p = u.frame p) : (s.wcpReq op h pl body).frame p = s.frame p := s.wcpRun_frame op h pl false [] hb

/-! ### Protocol, recorder and fault manager: outside every part -/

section
variable (s : State) (p : Part)

@[simp] theorem State.incBy_frame (id inst n) : (s.incBy id inst n).frame p = s.frame p := (s.incBy_same id inst n).frame_eq p
@[simp] theorem State.inc_frame (id inst) : (s.inc id inst).frame p = s.frame p := (s.inc_same id inst).frame_eq p
@[simp] theorem State.emit_frame (o) : (s.emit o).frame p = s.frame p := (s.emit_same o).frame_eq p
@[simp] theorem State.setSess_frame (x) : (s.setSess x).frame p = s.frame p := (s.setSess_same x).frame_eq p
@[simp] theorem State.updSess_frame (id f) : (s.updSess id f).frame p = s.frame p := (s.updSess_same id f).frame_eq p
@[simp] theorem State.post_frame (k) : (s.post k).frame p = s.frame p := (s.post_same k).frame_eq p
@[simp] theorem State.sendBatch_frame (id b) : (s.sendBatch id b).frame p = s.frame p := (s.sendBatch_same id b).frame_eq p
@[simp] theorem State.closeBatch_frame (id) : (s.closeBatch id).frame p = s.frame p := (s.closeBatch_same id).frame_eq p
@[simp] theorem State.fbPush_frame (type time payload) : (s.fbPush type time payload).frame p = s.frame p :=
  (s.fbPush_same type time payload).frame_eq p
@[simp] theorem State.fbEvent_frame (kind data) : (s.fbEvent kind data).frame p = s.frame p := (s.fbEvent_same kind data).frame_eq p
@[simp] theorem State.fbTrigger_frame (seq code) : (s.fbTrigger seq code).frame p = s.frame p := (s.fbTrigger_same seq code).frame_eq p
@[simp] theorem State.record_frame (f) : (s.record f).frame p = s.frame p := (s.record_same f).frame_eq p
@[simp] theorem State.raiseWith_frame (code inst sev data parent strings) :
    (s.raiseWith code inst sev data parent strings).frame p = s.frame p := (s.raiseWith_same code inst sev data parent strings).frame_eq p
@[simp] theorem State.raise_frame (code inst sev data) : (s.raise code inst sev data).frame p = s.frame p :=
  (s.raise_same code inst sev data).frame_eq p
@[simp] theorem State.complete_frame (op status result) : (s.complete op status result).frame p = s.frame p :=
  (s.complete_same op status result).frame_eq p
@[simp] theorem State.reply_frame (op h status body) : (s.reply op h status body).frame p = s.frame p :=
  (s.reply_same op h status body).frame_eq p
@[simp] theorem State.fail_frame (op h status detail aux) : (s.fail op h status detail aux).frame p = s.frame p :=
  (s.fail_same op h status detail aux).frame_eq p
@[simp] theorem State.failAll_frame (op h pl status detail aux) : (s.failAll op h pl status detail aux).frame p = s.frame p :=
  (s.failAll_same op h pl status detail aux).frame_eq p
@[simp] theorem State.accept_frame (h) : (s.accept h).frame p = s.frame p := (s.accept_same h).frame_eq p
@[simp] theorem State.refuse_frame (op h pl v) : (s.refuse op h pl v).frame p = s.frame p := (s.refuse_same op h pl v).frame_eq p
@[simp] theorem State.enqueue_frame (w) : (s.enqueue w).frame p = s.frame p := (s.enqueue_same w).frame_eq p

@[simp] theorem State.withWcp_frame (w : WcpSt) (hw : w.params = s.wcp.params) : ({ s with wcp := w } : State).frame p = s.frame p :=
  State.frame_of_kept (t := { s with wcp := w }) (s := s) rfl hw p
@[simp] theorem State.withRecd_frame (r : RecSt) : ({ s with recd := r } : State).frame p = s.frame p := State.frame_of_kept rfl rfl p
@[simp] theorem State.withOut_frame (o : List Out) : ({ s with out := o } : State).frame p = s.frame p := State.frame_of_kept rfl rfl p

/-! ### Elapsed time -/

@[simp] theorem State.advanceTo_frame_clock (t) : (s.advanceTo t).frame .clock = s.frame .clock := rfl
@[simp] theorem State.advanceTo_frame_timedAxes (t) : (s.advanceTo t).frame .timedAxes = s.frame .timedAxes := rfl
@[simp] theorem State.advanceTo_frame_timedField (t) : (s.advanceTo t).frame .timedField = s.frame .timedField := rfl
@[simp] theorem State.advanceTo_frame_timedEst (t) : (s.advanceTo t).frame .timedEst = s.frame .timedEst := rfl
@[simp] theorem State.advanceTo_frame_timedNet (t) : (s.advanceTo t).frame .timedNet = s.frame .timedNet := rfl

/-! ### Recorder and flight buffer (chapter 18) -/

@[simp] theorem State.setPart_frame (k x) : (s.setPart k x).frame p = s.frame p := s.withRecd_frame p _
@[simp] theorem State.updFb_frame (f) : (s.updFb f).frame p = s.frame p := s.withRecd_frame p _
@[simp] theorem State.setReplay_frame (r) : (s.setReplay r).frame p = s.frame p := s.withRecd_frame p _

@[simp] theorem State.copySafe_frame (b) : (s.copySafe b).frame p = s.frame p := by
  simp only [State.copySafe]
  (repeat' split) <;> simp

@[simp] theorem State.copyParent_frame (parent) : (s.copyParent parent).frame p = s.frame p := by
  simp only [State.copyParent]
  (repeat' split) <;> simp

@[simp] theorem State.retire_frame (r) : (s.retire r).frame p = s.frame p := by
  simp only [State.retire, State.frame_ite, State.raise_frame, State.withRecd_frame, State.inc_frame, State.setPart_frame, ite_self]

@[simp] theorem State.writeRec_frame (r good) : (s.writeRec r good).frame p = s.frame p := by
  simp only [State.writeRec]
  (repeat' split) <;> simp

@[simp] theorem State.writeAudit_frame : s.writeAudit.frame p = s.frame p := by
  simp only [State.writeAudit]
  (repeat' split) <;> simp

@[simp] theorem State.clearParts_frame (ps users) : (s.clearParts ps users).frame p = s.frame p := by simp [State.clearParts]

@[simp] theorem State.dropClear_frame : s.dropClear.frame p = s.frame p := by
  simp only [State.dropClear]
  split <;> simp

@[simp] theorem State.fbRelease_frame : s.fbRelease.frame p = s.frame p := by simp [State.fbRelease]

@[simp] theorem State.replayRec_frame (b) : (s.replayRec b).frame p = s.frame p := by simp [State.replayRec]

/-! ### Reception (chapter 4) -/

@[simp] theorem State.takeRequest_frame (h op pl) : (s.takeRequest h op pl).frame p = s.frame p := by
  unfold State.takeRequest
  (repeat' split) <;> simp

@[simp] theorem State.assemble0_frame (h op pl) : (s.assemble0 h op pl).frame p = s.frame p := by
  simp only [State.assemble0]
  split <;> simp

@[simp] theorem State.assemble_frame (h op pl) : (s.assemble h op pl).frame p = s.frame p := by
  unfold State.assemble
  (repeat' split) <;> simp

@[simp] theorem State.receive_frame (t peer bs) : (s.receive t peer bs).frame p = s.frame p := by
  simp only [State.receive]
  (repeat' split) <;> simp

@[simp] theorem State.datagram_frame (t peer key offset more bytes) : (s.datagram t peer key offset more bytes).frame p = s.frame p := by
  simp only [State.datagram]
  (repeat' split) <;> simp

@[simp] theorem State.dropFrame_frame (f) : (s.dropFrame f).frame p = s.frame p := by simp [State.dropFrame]

@[simp] theorem State.ethIn_frame (f : EthIn) {act : State → State} (ha : ∀ u, (act u).frame p = u.frame p) :
    (s.ethIn f act).frame p = s.frame p := by simp [State.ethIn, ha]

end
end Sys2Proof.Machine
end

section
/-! SUPPORT. What the operations of each part leave alone (State.frame), part by part. A proof by computation is written (rfl): simp then also
uses the lemma on the step of a fold. -/

namespace Sys2Proof.Machine
open Sys2Proof

section
variable (s : State)

/-! ### A part written as a whole -/

@[simp] theorem State.withProf_frame (x : ProfSt) : ({ s with prof := x } : State).frame .axes = s.frame .axes := (rfl)
@[simp] theorem State.withFio_frame (x : FioSt) : ({ s with fio := x } : State).frame .field = s.frame .field := (rfl)
@[simp] theorem State.withTwin_frame (x : TwinSt) : ({ s with twin := x } : State).frame .twin = s.frame .twin := (rfl)
@[simp] theorem State.withEst_frame (x : EstSt) : ({ s with est := x } : State).frame .est = s.frame .est := (rfl)
@[simp] theorem State.withPsi_frame (x : PsiSt) : ({ s with psi := x } : State).frame .stage = s.frame .stage := (rfl)
@[simp] theorem State.withSafe_frame (x : SafeSt) : ({ s with safe := x } : State).frame .safe = s.frame .safe := (rfl)
@[simp] theorem State.withUpd_frame (x : UpdSt) : ({ s with upd := x } : State).frame .upd = s.frame .upd := (rfl)
@[simp] theorem State.withBist_frame (x : BistSt) : ({ s with bist := x } : State).frame .bist = s.frame .bist := (rfl)
@[simp] theorem State.withNet_frame (x : NetSt) : ({ s with net := x } : State).frame .net = s.frame .net := (rfl)

/-! ### CAN FD controllers (chapter 15) -/

@[simp] theorem State.setCtl_frame (c x) : (s.setCtl c x).frame .can = s.frame .can := by
  unfold State.setCtl
  split <;> rfl

@[simp] theorem State.canResult_frame (c t result late stamp) : (s.canResult c t result late stamp).frame .can = s.frame .can := by
  simp [State.canResult]

@[simp] theorem State.canLeave_frame (c t result late stamp) : (s.canLeave c t result late stamp).frame .can = s.frame .can := by
  simp [State.canLeave]

@[simp] theorem State.goBusOff_frame (c) : (s.goBusOff c).frame .can = s.frame .can := by
  simp only [State.goBusOff]
  split <;> simp

@[simp] theorem State.canCount_frame (c f) : (s.canCount c f).frame .can = s.frame .can := by simp [State.canCount]
@[simp] theorem State.canSent_frame (c f) : (s.canSent c f).frame .can = s.frame .can := by simp [State.canSent]
@[simp] theorem State.keepDelay_frame (c f n) : (s.keepDelay c f n).frame .can = s.frame .can := by simp [State.keepDelay]
@[simp] theorem State.headSent_frame (c t stamp n) : (s.headSent c t stamp n).frame .can = s.frame .can := by simp [State.headSent]
@[simp] theorem State.headFailed_frame (c t) : (s.headFailed c t).frame .can = s.frame .can := by simp [State.headFailed]
@[simp] theorem State.txError_frame (c noAck) : (s.txError c noAck).frame .can = s.frame .can := by simp [State.txError]
@[simp] theorem State.tdcRange_frame (c n) : (s.tdcRange c n).frame .can = s.frame .can := by simp [State.tdcRange]
@[simp] theorem State.headError_frame (c t noAck) : (s.headError c t noAck).frame .can = s.frame .can := by simp [State.headError]

@[simp] theorem State.wsfOutcome_frame (c conn f o) : (s.wsfOutcome c conn f o).frame .can = s.frame .can := by
  cases o <;> simp [State.wsfOutcome]

@[simp] theorem State.headOutcome_frame (c t o) : (s.headOutcome c t o).frame .can = s.frame .can := by
  cases o <;> simp [State.headOutcome]

/-! ### Generators and axes (chapter 9) -/

@[simp] theorem State.setGen_frame (g x) : (s.setGen g x).frame .axes = s.frame .axes := by
  unfold State.setGen
  split <;> rfl

@[simp] theorem State.updGen_frame (g f) : (s.updGen g f).frame .axes = s.frame .axes := s.setGen_frame g _
@[simp] theorem State.setAxis_frame (a x) : (s.setAxis a x).frame .axes = s.frame .axes := (rfl)
@[simp] theorem State.updAxis_frame (a f) : (s.updAxis a f).frame .axes = s.frame .axes := (rfl)
@[simp] theorem State.zeroGen_frame (c) : (s.zeroGen c).frame .axes = s.frame .axes := s.updGen_frame c _
@[simp] theorem State.retarget_frame (g tgt) : (s.retarget g tgt).frame .axes = s.frame .axes := by simp [State.retarget]
@[simp] theorem State.estop_frame (g) : (s.estop g).frame .axes = s.frame .axes := by simp [State.estop]

@[simp] theorem State.endRuns_frame (a) : (s.endRuns a).frame .axes = s.frame .axes :=
  ((s.endRuns_same a).frame_eq .axes).trans (s.setAxis_frame a _)

@[simp] theorem State.energise_frame (a) : (s.energise a).frame .axes = s.frame .axes := s.updAxis_frame a _
@[simp] theorem State.deenergise_frame (a) : (s.deenergise a).frame .axes = s.frame .axes := by simp [State.deenergise]
@[simp] theorem State.homeEvent_frame (a r) : (s.homeEvent a r).frame .axes = s.frame .axes := by simp [State.homeEvent]

@[simp] theorem State.stallAct_frame (a) : (s.stallAct a).frame .axes = s.frame .axes := by
  simp only [State.stallAct]
  (repeat' split) <;> simp

@[simp] theorem State.stall_frame (a) : (s.stall a).frame .axes = s.frame .axes := by
  simp only [State.stall]
  (repeat' split) <;> simp

@[simp] theorem State.reading_frame (a ratio) : (s.reading a ratio).frame .axes = s.frame .axes := by
  simp only [State.reading]
  (repeat' split) <;> simp

/-! ### Field inputs and outputs (chapter 16) -/

@[simp] theorem State.setDi_frame (n x) : (s.setDi n x).frame .field = s.frame .field := (rfl)
@[simp] theorem State.updDo_frame (n f) : (s.updDo n f).frame .field = s.frame .field := (rfl)
@[simp] theorem State.clearDo_frame (n) : (s.clearDo n).frame .field = s.frame .field := (rfl)

@[simp] theorem State.stampEdge_frame (n v) : (s.stampEdge n v).frame .field = s.frame .field := by
  simp only [State.stampEdge, State.frame_ite, State.raise_frame, State.withFio_frame, State.inc_frame, ite_self]

@[simp] theorem State.doOverTemp_frame (n) : (s.doOverTemp n).frame .field = s.frame .field := by simp [State.doOverTemp]

/-! ### The twin link (chapter 13) -/

@[simp] theorem State.heard_frame (bulk f) : (s.heard bulk f).frame .twin = s.frame .twin := (rfl)

@[simp] theorem State.badLink_frame : s.badLink.frame .twin = s.frame .twin := by
  simp only [State.badLink, State.frame_ite, State.raise_frame, State.inc_frame, State.withTwin_frame, ite_self]

@[simp] theorem State.onLink_frame (bulk f) {act : State → State} (ha : ∀ u, (act u).frame .twin = u.frame .twin) :
    (s.onLink bulk f act).frame .twin = s.frame .twin := by simp [State.onLink, ha]

@[simp] theorem State.startArb_frame (mismatch) : (s.startArb mismatch).frame .twin = s.frame .twin :=
  (State.withTwin_frame _ _).trans (s.inc_frame _ _ _)

@[simp] theorem State.sendDict_frame (p) : s.sendDict.frame p = s.frame p := by simp [State.sendDict]

/-! ### Estimators and impedance runs (chapters 10 and 11) -/

@[simp] theorem State.updCellE_frame (k f) : (s.updCellE k f).frame .est = s.frame .est := (rfl)
@[simp] theorem State.setImp_frame (r x) : (s.setImp r x).frame .est = s.frame .est := (rfl)
@[simp] theorem State.updImp_frame (r f) : (s.updImp r f).frame .est = s.frame .est := (rfl)
@[simp] theorem State.startRun_frame (r) : (s.startRun r).frame .est = s.frame .est := (rfl)

@[simp] theorem State.joinWindow_frame (r w i k) : (s.joinWindow r w i k).frame .est = s.frame .est := by
  simp only [State.joinWindow]
  split <;> simp

@[simp] theorem State.runDone_frame (q) : (s.runDone q).frame .est = s.frame .est := by simp [State.runDone]

@[simp] theorem State.runEnded_frame (r failed) : (s.runEnded r failed).frame .est = s.frame .est := by simp [State.runEnded]

/-! ### Rings (chapters 5 and 6) -/

@[simp] theorem State.setRing_frame (r x) : (s.setRing r x).frame .rings = s.frame .rings := (rfl)
@[simp] theorem State.updRing_frame (r f) : (s.updRing r f).frame .rings = s.frame .rings := (rfl)
@[simp] theorem State.setNode_frame (k x) : (s.setNode k x).frame .rings = s.frame .rings := (rfl)
@[simp] theorem State.updNode_frame (k f) : (s.updNode k f).frame .rings = s.frame .rings := (rfl)

@[simp] theorem State.sendFrame_frame (r q type addr tag data) (p : Part) : (s.sendFrame r q type addr tag data).frame p = s.frame p := by
  unfold State.sendFrame
  (repeat' split) <;> simp

@[simp] theorem State.command_frame (r node type data) : (s.command r node type data).frame .rings = s.frame .rings := by simp [State.command]
@[simp] theorem State.sendCmd_frame (r node type data h arg) : (s.sendCmd r node type data h arg).frame .rings = s.frame .rings := by
  simp [State.sendCmd]

@[simp] theorem State.hostCmd_frame (r node type : Nat) (data : Bytes) (h : Hdr) (arg : Nat) {refuse : State → State}
    (hr : ∀ u, (refuse u).frame .rings = u.frame .rings) : (s.hostCmd r node type data h arg refuse).frame .rings = s.frame .rings := by
  simp [State.hostCmd, hr]

@[simp] theorem State.owStart_frame (nk) : (s.owStart nk).frame .rings = s.frame .rings := by
  simp only [State.owStart]
  (repeat' split) <;> simp

@[simp] theorem State.sendPairMask_frame (nk) : (s.sendPairMask nk).frame .rings = s.frame .rings := s.sendCmd_frame _ _ _ _ _ _
@[simp] theorem State.writeNode_frame (r node) : (s.writeNode r node).frame .rings = s.frame .rings := by simp [State.writeNode]

/-! ### Power stages (chapter 8) and the channels they stand in -/

@[simp] theorem State.setCh_frame (c x) : (s.setCh c x).frame .stage = s.frame .stage := (rfl)
@[simp] theorem State.updCh_frame (c f) : (s.updCh c f).frame .stage = s.frame .stage := (rfl)
@[simp] theorem State.updLane_frame (c f) : (s.updLane c f).frame .loop = s.frame .loop := (rfl)
@[simp] theorem State.setLane_frame (c x) : (s.setLane c x).frame .loop = s.frame .loop := (rfl)

@[simp] theorem State.answerAll_frame (op h l) (p : Part) : (s.answerAll op h l).frame p = s.frame p := by simp [State.answerAll]
@[simp] theorem State.startDone_frame (r) : (s.startDone r).frame .stage = s.frame .stage := by simp [State.startDone]
@[simp] theorem State.stopDone_frame (r) : (s.stopDone r).frame .stage = s.frame .stage := by simp [State.stopDone]
@[simp] theorem State.startStatus_frame (c v) : (s.startStatus c v).frame .stage = s.frame .stage := by simp [State.startStatus]
@[simp] theorem State.stopStatus_frame (c how) : (s.stopStatus c how).frame .stage = s.frame .stage := by simp [State.stopStatus]

theorem State.clearFault_frame (c) : (s.clearFault c).2.frame .stage = s.frame .stage := by
  simp only [State.clearFault]
  (repeat' split) <;> rfl

@[simp] theorem State.updCh_frame_channel (c f) : (s.updCh c f).frame .channel = s.frame .channel := (rfl)
@[simp] theorem State.updLane_frame_channel (c f) : (s.updLane c f).frame .channel = s.frame .channel := (rfl)

@[simp] theorem State.zeroGen_frame_channel (c) : (s.zeroGen c).frame .channel = s.frame .channel :=
  State.frame_channel_of_axes (s.zeroGen_frame c)

@[simp] theorem State.retarget_frame_channel (g tgt) : (s.retarget g tgt).frame .channel = s.frame .channel :=
  State.frame_channel_of_axes (s.retarget_frame g tgt)

@[simp] theorem State.startDone_frame_channel (r) : (s.startDone r).frame .channel = s.frame .channel :=
  State.frame_channel_of_stage (s.startDone_frame r)

@[simp] theorem State.startStatus_frame_channel (c v) : (s.startStatus c v).frame .channel = s.frame .channel :=
  State.frame_channel_of_stage (s.startStatus_frame c v)

@[simp] theorem State.stopStatus_frame_channel (c how) : (s.stopStatus c how).frame .channel = s.frame .channel :=
  State.frame_channel_of_stage (s.stopStatus_frame c how)

@[simp] theorem State.updImp_frame_channel (r f) : (s.updImp r f).frame .channel = s.frame .channel := (rfl)

@[simp] theorem State.runEnded_frame_channel (r failed) : (s.runEnded r failed).frame .channel = s.frame .channel :=
  State.frame_channel_of_est (s.runEnded_frame r failed)

@[simp] theorem State.writeNode_frame_channel (r node) : (s.writeNode r node).frame .channel = s.frame .channel :=
  State.frame_channel_of_rings (s.writeNode_frame r node)

@[simp] theorem State.withdraw_frame (r) : (s.withdraw r).frame .channel = s.frame .channel := (rfl)

@[simp] theorem State.syncNext_frame (r) : (s.syncNext r).frame .channel = s.frame .channel := by
  simp only [State.syncNext]
  (repeat' split) <;> simp

@[simp] theorem State.abandonRun_frame (r code) : (s.abandonRun r code).frame .channel = s.frame .channel := by simp [State.abandonRun]
@[simp] theorem State.endChannel_frame (c st start stop) : (s.endChannel c st start stop).frame .channel = s.frame .channel := by
  simp [State.endChannel]

@[simp] theorem State.stopChannel_frame (c) : (s.stopChannel c).frame .channel = s.frame .channel := s.endChannel_frame c _ _ _
@[simp] theorem State.faultChannel_frame (c) : (s.faultChannel c).frame .channel = s.frame .channel := s.endChannel_frame c _ _ _
@[simp] theorem State.disable_frame (c f) : (s.disable c f).frame .channel = s.frame .channel := by simp [State.disable]
@[simp] theorem State.beginStart_frame (c) : (s.beginStart c).frame .channel = s.frame .channel := (rfl)
@[simp] theorem State.dropStart_frame (c) : (s.dropStart c).frame .channel = s.frame .channel := by simp [State.dropStart]
@[simp] theorem State.rampStop_frame (c) : (s.rampStop c).frame .channel = s.frame .channel := by simp [State.rampStop]

/-! ### Strings and outputs (chapter 12) -/

@[simp] theorem State.setSo_frame (n x) : (s.setSo n x).frame .safe = s.frame .safe := (rfl)
@[simp] theorem State.closeSo_frame (n) : (s.closeSo n).frame .safe = s.frame .safe := (rfl)
@[simp] theorem State.updStr_frame (r f) : (s.updStr r f).frame .safe = s.frame .safe := (rfl)

@[simp] theorem State.openSo_frame (how n) : (s.openSo how n).frame .safe = s.frame .safe := by
  simp only [State.openSo]
  split <;> rfl

@[simp] theorem State.closeDone_frame (q) : (s.closeDone q).frame .safe = s.frame .safe := by simp [State.closeDone]
@[simp] theorem State.closeEnd_frame (r abandoned) : (s.closeEnd r abandoned).frame .safe = s.frame .safe := by simp [State.closeEnd]
@[simp] theorem State.abandonClose_frame (r status) : (s.abandonClose r status).frame .safe = s.frame .safe := by simp [State.abandonClose]
@[simp] theorem State.openOuts_frame (r how) : (s.openOuts r how).frame .safe = s.frame .safe := by simp [State.openOuts]
@[simp] theorem State.openString_frame (r how status) : (s.openString r how status).frame .safe = s.frame .safe := by simp [State.openString]
@[simp] theorem State.openEvery_frame (how status) : (s.openEvery how status).frame .safe = s.frame .safe := by simp [State.openEvery]
@[simp] theorem State.beginClose_frame (r) : (s.beginClose r).frame .safe = s.frame .safe := by simp [State.beginClose]

/-! ### Updates (chapter 19) -/

@[simp] theorem State.updDone_frame (status result) : (s.updDone status result).frame .upd = s.frame .upd := by
  simp only [State.updDone]
  split <;> simp

@[simp] theorem State.sendImage_frame (kind part b) (p : Part) : (s.sendImage kind part b).frame p = s.frame p := s.withOut_frame p _

/-! ### Networks and time (chapter 14) -/

@[simp] theorem State.setEth_frame (p x) : (s.setEth p x).frame .net = s.frame .net := by
  unfold State.setEth
  split <;> rfl

@[simp] theorem State.ethOut_frame (p kind data) : (s.ethOut p kind data).frame .net = s.frame .net := by simp [State.ethOut]
@[simp] theorem State.plantOut_frame (kind data) : (s.plantOut kind data).frame .net = s.frame .net := by
  simp only [State.plantOut, State.frame_ite, State.ethOut_frame, State.withNet_frame, ite_self]

@[simp] theorem State.wrongLan_frame : s.wrongLan.frame .net = s.frame .net := by
  simp only [State.wrongLan, State.frame_ite, State.raise_frame, State.withNet_frame, State.inc_frame, ite_self]

@[simp] theorem State.steer_frame (y) : (s.steer y).frame .net = s.frame .net := (rfl)
@[simp] theorem State.servoLock_frame : s.servoLock.frame .net = s.frame .net := by simp [State.servoLock]

@[simp] theorem State.servoHold_frame : s.servoHold.frame .net = s.frame .net := by
  simp only [State.servoHold, State.frame_ite, State.raise_frame, State.withNet_frame, State.steer_frame, ite_self]

@[simp] theorem State.ptpIn_frame (f m kinds) {act : State → State} (ha : ∀ u, (act u).frame .net = u.frame .net) :
    (s.ptpIn f m kinds act).frame .net = s.frame .net := by simp [State.ptpIn, ha]

@[simp] theorem State.reselect_frame : s.reselect.frame .net = s.frame .net := by simp [State.reselect]
@[simp] theorem State.lostSync_frame : s.lostSync.frame .net = s.frame .net := by simp [State.lostSync]
@[simp] theorem State.announceStep_frame (d) : (s.announceStep d).frame .net = s.frame .net := by simp [State.announceStep]

@[simp] theorem State.servoRun_frame (o interval good) : (s.servoRun o interval good).frame .net = s.frame .net := by
  simp only [State.servoRun, State.frame_ite, State.servoLock_frame, State.withNet_frame, State.steer_frame, ite_self]

@[simp] theorem State.jumpSync_frame (o) : (s.jumpSync o).frame .net = s.frame .net := by
  simp only [State.jumpSync, State.frame_ite, State.raise_frame, State.withNet_frame, State.servoHold_frame, State.inc_frame, ite_self]

@[simp] theorem State.jumpOver_frame : s.jumpOver.frame .net = s.frame .net := by
  simp only [State.jumpOver]
  split <;> simp

@[simp] theorem State.servoSync_frame (o interval good) : (s.servoSync o interval good).frame .net = s.frame .net := by
  simp only [State.servoSync]
  (repeat' split) <;> simp

@[simp] theorem State.portDiff_frame (port o) : (s.portDiff port o).frame .net = s.frame .net := by
  simp only [State.portDiff]
  (repeat' split) <;> simp

@[simp] theorem State.takeDelay_frame (port d) : (s.takeDelay port d).frame .net = s.frame .net := by simp [State.takeDelay]

end
end Sys2Proof.Machine
end

section
/-! SUPPORT. Every command of a part keeps to it: one lemma per command, in the order of Instr.homeOf. -/

namespace Sys2Proof.Machine
open Sys2Proof

/-- What a command answers keeps to a part. -/
def KeepsTo (p : Part) (s : State) (r : Result) : Prop := ∀ t, r = .next t → t.frame p = s.frame p

theorem KeepsTo.next {p : Part} {s t : State} (h : t.frame p = s.frame p) : KeepsTo p s (.next t) := by
  rintro _ ⟨rfl⟩
  exact h

section
variable {p : Part} {s : State} {op : Nat} {h : Hdr} {pl : Bytes} {body : State → State} (hb : ∀ u, (body u).frame p = u.frame p)
include hb

theorem KeepsTo.of_req : KeepsTo p s (.next (s.wcpReq op h pl body)) := .next (s.wcpReq_frame op h pl hb)

theorem KeepsTo.of_run {energise : Bool} {blocks : List Nat} : KeepsTo p s (.next (s.wcpRun op h pl energise blocks body)) :=
  .next (s.wcpRun_frame op h pl energise blocks hb)

end

section
variable (s : State)

/-! ### Protocol, recorder and its files -/

theorem execRecordWrite_keepsTo (good) : KeepsTo .protocol s (execRecordWrite good s) := .next <| by
  (repeat' split) <;> simp

theorem execRecClearGeneral_keepsTo (h seq) : KeepsTo .protocol s (execRecClearGeneral h seq s) := .of_req <| by simp
theorem execRecClearSafety_keepsTo (h seq) : KeepsTo .protocol s (execRecClearSafety h seq s) := .of_req fun u => by
  simp only [State.frame_ite, State.fail_frame, State.reply_frame, State.withRecd_frame, State.dropClear_frame, ite_self]

theorem execRecClearConfirm_keepsTo (h seq) : KeepsTo .protocol s (execRecClearConfirm h seq s) := .of_req fun u => by
  split <;> simp

theorem execFbTrigger_keepsTo (h) : KeepsTo .protocol s (execFbTrigger h s) := .of_req <| by simp

theorem execFbCheckpoint_keepsTo : KeepsTo .protocol s (execFbCheckpoint s) := .next <| by simp

theorem execFbRelease_keepsTo (h) : KeepsTo .protocol s (execFbRelease h s) := .of_req <| by simp

theorem execReplayLoad_keepsTo (h offset bytes) : KeepsTo .protocol s (execReplayLoad h offset bytes s) := .of_req fun u => by
  simp only []
  (repeat' split) <;> simp

theorem execReplayStart_keepsTo (h cp stop mode) : KeepsTo .protocol s (execReplayStart h cp stop mode s) := .of_req fun u => by
  simp only []
  (repeat' split) <;> simp

theorem execReplayEnd_keepsTo : KeepsTo .protocol s (execReplayEnd s) := .next <| by
  simp only []
  (repeat' split) <;> simp

theorem execParamStore_keepsTo (h) : KeepsTo .protocol s (execParamStore h s) := .of_req fun u => by
  simp [State.storeParams]

theorem execSnapshotAt_keepsTo (h instant) : KeepsTo .protocol s (execSnapshotAt h instant s) := .of_req <| by simp

theorem execHostLinkWrite_keepsTo (cmd bytes cut) : KeepsTo .protocol s (execHostLinkWrite cmd bytes cut s) := .next <| by simp

theorem execHostLinkRead_keepsTo (cut) : KeepsTo .protocol s (execHostLinkRead cut s) := .next <| by
  (repeat' split) <;> simp

theorem execUdpDatagram_keepsTo (f dst dport peer key offset more bytes) :
    KeepsTo .protocol s (execUdpDatagram f dst dport peer key offset more bytes s) := .next <| by simp

theorem execDutySaturated_keepsTo (ch) : KeepsTo .protocol s (execDutySaturated ch s) := .next <| by simp

/-! ### What only an elapsed time brings -/

theorem execReassemblyTimeout_keepsTo (key) : KeepsTo .clock s (execReassemblyTimeout key s) := .next <| by
  split
  · exact (State.withWcp_frame _ _ _ rfl).trans (s.advanceTo_frame_clock _)
  · rfl

theorem execSplitRequestTimeout_keepsTo (session) : KeepsTo .clock s (execSplitRequestTimeout session s) := .next <| by
  split
  · split
    · exact (State.withWcp_frame _ _ _ rfl).trans (s.advanceTo_frame_clock _)
    · rfl
  · (repeat' split) <;> simp

theorem execEventBatch_keepsTo (session) : KeepsTo .clock s (execEventBatch session s) := .next <| by
  split <;> simp

theorem execEventBatchRetry_keepsTo (session) : KeepsTo .clock s (execEventBatchRetry session s) := .next <| by
  (repeat' split) <;> simp

theorem execSlowStaleTrip_keepsTo (ch) : KeepsTo .clock s (execSlowStaleTrip ch s) := .next <| by
  split <;> simp

theorem execSf4Incomplete_keepsTo (axis) : KeepsTo .clock s (execSf4Incomplete axis s) := .next <| by
  split <;> simp

theorem execClearLapsed_keepsTo : KeepsTo .clock s (execClearLapsed s) := .next <| by
  split <;> simp

theorem execFbFrozen_keepsTo : KeepsTo .clock s (execFbFrozen s) := .next <| by
  (repeat' split) <;> simp

theorem execFbAutoRelease_keepsTo : KeepsTo .clock s (execFbAutoRelease s) := .next <| by
  split <;> simp

/-! ### CAN FD controllers -/

theorem execCanTx_keepsTo (h ctl entries) : KeepsTo .can s (execCanTx h ctl entries s) := .of_req <| by simp

theorem execCanTxAbort_keepsTo (h ctl handle) : KeepsTo .can s (execCanTxAbort h ctl handle s) := .of_req fun u => by
  simp only []
  split <;> simp

theorem execCanTxFlush_keepsTo (h ctl) : KeepsTo .can s (execCanTxFlush h ctl s) := .of_req <| by simp
theorem execCanTxResults_keepsTo (h ctl max) : KeepsTo .can s (execCanTxResults h ctl max s) := .of_req <| by simp
theorem execCanRxRead_keepsTo (h ctl fifo max) : KeepsTo .can s (execCanRxRead h ctl fifo max s) := .of_req <| by simp
theorem execCanRecover_keepsTo (h ctl) : KeepsTo .can s (execCanRecover h ctl s) := .of_req <| by simp

theorem execCanTxDone_keepsTo (ctl o) : KeepsTo .can s (execCanTxDone ctl o s) := .next <| by
  simp only []
  (repeat' split) <;> simp

theorem execCanBusOff_keepsTo (ctl) : KeepsTo .can s (execCanBusOff ctl s) := .next <| by simp
theorem execCanRecovered_keepsTo (ctl) : KeepsTo .can s (execCanRecovered ctl s) := .next <| by simp

/-! ### Generators and axes -/

theorem execProfTarget_keepsTo (h gen target) : KeepsTo .axes s (execProfTarget h gen target s) := .of_req fun u => by
  (repeat' split) <;> simp

theorem execProfEstop_keepsTo (h mask) : KeepsTo .axes s (execProfEstop h mask s) := .of_req <| by simp
theorem execAxisEnable_keepsTo (h mask enable) : KeepsTo .axes s (execAxisEnable h mask enable s) := .of_run <| by simp
theorem execAxisHome_keepsTo (h axis dir) : KeepsTo .axes s (execAxisHome h axis dir s) := .of_run <| by simp
theorem execAxisSetPos_keepsTo (h axis pos) : KeepsTo .axes s (execAxisSetPos h axis pos s) := .of_req <| by simp

theorem execAxisCalibrate_keepsTo (h axis speed) : KeepsTo .axes s (execAxisCalibrate h axis speed s) := .of_run fun u => by
  split <;> simp

theorem execHoldDelayExpiry_keepsTo (axis) : KeepsTo .timedAxes s (execHoldDelayExpiry axis s) := .next <| by
  split
  · rfl
  · exact (State.frame_timedAxes (State.updAxis_frame _ _ _)).trans (s.advanceTo_frame_timedAxes _)

theorem execLoadAngleSample_keepsTo (axis emf settled) : KeepsTo .axes s (execLoadAngleSample axis emf settled s) := .next <| by
  simp only []
  (repeat' split) <;> simp

theorem execBridgeOvercurrent_keepsTo (axis) : KeepsTo .axes s (execBridgeOvercurrent axis s) := .next <| by simp
theorem execCoilOpen_keepsTo (axis phase) : KeepsTo .axes s (execCoilOpen axis phase s) := .next <| by simp
theorem execActSupplyLow_keepsTo (mv) : KeepsTo .axes s (execActSupplyLow mv s) := .next <| by simp
theorem execBridgeHot_keepsTo (level) : KeepsTo .axes s (execBridgeHot level s) := .next <| by simp

/-! ### Field inputs and outputs -/

theorem execFioEdges_keepsTo (h max) : KeepsTo .field s (execFioEdges h max s) := .of_req <| by simp
theorem execFioDoClear_keepsTo (h mask) : KeepsTo .field s (execFioDoClear h mask s) := .of_req <| by simp
theorem execBarrierLinkLost_keepsTo : KeepsTo .field s (execBarrierLinkLost s) := .next <| by simp

theorem execDiOpenWire_keepsTo (n isOpen) : KeepsTo .timedField s (execDiOpenWire n isOpen s) := .next <| by
  simp only []
  split
  · rfl
  split
  next since _ _ =>
    refine (State.frame_timedField (s := s.advanceTo (since + 100000000)) ?_).trans (s.advanceTo_frame_timedField _)
    simp only [State.raise_frame, State.frame_ite, State.stampEdge_frame, State.setDi_frame, ite_self]
  · exact (State.frame_timedField (State.setDi_frame _ _ _)).trans (s.advanceTo_frame_timedField _)
  · rfl

theorem State.doOverload_frame (n t) : (s.doOverload n t).frame .timedField = s.frame .timedField := by
  refine (State.frame_timedField (s := s.advanceTo (t + s.parN 0x484 0 * 1000000)) ?_).trans (s.advanceTo_frame_timedField _)
  simp only [State.doOverload, State.raise_frame, State.inc_frame, State.updDo_frame, State.doOverTemp_frame]

theorem State.doReported_frame (n t) (f : DoSt → DoSt) (code) :
    (((s.advanceTo t).updDo n f).raise code n 1).frame .timedField = s.frame .timedField :=
  ((State.raise_frame _ _ _ _ _ _).trans (State.frame_timedField (State.updDo_frame _ _ _))).trans (s.advanceTo_frame_timedField _)

theorem execDoDiagnostic_keepsTo (n d) : KeepsTo .timedField s (execDoDiagnostic n d s) := .next <| by
  have hover : (s.doOverTemp n).frame .timedField = s.frame .timedField := State.frame_timedField (s.doOverTemp_frame n)
  have hended : ∀ f : DoSt → DoSt, (s.updDo n f).frame .timedField = s.frame .timedField := fun f => rfl
  have hoverload := s.doOverload_frame n
  have hreported := s.doReported_frame n
  cases d <;> simp only [] <;> (repeat' split) <;> simp [hover, hended, hoverload, hreported]

/-! ### The twin link -/

theorem execArbStart_keepsTo (f cause) : KeepsTo .twin s (execArbStart f cause s) := .next <| by simp
theorem execArbHandover_keepsTo (f period drill) : KeepsTo .twin s (execArbHandover f period drill s) := .next <| by simp
theorem execSweepNeed_keepsTo (f ring sweep need) : KeepsTo .twin s (execSweepNeed f ring sweep need s) := .next <| by simp

theorem execWcpFwd_keepsTo (f reply h role opcode payload) : KeepsTo .twin s (execWcpFwd f reply h role opcode payload s) :=
  .next <| s.onLink_frame true f fun u => by
    simp only []
    (repeat' split) <;> simp

theorem execStandbyReport_keepsTo (f code inst sev data) : KeepsTo .twin s (execStandbyReport f code inst sev data s) := .next <| by simp
theorem execShallotLockLoss_keepsTo : KeepsTo .twin s (execShallotLockLoss s) := .next <| s.withTwin_frame _
theorem execUncomparedRun_keepsTo (ch) : KeepsTo .twin s (execUncomparedRun ch s) := .next <| by simp

/-! ### Estimators and impedance runs -/

theorem execImpRun_keepsTo (h mask) : KeepsTo .est s (execImpRun h mask s) := .of_req fun u => by
  simp only [State.frame_ite, State.complete_frame, State.reply_frame, State.withEst_frame,
    State.foldl_frame (fun u r => State.startRun_frame u r), State.fail_frame, ite_self]

theorem execImpWindowEnd_keepsTo (ring) : KeepsTo .est s (execImpWindowEnd ring s) := .next <| by simp
theorem execEstReset_keepsTo (h ring node mask) : KeepsTo .est s (execEstReset h ring node mask s) := .of_req <| by simp

theorem execPrecursorCleared_keepsTo (ring) : KeepsTo .timedEst s (execPrecursorCleared ring s) := .next <| by
  simp only []
  split
  · rfl
  split
  · rfl
  · refine (State.foldl_frame (fun u k => u.raise_frame _ _ _ _ _) _ _).trans ?_
    exact (State.frame_timedEst (State.updImp_frame _ _ _)).trans (s.advanceTo_frame_timedEst _)

/-! ### Rings -/

theorem execBalanceManual_keepsTo (h ring node payload) : KeepsTo .rings s (execBalanceManual h ring node payload s) := .of_req <| by simp
theorem execOpenWireRun_keepsTo (h ring node tap) : KeepsTo .rings s (execOpenWireRun h ring node tap s) := .of_req <| by simp
theorem execWireFaultClear_keepsTo (h ring node tap) : KeepsTo .rings s (execWireFaultClear h ring node tap s) := .of_req <| by simp
theorem execOsetErrorRate_keepsTo (ring errors) : KeepsTo .rings s (execOsetErrorRate ring errors s) := .next <| by
  simp only [State.frame_ite, State.raise_frame, State.updRing_frame, State.incBy_frame, ite_self]

/-! ### Power stages and channels -/

theorem execPsiFaultClear_keepsTo (h mask) : KeepsTo .stage s (execPsiFaultClear h mask s) := .of_req fun u => by
  simp [State.clearFault_frame]

theorem execDsFrozen_keepsTo (ch line) : KeepsTo .stage s (execDsFrozen ch line s) := .next <| by simp
theorem execReadbackShadow_keepsTo (ch rb) : KeepsTo .stage s (execReadbackShadow ch rb s) := .next <| by simp

theorem execChStart_keepsTo (h mask) : KeepsTo .channel s (execChStart h mask s) := .of_run <| by simp
theorem execChStopRamp_keepsTo (h mask) : KeepsTo .channel s (execChStopRamp h mask s) := .of_req fun u => by
  simp only []
  split
  · simp
  · exact (State.reply_frame _ _ _ _ _ _).trans ((State.frame_channel_of_stage (State.withPsi_frame _ _)).trans (by simp))

theorem execChStopImmediate_keepsTo (h mask) : KeepsTo .channel s (execChStopImmediate h mask s) := .of_req <| by simp
theorem execStopComplete_keepsTo (ch) : KeepsTo .channel s (execStopComplete ch s) := .next <| by simp
theorem execDsClockLoss_keepsTo (ch) : KeepsTo .channel s (execDsClockLoss ch s) := .next <| by simp
theorem execDsClockRange_keepsTo (ch) : KeepsTo .channel s (execDsClockRange ch s) := .next <| by simp
theorem execDsStuck_keepsTo (ch line) : KeepsTo .channel s (execDsStuck ch line s) := .next <| by simp
theorem execTurnipDsStuck_keepsTo (ch) : KeepsTo .channel s (execTurnipDsStuck ch s) := .next <| by simp
theorem execGateDriverFault_keepsTo (ch lowNs) : KeepsTo .channel s (execGateDriverFault ch lowNs s) := .next <| by simp
theorem execReadbackActive_keepsTo (ch rb) : KeepsTo .channel s (execReadbackActive ch rb s) := .next <| by simp
theorem execOcTimeExceeded_keepsTo (ch hz) : KeepsTo .channel s (execOcTimeExceeded ch hz s) := .next <| by simp

/-! ### Strings and outputs -/

theorem execStringClose_keepsTo (h mask) : KeepsTo .safe s (execStringClose h mask s) := .of_run fun u => by
  simp only [State.frame_ite, State.answerAll_frame, State.reply_frame, State.withSafe_frame,
    State.foldl_frame (fun u r => State.beginClose_frame u r), ite_self]

theorem execStringOpenStopped_keepsTo (h mask) : KeepsTo .safe s (execStringOpenStopped h mask s) := .of_req <| by simp
theorem execConfirmSafetyConfig_keepsTo (h crc) : KeepsTo .safe s (execConfirmSafetyConfig h crc s) := .of_req <| by simp
theorem execCommissioningTestStart_keepsTo (h ch) : KeepsTo .safe s (execCommissioningTestStart h ch s) := .of_run <| by simp

theorem execSafetySwitchFrameLoss_keepsTo (sw) : KeepsTo .safe s (execSafetySwitchFrameLoss sw s) := .next <| by
  have hheld : ∀ u : State, ({ u with sys := { u.sys with holdReg := 0 } } : State).frame .safe = u.frame .safe := fun _ => rfl
  refine (State.foldl_frame (fun u r => (State.updStr_frame _ r _).trans (u.abandonClose_frame r _)) _ _).trans ?_
  simp only [State.frame_ite, hheld, State.foldl_frame (fun u n => State.setSo_frame u n _), ite_self]

theorem execFreewheelToClamp_keepsTo (out) : KeepsTo .safe s (execFreewheelToClamp out s) := .next <| by simp

/-! ### Updates and self-tests -/

theorem execUpdData_keepsTo (h offset bytes) : KeepsTo .upd s (execUpdData h offset bytes s) := .of_req fun u => by
  (repeat' split) <;> simp

theorem execUpdVerify_keepsTo (h) : KeepsTo .upd s (execUpdVerify h s) := .of_req fun u => by
  simp only []
  (repeat' split) <;> simp

theorem execUpdVerifyDone_keepsTo : KeepsTo .upd s (execUpdVerifyDone s) := .next <| by
  split
  · rfl
  · simp only [State.frame_ite, State.updDone_frame, State.raise_frame, State.inc_frame, State.withUpd_frame, ite_self]

theorem execThermClear_keepsTo (h) : KeepsTo .bist s (execThermClear h s) := .of_req fun u => by
  split <;> simp

/-! ### Networks and time -/

theorem execEthLinkChange_keepsTo (port link) : KeepsTo .net s (execEthLinkChange port link s) := .next <| by simp
theorem execArpRequest_keepsTo (f ip m) : KeepsTo .net s (execArpRequest f ip m s) := .next <| by simp
theorem execIcmpEcho_keepsTo (f dst src data) : KeepsTo .net s (execIcmpEcho f dst src data s) := .next <| by simp

theorem execPrpFrame_keepsTo (f src seq lan) : KeepsTo .net s (execPrpFrame f src seq lan s) := .next <| by
  split
  · rfl
  · refine s.ethIn_frame .net f fun u => ?_
    simp only [State.frame_ite, State.inc_frame, State.withNet_frame, State.wrongLan_frame, ite_self]

theorem execPtpAnnounce_keepsTo (f m a) : KeepsTo .net s (execPtpAnnounce f m a s) := .next <| s.ptpIn_frame f m [11] fun u => by
  simp only [State.frame_ite, State.reselect_frame, State.withNet_frame, State.setEth_frame, ite_self]

theorem execPtpPdelayReq_keepsTo (f m rx) : KeepsTo .net s (execPtpPdelayReq f m rx s) := .next <| by simp

theorem execPtpAnnounceTimeout_keepsTo (port) : KeepsTo .timedNet s (execPtpAnnounceTimeout port s) := .next <| by
  split
  · rfl
  next a _ =>
    split
    · rfl
    refine (State.frame_timedNet (s := s.advanceTo ((s.eth port).annAt + s.parN 0x866 0 * a.interval)) ?_).trans
      (s.advanceTo_frame_timedNet _)
    simp only [State.lostSync_frame, State.reselect_frame, State.setEth_frame, State.inc_frame]

theorem execDelayReqDue_keepsTo (port) : KeepsTo .timedNet s (execDelayReqDue port s) := .next <| by
  split
  · rfl
  · refine (State.frame_timedNet ((State.ethOut_frame _ _ _ _).trans (State.setEth_frame _ _ _))).trans ?_
    exact s.advanceTo_frame_timedNet _

theorem execPtpSync_keepsTo (f m t1 t2 corr interval master) : KeepsTo .net s (execPtpSync f m t1 t2 corr interval master s) :=
  .next <| s.ptpIn_frame f m [0] fun u => by
    simp only [State.frame_ite, State.servoSync_frame, State.portDiff_frame, State.withNet_frame, State.setEth_frame, State.inc_frame, ite_self]

theorem execPtpDelayResp_keepsTo (f m t2 t3 t4 corr) : KeepsTo .net s (execPtpDelayResp f m t2 t3 t4 corr s) :=
  .next <| s.ptpIn_frame f m [3, 9, 10] fun u => by
    simp only []
    (repeat' split) <;> simp

theorem execTimeJumpAccept_keepsTo (h) : KeepsTo .net s (execTimeJumpAccept h s) := .of_req <| by simp

theorem execTimeJumpReject_keepsTo (h) : KeepsTo .net s (execTimeJumpReject h s) := .of_req fun u => by
  simp only [State.frame_ite, State.fail_frame, State.reply_frame, State.withNet_frame]
  (repeat' split) <;> simp

theorem execLimitActive_keepsTo (ch) : KeepsTo .loop s (execLimitActive ch s) := .next <| by simp

end
end Sys2Proof.Machine
end

section
/-! SUPPORT. O56 and O57: a command of a part keeps to it, and an event of one controller or axis leaves the others alone. -/

namespace Sys2Proof.Machine
open Sys2Proof

theorem KeepsTo.home {p q : Part} {s : State} {r : Result} (hc : some q = some p) (h : KeepsTo q s r) : KeepsTo p s r := Option.some.inj hc ▸ h

/-- Every command of a part keeps to it. -/
theorem exec_keepsTo (c : Instr) (p : Part) (s : State) (hc : c.homeOf = some p) : KeepsTo p s (exec c s) := by
  cases c with
  | paramStore h => exact .home hc (execParamStore_keepsTo s h)
  | snapshotAt h instant => exact .home hc (execSnapshotAt_keepsTo s h instant)
  | hostLinkWrite cmd bytes cut => exact .home hc (execHostLinkWrite_keepsTo s cmd bytes cut)
  | hostLinkRead cut => exact .home hc (execHostLinkRead_keepsTo s cut)
  | udpDatagram f dst dport peer key offset more bytes => exact .home hc (execUdpDatagram_keepsTo s f dst dport peer key offset more bytes)
  | reassemblyTimeout key => exact .home hc (execReassemblyTimeout_keepsTo s key)
  | splitRequestTimeout session => exact .home hc (execSplitRequestTimeout_keepsTo s session)
  | eventBatch session => exact .home hc (execEventBatch_keepsTo s session)
  | eventBatchRetry session => exact .home hc (execEventBatchRetry_keepsTo s session)
  | osetErrorRate ring errors => exact .home hc (execOsetErrorRate_keepsTo s ring errors)
  | balanceManual h ring node payload => exact .home hc (execBalanceManual_keepsTo s h ring node payload)
  | openWireRun h ring node tap => exact .home hc (execOpenWireRun_keepsTo s h ring node tap)
  | wireFaultClear h ring node tap => exact .home hc (execWireFaultClear_keepsTo s h ring node tap)
  | slowStaleTrip ch => exact .home hc (execSlowStaleTrip_keepsTo s ch)
  | dutySaturated ch => exact .home hc (execDutySaturated_keepsTo s ch)
  | limitActive ch => exact .home hc (execLimitActive_keepsTo s ch)
  | chStart h mask => exact .home hc (execChStart_keepsTo s h mask)
  | chStopRamp h mask => exact .home hc (execChStopRamp_keepsTo s h mask)
  | chStopImmediate h mask => exact .home hc (execChStopImmediate_keepsTo s h mask)
  | stopComplete ch => exact .home hc (execStopComplete_keepsTo s ch)
  | psiFaultClear h mask => exact .home hc (execPsiFaultClear_keepsTo s h mask)
  | dsClockLoss ch => exact .home hc (execDsClockLoss_keepsTo s ch)
  | dsClockRange ch => exact .home hc (execDsClockRange_keepsTo s ch)
  | dsStuck ch line => exact .home hc (execDsStuck_keepsTo s ch line)
  | dsFrozen ch line => exact .home hc (execDsFrozen_keepsTo s ch line)
  | turnipDsStuck ch => exact .home hc (execTurnipDsStuck_keepsTo s ch)
  | gateDriverFault ch lowNs => exact .home hc (execGateDriverFault_keepsTo s ch lowNs)
  | readbackActive ch rb => exact .home hc (execReadbackActive_keepsTo s ch rb)
  | readbackShadow ch rb => exact .home hc (execReadbackShadow_keepsTo s ch rb)
  | ocTimeExceeded ch hz => exact .home hc (execOcTimeExceeded_keepsTo s ch hz)
  | profTarget h gen target => exact .home hc (execProfTarget_keepsTo s h gen target)
  | profEstop h mask => exact .home hc (execProfEstop_keepsTo s h mask)
  | axisEnable h mask enable => exact .home hc (execAxisEnable_keepsTo s h mask enable)
  | axisHome h axis dir => exact .home hc (execAxisHome_keepsTo s h axis dir)
  | axisSetPos h axis pos => exact .home hc (execAxisSetPos_keepsTo s h axis pos)
  | axisCalibrate h axis speed => exact .home hc (execAxisCalibrate_keepsTo s h axis speed)
  | holdDelayExpiry axis => exact .home hc (execHoldDelayExpiry_keepsTo s axis)
  | loadAngleSample axis emf settled => exact .home hc (execLoadAngleSample_keepsTo s axis emf settled)
  | bridgeOvercurrent axis => exact .home hc (execBridgeOvercurrent_keepsTo s axis)
  | coilOpen axis phase => exact .home hc (execCoilOpen_keepsTo s axis phase)
  | actSupplyLow mv => exact .home hc (execActSupplyLow_keepsTo s mv)
  | bridgeHot level => exact .home hc (execBridgeHot_keepsTo s level)
  | sf4Incomplete axis => exact .home hc (execSf4Incomplete_keepsTo s axis)
  | estReset h ring node mask => exact .home hc (execEstReset_keepsTo s h ring node mask)
  | impRun h mask => exact .home hc (execImpRun_keepsTo s h mask)
  | impWindowEnd ring => exact .home hc (execImpWindowEnd_keepsTo s ring)
  | precursorCleared ring => exact .home hc (execPrecursorCleared_keepsTo s ring)
  | stringClose h mask => exact .home hc (execStringClose_keepsTo s h mask)
  | stringOpenStopped h mask => exact .home hc (execStringOpenStopped_keepsTo s h mask)
  | confirmSafetyConfig h crc => exact .home hc (execConfirmSafetyConfig_keepsTo s h crc)
  | commissioningTestStart h ch => exact .home hc (execCommissioningTestStart_keepsTo s h ch)
  | arbStart f cause => exact .home hc (execArbStart_keepsTo s f cause)
  | arbHandover f period drill => exact .home hc (execArbHandover_keepsTo s f period drill)
  | sweepNeed f ring sweep need => exact .home hc (execSweepNeed_keepsTo s f ring sweep need)
  | wcpFwd f reply h role opcode payload => exact .home hc (execWcpFwd_keepsTo s f reply h role opcode payload)
  | standbyReport f code inst sev data => exact .home hc (execStandbyReport_keepsTo s f code inst sev data)
  | shallotLockLoss => exact .home hc (execShallotLockLoss_keepsTo s)
  | uncomparedRun ch => exact .home hc (execUncomparedRun_keepsTo s ch)
  | ethLinkChange port link => exact .home hc (execEthLinkChange_keepsTo s port link)
  | arpRequest f ip m => exact .home hc (execArpRequest_keepsTo s f ip m)
  | icmpEcho f dst src data => exact .home hc (execIcmpEcho_keepsTo s f dst src data)
  | prpFrame f src seq lan => exact .home hc (execPrpFrame_keepsTo s f src seq lan)
  | ptpAnnounce f m a => exact .home hc (execPtpAnnounce_keepsTo s f m a)
  | ptpAnnounceTimeout port => exact .home hc (execPtpAnnounceTimeout_keepsTo s port)
  | ptpSync f m t1 t2 corr interval master => exact .home hc (execPtpSync_keepsTo s f m t1 t2 corr interval master)
  | ptpDelayResp f m t2 t3 t4 corr => exact .home hc (execPtpDelayResp_keepsTo s f m t2 t3 t4 corr)
  | ptpPdelayReq f m rx => exact .home hc (execPtpPdelayReq_keepsTo s f m rx)
  | delayReqDue port => exact .home hc (execDelayReqDue_keepsTo s port)
  | timeJumpAccept h => exact .home hc (execTimeJumpAccept_keepsTo s h)
  | timeJumpReject h => exact .home hc (execTimeJumpReject_keepsTo s h)
  | canTx h ctl entries => exact .home hc (execCanTx_keepsTo s h ctl entries)
  | canTxAbort h ctl handle => exact .home hc (execCanTxAbort_keepsTo s h ctl handle)
  | canTxFlush h ctl => exact .home hc (execCanTxFlush_keepsTo s h ctl)
  | canTxResults h ctl max => exact .home hc (execCanTxResults_keepsTo s h ctl max)
  | canRxRead h ctl fifo max => exact .home hc (execCanRxRead_keepsTo s h ctl fifo max)
  | canRecover h ctl => exact .home hc (execCanRecover_keepsTo s h ctl)
  | canTxDone ctl o => exact .home hc (execCanTxDone_keepsTo s ctl o)
  | canBusOff ctl => exact .home hc (execCanBusOff_keepsTo s ctl)
  | canRecovered ctl => exact .home hc (execCanRecovered_keepsTo s ctl)
  | diOpenWire n isOpen => exact .home hc (execDiOpenWire_keepsTo s n isOpen)
  | doDiagnostic n d => exact .home hc (execDoDiagnostic_keepsTo s n d)
  | barrierLinkLost => exact .home hc (execBarrierLinkLost_keepsTo s)
  | fioEdges h max => exact .home hc (execFioEdges_keepsTo s h max)
  | fioDoClear h mask => exact .home hc (execFioDoClear_keepsTo s h mask)
  | thermClear h => exact .home hc (execThermClear_keepsTo s h)
  | recordWrite good => exact .home hc (execRecordWrite_keepsTo s good)
  | recClearGeneral h seq => exact .home hc (execRecClearGeneral_keepsTo s h seq)
  | recClearSafety h seq => exact .home hc (execRecClearSafety_keepsTo s h seq)
  | recClearConfirm h seq => exact .home hc (execRecClearConfirm_keepsTo s h seq)
  | clearLapsed => exact .home hc (execClearLapsed_keepsTo s)
  | fbTrigger h => exact .home hc (execFbTrigger_keepsTo s h)
  | fbFrozen => exact .home hc (execFbFrozen_keepsTo s)
  | fbCheckpoint => exact .home hc (execFbCheckpoint_keepsTo s)
  | fbAutoRelease => exact .home hc (execFbAutoRelease_keepsTo s)
  | fbRelease h => exact .home hc (execFbRelease_keepsTo s h)
  | replayLoad h offset bytes => exact .home hc (execReplayLoad_keepsTo s h offset bytes)
  | replayStart h cp stop mode => exact .home hc (execReplayStart_keepsTo s h cp stop mode)
  | replayEnd => exact .home hc (execReplayEnd_keepsTo s)
  | updData h offset bytes => exact .home hc (execUpdData_keepsTo s h offset bytes)
  | updVerify h => exact .home hc (execUpdVerify_keepsTo s h)
  | updVerifyDone => exact .home hc (execUpdVerifyDone_keepsTo s)
  | safetySwitchFrameLoss sw => exact .home hc (execSafetySwitchFrameLoss_keepsTo s sw)
  | freewheelToClamp out => exact .home hc (execFreewheelToClamp_keepsTo s out)
  | _ => exact nomatch hc

/-! ### COMMIT and CROSSING_TIMEOUT -/

theorem State.settle_kept (s : State) : s.settle.kept = s.kept := by
  simp only [State.settle]
  split
  · rfl
  · exact foldl_view State.kept (f := State.applyCommitted) (fun _ _ => rfl) _ _

theorem State.beginCommit_kept (s : State) (h : Hdr) : (s.beginCommit h).kept = s.kept := by
  simp only [State.beginCommit]
  split
  · rfl
  split
  · exact (s.reply_same _ _ _ _).1
  split
  · exact (s.fail_same _ _ _ _ _).1
  · exact (s.fail_same _ _ _ _ _).1
  · exact State.settle_kept _

/-- A request whose meaning leaves all that is kept alone does so whatever the checks decide. -/
theorem State.wcpReq_kept (s : State) (op : Nat) (h : Hdr) (pl : Bytes) {body : State → State} (hb : ∀ u, (body u).kept = u.kept) :
    (s.wcpReq op h pl body).kept = s.kept := by
  obtain g | ⟨u, hu, g | g⟩ := State.wcpRun_cases s op h pl false [] body
  · exact g.1
  · rw [State.wcpReq, g]; exact (hb u).trans hu.1
  · rw [State.wcpReq, g]; exact ((State.guestOut_same _).1.trans (hb u)).trans hu.1

theorem exec_commit_kept (s : State) (h : Hdr) : ∃ t, exec (.commit h) s = .next t ∧ t.kept = s.kept := by
  refine ⟨_, rfl, s.wcpReq_kept _ _ _ fun u => ?_⟩
  split
  · rfl
  · exact u.beginCommit_kept h

/-- Two states agree on what is kept but for the marks of an access that was not served (Table 1.5), and on the applied parameters. -/
def State.ButCrossing (t s : State) : Prop :=
  t.kept = { s.kept with sys := { s.sys with xingAnswer := t.sys.xingAnswer, xingDropped := t.sys.xingDropped } }
    ∧ t.wcp.params = s.wcp.params

theorem State.xingDrop_butCrossing (s : State) (how : XingUse) (counted : Bool) : (s.xingDrop how counted).ButCrossing s := by
  cases how with
  | read => exact ⟨rfl, rfl⟩
  | write => exact ⟨rfl, rfl⟩
  | fifo n => cases counted <;> exact ⟨rfl, rfl⟩

theorem Same.butCrossing {t u s : State} (g : Same t u) (h : u.ButCrossing s) : t.ButCrossing s := by
  refine ⟨?_, g.2.1.trans h.2⟩
  rw [g.1, g.sys_eq]
  exact h.1

theorem exec_crossingTimeout_butCrossing (s : State) (far : Region) (how : XingUse) :
    ∃ t, exec (.crossingTimeout far how) s = .next t ∧ t.ButCrossing s := by
  refine ⟨_, rfl, ?_⟩
  split
  · exact s.xingDrop_butCrossing how false
  split
  · exact s.xingDrop_butCrossing how true
  · exact ((State.raise_same _ _ _ _ _).trans (State.inc_same _ _ _)).butCrossing (s.xingDrop_butCrossing how true)

/-! ### The other CAN FD controller (chapter 15) -/

@[simp] theorem State.ctl_ite (p : Prop) [Decidable p] (t u : State) (d : Nat) : (if p then t else u).ctl d = if p then t.ctl d else u.ctl d :=
  apply_ite (State.ctl · d) _ _ _

@[simp] theorem State.emit_ctl (s : State) (o : Out) (d : Nat) : (s.emit o).ctl d = s.ctl d := rfl

@[simp] theorem State.canSent_ctl (s : State) (c : Nat) (f : CanEntry) (d : Nat) : (s.canSent c f).ctl d = s.ctl d := by simp [State.canSent]

section
variable {c d : Nat} (hset : ∀ (u : State) (x : CanCtl), (u.setCtl c x).ctl d = u.ctl d) (s : State)
include hset

theorem State.canLeave_other (t result late stamp) : (s.canLeave c t result late stamp).ctl d = s.ctl d := by
  simp [State.canLeave, State.canResult, hset]

theorem State.goBusOff_other : (s.goBusOff c).ctl d = s.ctl d := by
  simp only [State.goBusOff, State.raise_ctl]
  split <;> simp [State.canLeave_other hset, hset]

theorem State.canCount_other (f) : (s.canCount c f).ctl d = s.ctl d := by simp [State.canCount, hset]

theorem State.keepDelay_other (f n) : (s.keepDelay c f n).ctl d = s.ctl d := by simp [State.keepDelay, hset]

theorem State.headFailed_other (t) : (s.headFailed c t).ctl d = s.ctl d := by simp [State.headFailed, State.canLeave_other hset, hset]

theorem State.txError_other (noAck) : (s.txError c noAck).ctl d = s.ctl d := by
  simp [State.txError, State.goBusOff_other hset, State.canCount_other hset]

theorem State.tdcRange_other (n) : (s.tdcRange c n).ctl d = s.ctl d := by simp [State.tdcRange, hset]

theorem State.headError_other (t noAck) : (s.headError c t noAck).ctl d = s.ctl d := by
  simp [State.headError, State.headFailed_other hset, State.txError_other hset, hset]

theorem State.wsfOutcome_other (conn f o) : (s.wsfOutcome c conn f o).ctl d = s.ctl d := by
  cases o <;> simp [State.wsfOutcome, State.txError_other hset, State.tdcRange_other hset, State.canCount_other hset,
    State.keepDelay_other hset, hset]

theorem State.headOutcome_other (t o) : (s.headOutcome c t o).ctl d = s.ctl d := by
  cases o <;> simp [State.headOutcome, State.headFailed_other hset, State.headError_other hset, State.tdcRange_other hset,
    State.canCount_other hset, State.headSent, State.canLeave_other hset, State.keepDelay_other hset, hset]

theorem exec_canTxDone_other (o) : ∃ t, exec (.canTxDone c o) s = .next t ∧ t.ctl d = s.ctl d := by
  refine ⟨_, rfl, ?_⟩
  simp only []
  (repeat' split) <;> simp [State.wsfOutcome_other hset, State.headOutcome_other hset, hset]

theorem exec_canBusOff_other : ∃ t, exec (.canBusOff c) s = .next t ∧ t.ctl d = s.ctl d :=
  ⟨_, rfl, by simp [State.goBusOff_other hset]⟩

theorem exec_canRecovered_other : ∃ t, exec (.canRecovered c) s = .next t ∧ t.ctl d = s.ctl d :=
  ⟨_, rfl, by simp [hset]⟩

end

/-- What a controller's number outside the two stands for, its commands leave alone. -/
theorem exec_can_outside (s : State) {i : Instr} {k : Nat} {o : CanOutcome} (hi : i ∈ [Instr.canTxDone k o, .canBusOff k, .canRecovered k])
    (hk : 2 ≤ k) : exec i s = .next s := by
  simp only [List.mem_cons, List.not_mem_nil, or_false] at hi
  obtain rfl | rfl | rfl := hi
  · exact congrArg Host.Outcome.next (if_pos (.inl hk))
  · exact congrArg Host.Outcome.next (if_pos (.inl hk))
  · exact congrArg Host.Outcome.next (if_neg fun h => absurd h.1 (Nat.not_lt.2 hk))

/-! ### The other axes (chapter 9) -/

/-- An axis with its generator. -/
def State.axisPair (s : State) (b : Nat) : AxisSt × GenSt := (s.axis b, s.gen (b + 4))

theorem Same.axisPair_eq {t s : State} (g : Same t s) (b : Nat) : t.axisPair b = s.axisPair b := by
  simp only [State.axisPair, g.axis_eq, g.gen_eq]

section
variable {a b : Nat} (ha : a < 4) (hb : b < 4) (hne : b ≠ a) (s : State)
include ha hb hne

theorem State.setAxis_axisPair (x : AxisSt) : (s.setAxis a x).axisPair b = s.axisPair b :=
  congrArg (·, s.gen (b + 4)) (Four.get_set_other _ _ ha hb hne)

theorem State.setGen_axisPair (x : GenSt) : (s.setGen (a + 4) x).axisPair b = s.axisPair b := by
  have hgen : (s.setGen (a + 4) x).gen (b + 4) = s.gen (b + 4) := by
    simp [State.setGen, State.gen, ProfSt.gen, Four.get_set_other _ x ha hb hne]
  simp only [State.axisPair, State.axis_setGen, hgen]

theorem State.deenergise_axisPair : (s.deenergise a).axisPair b = s.axisPair b := by
  have hruns : (s.endRuns a).axisPair b = s.axisPair b :=
    ((s.endRuns_same a).axisPair_eq b).trans (s.setAxis_axisPair ha hb hne _)
  unfold State.deenergise
  split
  · exact ((State.setGen_axisPair ha hb hne _ _).trans (State.setAxis_axisPair ha hb hne _ _)).trans hruns
  · rfl

theorem exec_axisEvent_axisPair {i : Instr} {ph : Nat} (hi : i ∈ [Instr.holdDelayExpiry a, .bridgeOvercurrent a, .coilOpen a ph]) :
    ∃ t, exec i s = .next t ∧ t.axisPair b = s.axisPair b := by
  simp only [List.mem_cons, List.not_mem_nil, or_false] at hi
  obtain rfl | rfl | rfl := hi
  · refine ⟨_, rfl, ?_⟩
    split
    · rfl
    · exact (State.setAxis_axisPair ha hb hne _ _).trans rfl
  · refine ⟨_, congrArg Host.Outcome.next (if_neg (Nat.not_le.2 ha)), ?_⟩
    refine (((State.raise_same _ _ _ _ _).trans (State.inc_same _ _ _)).axisPair_eq b).trans ?_
    exact (State.setAxis_axisPair ha hb hne _ _).trans (s.deenergise_axisPair ha hb hne)
  · refine ⟨_, congrArg Host.Outcome.next (if_neg (Nat.not_le.2 ha)), ?_⟩
    refine ((State.raise_same _ _ _ _ _).axisPair_eq b).trans ?_
    exact (State.setAxis_axisPair ha hb hne _ _).trans (s.deenergise_axisPair ha hb hne)

end

/-- Settles O56: `exec_keepsTo` for the commands of a part; COMMIT, CROSSING_TIMEOUT and the controllers' events by their own lemmas above. -/
theorem commandsKeepToTheirPart : Obligations.CommandsKeepToTheirPart := by
  unfold Obligations.CommandsKeepToTheirPart
  refine ⟨?parts, ?commit, ?crossing, ?controllers⟩
  case parts =>
    exact fun c p s t hc _ hexec => State.frame_eq_iff.1 (exec_keepsTo c p s hc t hexec)
  case commit =>
    intro h s t hexec
    obtain ⟨u, hu, hkept⟩ := exec_commit_kept s h
    obtain rfl := Host.Outcome.next.inj (hexec.symm.trans hu)
    exact hkept
  case crossing =>
    intro far how s t hexec
    obtain ⟨u, hu, hbut⟩ := exec_crossingTimeout_butCrossing s far how
    obtain rfl := Host.Outcome.next.inj (hexec.symm.trans hu)
    exact hbut
  case controllers =>
    intro i k o s t hi hexec d hd hne
    by_cases hk : k < 2
    · have hset : ∀ (u : State) (x : CanCtl), (u.setCtl k x).ctl d = u.ctl d := fun u x => u.ctl_setCtl_other x hk hd hne
      have hother : ∃ u, exec i s = .next u ∧ u.ctl d = s.ctl d := by
        simp only [List.mem_cons, List.not_mem_nil, or_false] at hi
        obtain rfl | rfl | rfl := hi
        · exact exec_canTxDone_other hset s o
        · exact exec_canBusOff_other hset s
        · exact exec_canRecovered_other hset s
      obtain ⟨u, hu, hctl⟩ := hother
      obtain rfl := Host.Outcome.next.inj (hexec.symm.trans hu)
      exact hctl
    · obtain rfl := Host.Outcome.next.inj (hexec.symm.trans (exec_can_outside s hi (Nat.not_lt.1 hk)))
      rfl

/-- Settles O57: `exec_keepsTo` for the commands of a part, `exec_axisEvent_axisPair` for the events of one axis. -/
theorem driveCommandsKeepToTheirPart : Obligations.DriveCommandsKeepToTheirPart := by
  unfold Obligations.DriveCommandsKeepToTheirPart
  refine ⟨?parts, ?axes⟩
  case parts =>
    exact fun c p s t hc _ hexec => State.frame_eq_iff.1 (exec_keepsTo c p s hc t hexec)
  case axes =>
    intro i a ph s t ha hi hexec b hb hne
    obtain ⟨u, hu, hpair⟩ := exec_axisEvent_axisPair ha hb hne s hi
    obtain rfl := Host.Outcome.next.inj (hexec.symm.trans hu)
    exact Prod.mk.inj hpair

end Sys2Proof.Machine
end

section
/-! SUPPORT. The rules that O36 turns on: inputs and outputs under writes, what a boundary, a scan and the reset of the field die leave of chapter
16, and the next state of each of its commands where it acts. -/

namespace Sys2Proof.Machine
open Sys2Proof

@[simp] theorem State.di_setDi_same (s : State) (n : Nat) (x : DiSt) : (s.setDi n x).di n = x := SMap.at_set_same _ _ _ _

theorem State.di_congr {t s : State} (h : t.fio = s.fio) (n : Nat) : t.di n = s.di n := by rw [State.di, State.di, h]

theorem State.dout_updDo_other (s : State) {n k : Nat} (f : DoSt → DoSt) (hne : k ≠ n) : (s.updDo n f).dout k = s.dout k :=
  SMap.at_set_other _ _ _ hne

theorem State.doOn_of_latched {s : State} {n : Nat} (h : ((s.dout n).ovl || (s.dout n).ot || (s.dout n).supplyLow) = true) : s.doOn n = false := by
  have hdriven : s.doOn n = ((s.dout n).cmd && s.permit && !(s.dout n).ovl && !(s.dout n).ot && !(s.dout n).supplyLow
      && !s.sys.fieldErr.getLsbD (16 + n)) := rfl
  simp only [Bool.or_eq_true] at h
  obtain (h | h) | h := h <;> simp [hdriven, h]

section
variable (s : State)

@[simp] theorem State.raise_now (code inst sev data) : (s.raise code inst sev data).now = s.now := (s.raise_same code inst sev data).now_eq
@[simp] theorem State.reply_now (op h status body) : (s.reply op h status body).now = s.now := (s.reply_same op h status body).now_eq
@[simp] theorem State.reply_fio (op h status body) : (s.reply op h status body).fio = s.fio := (s.reply_same op h status body).fio_eq
@[simp] theorem State.admitted_fio (op h pl) : (s.admitted op h pl).fio = s.fio := (s.admitted_same op h pl).fio_eq

/-! ### Boundaries and scans (16 R445 to R450) -/

/-- The time and the field inputs and outputs, which the application of parameters leaves alone. -/
def State.fieldView : Nat × FioSt := (s.now, s.fio)

theorem State.applyValue_fieldView (v : Shadow) : (s.applyValue v).fieldView = s.fieldView := by
  simp only [State.applyValue]
  split
  · simp [State.fieldView, State.canClear]
  · rfl

theorem State.applyWaiting_fieldView (b : Block) : (s.applyWaiting b).fieldView = s.fieldView := by
  unfold State.applyWaiting
  split
  · exact foldl_view State.fieldView State.applyValue_fieldView _ _
  · exact foldl_view State.fieldView State.applyValue_fieldView _ _

theorem State.applyCommitted_fieldView (v : Shadow) : (s.applyCommitted v).fieldView = s.fieldView := rfl

theorem State.applyTwin_fieldView (b : Block) : (s.applyTwin b).fieldView = s.fieldView :=
  foldl_view State.fieldView State.applyCommitted_fieldView _ _

theorem State.boundary_fieldView (b : Block) : (s.boundary b).fieldView = s.fieldView := by
  have hwaiting : ((s.applyWaiting b).applyTwin b).fieldView = s.fieldView :=
    (State.applyTwin_fieldView _ b).trans (s.applyWaiting_fieldView b)
  simp only [State.boundary]
  split
  · exact hwaiting
  split
  · exact hwaiting
  · exact (foldl_view State.fieldView State.applyCommitted_fieldView _ _).trans hwaiting

/-- The time and the field die's replies missed, which the sampling of inputs and outputs leaves alone. -/
def State.scanView : Nat × Nat := (s.now, s.fio.missed)

theorem State.stampEdge_scanView (n : Nat) (v : Bool) : (s.stampEdge n v).scanView = s.scanView := by
  simp only [State.stampEdge, State.scanView]
  (repeat' split) <;> simp

theorem State.setDi_scanView (n : Nat) (x : DiSt) : (s.setDi n x).scanView = s.scanView := rfl

theorem State.scanDi_scanView (n : Nat) (high : Bool) : (s.scanDi n high).scanView = s.scanView := by
  simp only [State.scanDi]
  (repeat' split) <;> simp only [State.stampEdge_scanView, State.setDi_scanView]

theorem State.sampleDi_scanView (n : Nat) (d : DiIn) : (s.sampleDi n d).scanView = s.scanView :=
  (State.scanDi_scanView _ n _).trans (s.setDi_scanView n _)

theorem State.scanDo_scanView (d : ScanData) (n : Nat) : (s.scanDo d n).scanView = s.scanView := rfl

/-- A valid frame ends the field watchdog (R454). -/
def State.frameNoted (s : State) (d : ScanData) : State :=
  if d.frameOk then { s with fio := { s.fio with wdog := false, frameAt := s.now } } else s

/-- Every input is sampled, then every output. -/
def State.channelsScanned (s : State) (d : ScanData) : State :=
  (List.range 8).foldl (fun s n => s.scanDo d n) ((List.range 16).foldl (fun s n => s.sampleDi n (d.di.getD n ⟨0, 0⟩)) s)

/-- The levels of the safety channels as the scan read them, and the replies missed in a row (R454). -/
def State.levelsRead (s : State) (d : ScanData) : State :=
  { s with fio := { s.fio with sampled := true, si := d.si, so := d.so, missed := if d.replyOk then 0 else s.fio.missed + 1 } }

theorem State.frameNoted_scanView (d : ScanData) : (s.frameNoted d).scanView = s.scanView := by
  unfold State.frameNoted
  split <;> rfl

theorem State.channelsScanned_scanView (d : ScanData) : (s.channelsScanned d).scanView = s.scanView :=
  (foldl_view State.scanView (fun u n => u.scanDo_scanView d n) _ _).trans
    (foldl_view State.scanView (fun u n => u.sampleDi_scanView n _) _ _)

theorem State.levelsRead_scanView (d : ScanData) :
    (s.levelsRead d).scanView = (s.scanView.1, if d.replyOk then 0 else s.scanView.2 + 1) := rfl

/-- The state of a scan before the safety inputs have their share of it (R445 to R450, R454). -/
def State.fieldScanned (s : State) (d : ScanData) : State := (((s.boundary .field).frameNoted d).channelsScanned d).levelsRead d

theorem State.fieldScanned_levels (d : ScanData) :
    (s.fieldScanned d).fio.sampled = true ∧ (s.fieldScanned d).fio.si = d.si ∧ (s.fieldScanned d).fio.so = d.so := ⟨rfl, rfl, rfl⟩

theorem State.fieldScanned_scanView (d : ScanData) :
    (s.fieldScanned d).scanView = (s.now, if d.replyOk then 0 else s.fio.missed + 1) := by
  have hbegun : (s.boundary .field).scanView = s.scanView :=
    congrArg (fun v : Nat × FioSt => (v.1, v.2.missed)) (s.boundary_fieldView .field)
  rw [State.fieldScanned, State.levelsRead_scanView, State.channelsScanned_scanView, State.frameNoted_scanView, hbegun]
  rfl

theorem exec_fieldScan (d : ScanData) (hfield : s.fieldOn = true) :
    exec (.fieldScan d) s = .next (((s.advanceTo ((s.now / 100000 + 1) * 100000)).fieldScanned d).siScan d.si) := by
  have hon : ∀ t : Nat, (s.advanceTo t).fieldOn = true := fun _ => hfield
  show execFieldScan d s = _
  rw [execFieldScan, if_neg (by simp [hon])]
  simp only [State.fieldScanned, State.frameNoted, State.channelsScanned, State.levelsRead]

/-! ### Open wires (R449) and output diagnostics (Table 16.1) -/

theorem State.stampEdge_di (n k : Nat) (v : Bool) : (s.stampEdge n v).di k = s.di k := by
  simp only [State.stampEdge, State.di]
  (repeat' split) <;> simp

end

section
variable {s : State} {n a : Nat}

theorem exec_diOpenWire_open (hn : n < 16) (hclosed : (s.di n).isOpen = false) (hlow : (s.di n).lowAt = some a) :
    ∃ t, exec (.diOpenWire n true) s = .next t ∧ (t.di n).isOpen = true ∧ (t.di n).state = false ∧ t.waits 0xA001 n 1 = true
      ∧ t.now = max s.now (a + 100000000) := by
  have hexec : exec (.diOpenWire n true) s = execDiOpenWire n true s := rfl
  simp only [execDiOpenWire, if_neg (Nat.not_le.2 hn), hclosed, hlow] at hexec
  refine ⟨_, hexec, ?_, ?_, State.raise_waits _ _ _ _ _ (by decide), ?_⟩
  · rw [State.di_congr (State.raise_fio _ _ _ _ _)]
    split <;> simp [State.stampEdge_di]
  · rw [State.di_congr (State.raise_fio _ _ _ _ _)]
    split <;> simp [State.stampEdge_di]
  · rw [State.raise_now]
    split
    · exact (congrArg Prod.fst (State.stampEdge_scanView _ _ _)).trans rfl
    · rfl

theorem exec_diOpenWire_recovered (hn : n < 16) (hopen : (s.di n).isOpen = true) (hfine : (s.di n).fineAt = some a) :
    exec (.diOpenWire n false) s =
      .next ((s.advanceTo (a + 100000000)).setDi n { s.di n with isOpen := false, c := 0, fineAt := none }) := by
  show execDiOpenWire n false s = _
  simp only [execDiOpenWire, if_neg (Nat.not_le.2 hn), hopen, hfine]

/-- An output latched or found low is counted and reported, and is off (R450, Table 16.1). -/
theorem State.doOff_of_raised {u : State} {f : DoSt → DoSt} {code : Nat} {data : Bytes}
    (hoff : ((f (u.dout n)).ovl || (f (u.dout n)).ot || (f (u.dout n)).supplyLow) = true) :
    (((u.updDo n f).inc 0x4A2 0).raise code n 1 data).doOn n = false := by
  refine State.doOn_of_latched ?_
  rw [State.dout_congr (State.raise_fio _ _ _ _ _), State.dout_congr (State.inc_fio _ _ _), State.dout_updDo_same]
  exact hoff

theorem exec_doDiagnostic_overload (hn : n < 8) (hlimit : (s.dout n).limitAt = some a) (hovl : (s.dout n).ovl = false)
    (hcool : (s.dout n).past = false) :
    exec (.doDiagnostic n .overload) s = .next ((((s.advanceTo (a + s.parN 0x484 0 * 1000000)).updDo n fun o => { o with ovl := true }).inc
      0x4A2 0).raise 0xA010 n 1) := by
  have hcold : ((s.advanceTo (a + s.parN 0x484 0 * 1000000)).dout n).past = false := hcool
  show execDoDiagnostic n .overload s = _
  simp only [execDoDiagnostic, if_neg (Nat.not_le.2 hn), hlimit, hovl, State.doOverload, State.doOverTemp, hcold]
  simp

theorem exec_doDiagnostic_overTemp (hn : n < 8) (hpast : (s.dout n).past = true) (hot : (s.dout n).ot = false) :
    exec (.doDiagnostic n .overTemp) s = .next (((s.updDo n fun o => { o with ot := true }).inc 0x4A2 0).raise 0xA013 n 1) := by
  show execDoDiagnostic n .overTemp s = _
  simp [execDoDiagnostic, Nat.not_le.2 hn, State.doOverTemp, hpast, hot]

theorem exec_doDiagnostic_supplyLow (hn : n < 8) (hon : bitOf (s.parN 0x483 0) n = true) (hlow : (s.dout n).lowAt = some a)
    (hup : (s.dout n).supplyLow = false) :
    exec (.doDiagnostic n .supplyLow) s = .next (((s.advanceTo (a + 1000000)).updDo n fun o => { o with supplyLow := true }).raise 0xA014 n 1) := by
  show execDoDiagnostic n .supplyLow s = _
  simp [execDoDiagnostic, Nat.not_le.2 hn, hon, hlow, hup]

/-! ### The field watchdog and the field supply (R453, R454) -/

/-- The outputs go to their declared safe states, and the watchdog is in force. -/
def State.inSafeStates (s : State) : State :=
  let t := (List.range 8).foldl (fun t n => t.updDo n fun o => { o with cmd := s.safeState n }) s
  { t with fio := { t.fio with wdog := true } }

theorem exec_fieldWatchdog (hfield : s.fieldOn = true) (hquiet : s.fio.wdog = false) :
    exec .fieldWatchdog s = .next ((s.advanceTo (s.fio.frameAt + s.parN 0x486 0 * 1000000)).inc 0x4A3 0).inSafeStates := by
  show execFieldWatchdog s = _
  rw [execFieldWatchdog, if_neg (by simp [hfield, hquiet])]
  rfl

theorem State.inSafeStates_wdog (s : State) : s.inSafeStates.fio.wdog = true := rfl

theorem State.inSafeStates_leaves (s : State) : (s.inSafeStates.now, s.inSafeStates.wcp) = (s.now, s.wcp) :=
  foldl_view (fun u : State => (u.now, u.wcp)) (f := fun t n => t.updDo n fun o => { o with cmd := s.safeState n }) (fun _ _ => rfl) _ _

theorem State.inSafeStates_cmd (s : State) {n : Nat} (hn : n < 8) (hsafe : s.safeState n = false) :
    (s.inSafeStates.dout n).cmd = false := by
  refine foldl_reaches (P := fun u : State => (u.dout n).cmd = false) (f := fun t n => t.updDo n fun o => { o with cmd := s.safeState n })
    (b := n) (fun u => ?_) (fun u k h => ?_) (List.mem_range.2 hn) s
  · rw [State.dout_updDo_same]
    exact hsafe
  · by_cases hk : n = k
    · subst hk
      rw [State.dout_updDo_same]
      exact hsafe
    · rw [State.dout_updDo_other _ _ hk]
      exact h

theorem State.safeState_off {s : State} {n : Nat} (hdeclared : fieldAt (s.par 0x485 0) n 1 = 0) : s.safeState n = false := by
  simp only [State.safeState, hdeclared]

theorem State.fieldOff_cmd (s : State) {n : Nat} (hn : n < 8) : (s.fieldOff.dout n).cmd = false := by
  refine foldl_reaches (P := fun u : State => (u.dout n).cmd = false) (f := fun s n => s.updDo n fun o =>
    { o with cmd := false, limitAt := none, openAt := none, highAt := none, lowAt := none }) (b := n) (fun u => ?_) (fun u k h => ?_)
    (List.mem_range.2 hn) s
  · rw [State.dout_updDo_same]
  · by_cases hk : n = k
    · rw [hk, State.dout_updDo_same]
    · rw [State.dout_updDo_other _ _ hk]
      exact h

theorem State.fio_of_frame_axes {t s : State} (h : t.frame .axes = s.frame .axes) : t.fio = s.fio :=
  congrArg (fun x : State × SMap Bytes => x.1.fio) h

theorem State.safe_of_frame_axes {t s : State} (h : t.frame .axes = s.frame .axes) : t.safe = s.safe :=
  congrArg (fun x : State × SMap Bytes => x.1.safe) h

theorem State.fio_of_frame_safe {t s : State} (h : t.frame .safe = s.frame .safe) : t.fio = s.fio :=
  congrArg (fun x : State × SMap Bytes => x.1.fio) h

/-- The outputs that open and the axes that stop leave the field inputs and outputs alone. -/
theorem State.fieldReset_frame (s : State) : s.fieldReset.frame .axes = s.fieldOff.openAll.frame .axes :=
  State.foldl_frame (fun u a => u.deenergise_frame a) _ _

theorem State.fieldReset_fio (s : State) : s.fieldReset.fio = s.fieldOff.fio :=
  (State.fio_of_frame_axes s.fieldReset_frame).trans (State.fio_of_frame_safe (s.fieldOff.openEvery_frame .clamp 0x0109))

theorem exec_fieldSupplyLow : exec .fieldSupplyLow s = .next (s.fieldReset.raise 0xA030 0 3) := rfl

theorem State.soOn_congr {t s : State} (h : t.safe = s.safe) (n : Nat) : t.soOn n = s.soOn n := by simp only [State.soOn, State.so, h]

theorem State.fieldReset_soOff (s : State) {n : Nat} (hn : n < 8) : s.fieldReset.soOn n = false := by
  obtain ⟨-, hopen⟩ := s.fieldOff.openAll_clamped (r := 0) (by decide)
  have hso : s.fieldReset.so n = .opened .clamp :=
    (congrArg (fun x : SafeSt => x.so.at n {}) (State.safe_of_frame_axes s.fieldReset_frame)).trans (hopen n (List.mem_range.2 hn))
  rw [State.soOn, hso]
  rfl

/-! ### Requests (Table 16.3) -/

theorem Same.doOn_eq {t s : State} (g : Same t s) (n : Nat) : t.doOn n = s.doOn n := by
  simp only [State.doOn, State.permit, g.fio_eq, g.sys_eq]

theorem Same.doStatus_eq {t s : State} (g : Same t s) (n : Nat) : t.doStatus n = s.doStatus n := by
  simp only [State.doStatus, g.doOn_eq, State.dout_congr g.fio_eq, State.permit, g.fio_eq, g.sys_eq]

theorem exec_fioStatus {u : State} {h : Hdr} (hpass : s.passes 0x0420 h false [] = true) (hu : u = s.admitted 0x0420 h []) :
    exec (.fioStatus h) s = .next (u.reply 0x0420 h 0 (leBytes 2 s.fio.diState.toNat ++ u16 s.diOpen ++ leBytes 1 s.fio.si.toNat ++ [0]
      ++ ((List.range 8).flatMap fun n => u32 (s.doStatus n)) ++ leBytes 2 s.fio.so.toNat)) := by
  subst hu
  have hsame := s.admitted_same 0x0420 h []
  have hopen : (s.admitted 0x0420 h []).diOpen = s.diOpen := by simp only [State.diOpen, State.di_congr hsame.fio_eq]
  show execFioStatus h s = _
  rw [execFioStatus, State.wcpReq_of_passes _ _ _ _ _ hpass]
  simp only [hopen, hsame.doStatus_eq, hsame.fio_eq]

theorem exec_fioEdges {u : State} {h : Hdr} {m : Byte} (hpass : s.passes 0x0421 h false [] = true) (hu : u = s.admitted 0x0421 h [m]) :
    ∃ body, exec (.fioEdges h m) s = .next
      (({ u with fio := { s.fio with edges := s.fio.edges.drop m.toNat } } : State).reply 0x0421 h 0 body) := by
  subst hu
  have hexec : exec (.fioEdges h m) s = execFioEdges h m s := rfl
  rw [execFioEdges, State.wcpReq_of_passes _ _ _ _ _ hpass] at hexec
  simp only [State.admitted_fio] at hexec
  exact ⟨_, hexec⟩

theorem exec_fioDoClear {u : State} {h : Hdr} {m : Byte} (hpass : s.passes 0x0422 h false [] = true) (hu : u = s.admitted 0x0422 h [m])
    (hm : bitsSet 8 m.toNat = [n]) (hcool : (s.dout n).hot = false) :
    exec (.fioDoClear h m) s = .next ((u.clearDo n).reply 0x0422 h 0 (u16 0)) := by
  subst hu
  have hcold : ((s.admitted 0x0422 h [m]).dout n).hot = false := by rw [State.dout_congr (s.admitted_fio _ _ _), hcool]
  show execFioDoClear h m s = _
  rw [execFioDoClear, State.wcpReq_of_passes _ _ _ _ _ hpass, hm]
  simp [hcold]

theorem State.clearDo_latches (s : State) (n : Nat) : ((s.clearDo n).dout n).ovl = false ∧ ((s.clearDo n).dout n).ot = false := by
  rw [State.clearDo, State.dout_updDo_same]
  split
  · exact ⟨rfl, rfl⟩
  next h => exact Bool.or_eq_false_iff.1 (Bool.eq_false_iff.2 h)

end
end Sys2Proof.Machine
end

section
/-! SUPPORT. O36: field inputs and outputs. -/

namespace Sys2Proof.Machine
open Sys2Proof

/-- Settles O36: each clause is the command's own next state above (`exec_fieldScan` to `exec_fioDoClear`), read back at its input or output. -/
theorem fieldIoComplete : Obligations.FieldIoComplete := by
  unfold Obligations.FieldIoComplete
  refine ⟨?scan, ?wireOpen, ?wireFine, ?overload, ?overTemp, ?supplyLow, ?watchdog, ?barrier, ?supply, ?status, ?edges, ?clear⟩
  case scan =>
    intro s d hfield
    obtain ⟨hnow, hmissed⟩ := Prod.mk.inj ((s.advanceTo ((s.now / 100000 + 1) * 100000)).fieldScanned_scanView d)
    obtain ⟨hsampled, hsi, hso⟩ := (s.advanceTo ((s.now / 100000 + 1) * 100000)).fieldScanned_levels d
    refine ⟨_, exec_fieldScan s d hfield, hsampled, hsi, hso, hmissed, hnow.trans ?_⟩
    exact Nat.max_eq_right (by omega)
  case wireOpen =>
    exact fun s n a hn hclosed hlow => exec_diOpenWire_open hn hclosed hlow
  case wireFine =>
    exact fun s n a hn hopen hfine => ⟨_, exec_diOpenWire_recovered hn hopen hfine, by simp, rfl, rfl⟩
  case overload =>
    intro s n a hn hlimit hovl hcool
    refine ⟨_, exec_doDiagnostic_overload hn hlimit hovl hcool, ?_, State.doOff_of_raised rfl, State.raise_waits _ _ _ _ _ (by decide), ?_, ?_⟩
    · rw [State.dout_congr (State.raise_fio _ _ _ _ _), State.dout_congr (State.inc_fio _ _ _), State.dout_updDo_same]
      rfl
    · rw [State.count_congr (State.raise_wcp _ _ _ _ (by decide)), State.count_inc_same]
      rfl
    · rw [State.raise_now]
      rfl
  case overTemp =>
    intro s n hn hpast hot
    refine ⟨_, exec_doDiagnostic_overTemp hn hpast hot, ?_, State.doOff_of_raised (by simp), State.raise_waits _ _ _ _ _ (by decide), ?_, ?_⟩
    · rw [State.dout_congr (State.raise_fio _ _ _ _ _), State.dout_congr (State.inc_fio _ _ _), State.dout_updDo_same]
    · rw [State.count_congr (State.raise_wcp _ _ _ _ (by decide)), State.count_inc_same]
      rfl
    · rw [State.raise_now]
      rfl
  case supplyLow =>
    intro s n a hn hon hlow hup
    have hfio := State.raise_fio ((s.advanceTo (a + 1000000)).updDo n fun o => { o with supplyLow := true }) 0xA014 n 1 []
    refine ⟨_, exec_doDiagnostic_supplyLow hn hon hlow hup, ?_, State.doOn_of_latched ?_, State.raise_waits _ _ _ _ _ (by decide), ?_⟩
    · rw [State.dout_congr hfio, State.dout_updDo_same]
      rfl
    · rw [State.dout_congr hfio, State.dout_updDo_same]
      simp
    · rw [State.raise_now]
      rfl
  case watchdog =>
    intro s hfield hquiet
    obtain ⟨hnow, hwcp⟩ := Prod.mk.inj ((s.advanceTo (s.fio.frameAt + s.parN 0x486 0 * 1000000)).inc 0x4A3 0).inSafeStates_leaves
    refine ⟨_, exec_fieldWatchdog hfield hquiet, State.inSafeStates_wdog _, hnow, ?_, fun n hn hdeclared => ?_⟩
    · exact (State.count_congr hwcp _ _).trans (State.count_inc_same _ _ _)
    · exact State.inSafeStates_cmd _ hn (State.safeState_off hdeclared)
  case barrier =>
    intro s hmissed
    refine ⟨_, congrArg Host.Outcome.next (if_neg (Nat.not_lt.2 hmissed)), State.raise_waits _ _ _ _ _ (by decide), ?_, ?_⟩
    · exact State.raise_fio _ _ _ _ _
    · exact State.raise_now _ _ _ _ _
  case supply =>
    intro s
    have hfio : (s.fieldReset.raise 0xA030 0 3).fio = s.fieldOff.fio := (State.raise_fio _ _ _ _ _).trans s.fieldReset_fio
    refine ⟨_, exec_fieldSupplyLow, State.raise_waits _ _ _ _ _ (by decide), congrArg FioSt.sampled hfio, fun n hn => ?_, fun n hn => ?_⟩
    · rw [State.dout_congr hfio]
      exact s.fieldOff_cmd hn
    · rw [State.soOn_congr (State.raise_same _ _ _ _ _).safe_eq]
      exact s.fieldReset_soOff hn
  case status =>
    exact fun s h u hpass hu => exec_fioStatus hpass hu
  case edges =>
    intro s h m hpass
    obtain ⟨body, hexec⟩ := exec_fioEdges hpass rfl
    exact ⟨_, hexec, State.reply_fio _ _ _ _ _, (State.reply_now _ _ _ _ _).trans (s.admitted_now _ _ _)⟩
  case clear =>
    intro s h m n hpass hm hcool
    have hdout : ∀ k, (((s.admitted 0x0422 h [m]).clearDo n).reply 0x0422 h 0 (u16 0)).dout k = ((s.admitted 0x0422 h [m]).clearDo n).dout k :=
      State.dout_congr (State.reply_fio _ _ _ _ _)
    obtain ⟨hovl, hot⟩ := (s.admitted 0x0422 h [m]).clearDo_latches n
    refine ⟨_, exec_fioDoClear hpass rfl hm hcool, ?_, ?_, fun k hk => ?_⟩
    · rw [hdout, hovl]
    · rw [hdout, hot]
    · rw [hdout, State.clearDo, State.dout_updDo_other _ _ hk, State.dout_congr (s.admitted_fio _ _ _)]

end Sys2Proof.Machine
end

section
/-! SUPPORT. The rules that O33 and O34 share: ports under writes, what faults and replies leave of chapter 14, and which of its readings depend on
what is kept alone. -/

namespace Sys2Proof.Machine
open Sys2Proof

/-! ### Replies and admission leave chapter 14, the recorder and the fault manager alone -/

section
variable (s : State)

theorem State.post_leaves (k : Packet) : ((s.post k).net, (s.post k).recd, (s.post k).fm) = (s.net, s.recd, s.fm) := by
  unfold State.post
  split <;> rfl

theorem State.reply_leaves (op : Nat) (h : Hdr) (status : Nat) (body : Bytes) :
    ((s.reply op h status body).net, (s.reply op h status body).recd, (s.reply op h status body).fm) = (s.net, s.recd, s.fm) := by
  unfold State.reply
  split
  · rfl
  · exact (State.post_leaves _ _).trans rfl

@[simp] theorem State.reply_net (op h status body) : (s.reply op h status body).net = s.net := congrArg (·.1) (s.reply_leaves op h status body)
@[simp] theorem State.reply_recd (op h status body) : (s.reply op h status body).recd = s.recd := congrArg (·.2.1) (s.reply_leaves op h status body)
@[simp] theorem State.reply_fm (op h status body) : (s.reply op h status body).fm = s.fm := congrArg (·.2.2) (s.reply_leaves op h status body)

@[simp] theorem State.admitted_net (op h pl) : (s.admitted op h pl).net = s.net := by
  unfold State.admitted State.fbCommand State.fbPush
  split
  · rfl
  · split <;> rfl

/-- A counter beside the one raised. -/
theorem State.count_inc_other {i j id inst : Nat} (hne : key id inst ≠ key i j) : (s.inc i j).count id inst = s.count id inst :=
  SMap.at_set_other _ _ _ hne

/-! ### Ports under writes -/

theorem State.eth_congr {t s : State} (h0 : t.net.eth0 = s.net.eth0) (h1 : t.net.eth1 = s.net.eth1) (h2 : t.net.svc = s.net.svc) (p : Nat) :
    t.eth p = s.eth p := by
  unfold State.eth
  rw [h0, h1, h2]

@[simp] theorem State.eth_setEth_same (p : Nat) (x : PortSt) : (s.setEth p x).eth p = x := by
  match p with
  | 0 => rfl
  | 1 => rfl
  | _ + 2 => rfl

theorem State.eth_setEth_twin {p : Nat} (x : PortSt) (hp : p < 2) : (s.setEth p x).eth (1 - p) = s.eth (1 - p) := by
  obtain rfl | rfl : p = 0 ∨ p = 1 := by omega
  · rfl
  · rfl

@[simp] theorem State.inc_eth (i j p : Nat) : (s.inc i j).eth p = s.eth p := rfl

/-- What the other fields of chapter 14 keep under the write of a port. -/
theorem State.setEth_net (p : Nat) (x : PortSt) : (s.setEth p x).net.port = s.net.port ∧ (s.setEth p x).net.bias = s.net.bias := by
  unfold State.setEth
  split <;> exact ⟨rfl, rfl⟩

@[simp] theorem State.setEth_par (p x id inst) : (s.setEth p x).par id inst = s.par id inst :=
  State.par_congr (by simp) (by simp) (by simp) id inst

@[simp] theorem State.setEth_parN (p x id inst) : (s.setEth p x).parN id inst = s.parN id inst := by simp only [State.parN, State.setEth_par]

end

/-! ### States that agree on what is kept -/

section
variable {t s : State} (g : Same t s)
include g

theorem Same.eth_eq (p : Nat) : t.eth p = s.eth p := by
  have hkept : ∀ u : State, u.eth p = u.kept.eth p := fun u => u.eth_congr rfl rfl rfl p
  rw [hkept, hkept s, g.1]

theorem Same.netOn_eq : t.netOn = s.netOn := by simp only [State.netOn, g.sys_eq]
theorem Same.portOn_eq (p : Nat) : t.portOn p = s.portOn p := by simp only [State.portOn, g.netOn_eq, g.parN_eq]
theorem Same.holdsPair_eq : t.holdsPair = s.holdsPair := by simp only [State.holdsPair, g.isActive_eq, g.parN_eq]
theorem Same.mac_eq (p : Nat) : t.mac p = s.mac p := g.par _ _

theorem Same.forUs_eq (p : Nat) (ip : BitVec 32) : t.forUs p ip = s.forUs p ip := by
  simp only [State.forUs, State.ownIp, g.parN_eq, g.holdsPair_eq]

theorem Same.ptpOn_eq (p : Nat) : t.ptpOn p = s.ptpOn p := by simp only [State.ptpOn, g.portOn_eq, g.parN_eq, g.eth_eq]
theorem Same.p2p_eq : t.p2p = s.p2p := by simp only [State.p2p, g.parN_eq]
theorem Same.ptpOurs_eq (m : PtpHdr) : t.ptpOurs m = s.ptpOurs m := by simp only [State.ptpOurs, g.parN_eq]
theorem Same.pathDelay_eq (p : Nat) : t.pathDelay p = s.pathDelay p := by simp only [State.pathDelay, g.eth_eq, g.parN_eq]
theorem Same.source_eq (p : Nat) : t.source p = s.source p := by simp only [State.source, g.ptpOn_eq, g.eth_eq]

/-- The servo's state and the jump and step it judges. -/
theorem Same.servo_eq : t.net.port = s.net.port ∧ t.net.bias = s.net.bias ∧ t.net.servo = s.net.servo ∧ t.net.jump = s.net.jump
    ∧ t.net.step = s.net.step ∧ t.net.everLocked = s.net.everLocked ∧ t.net.holdLong = s.net.holdLong :=
  ⟨congrArg (·.net.port) g.1, congrArg (·.net.bias) g.1, congrArg (·.net.servo) g.1, congrArg (·.net.jump) g.1, congrArg (·.net.step) g.1,
    congrArg (·.net.everLocked) g.1, congrArg (·.net.holdLong) g.1⟩

theorem Same.ptpStatus_eq : t.ptpStatus = s.ptpStatus := by
  obtain ⟨hport, -, hservo, hjump, -, hlocked, hlong⟩ := g.servo_eq
  simp only [State.ptpStatus, g.source_eq, g.isStandby_eq, hport, hservo, hjump, hlocked, hlong]

end

/-! ### Frames that leave (R421) -/

/-- A port that takes part in traffic and whose link is up. -/
theorem State.ethOut_wsf {s : State} {p : Nat} {data : Bytes} (hon : s.portOn p = true) (hlink : (s.eth p).link = 1) :
    s.ethOut p 9 data = (s.inc 0x841 p).emit (.eth p 9 data) := by
  simp [State.ethOut, hon, hlink]

/-- Frames that leave take nothing of time and of chapters 1 to 3 with them, nor of the servo's step and jump. -/
def State.clockView (s : State) : Nat × SysSt × Option (Nat × Int) × Option Int := (s.now, s.sys, s.net.step, s.net.jump)

theorem State.setEth_clockView (s : State) (p : Nat) (x : PortSt) : (s.setEth p x).clockView = s.clockView := by
  unfold State.setEth
  split <;> rfl

theorem State.ethOut_clockView (s : State) (p kind : Nat) (data : Bytes) : (s.ethOut p kind data).clockView = s.clockView := by
  simp only [State.ethOut]
  (repeat' split)
  · rfl
  · exact s.setEth_clockView _ _
  · rfl

theorem State.flushPast_clockView (s : State) (p : Nat) : (s.flushPast p).clockView = s.clockView :=
  (foldl_view State.clockView (fun u _ => u.ethOut_clockView p _ _) _ _).trans (s.setEth_clockView _ _)

theorem Same.clockView_eq {t s : State} (g : Same t s) : t.clockView = s.clockView := by
  obtain ⟨-, -, -, hjump, hstep, -, -⟩ := g.servo_eq
  simp only [State.clockView, g.now_eq, g.sys_eq, hjump, hstep]

end Sys2Proof.Machine
end

section
/-! SUPPORT. The next state of each command of links, addresses, PRP and launch times where it acts (14 R401 to R408, R421, R422). -/

namespace Sys2Proof.Machine
open Sys2Proof

section
variable {s : State} {p : Nat}

theorem exec_ethLinkChange_up (hp : p < 2) (hdown : (s.eth p).link = 0) :
    exec (.ethLinkChange p 1) s = .next ((s.setEth p { s.eth p with link := 1 }).raise 0x8005 p 0).reselect := by
  show execEthLinkChange p 1 s = _
  simp [execEthLinkChange, hdown, show ¬ 3 ≤ p by omega, show p ≠ 2 by omega]

/-- A plant port without its link: its queues and its PTP answers are dropped. -/
def PortSt.unlinked (x : PortSt) : PortSt := { x with link := 0, queue := [], waiting := [], offsets := [], sync := none, reqAt := none }

theorem exec_ethLinkChange_down (hp : p < 2) (hup : (s.eth p).link = 1) (htwin : (s.eth (1 - p)).link = 1) :
    exec (.ethLinkChange p 0) s = .next ((s.setEth p (s.eth p).unlinked).raise (0x8001 + p) 0 1).reselect := by
  have hother : (((s.setEth p (s.eth p).unlinked).raise (0x8001 + p) 0 1).eth (1 - p)).link = 1 := by
    rw [(State.raise_same _ _ _ _ _).eth_eq, s.eth_setEth_twin _ hp, htwin]
  have hboth : (if (((s.setEth p (s.eth p).unlinked).raise (0x8001 + p) 0 1).eth (1 - p)).link ≠ 1
      then ((s.setEth p (s.eth p).unlinked).raise (0x8001 + p) 0 1).raise 0x8003 0 1
      else (s.setEth p (s.eth p).unlinked).raise (0x8001 + p) 0 1) = (s.setEth p (s.eth p).unlinked).raise (0x8001 + p) 0 1 :=
    if_neg (by simp [hother])
  show execEthLinkChange p 0 s = _
  simp only [execEthLinkChange, hup, show ¬ (3 ≤ p ∨ 3 ≤ 0) by omega, show p ≠ 2 by omega, if_false, if_true,
    show ¬ (0 : Nat) = 2 by decide, show ¬ (0 : Nat) = 1 by decide]
  exact congrArg (fun u : State => Host.Outcome.next u.reselect) hboth

theorem exec_arpRequest {f : EthIn} {ip : BitVec 32} {m : Bytes} (hplant : f.port < 2) (hon : s.portOn f.port = true) (hpassed : f.passed = false)
    (hfcs : f.fcsOk = true) (htags : s.tagsOk f.tags = true) (hus : s.forUs f.port ip = true) :
    exec (.arpRequest f ip m) s = .next ((s.inc 0x840 f.port).plantOut 1 (s.mac f.port ++ beBytes 4 ip.toNat ++ m)) := by
  have hsame := s.inc_same 0x840 f.port
  show execArpRequest f ip m s = _
  rw [execArpRequest, State.ethIn_of_good _ hon (.inr ⟨hfcs, htags⟩), hpassed]
  simp [hsame.forUs_eq, hsame.mac_eq, hus, show f.port ≠ 2 by omega]

theorem exec_icmpEcho {f : EthIn} {a b : BitVec 32} {d : Bytes} (hplant : f.port < 2) (hon : s.portOn f.port = true) (hpassed : f.passed = false)
    (hfcs : f.fcsOk = true) (htags : s.tagsOk f.tags = true) (hus : s.forUs f.port a = true)
    (hroom : (s.net.echoes.filter fun t => s.now < t + 1000000000).length < 10) :
    exec (.icmpEcho f a b d) s = .next (State.plantOut { s.inc 0x840 f.port with
      net := { s.net with echoes := s.now :: s.net.echoes.filter fun t => s.now < t + 1000000000 } } 2 (beBytes 4 b.toNat ++ d)) := by
  have hus' := ((s.inc_same 0x840 f.port).forUs_eq f.port a).trans hus
  show execIcmpEcho f a b d s = _
  rw [execIcmpEcho, State.ethIn_of_good _ hon (.inr ⟨hfcs, htags⟩), hpassed]
  simp only [Bool.false_eq_true, if_false, hus', Bool.not_true,
    if_pos (show (List.filter (fun t => decide ((s.inc 0x840 f.port).now < t + 1000000000))
    (s.inc 0x840 f.port).net.echoes).length < 10 from hroom), if_neg (show f.port ≠ 2 by omega)]
  rfl

theorem exec_gratuitousArp {t0 : Nat} {l : List Nat} (harps : s.net.arps = t0 :: l) (hpair : s.holdsPair = true) :
    exec .gratuitousArp s = .next (State.plantOut { s.advanceTo t0 with net := { s.net with arps := l } } 3
      (s.mac 0 ++ beBytes 4 (s.parN 0x805 0))) := by
  have hexec : exec .gratuitousArp s = execGratuitousArp s := rfl
  simp only [execGratuitousArp, harps] at hexec
  exact hexec.trans (congrArg Host.Outcome.next (if_pos hpair))

theorem exec_prpSupervision (hnet : s.netOn = true) (hprp : s.parN 0x807 0 ≠ 0) :
    exec .prpSupervision s = .next (State.ethOut (State.ethOut { s.advanceTo (s.net.supAt + s.parN 0x809 0 * 1000000) with
      net := { s.net with supAt := max s.now (s.net.supAt + s.parN 0x809 0 * 1000000) } } 0 4 (s.mac 0)) 1 4 (s.mac 0)) := by
  show execPrpSupervision s = _
  rw [execPrpSupervision, if_neg (by simp [hnet, hprp])]
  rfl

/-- The table of a PRP frame that comes by its own port (R407). -/
theorem exec_prpFrame {f : EthIn} {i : Nat} {q : BitVec 16} (hplant : f.port < 2) (hon : s.portOn f.port = true) (hpassed : f.passed = false)
    (hfcs : f.fcsOk = true) (htags : s.tagsOk f.tags = true) (hprp : s.parN 0x807 0 ≠ 0)
    {tbl : SMap (List (BitVec 16 × Nat))} (htbl : tbl = (s.net.prpSeen.map fun e => (e.1, e.2.filter fun x => decide
      (s.now < x.2 + s.parN 0x808 0 * 1000000))).filter fun e => e.2 ≠ []) :
    exec (.prpFrame f i q f.port) s = .next (
      if (tbl.at i []).any fun e => e.1 == q then ({ s.inc 0x840 f.port with net := { s.net with prpSeen := tbl } } : State).inc 0x845 0
      else if tbl.at i [] = [] ∧ 256 ≤ tbl.length then ({ s.inc 0x840 f.port with net := { s.net with prpSeen := tbl } } : State).inc 0x847 0
      else { s.inc 0x840 f.port with net := { s.net with prpSeen := tbl.set i ((q, s.now) :: tbl.at i []) } }) := by
  subst htbl
  have hin : ¬ (2 ≤ f.port ∨ s.parN 0x807 0 = 0 ∨ f.passed = true) := by simp [hprp, hpassed]; omega
  show execPrpFrame f i q f.port s = _
  rw [execPrpFrame, if_neg hin, State.ethIn_of_good _ hon (.inr ⟨hfcs, htags⟩), hpassed]
  simp only [ne_eq, not_true_eq_false, if_false, Bool.false_eq_true]
  rfl

/-- A WSF PDU at its launch time: it leaves the queue and the port, and is late beyond NET.LAUNCH_LATE_NS (R421, R422). -/
theorem exec_launchTime {g : LaunchFrame} {sent : State} (hp : p < 2) (hon : s.portOn p = true) (hlink : (s.eth p).link = 1)
    (hqueue : (s.eth p).queue = [g]) (hkind : g.kind = 9)
    (hsent : sent = (((s.advanceTo g.launch).setEth p { s.eth p with queue := [] }).inc 0x841 p).emit (.eth p 9 g.data)) :
    exec (.launchTime p g.data g.launch) s =
      .next ((if max s.now g.launch ≤ g.launch + s.parN 0x80C 0 then sent else sent.launchLate p).sendWaiting p) := by
  let u := (s.advanceTo g.launch).setEth p { s.eth p with queue := [] }
  have hopen : u.portOn p = true := by
    rw [← hon]
    simp only [u, State.portOn, State.netOn, State.setEth_parN, State.setEth_sys]
    rfl
  have hup : (u.eth p).link = 1 := by simp [u, hlink]
  have hout : u.ethOut p g.kind g.data = sent := by rw [hkind, State.ethOut_wsf hopen hup, hsent]
  have hlate : sent.parN 0x80C 0 = s.parN 0x80C 0 := by
    subst hsent
    exact ((State.emit_same _ _).trans (State.inc_same _ _ _)).parN_eq 0x80C 0 |>.trans ((s.advanceTo g.launch).setEth_parN p _ 0x80C 0)
  have hnow : sent.now = max s.now g.launch := by
    subst hsent
    exact State.setEth_now _ _ _
  show execLaunchTime p g.data g.launch s = _
  have hfound : (s.eth p).queue.find? (fun x : LaunchFrame => x.launch == g.launch && x.data == g.data) = some g := by simp [hqueue]
  have hport : (s.advanceTo g.launch).eth p = s.eth p := State.eth_congr rfl rfl rfl p
  have hgone : (s.eth p).queue.eraseIdx ((s.eth p).queue.findIdx fun x : LaunchFrame => x.launch == g.launch && x.data == g.data) = [] := by
    simp [hqueue, List.findIdx_cons]
  simp only [execLaunchTime, hfound, if_neg (Nat.not_le.2 hp), hport, hgone]
  rw [show ((s.advanceTo g.launch).setEth p { s.eth p with queue := [] }).ethOut p g.kind g.data = sent from hout, hlate, hnow]

theorem exec_netStatus {u : State} {h : Hdr} (hpass : s.passes 0x0800 h false [] = true) (hu : u = s.admitted 0x0800 h []) :
    exec (.netStatus h) s = .next (u.reply 0x0800 h 0 (([0, 1, 2].flatMap fun p => u8 (s.eth p).link ++ [0, 0, 0]) ++ u32 (s.parN 0x805 0)
      ++ u8 (if s.holdsPair then 1 else 0))) := by
  subst hu
  have hsame := s.admitted_same 0x0800 h []
  show execNetStatus h s = _
  rw [execNetStatus, State.wcpReq_of_passes _ _ _ _ _ hpass]
  simp only [hsame.eth_eq, hsame.parN_eq, hsame.holdsPair_eq]

end
end Sys2Proof.Machine
end

section
/-! SUPPORT. O33: networks. -/

namespace Sys2Proof.Machine
open Sys2Proof

/-- A table of PRP frames none of whose entries has aged (R407) is kept whole. -/
theorem prpTable_fresh {now : Nat} {i : Nat} {q : BitVec 16} {ms : Nat} (hms : ms ≠ 0) {tbl : SMap (List (BitVec 16 × Nat))}
    (htbl : tbl = [(i, [(q, now)])]) :
    ((tbl.map fun e => (e.1, e.2.filter fun x => decide (now < x.2 + ms * 1000000))).filter fun e => e.2 ≠ []) = tbl := by
  have hlive : now < now + ms * 1000000 := by omega
  subst htbl
  simp [hlive]

/-- Settles O33: each clause is the command's own next state above (`exec_ethLinkChange_up` to `exec_netStatus`), read back. -/
theorem networkComplete : Obligations.NetworkComplete := by
  unfold Obligations.NetworkComplete
  refine ⟨?up, ?down, ?arp, ?echo, ?gratuitous, ?supervision, ?first, ?second, ?launch, ?late, ?status⟩
  case up =>
    intro s p hp hdown
    refine ⟨_, exec_ethLinkChange_up hp hdown, ?_, ?_⟩
    · rw [(State.raise_same _ _ _ _ _).eth_eq, State.eth_setEth_same]
    · simp
  case down =>
    intro s p hp hup htwin
    have heth := ((s.setEth p (s.eth p).unlinked).raise_same (0x8001 + p) 0 1 []).eth_eq p
    rw [State.eth_setEth_same] at heth
    refine ⟨_, exec_ethLinkChange_down hp hup htwin, ?_, ?_, ?_, State.raise_waits _ _ _ _ _ (by decide)⟩
    · rw [heth]; rfl
    · rw [heth]; rfl
    · rw [heth]; rfl
  case arp =>
    exact fun s f ip m hplant hon hpassed hfcs htags hus => exec_arpRequest hplant hon hpassed hfcs htags hus
  case echo =>
    exact fun s f a b d hplant hon hpassed hfcs htags hus hroom => ⟨_, exec_icmpEcho hplant hon hpassed hfcs htags hus hroom, rfl⟩
  case gratuitous =>
    exact fun s t0 l harps hpair => ⟨_, exec_gratuitousArp harps hpair, rfl, rfl⟩
  case supervision =>
    exact fun s hnet hprp => ⟨_, exec_prpSupervision hnet hprp, rfl, rfl⟩
  case first =>
    intro s f i q hplant hon hpassed hfcs htags hprp hnone
    refine ⟨_, exec_prpFrame hplant hon hpassed hfcs htags hprp (tbl := []) (by simp [hnone]), ?_, ?_⟩
    · rfl
    · exact s.count_inc_other (by simp only [key]; omega)
  case second =>
    intro s f i q hplant hon hpassed hfcs htags hprp hms hseen
    have hfound : (SMap.at s.net.prpSeen i []).any (fun e => e.1 == q) = true := by simp [hseen, SMap.at]
    refine ⟨_, exec_prpFrame hplant hon hpassed hfcs htags hprp (prpTable_fresh hms hseen).symm, ?_, ?_⟩
    · rw [if_pos hfound, State.count_inc_same]
      exact congrArg (fun n => min 0xFFFFFFFF (n + 1)) (s.count_inc_other (by simp only [key]; omega))
    · rw [if_pos hfound]
      rfl
  case launch =>
    intro s p g l hp hon hlink hqueue hkind hl hdue
    subst hl
    have hexec := exec_launchTime hp hon hlink hqueue hkind rfl
    rw [if_pos (by omega)] at hexec
    refine ⟨_, hexec, ?_, ?_, ?_, ?_⟩
    · exact (State.setEth_now _ _ _).trans (Nat.max_eq_right hdue)
    · exact congrArg PortSt.queue (State.eth_setEth_same (s.advanceTo g.launch) p _)
    · exact congrArg (· ++ [Out.eth p 9 g.data]) (State.setEth_out _ _ _)
    · simp
  case late =>
    intro s p g l hp hon hlink hqueue hkind hl hlate
    subst hl
    have hexec := exec_launchTime hp hon hlink hqueue hkind rfl
    rw [if_neg (by omega)] at hexec
    refine ⟨_, hexec, ?_, ?_⟩
    · exact (State.setEth_now _ _ _).trans (Nat.max_eq_left (by omega))
    · exact congrArg (· ++ [Out.eth p 9 g.data]) (State.setEth_out _ _ _)
  case status =>
    exact fun s h u hpass hu => exec_netStatus hpass hu

end Sys2Proof.Machine
end

section
/-! SUPPORT. The next state of each PTP and time command where it acts (14 R410 to R420, R425). -/

namespace Sys2Proof.Machine
open Sys2Proof

section
variable {s : State} {f : EthIn} {m : PtpHdr} {k : Nat}

theorem State.ptpOn_port {p : Nat} (hon : s.ptpOn p = true) : p < 2 ∧ s.portOn p = true := by
  simp only [State.ptpOn, Bool.and_eq_true, decide_eq_true_eq] at hon
  exact ⟨hon.1.1.1, hon.1.1.2⟩

/-- An accepted PTP message of a type the command takes runs the command's act behind the port's frame counter. -/
theorem State.ptpIn_of_arrives {kinds : List Nat} (act : State → State) (harrives : ptpArrives s f m k) (hkind : kinds.contains k = true) :
    s.ptpIn f m kinds act = act (s.inc 0x840 f.port) := by
  obtain ⟨hon, hpassed, hfcs, htags, hours, htype⟩ := harrives
  obtain ⟨hplant, hopen⟩ := State.ptpOn_port hon
  have hsame := s.inc_same 0x840 f.port
  rw [State.ptpIn, State.ethIn_of_good _ hopen (.inr ⟨hfcs, htags⟩), hpassed]
  simp only [Bool.false_eq_true, if_false, if_neg (Nat.not_le.2 hplant), hsame.ptpOn_eq, hon, hsame.ptpOurs_eq, hours, Bool.not_true, htype, hkind,
    if_true]

/-- A port's first Announce (R416): its sender is the port's master. -/
theorem exec_ptpAnnounce_first {a : AnnounceData} (harrives : ptpArrives s f m 11) (hnone : (s.eth f.port).master = none) {u : State}
    (hu : u = (s.inc 0x840 f.port).setEth f.port { s.eth f.port with master := some a, annAt := s.now }) :
    exec (.ptpAnnounce f m a) s = .next ({ u with net := { u.net with annIv := a.interval, jumps := u.net.jumps } } : State).reselect := by
  subst hu
  show execPtpAnnounce f m a s = _
  rw [execPtpAnnounce, State.ptpIn_of_arrives _ harrives rfl]
  simp only [State.inc_eth, hnone]
  rfl

/-- Announce intervals without one (R416). -/
theorem exec_ptpAnnounceTimeout {p : Nat} {a : AnnounceData} (hp : p < 2) (hmaster : (s.eth p).master = some a) :
    exec (.ptpAnnounceTimeout p) s = .next ((((s.advanceTo ((s.eth p).annAt + s.parN 0x866 0 * a.interval)).inc 0x8A3 0).setEth p
      { s.eth p with master := none, offsets := [], sync := none }).reselect.lostSync) := by
  have hexec : exec (.ptpAnnounceTimeout p) s = execPtpAnnounceTimeout p s := rfl
  simp only [execPtpAnnounceTimeout, hmaster, if_neg (Nat.not_le.2 hp)] at hexec
  exact hexec

/-- What the difference of the ports leaves alone (R416): it changes its own readings, and a fault of severity 1 waits. -/
def State.portView (s : State) : (PortSt × PortSt × PortSt) × (Nat × Int) × SysSt × WcpSt :=
  ((s.net.eth0, s.net.eth1, s.net.svc), (s.net.port, s.net.bias), s.sys, s.wcp)

theorem State.raise_portView (s : State) (code inst : Nat) {sev : Nat} (data : Bytes) (h : sev ≠ 0) :
    (s.raise code inst sev data).portView = s.portView := by
  have hkept := (s.raise_same code inst sev data).1
  have hports : ∀ g : NetSt → PortSt × PortSt × PortSt, g (s.raise code inst sev data).kept.net = g s.kept.net :=
    fun g => congrArg (g ·.net) hkept
  obtain ⟨hport, hbias, -⟩ := (s.raise_same code inst sev data).servo_eq
  simp only [State.portView, hport, hbias, State.raise_sys, State.raise_wcp _ _ _ _ h]
  exact congrArg (·, (s.net.port, s.net.bias), s.sys, s.wcp) (hports fun n => (n.eth0, n.eth1, n.svc))

theorem State.portDiff_portView (s : State) (p : Nat) (o : Int) : (s.portDiff p o).portView = s.portView := by
  unfold State.portDiff
  split
  · rfl
  · extract_lets ds u due
    split
    · exact State.raise_portView _ _ _ _ (by decide)
    · rfl

/-- A port behind an accepted Sync of its master (R415, R416), `o` its offset. -/
def PortSt.synced (x : PortSt) (q : Nat × Int × Int) (o : Int) (good : Nat) : PortSt :=
  { x with sync := some q, offsets := (o :: x.offsets).take 16, good := good }

/-- A state behind an accepted Sync of a port (R414 to R416), before the servo runs on it. -/
def State.synced (s : State) (p : Nat) (q : Nat × Int × Int) (o : Int) (good : Nat) : State :=
  let u := (s.inc 0x8A0 0).setEth p ((s.eth p).synced q o good)
  ({ u with net := { u.net with syncAt := u.now } } : State).portDiff p o

theorem State.synced_leaves (s : State) (p : Nat) (q : Nat × Int × Int) (o : Int) (good : Nat) :
    ((s.synced p q o good).eth p).offsets = (o :: (s.eth p).offsets).take 16 ∧ (s.synced p q o good).net.port = s.net.port
      ∧ (s.synced p q o good).sys = s.sys ∧ (s.synced p q o good).count 0x8A0 0 = min 0xFFFFFFFF (s.count 0x8A0 0 + 1) := by
  unfold State.synced
  extract_lets u
  have hview := State.portDiff_portView { u with net := { u.net with syncAt := u.now } } p o
  simp only [State.portView, Prod.mk.injEq] at hview
  obtain ⟨⟨h0, h1, h2⟩, ⟨hport, -⟩, hsys, hwcp⟩ := hview
  refine ⟨?_, ?_, ?_, ?_⟩
  · rw [State.eth_congr (s := u) h0 h1 h2, State.eth_setEth_same]
    rfl
  · exact hport.trans ((s.inc 0x8A0 0).setEth_net p _).1
  · exact hsys.trans (State.setEth_sys _ _ _)
  · rw [State.count_congr hwcp, State.count_congr (State.setEth_wcp _ _ _), State.count_inc_same]

/-- An accepted Sync of the source's master before the servo was ever LOCKED (R414 to R417): no Sync is an outlier then. -/
theorem exec_ptpSync_source {t1 t2 i good : Nat} {c o : Int} {a : AnnounceData} (harrives : ptpArrives s f m 0) (hport : f.port = s.net.port)
    (hmaster : (s.eth f.port).master = some a) (hactive : s.isStandby = false) (hnever : s.net.everLocked = false)
    (ho : o = (t2 : Int) - s.parN 0x80A f.port - t1 - c - s.pathDelay f.port)
    (hgood : good = if |o + s.net.bias| ≤ (s.parN 0x86A 0 : Int) then (s.eth f.port).good + 1 else 0) :
    exec (.ptpSync f m t1 t2 c i a.identity) s =
      .next (((s.inc 0x840 f.port).synced f.port (t1, (t2 : Int) - s.parN 0x80A f.port, c) o good).servoSync
      (o + s.net.bias) i good) := by
  obtain ⟨-, hsource, hsys, -⟩ := (s.inc 0x840 f.port).synced_leaves f.port (t1, (t2 : Int) - s.parN 0x80A f.port, c) o good
  have hpath : ((s.inc 0x840 f.port).inc 0x8A0 0).pathDelay f.port = s.pathDelay f.port :=
    ((State.inc_same _ _ _).trans (State.inc_same _ _ _)).pathDelay_eq f.port
  have hpar : ∀ id, ((s.inc 0x840 f.port).inc 0x8A0 0).parN id = s.parN id :=
    fun id => funext fun inst => ((State.inc_same _ _ _).trans (State.inc_same _ _ _)).parN_eq id inst
  have hstandby : ((s.inc 0x840 f.port).synced f.port (t1, (t2 : Int) - s.parN 0x80A f.port, c) o good).isStandby = false := by
    simp only [State.isStandby, hsys]
    exact hactive
  show execPtpSync f m t1 t2 c i a.identity s = _
  rw [execPtpSync, State.ptpIn_of_arrives _ harrives rfl]
  have hknown : ¬ (Option.map (·.identity) (s.eth f.port).master ≠ some a.identity) := by simp [hmaster]
  have hserved : ¬ (f.port ≠ ((s.inc 0x840 f.port).synced f.port (t1, (t2 : Int) - s.parN 0x80A f.port, c) o good).net.port
      ∨ ((s.inc 0x840 f.port).synced f.port (t1, (t2 : Int) - s.parN 0x80A f.port, c) o good).isStandby = true) := by
    rw [hsource, hstandby]
    simp [hport]
  simp only [State.inc_eth, if_neg hknown, hpath, hpar, ← ho, State.inc_net, hnever, Bool.false_and, Bool.false_eq_true, if_false, if_pos hport,
    ← hgood]
  exact congrArg Host.Outcome.next (if_neg hserved)

/-- An answered request whose measurement opens the filter (R415). -/
theorem exec_ptpDelayResp_first {t2 t3 t4 : Nat} {c out d : Int} (harrives : ptpArrives s f m k) (hkind : [3, 9, 10].contains k = true)
    (hpeer : s.p2p = (m.type != 9)) (hasked : (s.eth f.port).reqAt = some out) (hpath : s.meanPath f.port s.p2p out t2 t3 t4 c = some d)
    (hpos : 0 ≤ d) (hnone : (s.eth f.port).delays = []) :
    exec (.ptpDelayResp f m t2 t3 t4 c) s = .next (((s.inc 0x840 f.port).setEth f.port { s.eth f.port with reqAt := none }).setEth f.port
      { s.eth f.port with reqAt := none, delays := [d] }) := by
  have hpath' : ((s.inc 0x840 f.port).setEth f.port { s.eth f.port with reqAt := none }).meanPath f.port (m.type != 9) out t2 t3 t4 c = some d := by
    rw [← hpath, hpeer]
    simp only [State.meanPath, State.setEth_parN, State.eth_setEth_same, (s.inc_same 0x840 f.port).parN_eq]
  show execPtpDelayResp f m t2 t3 t4 c s = _
  rw [execPtpDelayResp, State.ptpIn_of_arrives _ harrives hkind]
  simp only [State.inc_eth, hasked, (s.inc_same 0x840 f.port).p2p_eq, hpeer, bne_self_eq_false, Bool.false_eq_true, if_false, hpath']
  simp only [State.takeDelay, State.eth_setEth_same, hnone]
  rw [if_neg (by simp; omega)]
  rfl

theorem exec_ptpPdelayReq {rx : Nat} {u : State} (harrives : ptpArrives s f m 2) (hu : u = s.inc 0x840 f.port) :
    exec (.ptpPdelayReq f m rx) s = .next ((u.ethOut f.port 7 (time80Bytes (rx - s.parN 0x80A f.port))).ethOut f.port 8
      (time80Bytes (s.now + s.parN 0x80B f.port))) := by
  subst hu
  have hsame : ((s.inc 0x840 f.port).ethOut f.port 7 (time80Bytes (rx - s.parN 0x80A f.port))).now = s.now
      ∧ ∀ id inst, (s.inc 0x840 f.port).parN id inst = s.parN id inst :=
    ⟨congrArg (·.1) ((s.inc 0x840 f.port).ethOut_clockView f.port 7 _), (s.inc_same _ _).parN_eq⟩
  show execPtpPdelayReq f m rx s = _
  rw [execPtpPdelayReq, State.ptpIn_of_arrives _ harrives rfl]
  simp only [hsame]
  rfl

/-- The request sent at its drawn instant (R415): its egress time is kept, the next instant drawn. -/
theorem exec_delayReqDue {p n : Nat} (hon : s.ptpOn p = true) (hn : n = max s.now (s.eth p).reqDue) {u : State}
    (hu : u = State.setEth { s.advanceTo (s.eth p).reqDue with free := s.free + 1 } p
      { s.eth p with reqAt := some ((n + s.parN 0x80B p : Nat) : Int), reqDue := n + s.drawInterval }) :
    exec (.delayReqDue p) s = .next (u.ethOut p (if s.p2p then 6 else 5) (time80Bytes (n + s.parN 0x80B p))) := by
  subst hn hu
  show execDelayReqDue p s = _
  rw [execDelayReqDue, if_neg (by simp [hon])]
  rfl

theorem exec_holdoverLong (hhold : s.net.servo = 3) (hfirst : s.net.holdLong = false) :
    exec .holdoverLong s = .next (State.raise { s.advanceTo (s.net.holdSince + s.parN 0x86E 0 * 1000000000) with
      net := { s.net with holdLong := true } } 0x8022 0 1) := by
  show execHoldoverLong s = _
  rw [execHoldoverLong, if_pos ⟨hhold, by simp [hfirst]⟩]
  rfl

/-- A state whose time is set by the step announced (R420): the instants stored move with it, and the jump it answers is done with. -/
def State.stepped (s : State) (d : Int) : State :=
  { s.shiftTimes d with
    now := sh d s.now
    sys := { (s.shiftTimes d).sys with rtc := sh d s.now }
    net := { (s.shiftTimes d).net with step := none, stepBatch := true, stepRec := true, jump := none, accepted := false, jumpOp := none } }

/-- The open batches closed at the step's instant (R420). -/
def State.closeBatches (s : State) : State := s.wcp.sessions.foldl (fun s x => s.closeBatch x.id) s

theorem State.closeBatches_same (s : State) : Same s.closeBatches s :=
  Same.foldl (f := fun (u : State) (x : Sess) => u.closeBatch x.id) (fun u x => u.closeBatch_same x.id) _ _

/-- A step leaves the clock with the new time in it and neither step nor jump. -/
theorem State.stepped_clockView (s : State) (d : Int) :
    (s.stepped d).clockView = (sh d s.now, { (s.shiftTimes d).sys with rtc := sh d s.now }, none, none) := rfl

/-- The bytes of a step's record: the time before and after it. -/
def stepBytes (s : State) (d : Int) : Bytes := time80Bytes s.now ++ time80Bytes (sh d s.now)

/-- What a step's end leaves behind (R420): its counter, the frames past their launch time, its event and its record `r`. -/
def State.stepEnd (s : State) (r : Bytes) : State := ((((s.inc 0x8A4 0).flushPast 0).flushPast 1).fbEvent 1 r).raise 0x8011 0 0 r

theorem State.stepEnd_clockView (s : State) (r : Bytes) : (s.stepEnd r).clockView = s.clockView :=
  ((State.raise_same _ 0x8011 0 0 r).trans (State.fbEvent_same _ 1 r)).clockView_eq.trans
    ((State.flushPast_clockView _ 1).trans ((State.flushPast_clockView _ 0).trans (s.inc_same 0x8A4 0).clockView_eq))

theorem exec_timeStep {w : Nat} {d : Int} (hstep : s.net.step = some (w, d)) {v : State} (hv : v = (s.advanceTo w).closeBatches) :
    exec .timeStep s = .next ((v.stepped d).stepEnd (stepBytes v d)) := by
  subst hv
  have hexec : exec .timeStep s = execTimeStep s := rfl
  simp only [execTimeStep, hstep] at hexec
  exact hexec

/-- An output under a condition. -/
theorem State.emit_if_out (s : State) (c : Prop) [Decidable c] (o : Out) : (if c then s.emit o else s).out = s.out ++ if c then [o] else [] := by
  split
  · rfl
  · exact (List.append_nil _).symm

theorem State.emit_if_same (s : State) (c : Prop) [Decidable c] (o : Out) : Same (if c then s.emit o else s) s := Same.ite (s.emit_same o) Same.rfl'

/-- The RTC follows a LOCKED servo at a whole second (R412). -/
def State.rtcAt (s : State) (locked : Prop) [Decidable locked] : State := if locked then { s with sys := { s.sys with rtc := s.now } } else s

theorem State.rtcAt_leaves (s : State) (locked : Prop) [Decidable locked] :
    (s.rtcAt locked).now = s.now ∧ (s.rtcAt locked).out = s.out ∧ (s.rtcAt locked).parN = s.parN := by
  unfold State.rtcAt
  split
  · exact ⟨rfl, rfl, rfl⟩
  · exact ⟨rfl, rfl, rfl⟩

/-- The counter at a whole second (R410 to R412): the active slot's CONTROL frame, the RTC of a LOCKED servo and the pulse. -/
theorem exec_wholeSecond (hnet : s.netOn = true) {n : Nat} (hn : n = (s.now / 1000000000 + 1) * 1000000000) :
    ∃ t, exec .wholeSecond s = .next t ∧ t.now = n ∧ (s.net.servo = 2 → s.isStandby = false → t.sys.rtc = n)
      ∧ t.out = s.out ++ (if s.isActive then [.shallot 0x06 (u8 3 ++ time80Bytes n)] else []) ++ (if s.parN 0x871 0 = 1 then [.pps n] else []) := by
  subst hn
  let u := s.advanceTo ((s.now / 1000000000 + 1) * 1000000000)
  have hsecond : (s.now / 1000000000 + 1) * 1000000000 = u.now := (Nat.max_eq_right (by omega)).symm
  let a := if s.isActive = true then u.emit (.shallot 0x06 (u8 3 ++ time80Bytes u.now)) else u
  have ha : Same a u := State.emit_if_same _ _ _
  let b := a.rtcAt (a.net.servo = 2 ∧ (!a.isStandby) = true)
  obtain ⟨hnow, hout, hpar⟩ := a.rtcAt_leaves (a.net.servo = 2 ∧ (!a.isStandby) = true)
  have hbnow : b.now = u.now := hnow.trans ha.now_eq
  have hpps : b.parN 0x871 0 = s.parN 0x871 0 := (congrFun (congrFun hpar _) _).trans (ha.parN_eq _ _)
  have hexec : exec .wholeSecond s = .next (if b.parN 0x871 0 = 1 then b.emit (.pps b.now) else b) := by
    show execWholeSecond s = _
    rw [execWholeSecond, if_neg (by simp [hnet])]
    rfl
  refine ⟨_, hexec, ?_, ?_, ?_⟩
  · exact ((State.emit_if_same _ _ _).now_eq.trans hbnow).trans hsecond.symm
  · intro hlocked hactive
    have hrtc : a.net.servo = 2 ∧ (!a.isStandby) = true := ⟨ha.servo_eq.2.2.1.trans hlocked, congrArg (!·) (ha.isStandby_eq.trans hactive)⟩
    rw [(State.emit_if_same _ _ _).sys_eq, hsecond, ← ha.now_eq]
    simp only [b, State.rtcAt, if_pos hrtc]
  · rw [State.emit_if_out, hout, State.emit_if_out, hpps, hbnow, hsecond]
    rfl

theorem exec_timeJumpAccept {h : Hdr} (hpass : s.passes 0x0802 h false [] = true) (htarget : h.target = 0) (hjump : s.net.jump ≠ none) :
    exec (.timeJumpAccept h) s = .next (State.reply { s.admitted 0x0802 h [] with
      net := { (s.admitted 0x0802 h []).net with accepted := true, jumpOp := some (opRef 0x0802 h) } } 0x0802 h 1) := by
  show execTimeJumpAccept h s = _
  rw [execTimeJumpAccept, State.wcpReq_of_passes _ _ _ _ _ hpass]
  simp [htarget, hjump]

/-- A TIME_JUMP_ACCEPT in progress is completed as rejected (R425). -/
def State.jumpOpEnded (s : State) : State := match s.net.jumpOp with
  | some r => s.complete r 0x0109
  | none => s

theorem State.jumpOpEnded_same (s : State) : Same s.jumpOpEnded s := by
  unfold State.jumpOpEnded
  split
  · exact s.complete_same _ _ _
  · exact Same.rfl'

theorem exec_timeJumpReject {h : Hdr} (hpass : s.passes 0x0803 h false [] = true) (htarget : h.target = 0) (hjump : s.net.jump ≠ none) :
    exec (.timeJumpReject h) s = .next (State.reply { (s.admitted 0x0803 h []).jumpOpEnded with
      net := { (s.admitted 0x0803 h []).jumpOpEnded.net with jump := none, accepted := false, jumps := [], jumpOp := none } } 0x0803 h 0) := by
  have hpending : ¬ (s.admitted 0x0803 h []).net.jump.isNone = true := by simpa using hjump
  show execTimeJumpReject h s = _
  rw [execTimeJumpReject, State.wcpReq_of_passes _ _ _ _ _ hpass, if_neg (not_not.2 htarget), if_neg hpending]
  rfl

theorem exec_ptpStatus {h : Hdr} (hpass : s.passes 0x0801 h false [] = true) :
    ∃ body, exec (.ptpStatus h) s = .next ((s.admitted 0x0801 h []).reply 0x0801 h 0 (time80Bytes s.now ++ u32 s.ptpStatus ++ body)) := by
  have hsame := s.admitted_same 0x0801 h []
  have hexec : exec (.ptpStatus h) s = execPtpStatus h s := rfl
  rw [execPtpStatus, State.wcpReq_of_passes _ _ _ _ _ hpass] at hexec
  simp only [hsame.ptpStatus_eq, hsame.now_eq, List.append_assoc] at hexec
  simp only [List.append_assoc]
  exact ⟨_, hexec⟩

end
end Sys2Proof.Machine
end

section
/-! SUPPORT. O34: time. -/

namespace Sys2Proof.Machine
open Sys2Proof

/-- Settles O34: each clause is the command's own next state above (`exec_ptpAnnounce_first` to `exec_ptpStatus`), read back. -/
theorem timeComplete : Obligations.TimeComplete := by
  unfold Obligations.TimeComplete
  refine ⟨?announce, ?announceTimeout, ?sync, ?delayResp, ?pdelayReq, ?delayReqDue, ?holdoverLong, ?timeStep, ?wholeSecond,
    ?accept, ?reject, ?status⟩
  case announce =>
    intro s f m a harrives hnone
    have hport : ∀ u v : State, v = u.setEth f.port { s.eth f.port with master := some a, annAt := s.now } →
        ({ v with net := { v.net with annIv := a.interval, jumps := v.net.jumps } } : State).eth f.port
          = { s.eth f.port with master := some a, annAt := s.now } := by
      rintro u v rfl
      exact (State.eth_congr rfl rfl rfl _).trans (State.eth_setEth_same _ _ _)
    refine ⟨_, exec_ptpAnnounce_first harrives hnone rfl, ?_, ?_, ?_⟩
    · rw [hport _ _ rfl]
    · rw [hport _ _ rfl]
    · exact State.setEth_now _ _ _
  case announceTimeout =>
    intro s p m hp hmaster
    refine ⟨_, exec_ptpAnnounceTimeout hp hmaster, ?_, ?_, ?_⟩
    · rw [State.eth_setEth_same]
    · exact State.setEth_now _ _ _
    · rw [State.count_congr (State.setEth_wcp _ _ _), State.count_inc_same]
      rfl
  case sync =>
    intro s f m t1 t2 c i x a o harrives hport hmaster hx hactive hnever ho
    subst hx
    obtain ⟨hoffsets, -, -, hcount⟩ := (s.inc 0x840 f.port).synced_leaves f.port (t1, (t2 : Int) - s.parN 0x80A f.port, c) o
      (if |o + s.net.bias| ≤ (s.parN 0x86A 0 : Int) then (s.eth f.port).good + 1 else 0)
    refine ⟨_, exec_ptpSync_source harrives hport hmaster hactive hnever ho rfl, hoffsets, ?_⟩
    obtain ⟨hplant, -⟩ := State.ptpOn_port harrives.1
    rw [hcount, s.count_inc_other (i := 0x840) (j := f.port) (by simp only [key]; omega)]
  case delayResp =>
    intro s f m t2 t3 t4 c out d harrives hpeer hasked hpath hpos hnone
    have htype : ∃ k, ptpArrives s f m k ∧ [3, 9, 10].contains k = true := by
      obtain harrives | harrives | harrives := harrives
      · exact ⟨3, harrives, rfl⟩
      · exact ⟨9, harrives, rfl⟩
      · exact ⟨10, harrives, rfl⟩
    obtain ⟨k, harrives, hkind⟩ := htype
    refine ⟨_, exec_ptpDelayResp_first harrives hkind hpeer hasked hpath hpos hnone, ?_, ?_, ?_⟩
    · rw [State.eth_setEth_same]
    · rw [State.eth_setEth_same]
    · simp
  case pdelayReq => exact fun s f m rx u harrives hu => exec_ptpPdelayReq harrives hu
  case delayReqDue =>
    intro s p n hon hn
    refine ⟨_, exec_delayReqDue hon hn rfl, ?_, ?_, ?_, ?_⟩
    · exact (State.setEth_now _ _ _).trans hn.symm
    · exact State.setEth_free _ _ _
    · rw [State.eth_setEth_same]
    · rw [State.eth_setEth_same]
  case holdoverLong =>
    intro s hhold hfirst
    refine ⟨_, exec_holdoverLong hhold hfirst, ?_, ?_, State.raise_waits _ _ _ _ _ (by decide), State.raise_now _ _ _ _ _⟩
    · exact (State.raise_same _ _ _ _ _).servo_eq.2.2.2.2.2.2
    · exact (State.raise_same _ _ _ _ _).servo_eq.2.2.1.trans hhold
  case timeStep =>
    intro s w d hstep
    have hview := (((s.advanceTo w).closeBatches.stepped d).stepEnd_clockView (stepBytes (s.advanceTo w).closeBatches d)).trans
      (State.stepped_clockView _ d)
    simp only [State.clockView, Prod.mk.injEq] at hview
    obtain ⟨hnow, hsys, hnone, hjump⟩ := hview
    refine ⟨_, exec_timeStep hstep rfl, ?_, ?_, hnone, hjump⟩
    · rw [hnow, (s.advanceTo w).closeBatches_same.now_eq]
      rfl
    · rw [hsys, hnow]
  case wholeSecond =>
    intro s hnet
    obtain ⟨t, hexec, hnow, hrtc, hout⟩ := exec_wholeSecond hnet rfl
    rw [← hnow] at hrtc hout
    exact ⟨t, hexec, hnow, hrtc, hout⟩
  case accept =>
    intro s h j hpass htarget hjump
    refine ⟨_, exec_timeJumpAccept hpass htarget (by simp [hjump]), ?_, ?_⟩
    · rw [State.reply_net]
      simp
    · rw [(State.reply_same _ _ _ _ _).now_eq]
      exact (s.admitted_same _ _ _).now_eq
  case reject =>
    intro s h j hpass htarget hjump
    refine ⟨_, exec_timeJumpReject hpass htarget (by simp [hjump]), ?_⟩
    have hnow : (s.admitted 0x0803 h []).jumpOpEnded.now = s.now := (State.jumpOpEnded_same _).now_eq.trans (s.admitted_same _ _ _).now_eq
    simp only [State.reply_net, (State.reply_same _ _ _ _ _).now_eq, hnow, and_self]
  case status => exact fun s h hpass => exec_ptpStatus hpass

end Sys2Proof.Machine
end

section
/-! SUPPORT. The rules that O40 and O41 share: what records, events, packets and chunks leave of the recorder. -/

namespace Sys2Proof.Machine
open Sys2Proof

/-! ### The recorder behind shared operations -/

/-- Partitions, an armed clear and a replay: what no record, event, packet or chunk of the flight buffer changes. -/
def State.archive (s : State) : SMap RecPart × Option ClearArm × Option ReplaySt := (s.recd.part, s.recd.arm, s.recd.replay)

/-- What a chunk leaves of the flight buffer: all but its chunks and open period records. -/
def FbSt.marks (f : FbSt) : Nat × Bytes × Option Nat × Option FbTrig × Option FbDesc := (f.ckpt, f.copy, f.ckptDue, f.trig, f.desc)

theorem FbSt.closePeriods_marks (f : FbSt) : f.closePeriods.marks = f.marks := by
  unfold FbSt.closePeriods
  split <;> rfl

theorem State.archive_eq_iff {t s : State} :
    t.archive = s.archive ↔ t.recd.part = s.recd.part ∧ t.recd.arm = s.recd.arm ∧ t.recd.replay = s.recd.replay := by
  simp [State.archive]

theorem State.part_congr {t s : State} (h : t.archive = s.archive) (p : Nat) : t.part p = s.part p := by
  unfold State.part
  rw [(State.archive_eq_iff.1 h).1]

section
variable (s : State)

theorem State.fbPush_leaves (type time : Nat) (payload : Bytes) :
    ((s.fbPush type time payload).archive, (s.fbPush type time payload).recd.fb.marks) = (s.archive, s.recd.fb.marks) := by
  unfold State.fbPush
  split
  · rfl
  · exact congrArg (s.archive, ·) s.recd.fb.closePeriods_marks

theorem State.admitted_leaves (op : Nat) (h : Hdr) (pl : Bytes) :
    ((s.admitted op h pl).archive, (s.admitted op h pl).recd.fb.marks) = (s.archive, s.recd.fb.marks) := by
  unfold State.admitted State.fbCommand
  split
  · rfl
  · exact State.fbPush_leaves _ _ _ _

/-- The recorder and the fault manager, which no packet and no event batch changes. -/
def State.books (s : State) : RecSt × FaultSt := (s.recd, s.fm)

theorem State.post_books (k : Packet) : (s.post k).books = s.books := congrArg (·.2) (s.post_leaves k)

theorem State.sendBatch_books (id : Nat) (b : Batch) : (s.sendBatch id b).books = s.books := by
  unfold State.sendBatch
  split
  · rfl
  · exact (State.post_books _ _).trans rfl

theorem State.closeBatch_books (id : Nat) : (s.closeBatch id).books = s.books := by
  unfold State.closeBatch
  split
  · rfl
  · simp only []
    split
    · rfl
    · exact (State.sendBatch_books _ _ _).trans rfl

theorem State.deliver_books (e : Event) : (s.deliver e).books = s.books :=
  (foldl_view State.books (fun (u : State) (x : Sess) => u.closeBatch_books x.id) _ _).trans rfl

theorem State.deliver_recd (e : Event) : (s.deliver e).recd = s.recd := congrArg (·.1) (s.deliver_books e)

theorem State.enqueueRec_leaves (r : Rec) : ((s.enqueueRec r).archive, (s.enqueueRec r).recd.fb) = (s.archive, s.recd.fb) := by
  unfold State.enqueueRec
  simp only []
  (repeat' split) <;> rfl

theorem State.recordPlain_leaves (f : FRec) : ((s.recordPlain f).archive, (s.recordPlain f).recd.fb) = (s.archive, s.recd.fb) := by
  simp only [State.recordPlain, State.archive, State.deliver_recd]
  exact (State.enqueueRec_leaves _ _).trans rfl

theorem State.fbTrigger_archive (seq code : Nat) : (s.fbTrigger seq code).archive = s.archive := by
  unfold State.fbTrigger
  simp only []
  split
  · rfl
  · split
    · exact congrArg (·.1) (s.fbPush_leaves 5 s.now _)
    · exact congrArg (·.1) (s.fbPush_leaves 5 s.now _)

theorem State.record_archive (f : FRec) : (s.record f).archive = s.archive := by
  have hplain : ∀ (u : State) (g : FRec), (u.recordPlain g).archive = u.archive := fun u g => congrArg (·.1) (u.recordPlain_leaves g)
  unfold State.record
  simp only []
  split
  · exact hplain s f
  · split
    · exact (hplain _ _).trans (hplain s f)
    · exact (State.fbTrigger_archive _ _ _).trans (hplain s f)

/-- A record that triggers nothing leaves the flight buffer (R489). -/
theorem State.record_fb {f : FRec} (hsev : f.sev = 0) (hcode : f.code ≠ 0x7001) : (s.record f).recd.fb = s.recd.fb := by
  have hquiet : (s.recordPlain f).fbTriggers f.code f.sev = false := by simp [State.fbTriggers, hsev, hcode]
  simp only [State.record, hquiet, Bool.not_false, if_true]
  exact congrArg (·.2) (s.recordPlain_leaves f)

@[simp] theorem State.raise_archive (code inst sev : Nat) (data : Bytes) : (s.raise code inst sev data).archive = s.archive := by
  unfold State.raise State.raiseWith
  simp only []
  split
  · split
    · rfl
    · exact s.record_archive _
  · rfl

theorem State.raise_fb {code : Nat} (inst sev : Nat) (data : Bytes) (hcode : code ≠ 0x7001) : (s.raise code inst sev data).recd.fb = s.recd.fb := by
  unfold State.raise State.raiseWith
  simp only []
  split
  · next hsev =>
    split
    · rfl
    · exact s.record_fb hsev hcode
  · rfl

@[simp] theorem State.complete_archive (op : OpRef) (status : Nat) (result : Bytes) : (s.complete op status result).archive = s.archive :=
  s.raise_archive _ _ _ _

@[simp] theorem State.reply_archive (op : Nat) (h : Hdr) (status : Nat) (body : Bytes) : (s.reply op h status body).archive = s.archive := by
  simp [State.archive]

@[simp] theorem State.admitted_archive (op : Nat) (h : Hdr) (pl : Bytes) : (s.admitted op h pl).archive = s.archive :=
  congrArg (·.1) (s.admitted_leaves op h pl)

@[simp] theorem State.reply_part (op : Nat) (h : Hdr) (status : Nat) (body : Bytes) (p : Nat) : (s.reply op h status body).part p = s.part p := by
  simp [State.part]

@[simp] theorem State.admitted_part (op : Nat) (h : Hdr) (pl : Bytes) (p : Nat) : (s.admitted op h pl).part p = s.part p :=
  State.part_congr (s.admitted_archive op h pl) p

@[simp] theorem State.part_setPart_same (p : Nat) (x : RecPart) : (s.setPart p x).part p = x := SMap.at_set_same _ _ _ _

theorem State.part_setPart_other {p q : Nat} (x : RecPart) (hne : q ≠ p) : (s.setPart p x).part q = s.part q := SMap.at_set_other _ _ _ hne

end

end Sys2Proof.Machine
end

section
/-! SUPPORT. O40: the next state of each recorder command where it acts (18 R481 to R486, R495). -/

namespace Sys2Proof.Machine
open Sys2Proof

section
variable {s : State} {h : Hdr}

theorem exec_recordWrite {good : Bool} {r : Rec} {l : List Rec} (hqueue : s.recd.queue = r :: l) (hdie : s.sys.diesLost.getLsbD 4 = false)
    (hwarn : s.sys.vinWarn = false) :
    exec (.recordWrite good) s = .next (({ s with recd := { s.recd with queue := l } } : State).writeRec r good) := by
  have hexec : exec (.recordWrite good) s = execRecordWrite good s := rfl
  simp only [execRecordWrite, hqueue, hdie, hwarn, Bool.false_eq_true, if_false, Bool.false_and] at hexec
  exact hexec

theorem exec_recInfo {p : Byte} {u : State} {x : RecPart} {old : Nat × Bytes} (hpass : s.passes 0x0900 h false [] = true)
    (hu : u = s.admitted 0x0900 h [p]) (hp : p.toNat < 5) (hx : x = s.part p.toNat) (hold : old = x.valid.head?.getD (0, [])) :
    exec (.recInfo h p) s = .next (u.reply 0x0900 h 0 (u32 (partCap p.toNat) ++ u32 x.write ++ u32 x.newest ++ u32 (slotSeq old.2) ++ u32 old.1
      ++ u32 x.gen ++ u32 x.held)) := by
  subst hold hx hu
  show execRecInfo h p s = _
  rw [execRecInfo, State.wcpReq_of_passes _ _ _ _ _ hpass, if_neg (Nat.not_le.2 hp), State.admitted_part]

theorem exec_recRead {p n : Byte} {k : BitVec 32} {u : State} (hpass : s.passes 0x0901 h false [] = true)
    (hu : u = s.admitted 0x0901 h ([p, n, 0, 0] ++ leBytes 4 k.toNat)) (hp : p.toNat < 5) (hn : n ≠ 0) (hmost : n.toNat ≤ 20)
    (hk : k.toNat < partCap p.toNat) :
    exec (.recRead h p n k) s = .next (u.reply 0x0901 h 0 ([n] ++ (List.range n.toNat).flatMap fun i =>
      (s.part p.toNat).slot ((k.toNat + i) % partCap p.toNat))) := by
  subst hu
  have hform : ¬ (5 ≤ p.toNat ∨ n = 0 ∨ 20 < n.toNat ∨ partCap p.toNat ≤ k.toNat) := by
    rintro (h | h | h | h)
    · omega
    · exact hn h
    · omega
    · omega
  show execRecRead h p n k s = _
  rw [execRecRead, State.wcpReq_of_passes _ _ _ _ _ hpass, if_neg hform, State.admitted_part]

/-! ### The clear of partitions (R485, R486) -/

/-- A partition cleared: no slot of it is marked valid. -/
def RecPart.cleared (x : RecPart) : RecPart :=
  { x with slots := x.slots.map fun q => (q.1, q.2.take 63 ++ [0]), write := 0, used := 0, held := 0, newest := 0, gen := (x.gen + 1) % 2 ^ 32 }

theorem slotMark_cleared (b : Bytes) : slotMark (b.take 63 ++ [0]) = 0 := by
  unfold slotMark fieldAt slice
  by_cases hlong : 63 ≤ b.length
  · rw [List.drop_left' (by simp; omega)]
    rfl
  · rw [List.drop_eq_nil_of_le (by simp; omega)]
    rfl

theorem RecPart.valid_cleared (x : RecPart) : x.cleared.valid = [] := by
  refine List.filter_eq_nil_iff.2 fun q hq => ?_
  have hin : q ∈ x.cleared.slots := by
    obtain hq | hq := List.mem_append.1 hq
    · exact List.mem_of_mem_filter hq
    · exact List.mem_of_mem_filter hq
  obtain ⟨p, -, rfl⟩ := List.mem_map.1 hin
  have hmark : ¬ slotMark (p.2.take 63 ++ [0]) = 0xA5 := by rw [slotMark_cleared]; decide
  simpa using hmark

/-- The audit record of a clear is written to partitions 0 and 3 alone (Table 18.3). -/
theorem State.writeRec_audit_leaves (s : State) {r : Rec} (hcode : r.code = 0xC020) :
    (s.writeRec r true).recd.arm = s.recd.arm ∧ ∀ p, p ≠ 0 → p ≠ 3 → (s.writeRec r true).part p = s.part p := by
  let u := (s.setPart 0 ((s.part 0).put 61440 (r.bytes false 0xA5))).inc 0x920 0
  have hwritten : s.writeRec r true = (u.setPart 3 ((u.part 3).put 256 (r.bytes false 0xA5))).inc 0x923 0 := by
    simp [State.writeRec, hcode, audited, u]
  rw [hwritten]
  exact ⟨rfl, fun p hp0 hp3 => (State.part_setPart_other _ _ hp3).trans (State.part_setPart_other _ _ hp0)⟩

/-- The audit record ahead of a clear leaves the armed clear and the other partitions (R486). -/
theorem State.writeAudit_leaves (s : State) :
    s.writeAudit.recd.arm = s.recd.arm ∧ ∀ p, p ≠ 0 → p ≠ 3 → s.writeAudit.part p = s.part p := by
  unfold State.writeAudit
  split
  · next r _ =>
    split
    · next hcode => exact State.writeRec_audit_leaves _ hcode.1
    · exact ⟨rfl, fun _ _ _ => rfl⟩
  · exact ⟨rfl, fun _ _ _ => rfl⟩

/-- The step of a clear over its partitions. -/
def State.wipe (s : State) (p : Nat) : State := s.setPart p (s.part p).cleared

/-- What the partitions of a clear hold behind its audit record. -/
theorem State.clearParts_eq (s : State) (ps : List Nat) (users : Bytes) : ∃ u : State, s.clearParts ps users = ps.foldl State.wipe u
    ∧ u.recd.arm = s.recd.arm ∧ ∀ p, p ≠ 0 → p ≠ 3 → u.part p = s.part p := by
  refine ⟨_, rfl, ?_, fun p hp0 hp3 => ?_⟩
  · rw [(State.writeAudit_leaves _).1, (State.archive_eq_iff.1 (State.raise_archive _ _ _ _ _)).2.1]
  · rw [(State.writeAudit_leaves _).2 p hp0 hp3, State.part_congr (State.raise_archive _ _ _ _ _)]

theorem exec_recClearGeneral {q : BitVec 32} (hpass : s.passes 0x0902 h false [] = true) (hq : q.toNat = (s.part 0).newest)
    (hwarn : s.sys.vinWarn = false) {u : State} (hu : u = s.admitted 0x0902 h ([0, 0, 0, 0] ++ leBytes 4 q.toNat)) :
    exec (.recClearGeneral h q) s = .next ((u.clearParts [0] (u.userOf h)).reply 0x0902 h 0) := by
  subst hu
  have hnewest : ¬ q.toNat ≠ ((s.admitted 0x0902 h ([0, 0, 0, 0] ++ leBytes 4 q.toNat)).part 0).newest := by simp [hq]
  show execRecClearGeneral h q s = _
  rw [execRecClearGeneral, State.wcpReq_of_passes _ _ _ _ _ hpass, if_neg hnewest, if_neg (by simp [hwarn])]

theorem Same.anyLatch_eq {t s : State} (g : Same t s) : t.anyLatch = s.anyLatch := by
  obtain ⟨-, -, -, -, -, -, -, -, -, -, hsafe, -⟩ := g.fields
  simp only [State.anyLatch, State.str, hsafe]

theorem State.newestSafe_congr {t s : State} (g : t.archive = s.archive) : t.newestSafe = s.newestSafe := by
  simp only [State.newestSafe, State.part_congr g]

theorem State.dropClear_of_none (hnone : s.recd.arm = none) : s.dropClear = s := by
  unfold State.dropClear
  rw [hnone]

theorem exec_recClearSafety {q : BitVec 32} (hpass : s.passes 0x0902 h false [] = true) (hlatch : s.anyLatch = false) (hq : q.toNat = s.newestSafe)
    (hnone : s.recd.arm = none) {u : State} (hu : u = s.admitted 0x0902 h ([1, 0, 0, 0] ++ leBytes 4 q.toNat)) :
    exec (.recClearSafety h q) s = .next (State.reply { u with recd := { u.recd with arm := some ⟨opRef 0x0902 h, q.toNat, u.now, u.userOf h⟩ } }
      0x0902 h 1) := by
  have harchive : u.archive = s.archive := by rw [hu, State.admitted_archive]
  have hquiet : ¬ u.anyLatch = true := by rw [hu, (s.admitted_same _ _ _).anyLatch_eq, hlatch]; decide
  have hnewest : ¬ q.toNat ≠ u.newestSafe := by rw [State.newestSafe_congr harchive]; exact not_not.2 hq
  have hidle : u.recd.arm = none := (State.archive_eq_iff.1 harchive).2.1.trans hnone
  show execRecClearSafety h q s = _
  rw [execRecClearSafety, State.wcpReq_of_passes _ _ _ _ _ hpass, ← hu, if_neg hquiet, if_neg hnewest]
  simp only [State.dropClear_of_none hidle]

theorem exec_recClearConfirm {q : BitVec 32} {a : ClearArm} (hpass : s.passes 0x0903 h false [] = true) (harm : s.recd.arm = some a)
    (hq : q.toNat = a.seq) (hlatch : s.anyLatch = false) (hwarn : s.sys.vinWarn = false) :
    ∃ u : State, u.recd.arm = none ∧ ∃ users, exec (.recClearConfirm h q) s =
      .next (((u.clearParts [1, 2] users).reply 0x0903 h 0).complete a.op 0) := by
  have harmed : (s.admitted 0x0903 h (leBytes 4 q.toNat)).recd.arm = some a :=
    (State.archive_eq_iff.1 (State.admitted_archive _ _ _ _)).2.1.trans harm
  have hsame := s.admitted_same 0x0903 h (leBytes 4 q.toNat)
  have hexec : exec (.recClearConfirm h q) s = execRecClearConfirm h q s := rfl
  rw [execRecClearConfirm, State.wcpReq_of_passes _ _ _ _ _ hpass] at hexec
  simp only [harmed, if_neg (not_not.2 hq), hsame.anyLatch_eq, hlatch, hsame.sys_eq, hwarn, Bool.false_eq_true, if_false] at hexec
  exact ⟨_, rfl, _, hexec⟩

theorem exec_clearLapsed {a : ClearArm} (harm : s.recd.arm = some a) {u : State}
    (hu : u = (s.advanceTo (a.since + 60000000000)).raise 0xC021 0 0) :
    exec .clearLapsed s = .next (({ u with recd := { u.recd with arm := none } } : State).complete a.op 0x0104) := by
  have harmed : u.recd.arm = some a := by rw [hu, (State.archive_eq_iff.1 (State.raise_archive _ _ _ _ _)).2.1]; exact harm
  have hexec : exec .clearLapsed s = execClearLapsed s := rfl
  simp only [execClearLapsed, harm, ← hu, State.dropClear, harmed] at hexec
  exact hexec

end

/-- Settles O40: each clause is the command's own next state above (`exec_recordWrite` to `exec_clearLapsed`), read back. -/
theorem recorderComplete : Obligations.RecorderComplete := by
  unfold Obligations.RecorderComplete
  refine ⟨?good, ?bad, ?info, ?read, ?general, ?safety, ?confirm, ?lapsed⟩
  case good => exact fun s r l hqueue hdie hwarn => exec_recordWrite hqueue hdie hwarn
  case bad => exact fun s r l hqueue hdie hwarn => exec_recordWrite hqueue hdie hwarn
  case info => exact fun s h p u x old hpass hu hp hx hold => exec_recInfo hpass hu hp hx hold
  case read => exact fun s h p n k u hpass hu hp hn hmost hk => exec_recRead hpass hu hp hn hmost hk
  case general =>
    intro s h q hpass hq hwarn
    refine ⟨_, exec_recClearGeneral hpass hq hwarn rfl, ?_⟩
    obtain ⟨v, hclear, -, hrest⟩ := (s.admitted 0x0902 h ([0, 0, 0, 0] ++ leBytes 4 q.toNat)).clearParts_eq [0]
      ((s.admitted 0x0902 h ([0, 0, 0, 0] ++ leBytes 4 q.toNat)).userOf h)
    have h0 : (v.wipe 0).part 0 = (v.part 0).cleared := State.part_setPart_same _ _ _
    have h1 : (v.wipe 0).part 1 = s.part 1 :=
      (State.part_setPart_other _ _ (by decide)).trans ((hrest 1 (by decide) (by decide)).trans (s.admitted_part _ _ _ _))
    rw [State.reply_part, State.reply_part, hclear, List.foldl_cons, List.foldl_nil, h0]
    exact ⟨rfl, rfl, RecPart.valid_cleared _, h1⟩
  case safety =>
    intro s h q hpass hlatch hq hnone
    have hnow := (s.admitted_same 0x0902 h ([1, 0, 0, 0] ++ leBytes 4 q.toNat)).now_eq
    exact ⟨_, _, exec_recClearSafety hpass hlatch hq hnone rfl, congrArg RecSt.arm (State.reply_recd _ _ _ _ _), rfl, rfl, hnow⟩
  case confirm =>
    intro s h q a hpass harm hq hlatch hwarn
    obtain ⟨u, hnone, users, hexec⟩ := exec_recClearConfirm hpass harm hq hlatch hwarn
    obtain ⟨v, hclear, harm', -⟩ := u.clearParts_eq [1, 2] users
    have hparts : ((((u.clearParts [1, 2] users).reply 0x0903 h 0).complete a.op 0)).archive = ((v.wipe 1).wipe 2).archive := by
      rw [State.complete_archive, State.reply_archive, hclear]
      rfl
    refine ⟨_, hexec, (State.archive_eq_iff.1 hparts).2.1.trans (harm'.trans hnone), ?_, ?_⟩
    · rw [State.part_congr hparts, State.wipe, State.part_setPart_other _ _ (by decide), State.wipe, State.part_setPart_same]
      rfl
    · rw [State.part_congr hparts, State.wipe, State.part_setPart_same]
      rfl
  case lapsed =>
    intro s a harm
    have harchive := State.archive_eq_iff.1 ((s.advanceTo (a.since + 60000000000)).raise_archive 0xC021 0 0 [])
    refine ⟨_, exec_clearLapsed harm rfl, ?_, ?_, ?_⟩
    · exact (State.archive_eq_iff.1 (State.complete_archive _ _ _ _)).2.1
    · exact (State.complete_same _ _ _ _).now_eq.trans (State.raise_now _ _ _ _ _)
    · exact (State.archive_eq_iff.1 (State.complete_archive _ _ _ _)).1.trans harchive.1

end Sys2Proof.Machine
end

section
/-! SUPPORT. O41: the next state of each command of the flight buffer and of replay where it acts (18 R488 to R494). -/

namespace Sys2Proof.Machine
open Sys2Proof

/-! ### A change of lifecycle (R22) -/

/-- A change of lifecycle ends in the lifecycle asked for, from every state. -/
theorem State.lifecycle_setLifecycle (s : State) (new : Lifecycle) : (s.setLifecycle new).sys.lifecycle = new := by
  by_cases hnew : s.sys.lifecycle = new
  · rwa [State.setLifecycle, if_pos hnew]
  · unfold State.setLifecycle
    extract_lets old left before changed since negotiating standing ended
    have hended : ended.sys.role = changed.sys.role := by simp [ended, standing, negotiating, since]
    have hrole : (((ended.endCt.checkPower).estLife old new).fbEvent 4 (u8 (lifeCode new))).sys.role = changed.sys.role := by
      rw [State.fbEvent_sys, State.estLife_sys, State.checkPower_role, State.endCt_role, hended]
    rw [if_neg hnew]
    exact congrArg (·.2.1) hrole

section
variable {s : State} {h : Hdr}

theorem State.admitted_desc (s : State) (op : Nat) (h : Hdr) (pl : Bytes) : (s.admitted op h pl).recd.fb.desc = s.recd.fb.desc :=
  congrArg (fun v => v.2.2.2.2.2) (s.admitted_leaves op h pl)

theorem State.admitted_replay (s : State) (op : Nat) (h : Hdr) (pl : Bytes) : (s.admitted op h pl).recd.replay = s.recd.replay :=
  (State.archive_eq_iff.1 (s.admitted_archive op h pl)).2.2

/-! ### The flight buffer (R488 to R492) -/

theorem exec_fbTrigger {u : State} (hpass : s.passes 0x0911 h false [] = true) (hu : u = s.admitted 0x0911 h []) (hdesc : s.recd.fb.desc = none) :
    exec (.fbTrigger h) s = .next ((u.fbTrigger 0 0).reply 0x0911 h 0) := by
  have hopen : ¬ (s.admitted 0x0911 h []).recd.fb.desc.isSome = true := by simp [State.admitted_desc, hdesc]
  subst hu
  show execFbTrigger h s = _
  rw [execFbTrigger, State.wcpReq_of_passes _ _ _ _ _ hpass]
  simp only [if_neg hopen]

/-- A buffer frozen by a descriptor (R489). -/
def FbSt.frozen (f : FbSt) (d : FbDesc) : FbSt := { f with desc := some d, trig := none, ckptDue := none }

theorem exec_fbFrozen {x : FbTrig} (htrig : s.recd.fb.trig = some x) (hdesc : s.recd.fb.desc = none) (hwarn : s.sys.vinWarn = false) :
    ∃ start sha, exec .fbFrozen s = .next (((s.advanceTo (x.time + 10000000000)).updFb fun f =>
      f.closePeriods.frozen ⟨x, start, x.time + 10000000000, sha⟩).raise 0xC010 0 0 (u32 x.seq)) := by
  have hopen : ¬ (s.recd.fb.desc.isSome = true ∨ s.sys.vinWarn = true) := by simp [hdesc, hwarn]
  have hexec : exec .fbFrozen s = execFbFrozen s := rfl
  simp only [execFbFrozen, htrig, if_neg hopen] at hexec
  exact ⟨_, _, hexec⟩

theorem exec_fbCheckpoint {x : Nat} (hdue : s.recd.fb.ckptDue = some x) (hpower : s.sys.power = .p0) (hon : s.fbOn = true) :
    ∃ u : State, exec .fbCheckpoint s = .next (u.updFb fun f => { f with ckpt := (s.recd.fb.ckpt + 1) % 2 ^ 32, ckptDue := none }) := by
  have hready : ¬ (s.recd.fb.ckptDue.isNone = true ∨ s.sys.power ≠ .p0 ∨ (!s.fbOn) = true) := by simp [hdue, hpower, hon]
  have hexec : exec .fbCheckpoint s = execFbCheckpoint s := rfl
  rw [execFbCheckpoint, if_neg hready] at hexec
  exact ⟨_, hexec⟩

theorem exec_fbAutoRelease {d : FbDesc} (hdesc : s.recd.fb.desc = some d) (hhours : s.parN 0x903 0 ≠ 0) :
    exec .fbAutoRelease s = .next ((s.advanceTo (d.stop + s.parN 0x903 0 * 3600000000000)).fbRelease) := by
  have hexec : exec .fbAutoRelease s = execFbAutoRelease s := rfl
  simp only [execFbAutoRelease, hdesc, if_neg hhours] at hexec
  exact hexec

theorem exec_fbStatus_idle {u : State} (hpass : s.passes 0x0910 h false [] = true) (hu : u = s.admitted 0x0910 h [])
    (hdesc : u.recd.fb.desc = none) (htrig : u.recd.fb.trig = none) :
    exec (.fbStatus h) s = .next (u.reply 0x0910 h 0 (u8 u.fbState ++ [0, 0, 0] ++ u32 0 ++ List.replicate 24 0)) := by
  have hexec : exec (.fbStatus h) s = execFbStatus h s := rfl
  rw [execFbStatus, State.wcpReq_of_passes _ _ _ _ _ hpass, ← hu] at hexec
  simp only [hdesc, htrig] at hexec
  exact hexec

theorem exec_fbStatus_frozen {u : State} {d : FbDesc} (hpass : s.passes 0x0910 h false [] = true) (hu : u = s.admitted 0x0910 h [])
    (hdesc : u.recd.fb.desc = some d) :
    exec (.fbStatus h) s = .next (u.reply 0x0910 h 0 (u8 2 ++ [0, 0, 0] ++ u32 d.trig.seq ++ (time80Bytes d.start ++ time80Bytes d.stop
      ++ u32 (u.exportFile d).length))) := by
  have hstate : u.fbState = 2 := by simp [State.fbState, hdesc]
  have hexec : exec (.fbStatus h) s = execFbStatus h s := rfl
  rw [execFbStatus, State.wcpReq_of_passes _ _ _ _ _ hpass, ← hu] at hexec
  simp only [hdesc, hstate] at hexec
  exact hexec

theorem exec_fbExport {o : BitVec 32} {n : BitVec 16} {u : State} {d : FbDesc} (hpass : s.passes 0x0912 h false [] = true)
    (hu : u = s.admitted 0x0912 h (leBytes 4 o.toNat ++ leBytes 2 n.toNat)) (hdesc : u.recd.fb.desc = some d) (hn : n.toNat ≤ 4000) :
    exec (.fbExport h o n) s = .next (u.reply 0x0912 h 0 (leBytes 4 o.toNat ++ slice (u.exportFile d) o.toNat n.toNat)) := by
  have hexec : exec (.fbExport h o n) s = execFbExport h o n s := rfl
  rw [execFbExport, State.wcpReq_of_passes _ _ _ _ _ hpass, ← hu] at hexec
  simp only [hdesc, if_neg (Nat.not_lt.2 hn)] at hexec
  exact hexec

theorem exec_fbRelease {u : State} {d : FbDesc} (hpass : s.passes 0x0913 h false [] = true) (hu : u = s.admitted 0x0913 h [])
    (hdesc : u.recd.fb.desc = some d) : exec (.fbRelease h) s = .next (u.fbRelease.reply 0x0913 h 0) := by
  show execFbRelease h s = _
  rw [execFbRelease, State.wcpReq_of_passes _ _ _ _ _ hpass, ← hu, if_neg (by simp [hdesc])]

/-! ### Replay (R493, R494) -/

/-- A replay just opened. -/
def freshReplay (source length : Nat) (file : Option Bytes) : ReplaySt :=
  { source := source, length := length, pieces := [], file := file, state := 0, op := none, periods := 0, cycles := 0, div := none }

theorem exec_replayOpen_upload {n : BitVec 32} (hpass : s.passes 0x0920 h false [] = true) (hlife : s.sys.lifecycle = .isolated)
    (hpower : s.sys.power = .p0) (hdesc : s.recd.fb.desc = none) :
    ∃ u : State, u.sys.lifecycle = .replay ∧ exec (.replayOpen h 0 n) s =
      .next ((u.setReplay (some (freshReplay 0 n.toNat none))).reply 0x0920 h 0) := by
  have hready : ¬ ((s.admitted 0x0920 h ([0, 0, 0, 0] ++ leBytes 4 n.toNat)).sys.lifecycle ≠ .isolated
      ∨ (s.admitted 0x0920 h ([0, 0, 0, 0] ++ leBytes 4 n.toNat)).sys.power ≠ .p0) := by simp [hlife, hpower]
  have hexec : exec (.replayOpen h 0 n) s = execReplayOpen h 0 n s := rfl
  rw [execReplayOpen, State.wcpReq_of_passes _ _ _ _ _ hpass] at hexec
  simp only [if_neg hready, if_neg (show ¬ 2 ≤ (0 : Byte).toNat by decide), State.admitted_desc, hdesc,
    if_neg (show ¬ (0 : Byte) = 1 by decide)] at hexec
  refine ⟨_, ?_, hexec⟩
  rw [State.updFb_sys, State.lifecycle_setLifecycle]

theorem exec_replayOpen_buffer {n : BitVec 32} {d : FbDesc} (hpass : s.passes 0x0920 h false [] = true) (hlife : s.sys.lifecycle = .isolated)
    (hpower : s.sys.power = .p0) (hdesc : s.recd.fb.desc = some d) :
    ∃ (u : State) (f : Bytes), u.sys.lifecycle = .replay ∧ exec (.replayOpen h 1 n) s =
      .next ((u.setReplay (some (freshReplay 1 f.length (some f)))).reply 0x0920 h 0) := by
  have hready : ¬ ((s.admitted 0x0920 h ([1, 0, 0, 0] ++ leBytes 4 n.toNat)).sys.lifecycle ≠ .isolated
      ∨ (s.admitted 0x0920 h ([1, 0, 0, 0] ++ leBytes 4 n.toNat)).sys.power ≠ .p0) := by simp [hlife, hpower]
  have hexec : exec (.replayOpen h 1 n) s = execReplayOpen h 1 n s := rfl
  rw [execReplayOpen, State.wcpReq_of_passes _ _ _ _ _ hpass] at hexec
  simp only [if_neg hready, if_neg (show ¬ 2 ≤ (1 : Byte).toNat by decide), State.admitted_desc, hdesc,
    if_neg (show ¬ (1 : Byte) = 0 by decide)] at hexec
  exact ⟨_, _, State.lifecycle_setLifecycle _ _, hexec⟩

/-- A first piece beyond the file's start leaves the file open (R493). -/
theorem exec_replayLoad_first {o : BitVec 32} {b : Bytes} {r : ReplaySt} (hpass : s.passes 0x0921 h false [] = true)
    (hreplay : s.recd.replay = some r) (hsource : r.source = 0) (hfile : r.file = none) (hnone : r.pieces = [])
    (hroom : o.toNat + b.length ≤ r.length) (hb : b ≠ []) (ho : o ≠ 0) {u : State} (hu : u = s.admitted 0x0921 h (leBytes 4 o.toNat ++ b)) :
    exec (.replayLoad h o b) s = .next ((u.setReplay (some { r with pieces := [(o.toNat, b)] })).reply 0x0921 h 0) := by
  have hstart : o.toNat ≠ 0 := fun hzero => ho (BitVec.eq_of_toNat_eq hzero)
  have hopen : ¬ (r.source ≠ 0 ∨ r.file.isSome = true) := by simp [hsource, hfile]
  have hfits : ¬ (r.length < o.toNat + b.length ∨ b = []) := by
    rintro (hlong | hempty)
    · omega
    · exact hb hempty
  have hreplay' : u.recd.replay = some r := by rw [hu, State.admitted_replay, hreplay]
  have hexec : exec (.replayLoad h o b) s = execReplayLoad h o b s := rfl
  rw [execReplayLoad, State.wcpReq_of_passes _ _ _ _ _ hpass, ← hu] at hexec
  simp only [hreplay', if_neg hopen, if_neg hfits, hnone, List.filter_nil, insertFrag, joinFrags, if_neg hstart] at hexec
  exact hexec

/-- A replay behind its REPLAY_START (R494). -/
def ReplaySt.started (r : ReplaySt) (op : OpRef) (cp stop mode : Nat) : ReplaySt :=
  { r with state := 1, op := some op, periods := 0, cycles := 0, div := none, cp := cp, stop := stop, mode := mode }

theorem exec_replayStart {c : BitVec 32} {e : Time80} {m : Byte} {r : ReplaySt} {f : Bytes} (hpass : s.passes 0x0922 h false [] = true)
    (hreplay : s.recd.replay = some r) (hfile : r.file = some f) (hidle : r.state ≠ 1) (hm : m.toNat < 2) (hns : e.ns.toNat < 1000000000)
    (hc : c.toNat ∈ wholeCheckpoints ((parseChunks f.length (f.drop 256)).getD [])) {u : State}
    (hu : u = s.admitted 0x0922 h (leBytes 4 c.toNat ++ time80Bytes (t80 e) ++ [m])) :
    exec (.replayStart h c e m) s = .next ((u.setReplay (some (r.started (opRef 0x0922 h) c.toNat (t80 e) m.toNat))).reply 0x0922 h 1) := by
  have hargs : ¬ (1000000000 ≤ e.ns.toNat ∨ 2 ≤ m.toNat ∨ wholeCheckpoints ((parseChunks f.length (f.drop 256)).getD []) = []
      ∨ (!(c == 0 || (wholeCheckpoints ((parseChunks f.length (f.drop 256)).getD [])).contains c.toNat)) = true) := by
    rintro (h | h | h | h)
    · omega
    · omega
    · simp [h] at hc
    · simp [hc] at h
  have hreplay' : u.recd.replay = some r := by rw [hu, State.admitted_replay, hreplay]
  have hexec : exec (.replayStart h c e m) s = execReplayStart h c e m s := rfl
  rw [execReplayStart, State.wcpReq_of_passes _ _ _ _ _ hpass, ← hu] at hexec
  simp only [hreplay', hfile, if_neg hidle, if_neg hargs] at hexec
  simpa only [ReplaySt.started, hfile] using hexec

/-- The records of a run change partition 4 alone. -/
def State.replayRecs (s : State) (l : List Bytes) : State := l.foldl State.replayRec s

/-- A replay behind its run (R494). -/
def ReplaySt.ended (x : ReplaySt) (r : ReplayRun) : ReplaySt :=
  { x with state := if r.div.isNone then 2 else 3, periods := r.periods, cycles := r.cycles, div := r.div, op := none }

/-- The event that says what a run found, 0xC030 or 0xC031. -/
def State.replayEvent (s : State) (div : Option (Nat × Nat × Nat)) : State := match div with
  | none => s.raise 0xC030 0 0
  | some d => s.raise 0xC031 0 0 (u32 d.1 ++ u8 d.2.1 ++ u8 d.2.2)

theorem State.replayEvent_archive (s : State) (div : Option (Nat × Nat × Nat)) : (s.replayEvent div).archive = s.archive := by
  cases div with
  | none => exact s.raise_archive _ _ _ _
  | some d => exact s.raise_archive _ _ _ _

/-- The command that started a run completes with it. -/
def State.replayDone (s : State) (op : Option OpRef) : State := match op with
  | some op => s.complete op 0
  | none => s

theorem State.replayDone_archive (s : State) (op : Option OpRef) : (s.replayDone op).archive = s.archive := by
  cases op with
  | none => rfl
  | some op => exact s.complete_archive _ _ _

theorem exec_replayEnd {x : ReplaySt} (hreplay : s.recd.replay = some x) (hrun : x.state = 1) :
    exec .replayEnd s = .next ((((s.replayRecs (s.replayRun x).recs).setReplay (some (x.ended (s.replayRun x)))).replayEvent
      (s.replayRun x).div).replayDone x.op) := by
  have hexec : exec .replayEnd s = execReplayEnd s := rfl
  simp only [execReplayEnd, hreplay, if_neg (not_not.2 hrun)] at hexec
  exact hexec

theorem exec_replayStatus {r : ReplaySt} (hpass : s.passes 0x0923 h false [] = true) (hreplay : s.recd.replay = some r) :
    ∃ body : Bytes, exec (.replayStatus h) s = .next ((s.admitted 0x0923 h []).reply 0x0923 h 0 (u8 r.state ++ [0, 0, 0] ++ u32 r.periods
      ++ u32 r.cycles ++ body)) ∧ body.length = 8 := by
  have hexec : exec (.replayStatus h) s = execReplayStatus h s := rfl
  rw [execReplayStatus, State.wcpReq_of_passes _ _ _ _ _ hpass] at hexec
  simp only [State.admitted_replay, hreplay] at hexec
  refine ⟨_, hexec, ?_⟩
  split
  · simp [u32, u8]
  · rfl

theorem exec_replayClose {r : ReplaySt} {u : State} (hpass : s.passes 0x0924 h false [] = true) (hu : u = s.admitted 0x0924 h [])
    (hreplay : s.recd.replay = some r) (hop : r.op = none) :
    exec (.replayClose h) s = .next (((u.setReplay none).setLifecycle .isolated).reply 0x0924 h 0) := by
  have hreplay' : u.recd.replay = some r := by rw [hu, State.admitted_replay, hreplay]
  have hexec : exec (.replayClose h) s = execReplayClose h s := rfl
  rw [execReplayClose, State.wcpReq_of_passes _ _ _ _ _ hpass, ← hu] at hexec
  simp only [hreplay', hop] at hexec
  exact hexec

end

/-- Settles O41: each clause is the command's own next state above (`exec_fbTrigger` to `exec_replayClose`), read back. -/
theorem flightBufferComplete : Obligations.FlightBufferComplete := by
  unfold Obligations.FlightBufferComplete
  refine ⟨?trigger, ?frozen, ?checkpoint, ?autoRelease, ?statusIdle, ?statusFrozen, ?exported, ?release, ?upload, ?buffer, ?load, ?start, ?ended,
    ?status, ?close⟩
  case trigger => exact fun s h u hpass hu hdesc => exec_fbTrigger hpass hu hdesc
  case frozen =>
    intro s x htrig hdesc hwarn
    obtain ⟨start, sha, hexec⟩ := exec_fbFrozen htrig hdesc hwarn
    have hfb : _ = FbSt.frozen _ _ := State.raise_fb ((s.advanceTo (x.time + 10000000000)).updFb fun f =>
      f.closePeriods.frozen ⟨x, start, x.time + 10000000000, sha⟩) (code := 0xC010) 0 0 (u32 x.seq) (by decide)
    exact ⟨_, _, hexec, congrArg FbSt.desc hfb, rfl, congrArg FbSt.trig hfb, rfl, State.raise_now _ _ _ _ _⟩
  case checkpoint =>
    intro s x hdue hpower hon
    obtain ⟨u, hexec⟩ := exec_fbCheckpoint hdue hpower hon
    exact ⟨_, hexec, rfl, rfl⟩
  case autoRelease => exact fun s d hdesc hhours => exec_fbAutoRelease hdesc hhours
  case statusIdle => exact fun s h u hpass hu hdesc htrig => exec_fbStatus_idle hpass hu hdesc htrig
  case statusFrozen => exact fun s h u d hpass hu hdesc => exec_fbStatus_frozen hpass hu hdesc
  case exported => exact fun s h o n u d hpass hu hdesc hn => exec_fbExport hpass hu hdesc hn
  case release => exact fun s h u d hpass hu hdesc => exec_fbRelease hpass hu hdesc
  case upload =>
    intro s h n hpass hlife hpower hdesc
    obtain ⟨u, hreplaying, hexec⟩ := exec_replayOpen_upload hpass hlife hpower hdesc
    exact ⟨_, _, hexec, (congrArg SysSt.lifecycle (State.reply_sys _ _ _ _ _)).trans hreplaying,
      congrArg RecSt.replay (State.reply_recd _ _ _ _ _), rfl, rfl, rfl⟩
  case buffer =>
    intro s h n d hpass hlife hpower hdesc
    obtain ⟨u, f, hreplaying, hexec⟩ := exec_replayOpen_buffer hpass hlife hpower hdesc
    exact ⟨_, _, hexec, (congrArg SysSt.lifecycle (State.reply_sys _ _ _ _ _)).trans hreplaying,
      congrArg RecSt.replay (State.reply_recd _ _ _ _ _), rfl, rfl⟩
  case load =>
    intro s h o b r hpass hreplay hsource hfile hnone hroom hb ho
    exact ⟨_, exec_replayLoad_first hpass hreplay hsource hfile hnone hroom hb ho rfl, congrArg RecSt.replay (State.reply_recd _ _ _ _ _)⟩
  case start =>
    intro s h c e m r f hpass hreplay hfile hidle hm hns hc
    exact ⟨_, exec_replayStart hpass hreplay hfile hidle hm hns hc rfl, congrArg RecSt.replay (State.reply_recd _ _ _ _ _)⟩
  case ended =>
    intro s r hreplay hrun
    have harchive := ((((s.replayRecs (s.replayRun r).recs).setReplay (some (r.ended (s.replayRun r)))).replayEvent
      (s.replayRun r).div).replayDone_archive r.op).trans (State.replayEvent_archive _ _)
    refine ⟨_, r.ended (s.replayRun r), exec_replayEnd hreplay hrun, (State.archive_eq_iff.1 harchive).2.2, rfl, rfl, rfl, rfl, ?_⟩
    simp [ReplaySt.ended]
  case status => exact fun s h r hpass hreplay => exec_replayStatus hpass hreplay
  case close => exact fun s h r u hpass hu hreplay hop => exec_replayClose hpass hu hreplay hop

end Sys2Proof.Machine
end

section
/-! SUPPORT. What O42 rests on: a change of lifecycle leaves the boot hold, and what an update reads depends on what is kept alone. -/

namespace Sys2Proof.Machine
open Sys2Proof

section
variable (s : State)

/-! ### The boot hold under a change of lifecycle (R505) -/

theorem State.endCt_bootHold : s.endCt.sys.bootHold = s.sys.bootHold := by
  unfold State.endCt
  split
  · rfl
  · split
    · exact congrArg SysSt.bootHold (State.complete_sys _ _ _ _)
    · have hopen : ∀ (u : State) r how st, (u.openString r how st).sys.bootHold = u.sys.bootHold :=
        fun u r how st => congrArg (fun v => v.1.sys.bootHold) (u.openString_frame r how st)
      rw [State.raise_sys, hopen]
      simp only [State.sys_ite, State.stopChannel_sys, State.updCh_sys, ite_self]

theorem State.dropTarget_bootHold (status : Nat) : (s.dropTarget status).sys.bootHold = s.sys.bootHold := by
  unfold State.dropTarget
  split <;> simp

theorem State.checkPower_bootHold : s.checkPower.sys.bootHold = s.sys.bootHold := by
  unfold State.checkPower
  simp only []
  (repeat' split) <;> simp [State.dropTarget_bootHold]

theorem State.setLifecycle_bootHold_of_update (new : Lifecycle) (hold : s.sys.lifecycle = .update) (hactive : new ≠ .active) :
    (s.setLifecycle new).sys.bootHold = s.sys.bootHold := by
  by_cases hnew : s.sys.lifecycle = new
  · rw [State.setLifecycle, if_pos hnew]
  · unfold State.setLifecycle
    extract_lets old left before changed since negotiating standing ended
    have hleft : left = s := by simp [left, old, hold]
    have hended : ended.sys.bootHold = left.sys.bootHold := by
      simp only [ended, if_neg (show ¬ (old = .active ∨ new = .active) by simp [old, hold, hactive]), standing, State.sys_ite,
        State.enterStandby_sys, ite_self, negotiating]
      split <;> rfl
    rw [if_neg hnew, State.fbEvent_sys, State.estLife_sys, State.checkPower_bootHold, State.endCt_bootHold, hended, hleft]

theorem State.leaveUpdate_bootHold : s.leaveUpdate.sys.bootHold = s.sys.bootHold := by
  unfold State.leaveUpdate
  split
  · rfl
  · next hupdate =>
    exact s.setLifecycle_bootHold_of_update _ (not_not.1 hupdate) (by split <;> decide)

end

/-! ### The transaction's readings under what is kept (R505) -/

section
variable {t s : State} (g : Same t s)
include g

theorem Same.staged_eq : t.staged = s.staged := by simp only [State.staged, g.upd_eq]
theorem Same.newTx_eq (mask : Nat) : t.newTx mask = s.newTx mask := by simp only [State.newTx, g.staged_eq, g.upd_eq, g.parN_eq]
theorem Same.pairOpen_eq : t.pairOpen = s.pairOpen := by simp only [State.pairOpen, g.upd_eq]
theorem Same.updOpen_eq : t.updOpen = s.updOpen := by simp only [State.updOpen, g.upd_eq]
theorem Same.ownModule_eq : t.ownModule = s.ownModule := by simp only [State.ownModule, g.upd_eq]
theorem Same.nodeParts_eq : t.nodeParts = s.nodeParts := by simp only [State.nodeParts, g.upd_eq]
theorem Same.updParts_eq : t.updParts = s.updParts := by simp only [State.updParts, g.upd_eq]

theorem Same.nodeStepOk_eq : t.nodeStepOk = s.nodeStepOk := by
  obtain ⟨-, -, -, -, -, -, -, hpsi, -, hest, -⟩ := g.fields
  funext r
  simp only [State.nodeStepOk, g.contactsOpen_eq, State.ch, State.imp, hpsi, hest]

end
end Sys2Proof.Machine
end

section
/-! SUPPORT. O42: the next state of each command of an update session where it acts (19 R502, R505, R507, R514, R521). -/

namespace Sys2Proof.Machine
open Sys2Proof

section
variable {s : State} {h : Hdr}

theorem exec_updStatus {u : State} (hpass : s.passes 0x0B00 h false [] = true) (hu : u = s.admitted 0x0B00 h []) :
    exec (.updStatus h) s = .next (u.reply 0x0B00 h 0 (u8 s.upd.state ++ [0, 0, 0] ++ leBytes 8 s.upd.bundleId.toNat ++ s.updParts)) := by
  subst hu
  show execUpdStatus h s = _
  rw [execUpdStatus, State.wcpReq_of_passes _ _ _ _ _ hpass, State.admitted_upd, (s.admitted_same _ _ _).updParts_eq]

/-- An update session just begun (R505). -/
def UpdSt.begun (u : UpdSt) (length session : Nat) : UpdSt :=
  { u with state := 1, session := session, op := none, stage := some ⟨length, [], false⟩ }

theorem exec_updBegin {n : BitVec 32} (hpass : s.passes 0x0B01 h false [] = true) (hn : n ≠ 0) (hmost : n.toNat ≤ 67108864)
    (hidle : s.upd.state = 0) (hpair : s.pairOpen = false) (hwarn : s.sys.vinWarn = false)
    (hplace : s.sys.lifecycle = .active ∨ s.sys.lifecycle = .standby) {w u : State} (hw : w = s.admitted 0x0B01 h (leBytes 4 n.toNat))
    (hu : u = w.enterUpdate) :
    exec (.updBegin h n) s = .next (({ u with upd := u.upd.begun n.toNat h.session.toNat } : State).reply 0x0B01 h 0) := by
  have hsame : Same w s := hw ▸ s.admitted_same _ _ _
  have hsize : ¬ (n = 0 ∨ 67108864 < n.toNat) := by
    rintro (h | h)
    · exact hn h
    · omega
  have hready : ¬ ((!decide (w.upd.state = 0 ∨ w.upd.state = 9)) = true ∨ (!(w.sys.lifecycle == .standby || w.sys.lifecycle == .isolated
      || w.sys.lifecycle == .active || w.sys.bootHold)) = true ∨ w.pairOpen = true ∨ w.sys.vinWarn = true) := by
    rw [hsame.upd_eq, hsame.sys_eq, hsame.pairOpen_eq]
    obtain hlife | hlife := hplace
    · simp [hidle, hpair, hwarn, hlife]
    · simp [hidle, hpair, hwarn, hlife]
  subst hu
  show execUpdBegin h n s = _
  rw [execUpdBegin, State.wcpReq_of_passes _ _ _ _ _ hpass, ← hw, if_neg hsize, if_neg hready]
  rfl

/-- A STANDBY that entered UPDATE (R505). -/
def State.enteredUpdate (s : State) : State :=
  { s.setLifecycle .update with upd := { (s.setLifecycle .update).upd with from_ := some .standby } }

theorem State.enterUpdate_of_standby (hlife : s.sys.lifecycle = .standby) : s.enterUpdate = s.enteredUpdate := by
  unfold State.enterUpdate State.enteredUpdate
  simp only [hlife, true_or, if_true]

theorem exec_updData {o : BitVec 32} {b : Bytes} {g : Staging} (hpass : s.passes 0x0B02 h false [] = true) (hstage : s.upd.stage = some g)
    (hstate : s.upd.state = 1) (hroom : o.toNat + b.length ≤ g.length) {u : State}
    (hu : u = s.admitted 0x0B02 h (leBytes 4 o.toNat ++ b)) :
    exec (.updData h o b) s = .next (State.reply { u with upd := { s.upd with stage := some { g with pieces := g.pieces ++ [(o.toNat, b)] } } }
      0x0B02 h 0) := by
  have hupd : u.upd = s.upd := by rw [hu, State.admitted_upd]
  have hexec : exec (.updData h o b) s = execUpdData h o b s := rfl
  rw [execUpdData, State.wcpReq_of_passes _ _ _ _ _ hpass, ← hu] at hexec
  simp only [hupd, hstage, if_neg (not_not.2 hstate), if_neg (Nat.not_lt.2 hroom)] at hexec
  exact hexec

/-- A PAIR bundle goes to the twin with its verification, in manifest mode (R518). -/
def State.sendPair (s : State) (g : Staging) : State := match g.bundle with
  | some b => if bundleFlag b 0 && s.parN 0xB00 0 == 0 then s.sendImage 1 0 b else s
  | none => s

theorem State.sendPair_upd (s : State) (g : Staging) : (s.sendPair g).upd = s.upd := by
  unfold State.sendPair
  split
  · split <;> rfl
  · rfl

theorem exec_updVerify {g : Staging} (hpass : s.passes 0x0B03 h false [] = true) (hstage : s.upd.stage = some g) (hstate : s.upd.state = 1)
    {u : State} (hu : u = s.admitted 0x0B03 h []) :
    exec (.updVerify h) s = .next (((({ u with upd := { s.upd with state := 2, op := some (opRef 0x0B03 h) } } : State)).sendPair g).reply
      0x0B03 h 1) := by
  have hupd : u.upd = s.upd := by rw [hu, State.admitted_upd]
  show execUpdVerify h s = _
  rw [execUpdVerify, State.wcpReq_of_passes _ _ _ _ _ hpass, ← hu, hupd]
  split
  · next hnone => exact absurd (hnone.symm.trans hstage) nofun
  · next g' hg =>
    cases Option.some.inj (hg.symm.trans hstage)
    rw [if_neg (not_not.2 hstate)]
    rfl

theorem State.updDone_upd (s : State) (status : Nat) (result : Bytes) : (s.updDone status result).upd = { s.upd with op := none } := by
  unfold State.updDone
  split
  · next hnone => exact congrArg (fun o : Option OpRef => { s.upd with op := o }) hnone
  · next op _ =>
    have hsame := State.complete_same { s with upd := { s.upd with op := none } } op status result
    exact hsame.upd_eq

theorem State.updDone_raised (s : State) (status : Nat) (result : Bytes) : s.fm.raised ⊆ (s.updDone status result).fm.raised := by
  unfold State.updDone
  split
  · exact fun _ hf => hf
  · next op _ =>
    have hkept := State.complete_raised { s with upd := { s.upd with op := none } } op status result
    exact hkept

/-- The id a verified bundle is known by. -/
def Staging.id (g : Staging) : BitVec 64 := match g.bundle with
  | some b => bundleId b
  | none => 0

theorem exec_updVerifyDone_good {g : Staging} (hstage : s.upd.stage = some g) (hstate : s.upd.state = 2) (hgood : (s.verdict g).1 = 0) :
    exec .updVerifyDone s = .next ((State.raise { s with upd := { s.upd with state := 3, bundleId := g.id } } 0xD002 0 0
      (leBytes 8 g.id.toNat)).updDone 0) := by
  show execUpdVerifyDone s = _
  rw [execUpdVerifyDone]
  split
  · next hnone => exact absurd (hnone.symm.trans hstage) nofun
  · next g' hg =>
    cases Option.some.inj (hg.symm.trans hstage)
    rw [if_neg (not_not.2 hstate)]
    simp only [if_pos hgood]
    rfl

theorem exec_updVerifyDone_bad {g : Staging} (hstage : s.upd.stage = some g) (hstate : s.upd.state = 2) (hbad : (s.verdict g).1 ≠ 0)
    (hown : g.forwarded = false) {u : State} (hu : u = (s.inc 0xB22 0).raise 0xD003 0 1 (u16 (s.verdict g).1 ++ u16 (s.verdict g).2)) :
    exec .updVerifyDone s = .next (State.updDone { u with upd := { u.upd with state := 1 } } (s.verdict g).1) := by
  subst hu
  show execUpdVerifyDone s = _
  rw [execUpdVerifyDone]
  split
  · next hnone => exact absurd (hnone.symm.trans hstage) nofun
  · next g' hg =>
    cases Option.some.inj (hg.symm.trans hstage)
    rw [if_neg (not_not.2 hstate)]
    simp only [if_neg hbad, hown, Bool.false_eq_true, if_false]

/-- Module parts of a staged bundle are activated from UPDATE (R507). -/
theorem exec_updActivate_module {m : Byte} {u : State} {ps : List PartEntry} (hpass : s.passes 0x0B04 h false [] = true)
    (hu : u = s.admitted 0x0B04 h [m]) (hpos : 0 < m.toNat) (hlow : m.toNat < 8) (hstate : s.upd.state = 3) (hwarn : s.sys.vinWarn = false)
    (hlife : s.sys.lifecycle = .update)
    (hps : ps = (forSlot (bundleParts s.staged) s.sys.slot).filter (fun p => m.toNat.testBit (p.type - 1)))
    (hnamed : ((bitsSet 3 m.toNat).all fun i => ps.any fun p => p.type == i + 1) = true)
    (hadmissible : admissible (replaceParts s.ownModule ps) (s.upd.twinParts.filter fun e => e.type != 4) s.nodeParts = true) :
    exec (.updActivate h m) s =
      .next ((({ u with upd := { s.upd with op := some (opRef 0x0B04 h) } } : State).reply 0x0B04 h 1).activate m.toNat) := by
  have hsame : Same u s := hu ▸ s.admitted_same _ _ _
  have hform : ¬ (m.toNat = 0 ∨ 16 ≤ m.toNat ∨ (8 < m.toNat ∧ (!(bundleFlag u.staged 0)) = true)) := by omega
  have hready : ¬ (u.upd.state ≠ 3 ∨ u.sys.vinWarn = true) := by simp [hsame.upd_eq, hsame.sys_eq, hstate, hwarn]
  have hnode : m.toNat.testBit 3 = false := Nat.testBit_lt_two_pow hlow
  have hparts : ¬ ((bitsSet 3 m.toNat).any (fun i => !ps.any fun p => p.type == i + 1) = true
      ∨ (m.toNat.testBit 3 = true ∧ ((bundleParts u.staged).find? fun p => p.type == 4).isNone = true)) := by
    simp only [hnode, Bool.false_eq_true, false_and, or_false, ← List.not_all_eq_any_not, hnamed]
    decide
  have hupdate : ¬ (!decide (u.sys.lifecycle = .update ∨ u.sys.bootHold = true)) = true := by simp [hsame.sys_eq, hlife]
  have hmods : (forSlot (bundleParts u.staged) u.sys.slot).filter (fun p => m.toNat.testBit (p.type - 1)) = ps := by
    rw [hsame.staged_eq, hsame.sys_eq, hps]
  have hfits : ¬ (!admissible (replaceParts u.ownModule ps) (u.upd.twinParts.filter fun e => e.type != 4) u.nodeParts) = true := by
    simp [hsame.ownModule_eq, hsame.upd_eq, hsame.nodeParts_eq, hadmissible]
  show execUpdActivate h m s = _
  rw [execUpdActivate, State.wcpReq_of_passes _ _ _ _ _ hpass, ← hu]
  simp only [hmods, if_neg hform, if_neg hready, if_neg hparts, if_pos (show m.toNat % 8 ≠ 0 by omega), if_neg hupdate, if_neg hfits,
    ← hsame.upd_eq]

/-- Node parts of a staged bundle are activated by the active (R514). -/
theorem exec_updActivate_node {e : PartEntry} (hpass : s.passes 0x0B04 h false [] = true) (hstate : s.upd.state = 3) (hwarn : s.sys.vinWarn = false)
    (hactive : s.isActive = true) (he : (bundleParts s.staged).find? (fun p => p.type == 4) = some e)
    (hrings : ((bitsSet 4 e.scope.toNat).all s.nodeStepOk) = true) (hmeet : meet s.ownModule 1 [e] 4 = true) :
    ∃ v : State, Same v s ∧ exec (.updActivate h 8) s =
      .next ((State.nodeStep { v with upd := { v.upd with op := some (opRef 0x0B04 h), tx := some (v.newTx 8) } } e).reply 0x0B04 h 1) := by
  let u := s.admitted 0x0B04 h [8]
  have hsame : Same u s := s.admitted_same _ _ _
  have hready : ¬ (u.upd.state ≠ 3 ∨ u.sys.vinWarn = true) := by simp [hsame.upd_eq, hsame.sys_eq, hstate, hwarn]
  have hnode : (bundleParts u.staged).find? (fun p => p.type == 4) = some e := by rw [hsame.staged_eq, he]
  have hparts : ¬ ((bitsSet 3 8).any (fun i => !((forSlot (bundleParts u.staged) u.sys.slot).filter fun p => (8 : Nat).testBit (p.type - 1)).any
      fun p => p.type == i + 1) = true ∨ (Nat.testBit 8 3 = true ∧ ((bundleParts u.staged).find? fun p => p.type == 4).isNone = true)) := by
    simp [hnode, show bitsSet 3 8 = [] from rfl]
  have hrun : ¬ ((!u.isActive) = true ∨ (!(bitsSet 4 e.scope.toNat).all u.nodeStepOk) = true) := by
    simp only [hsame.isActive_eq, hactive, hsame.nodeStepOk_eq, hrings]
    decide
  have hfits : ¬ (!meet u.ownModule 1 [e] 4) = true := by simp [hsame.ownModule_eq, hmeet]
  refine ⟨(u.inc 0xB20 0).raise 0xD004 0 0 (leBytes 8 u.upd.bundleId.toNat ++ u8 8),
    (State.raise_same _ _ _ _ _).trans ((State.inc_same _ _ _).trans hsame), ?_⟩
  show execUpdActivate h 8 s = _
  rw [execUpdActivate, State.wcpReq_of_passes _ _ _ _ _ hpass]
  simp only [show (8 : Byte).toNat = 8 from rfl]
  rw [if_neg (by omega), if_neg hready, if_neg hparts, if_neg (by decide)]
  split
  · next hnone => exact absurd (hnone.symm.trans hnode) nofun
  · next e' he' =>
    cases Option.some.inj (he'.symm.trans hnode)
    rw [if_neg hrun, if_neg hfits]

theorem exec_updAbort {u : State} (hpass : s.passes 0x0B06 h false [] = true) (hu : u = s.admitted 0x0B06 h []) (hopen : s.updOpen = true)
    (hold : s.sys.bootHold = false) :
    exec (.updAbort h) s = .next ((u.updDone 0x0105).dropStage.leaveUpdate.reply 0x0B06 h 0) := by
  have hsame : Same u s := hu ▸ s.admitted_same _ _ _
  have hopen' : ¬ (!u.updOpen) = true := by simp [hsame.updOpen_eq, hopen]
  have hhold : ¬ (u.updDone 0x0105).dropStage.leaveUpdate.sys.bootHold = true := by
    rw [State.leaveUpdate_bootHold, State.dropStage_sys, State.updDone_sys, hsame.sys_eq, hold]
    decide
  show execUpdAbort h s = _
  rw [execUpdAbort, State.wcpReq_of_passes _ _ _ _ _ hpass, ← hu, if_neg hopen']
  simp only [if_neg hhold]

end

/-- Settles O42: each clause is the command's own next state above (`exec_updStatus` to `exec_updAbort`), read back. -/
theorem updateSessionsComplete : Obligations.UpdateSessionsComplete := by
  unfold Obligations.UpdateSessionsComplete
  refine ⟨?status, ?beginActive, ?beginStandby, ?data, ?verify, ?verifyDone, ?module, ?node, ?abort⟩
  case status => exact fun s h u hpass hu => exec_updStatus hpass hu
  case beginActive =>
    intro s h n hpass hn hmost hidle hpair hwarn hlife
    have hstay : (s.admitted 0x0B01 h (leBytes 4 n.toNat)).enterUpdate = s.admitted 0x0B01 h (leBytes 4 n.toNat) := by
      simp [State.enterUpdate, hlife]
    have hupd := (State.reply_same { s.admitted 0x0B01 h (leBytes 4 n.toNat) with
      upd := (s.admitted 0x0B01 h (leBytes 4 n.toNat)).upd.begun n.toNat h.session.toNat } 0x0B01 h 0 []).upd_eq
    refine ⟨_, exec_updBegin hpass hn hmost hidle hpair hwarn (.inl hlife) rfl hstay.symm, ?_, ?_, ?_, ?_⟩
    · exact congrArg UpdSt.state hupd
    · exact congrArg UpdSt.stage hupd
    · exact congrArg UpdSt.session hupd
    · rw [State.reply_sys, State.admitted_sys, hlife]
  case beginStandby =>
    intro s h n hpass hn hmost hidle hpair hwarn hlife
    have hlife' : (s.admitted 0x0B01 h (leBytes 4 n.toNat)).sys.lifecycle = .standby := by rw [State.admitted_sys, hlife]
    have hupd := (State.reply_same { (s.admitted 0x0B01 h (leBytes 4 n.toNat)).enteredUpdate with
      upd := (s.admitted 0x0B01 h (leBytes 4 n.toNat)).enteredUpdate.upd.begun n.toNat h.session.toNat } 0x0B01 h 0 []).upd_eq
    refine ⟨_, exec_updBegin hpass hn hmost hidle hpair hwarn (.inr hlife) rfl (State.enterUpdate_of_standby hlife').symm, ?_, ?_, ?_⟩
    · exact congrArg UpdSt.state hupd
    · exact congrArg UpdSt.from_ hupd
    · rw [State.reply_sys]
      exact State.lifecycle_setLifecycle _ _
  case data =>
    intro s h o b g hpass hstage hstate hroom
    exact ⟨_, exec_updData hpass hstage hstate hroom rfl, (State.reply_same _ _ _ _ _).upd_eq⟩
  case verify =>
    intro s h g hpass hstage hstate
    exact ⟨_, exec_updVerify hpass hstage hstate rfl, (State.reply_same _ _ _ _ _).upd_eq.trans (State.sendPair_upd _ _)⟩
  case verifyDone =>
    intro s g hstage hstate hown
    by_cases hgood : (s.verdict g).1 = 0
    · refine ⟨_, exec_updVerifyDone_good hstage hstate hgood, ?_⟩
      simp only [State.updDone_upd, (State.raise_same _ _ _ _ _).upd_eq, hstage, if_pos hgood, true_and]
      intro b hb
      simp [Staging.id, hb]
    · refine ⟨_, exec_updVerifyDone_bad hstage hstate hgood hown rfl, ?_⟩
      simp only [State.updDone_upd, (State.raise_same _ _ _ _ _).upd_eq, State.inc_upd, hstage, if_neg hgood, true_and]
      exact State.waits_of_raised (State.updDone_raised _ _ _) (State.raise_waits _ _ _ _ _ (by decide))
  case module =>
    exact fun s h m u ps hpass hu hpos hlow hstate hwarn hlife hps hnamed hadmissible =>
      exec_updActivate_module hpass hu hpos hlow hstate hwarn hlife hps hnamed hadmissible
  case node =>
    intro s h e hpass hstate hwarn hactive he hrings hmeet
    obtain ⟨v, hsame, hexec⟩ := exec_updActivate_node hpass hstate hwarn hactive he hrings hmeet
    exact ⟨_, hexec, rfl, congrArg some (hsame.newTx_eq 8)⟩
  case abort => exact fun s h u hpass hu hopen hold => exec_updAbort hpass hu hopen hold

end Sys2Proof.Machine
end

section
/-! SUPPORT. The rules that O38 and O39 share: what safety demands and the end of drive leave of module time and of the self-tests' state. -/

namespace Sys2Proof.Machine
open Sys2Proof

/-- Module time and the state of chapter 17. -/
def State.timeTests (s : State) : Nat × BistSt := (s.now, s.bist)

theorem now_of_timeTests {t s : State} (h : t.timeTests = s.timeTests) : t.now = s.now := congrArg Prod.fst h
theorem bist_of_timeTests {t s : State} (h : t.timeTests = s.timeTests) : t.bist = s.bist := congrArg Prod.snd h

theorem timeTests_of_frame_safe {t s : State} (h : t.frame .safe = s.frame .safe) : t.timeTests = s.timeTests :=
  congrArg (fun v => (v.1.now, v.1.bist)) h
theorem timeTests_of_frame_channel {t s : State} (h : t.frame .channel = s.frame .channel) : t.timeTests = s.timeTests :=
  congrArg (fun v => (v.1.now, v.1.bist)) h

section
variable (s : State)

theorem State.sweepGates_timeTests : s.sweepGates.timeTests = s.timeTests := by
  unfold State.sweepGates
  split
  · rfl
  · refine foldl_view State.timeTests (fun u c => ?_) _ _
    split
    · exact timeTests_of_frame_channel (u.faultChannel_frame c)
    · rfl

theorem State.freed_timeTests : s.freed.timeTests = s.timeTests := by
  refine (foldl_view State.timeTests (fun u n => ?_) _ _).trans
    (foldl_view State.timeTests (fun u r => timeTests_of_frame_safe (u.openString_frame r _ _)) _ _)
  split
  · exact timeTests_of_frame_safe (u.openSo_frame _ n)
  · rfl

theorem State.updCh_timeTests (c : Nat) (f : ChSt → ChSt) : (s.updCh c f).timeTests = s.timeTests := rfl

theorem State.undriven_timeTests : s.undriven.timeTests = s.timeTests := by
  unfold State.undriven
  exact foldl_view State.timeTests (fun u c => u.updCh_timeTests c _) _ _

/-- The end of drive takes no time and leaves the self-tests (R375). -/
theorem State.endDrive_timeTests : s.endDrive.timeTests = s.timeTests := by
  have hover : ∀ u : State, u.driveOver.timeTests = u.timeTests := fun _ => rfl
  rw [State.endDrive_eq, State.sweepGates_timeTests, hover, State.undriven_timeTests, State.freed_timeTests]

@[simp] theorem State.endDrive_now : s.endDrive.now = s.now := now_of_timeTests s.endDrive_timeTests

/-! ### SF1 takes no time (R342) -/

theorem State.bistRunEnd_now (r : BistRun) : (s.bistRunEnd r).now = s.now := by
  unfold State.bistRunEnd
  split
  · rfl
  · exact State.raise_now _ _ _ _ _

theorem State.bistEnd_now (code outcome count : Nat) (startup preempted : Bool) : (s.bistEnd code outcome count startup preempted).now = s.now := by
  unfold State.bistEnd
  refine (foldl_view State.now (fun u r => u.bistRunEnd_now _) _ _).trans ?_
  (repeat' split) <;> simp

theorem State.preempt_now : s.preempt.now = s.now := by
  refine foldl_view State.now (fun u c => ?_) _ _
  simp only []
  split
  · exact u.bistEnd_now _ _ _ _ _
  · exact u.bistEnd_now _ _ _ _ _

theorem State.demandEnds_now : s.demandEnds.now = s.now := by
  rw [State.demandEnds, State.preempt_now, State.standing_now (State.endCt_standing _), State.standing_now (State.lapseArm_standing _)]

theorem State.safeOpen_now (r : Nat) : (s.safeOpen r).now = s.now := by
  rw [State.safeOpen, State.demandEnds_now, State.shutGates]
  have hchannel := timeTests_of_frame_channel
    (((s.openString r .clamp 0x0109).updCh r fun x => { x with gateSafeShut := true, gateTurnipShut := true }).faultChannel_frame r)
  exact (now_of_timeTests hchannel).trans (State.standing_now (s.openString_standing r .clamp 0x0109))

theorem State.sf1_now (r : Nat) : (s.sf1 r).now = s.now := by
  have htold : ∀ u : State, (u.tellTrip r 0).now = u.now := by
    intro u
    unfold State.tellTrip
    split <;> rfl
  rw [State.sf1, htold, State.trip, State.safeOpen_now]
  split <;> rfl

end
end Sys2Proof.Machine
end

section
/-! SUPPORT. O39: fault acceptance, handling and the deadline (20 R524 to R531). -/

namespace Sys2Proof.Machine
open Sys2Proof

section
variable {s : State}

/-- An idle fault manager that takes its first fault (R527, R531). -/
def FaultSt.took (m : FaultSt) (f : FRec) (now : Nat) : FaultSt :=
  { m with raised := m.raised.erase f, cur := some { f with time := now }, queue := [], peak := max m.peak 0 }

/-- The first fault of an idle fault manager is the record in progress (R527). -/
theorem exec_faultAccepted_first {f : FRec} (hnext : nextRaised s.fm.raised = some f) (hidle : s.fm.cur = none) (hqueue : s.fm.queue = []) :
    exec .faultAccepted s = .next { s with fm := s.fm.took f s.now } := by
  have hexec : exec .faultAccepted s = execFaultAccepted s := rfl
  simp only [execFaultAccepted, hnext, hidle, hqueue, Option.toList_none, List.nil_append, List.any_nil, Bool.false_eq_true, if_false,
    Option.isSome_none, false_and, State.placeFault, List.find?_nil] at hexec
  exact hexec

/-- A fault that matches the record in progress is merged (R528). -/
theorem exec_faultAccepted_merge {f c : FRec} (hnext : nextRaised s.fm.raised = some f) (hcur : s.fm.cur = some c) (hsame : f.same c = true) :
    exec .faultAccepted s = .next (State.merge { s with fm := { s.fm with raised := s.fm.raised.erase f } } { f with time := s.now }) := by
  have hknown : (s.fm.cur.toList ++ s.fm.queue).any (FRec.same { f with time := s.now }) = true := by
    have hsame' : FRec.same { f with time := s.now } c = true := hsame
    simp [hcur, hsame']
  have hexec : exec .faultAccepted s = execFaultAccepted s := rfl
  simp only [execFaultAccepted, hnext, if_pos hknown] at hexec
  exact hexec

theorem exec_faultHandling_begin {f : FRec} (hcur : s.fm.cur = some f) (hfresh : f.begun = false) : exec .faultHandling s = .next (s.begin_ f) := by
  have hexec : exec .faultHandling s = execFaultHandling s := rfl
  simp only [execFaultHandling, hcur, hfresh, Bool.false_eq_true, if_false] at hexec
  exact hexec

/-- The record in progress, once begun, is done, and the next in order begins (R527). -/
theorem exec_faultHandling_next {f g : FRec} {l : List FRec} (hcur : s.fm.cur = some f) (hbegun : f.begun = true) (hqueue : s.fm.queue = g :: l)
    (hfresh : g.begun = false) {u : State} (hu : u = (State.inc { s with fm := { s.fm with cur := none } } 0x40 0)) :
    exec .faultHandling s = .next (State.begin_ { u with fm := { u.fm with cur := some g, queue := l } } g) := by
  subst hu
  have hexec : exec .faultHandling s = execFaultHandling s := rfl
  simp only [execFaultHandling, hcur, hbegun, if_true, State.inc_fm, hqueue, hfresh, Bool.false_eq_true, if_false] at hexec
  exact hexec

/-- Every string is demanded to open (R530). -/
def State.sf1Every (s : State) : State := [0, 1, 2, 3].foldl State.sf1 s

theorem State.sf1Every_now (s : State) : s.sf1Every.now = s.now := foldl_view State.now (fun u r => u.sf1_now r) _ _

theorem exec_handlerDeadline {f : FRec} (hlate : s.late = some f) :
    exec .handlerDeadline s =
      .next ((s.advanceTo (f.time + deadlineNs f.sev)).sf1Every.endDrive.raiseWith 0x1081 0 3 [] (some (f.code, f.inst)) none) := by
  have hexec : exec .handlerDeadline s = execHandlerDeadline s := rfl
  simp only [execHandlerDeadline, hlate] at hexec
  exact hexec

/-- A record in progress that is alone is the late one (R530). -/
theorem late_of_alone {f : FRec} (hcur : s.fm.cur = some f) (hqueue : s.fm.queue = []) (hsev : 2 ≤ f.sev) : s.late = some f := by
  have halone : (s.fm.cur.toList ++ s.fm.queue).filter (fun f => decide (2 ≤ f.sev)) = [f] := by simp [hcur, hqueue, hsev]
  simp only [State.late, halone]
  cases hbegun : f.begun <;> simp [hbegun]

end

/-- Settles O39: each clause is the command's own next state above (`exec_faultAccepted_first` to `exec_handlerDeadline`), read back. -/
theorem faultHandlingCompletes : Obligations.FaultHandlingCompletes := by
  unfold Obligations.FaultHandlingCompletes
  refine ⟨?first, ?merge, ?begins, ?next, ?deadline, ?late⟩
  case first => exact fun s f hnext hidle hqueue => ⟨_, exec_faultAccepted_first hnext hidle hqueue, rfl, rfl, rfl⟩
  case merge =>
    intro s f c hnext hcur _ hsame
    refine ⟨_, exec_faultAccepted_merge hnext hcur hsame, ?_, ?_⟩
    · have hsame' : FRec.same c { f with time := s.now } = true := by
        simp only [FRec.same, Bool.and_eq_true, beq_iff_eq] at hsame ⊢
        exact ⟨hsame.1.symm, hsame.2.symm⟩
      simp [State.merge, hcur, hsame']
    · exact State.count_inc_same _ _ _
  case begins => exact fun s f hcur hfresh => exec_faultHandling_begin hcur hfresh
  case next =>
    intro s f g l hcur hbegun hqueue hfresh
    refine ⟨_, exec_faultHandling_next hcur hbegun hqueue hfresh rfl, rfl, rfl, ?_⟩
    exact State.count_inc_same _ _ _
  case deadline =>
    intro s f hlate
    refine ⟨_, exec_handlerDeadline hlate, State.raiseWith_waits _ _ _ _ _ _ _ (by decide), ?_, ?_⟩
    · rw [State.raiseWith_sys, State.endDrive_roleOut]
    · rw [(State.raiseWith_same _ _ _ _ _ _ _).now_eq, State.endDrive_now, State.sf1Every_now]
      rfl
  case late => exact fun s f hcur hqueue hsev => late_of_alone hcur hqueue hsev

end Sys2Proof.Machine
end

section
/-! SUPPORT. O38: the next state of each command of temperatures, the thermal shutdown and its hold (17 R469 to R476). -/

namespace Sys2Proof.Machine
open Sys2Proof

/-! ### Readings (R469, R470) -/

/-- What a reading leaves of time, and the readings it publishes. -/
def State.sensorView (s : State) : Nat × List (Option Int) := (s.now, s.bist.sensors)

section
variable (s : State)

@[simp] theorem State.raise_bist (code inst sev : Nat) (data : Bytes) : (s.raise code inst sev data).bist = s.bist :=
  (s.raise_same code inst sev data).bist_eq
@[simp] theorem State.reply_bist (op : Nat) (h : Hdr) (status : Nat) (body : Bytes) : (s.reply op h status body).bist = s.bist :=
  (s.reply_same op h status body).bist_eq
@[simp] theorem State.admitted_bist (op : Nat) (h : Hdr) (pl : Bytes) : (s.admitted op h pl).bist = s.bist := (s.admitted_same op h pl).bist_eq

theorem State.inc_waits (id inst code k sev : Nat) : (s.inc id inst).waits code k sev = s.waits code k sev := rfl

theorem State.raise_sensorView (code inst sev : Nat) (data : Bytes) : (s.raise code inst sev data).sensorView = s.sensorView := by
  simp [State.sensorView]

theorem State.takeRow_sensorView (t : Nat) (row : List (Option Int)) : (s.takeRow t row).sensorView = (s.now, row) := by
  unfold State.takeRow
  extract_lets bad fresh series src read alarmed use top was lim warn src' warned
  have halarmed : alarmed.sensorView = read.sensorView := foldl_view State.sensorView (fun u i => u.raise_sensorView _ _ _ _) _ _
  have hwarned : warned.sensorView = (s.now, row) := halarmed.trans rfl
  rw [← hwarned]
  (repeat' split)
  · exact State.raise_sensorView _ _ _ _ _
  · exact State.raise_sensorView _ _ _ _ _
  · rfl

theorem State.takeRow_now (t : Nat) (row : List (Option Int)) : (s.takeRow t row).now = s.now := congrArg Prod.fst (s.takeRow_sensorView t row)

theorem State.judgeRates_sensorView : s.judgeRates.sensorView = s.sensorView := by
  unfold State.judgeRates
  extract_lets old use run rate trip judged warned
  have hwarned : warned.sensorView = s.sensorView := by
    simp only [warned]
    split
    · exact State.raise_sensorView _ _ _ _ _
    · rfl
  rw [← hwarned]
  split
  · exact State.raise_sensorView _ _ _ _ _
  · rfl

/-- The readings since the last evaluation, taken in their order at 1 kHz. -/
def State.takeRows (s : State) (n : Nat) (rows : List (List (Option Int) × Nat)) : State :=
  rows.foldl (fun s p => s.takeRow (s.now - (n - 1 - p.2) * 1000000) p.1) s

theorem State.takeRows_now (n : Nat) (rows : List (List (Option Int) × Nat)) : (s.takeRows n rows).now = s.now :=
  foldl_view State.now (fun u _ => u.takeRow_now _ _) _ _

/-- The last reading is the one published. -/
theorem State.takeRows_sensorView (n : Nat) (rows : List (List (Option Int) × Nat)) (r : List (Option Int) × Nat) :
    (s.takeRows n (rows ++ [r])).sensorView = (s.now, r.1) := by
  have hlast : s.takeRows n (rows ++ [r]) = (s.takeRows n rows).takeRow ((s.takeRows n rows).now - (n - 1 - r.2) * 1000000) r.1 := by
    simp only [State.takeRows, List.foldl_append, List.foldl_cons, List.foldl_nil]
  rw [hlast, State.takeRow_sensorView, State.takeRows_now]

theorem State.takeRows_sys (n : Nat) (rows : List (List (Option Int) × Nat)) : (s.takeRows n rows).sys = s.sys :=
  foldl_view State.sys (fun u _ => u.takeRow_sys _ _) _ _

/-! ### The restart from the hold (R472) -/

theorem State.afterReset_bist (failed lost : Bool) : (s.afterReset failed lost).bist = s.bist := by
  unfold State.afterReset
  extract_lets dropped pair told src tried
  have hdropped : dropped.bist = s.bist := by
    simp only [dropped]
    split
    · exact State.raise_bist _ _ _ _ _
    · rfl
  have htold : told.bist = dropped.bist := by
    simp only [told]
    split <;> rfl
  have htried : tried.bist = s.bist := htold.trans hdropped
  split
  · exact (State.raise_bist _ _ _ _ _).trans htried
  · exact htried

theorem State.leaveHold_restarts : s.leaveHold.bist.hold = false ∧ s.leaveHold.sys = s.sys.restart 8 := by
  have hreset : ∀ u : State, (u.resetModule 8).bist.hold = u.bist.hold := fun u =>
    (congrArg BistSt.hold (State.afterReset_bist (u.restart 8) _ _)).trans rfl
  unfold State.leaveHold
  simp only []
  split
  · exact ⟨hreset _, State.resetModule_sys _ _⟩
  · exact ⟨(congrArg BistSt.hold (State.raise_bist _ _ _ _ _)).trans (hreset _), (State.raise_sys _ _ _ _ _).trans (State.resetModule_sys _ _)⟩

end

/-! ### The commands -/

section
variable {s : State} {h : Hdr}

theorem exec_thermalEvaluation {rows : List (List (Option Int))} (hpower : s.sys.power = .p0) :
    exec (.thermalEvaluation rows) s =
      .next (((s.advanceTo ((s.now / 100000000 + 1) * 100000000)).takeRows rows.length rows.zipIdx).judgeRates) := by
  show execThermalEvaluation rows s = _
  rw [execThermalEvaluation, if_neg (by simp [hpower])]
  rfl

/-- A shutdown's flag, and the instant at which its hold begins (R471). -/
def BistSt.shut (b : BistSt) (at_ : Nat) : BistSt := { b with flag := true, holdAt := some at_ }

theorem exec_thermalShutdown (hidle : s.bist.hold = false) (hnone : s.bist.holdAt = none) {u : State}
    (hu : u = (s.endDrive.raise 0xB002 0 3).inc 0xAA1 0) :
    exec .thermalShutdown s = .next { u with bist := u.bist.shut (u.now + 2000000) } := by
  subst hu
  show execThermalShutdown s = _
  rw [execThermalShutdown, if_neg (by simp [hidle, hnone])]
  rfl

/-- The readings of a poll are all below 95 °C but sensor 5's (R472). -/
def pollCool (rs : List (Option Int)) : Bool := [0, 1, 2, 3, 4, 6].all fun i => match rs.getD i none with
  | some v => decide (v < 9500)
  | none => false

/-- A poll taken: the polls in a row below 95 °C, with one more (R472). -/
def State.polled (s : State) (rs : List (Option Int)) : State :=
  { s.advanceTo (s.bist.pollAt + 10000000000) with bist :=
    { s.bist with polls := if pollCool rs then s.bist.polls + 1 else 0, pollAt := max s.now (s.bist.pollAt + 10000000000) } }

theorem State.polled_polls (s : State) (rs : List (Option Int)) : (s.polled rs).bist.polls = if pollCool rs then s.bist.polls + 1 else 0 := rfl

theorem exec_thermalHoldPoll {rs : List (Option Int)} (hhold : s.bist.hold = true) (hnone : s.bist.holdAt = none) :
    exec (.thermalHoldPoll rs) s = .next (if 2 ≤ (s.polled rs).bist.polls then (s.polled rs).leaveHold else s.polled rs) := by
  have hheld : ¬ (!s.bist.hold) = true := by simp [hhold]
  have hwaits : ¬ s.bist.holdAt.isSome = true := by simp [hnone]
  show execThermalHoldPoll rs s = _
  rw [execThermalHoldPoll, if_neg hwaits]
  exact congrArg Host.Outcome.next (if_neg hheld)

theorem exec_thermStatus {u : State} (hpass : s.passes 0x0A10 h false [] = true) (hu : u = s.admitted 0x0A10 h []) :
    exec (.thermStatus h) s = .next (u.reply 0x0A10 h 0 (u32 s.thermStatus ++ u32 (toF32 s.moduleMax.2) ++ s.thermSensors)) := by
  subst hu
  show execThermStatus h s = _
  rw [execThermStatus, State.wcpReq_of_passes _ _ _ _ _ hpass]
  simp only [State.thermStatus, State.moduleMax, State.working, State.thermSensors, State.admitted_bist]

theorem exec_thermClear (hpass : s.passes 0x0A11 h false [] = true) (hcool : ∀ v, some v ∈ s.bist.sensors → v < 9500) {u : State}
    (hu : u = s.admitted 0x0A11 h []) :
    exec (.thermClear h) s = .next ((State.raise { u with bist := { u.bist with flag := false } } 0xB006 0 0).reply 0x0A11 h 0) := by
  subst hu
  have hnone : ¬ ((s.admitted 0x0A11 h []).bist.sensors.any fun r => match r with
      | some v => decide (9500 ≤ v)
      | none => false) = true := by
    simp only [State.admitted_bist, List.any_eq_true, not_exists, not_and]
    intro r hr hhot
    cases r with
    | none => exact Bool.false_ne_true hhot
    | some v =>
      have hbelow := hcool v hr
      simp only [decide_eq_true_eq] at hhot
      omega
  show execThermClear h s = _
  rw [execThermClear, State.wcpReq_of_passes _ _ _ _ _ hpass]
  exact congrArg Host.Outcome.next (if_neg hnone)

end

/-- Settles O38: each clause is the command's own next state above (`exec_thermalEvaluation` to `exec_thermClear`), read back. -/
theorem thermalComplete : Obligations.ThermalComplete := by
  unfold Obligations.ThermalComplete
  refine ⟨?evaluation, ?shutdown, ?poll, ?cool, ?status, ?clear⟩
  case evaluation =>
    intro s rs r hpower
    have hrows : (rs ++ [r]).zipIdx = rs.zipIdx ++ [(r, rs.length)] := by simp [List.zipIdx_append]
    have hview := ((s.advanceTo ((s.now / 100000000 + 1) * 100000000)).takeRows (rs ++ [r]).length (rs ++ [r]).zipIdx).judgeRates_sensorView
    rw [hrows, State.takeRows_sensorView] at hview
    refine ⟨_, exec_thermalEvaluation hpower, ?_, ?_, ?_⟩
    · rw [hrows]
      exact congrArg Prod.snd hview
    · rw [hrows]
      exact (congrArg Prod.fst hview).trans (Nat.max_eq_right (by omega))
    · rw [State.judgeRates_sys, State.takeRows_sys]
      rfl
  case shutdown =>
    intro s hidle hnone
    obtain ⟨u, hu⟩ : ∃ u : State, u = (s.endDrive.raise 0xB002 0 3).inc 0xAA1 0 := ⟨_, rfl⟩
    have hnow : u.now = s.now := by rw [hu, State.inc_now, State.raise_now, State.endDrive_now]
    have hrole : u.sys.roleOut = false := by rw [hu, State.inc_sys, State.raise_sys, State.endDrive_roleOut]
    have hwaits : u.waits 0xB002 0 3 = true := by rw [hu, State.inc_waits, State.raise_waits _ _ _ _ _ (by decide)]
    exact ⟨_, exec_thermalShutdown hidle hnone hu, hrole, rfl, congrArg (fun n => some (n + 2000000)) hnow, hwaits⟩
  case poll =>
    intro s rs hhold hnone hpolls
    have hfew : ¬ 2 ≤ (s.polled rs).bist.polls := by
      rw [State.polled_polls, hpolls]
      split <;> decide
    have hexec := exec_thermalHoldPoll (rs := rs) hhold hnone
    rw [if_neg hfew] at hexec
    exact ⟨_, hexec, hhold, rfl⟩
  case cool =>
    intro s rs hhold hnone hpolls hcool
    have hmany : 2 ≤ (s.polled rs).bist.polls := by
      rw [State.polled_polls, if_pos (show pollCool rs = true from hcool)]
      omega
    have hexec := exec_thermalHoldPoll (rs := rs) hhold hnone
    rw [if_pos hmany] at hexec
    obtain ⟨hfree, hsys⟩ := (s.polled rs).leaveHold_restarts
    refine ⟨_, hexec, hfree, ?_, ?_⟩
    · rw [hsys, SysSt.restart_lifecycle]
    · rw [hsys, SysSt.restart_cause _ (by decide)]
  case status => exact fun s h u hpass hu => exec_thermStatus hpass hu
  case clear =>
    intro s h hpass hcool
    refine ⟨_, exec_thermClear hpass hcool rfl, ?_⟩
    rw [State.reply_bist, State.raise_bist]
    simp

end Sys2Proof.Machine
end

section
/-! SUPPORT. O37: the next state of each self-test command where it acts (17 R461 to R468, R476). -/

namespace Sys2Proof.Machine
open Sys2Proof

/-! ### Tests that begin (R467, R468) -/

section
variable (s : State)

theorem State.impClusters_bist : s.impClusters.bist = s.bist := by
  unfold State.impClusters
  split
  · exact foldl_view State.bist (fun u r => bist_of_timeTests (timeTests_of_frame_channel (u.abandonRun_frame r 0x5053))) _ _
  · rfl

theorem State.idleLanes_bist (codes : List Nat) : (s.idleLanes codes).bist = s.bist := by
  unfold State.idleLanes
  simp only []
  split <;> rfl

theorem State.idleLanes_now (codes : List Nat) : (s.idleLanes codes).now = s.now := by
  unfold State.idleLanes
  simp only []
  split <;> rfl

theorem State.idleLanes_katIdle (hstandby : s.isStandby = true) :
    (s.idleLanes [0x20, 0x21, 0x22, 0x23]).twin.katIdle = s.twin.katIdle ++ [0, 1, 2, 3] := by
  unfold State.idleLanes
  rw [if_pos hstandby]
  rfl

/-- The blocks that join those under test, each with the instant its test ends. -/
def State.freshTests (s : State) (l : List (Nat × Nat)) : List (Nat × Nat) :=
  (l.filter fun x => !s.bist.running.any fun y => y.1 == x.1).map fun x => (x.1, s.now + x.2 * 1000)

theorem State.beginTests_bist (l : List (Nat × Nat)) : (s.beginTests l).bist = { s.bist with running := s.bist.running ++ s.freshTests l } := by
  unfold State.beginTests
  exact (State.impClusters_bist _).trans rfl

/-- Every block whose test is asked for is then under test. -/
theorem State.beginTests_running {l : List (Nat × Nat)} {c n : Nat} (hc : (c, n) ∈ l) :
    ((s.beginTests l).bist.running.any fun b => b.1 == c) = true := by
  rw [State.beginTests_bist]
  simp only [List.any_append, Bool.or_eq_true]
  by_cases hold : (s.bist.running.any fun b => b.1 == c) = true
  · exact .inl hold
  · refine .inr (List.any_eq_true.2 ⟨(c, s.now + n * 1000), ?_, by simp⟩)
    have hfresh : (!s.bist.running.any fun y => y.1 == c) = true := by
      rw [Bool.eq_false_iff.2 hold]
      rfl
    exact List.mem_map.2 ⟨(c, n), List.mem_filter.2 ⟨hc, hfresh⟩, rfl⟩

end

/-! ### The commands -/

section
variable {s : State} {h : Hdr}

/-- A start-up slot whose results are in (R462). -/
def State.slotDone (s : State) (n : Nat) (rs : List (Nat × Bool × Nat × Nat)) : State :=
  let u := (s.advanceTo (s.bist.started + slotEndMs n * 1000000)).endSlot n rs
  { u with bist := { u.bist with slot := n } }

theorem exec_selftestSlotEnd {n : Nat} {rs : List (Nat × Bool × Nat × Nat)} (hlife : s.sys.lifecycle = .selftest) (hn : n = s.bist.slot + 1)
    (hmost : n ≤ 5) (hagree : n = 5 → (rs.any fun r => r.1 == 0 && !r.2.1) = false) :
    exec (.selftestSlotEnd n rs) s = .next ((s.slotDone n rs).beginTests (slotBlocks (n + 1))) := by
  have hturn : ¬ (s.sys.lifecycle ≠ .selftest ∨ n ≠ s.bist.slot + 1 ∨ 5 < n) := by
    rintro (h | h | h)
    · exact h hlife
    · exact h hn
    · omega
  have hdiffer : ¬ (n == 5 && rs.any fun r => r.1 == 0 && !r.2.1) = true := by
    by_cases hlast : n = 5
    · simp only [hagree hlast, Bool.and_false]
      decide
    · simp [hlast]
  show execSelftestSlotEnd n rs s = _
  rw [execSelftestSlotEnd, if_neg hturn]
  simp only [if_neg hdiffer]
  rfl

theorem exec_selftestComplete (hlife : s.sys.lifecycle = .selftest) (hslot : s.bist.slot = 5) (hpend : s.preempted = [])
    (hrunning : s.bist.running = []) (htime : s.now < s.bist.started + 12500000000) : exec .selftestComplete s = .next s.endSelftest := by
  have hturn : ¬ (s.sys.lifecycle ≠ .selftest ∨ s.bist.slot ≠ 5) := by simp [hlife, hslot]
  show execSelftestComplete s = _
  rw [execSelftestComplete, if_neg hturn, if_neg (Nat.not_le.2 htime), if_pos ⟨hpend, hrunning⟩]

theorem exec_bistRun {cs : Bytes} {l : List Nat} (hpass : s.passes 0x0A00 h false l = true) (hl : l = (cs.map (·.toNat)).dedup) (hsome : l ≠ [])
    (hknown : l.all allBlocks.contains = true) (hmay : l.all s.mayTest = true) {u : State}
    (hu : u = ((s.admitted 0x0A00 h (u8 cs.length ++ cs)).beginTests
      (l.map fun c => (c, (s.admitted 0x0A00 h (u8 cs.length ++ cs)).testUs c))).idleLanes l) :
    exec (.bistRun h cs) s =
      .next (State.reply { u with bist := { u.bist with runs := u.bist.runs ++ [⟨opRef 0x0A00 h, l, l⟩] } } 0x0A00 h 1) := by
  subst hu hl
  have hmay' : (s.admitted 0x0A00 h (u8 cs.length ++ cs)).mayTest = s.mayTest := funext fun c => by simp only [State.mayTest, State.admitted_sys]
  have hform : ¬ ((cs.map (·.toNat)).dedup = [] ∨ (((cs.map (·.toNat)).dedup).any fun c => !allBlocks.contains c) = true) := by
    rw [← List.not_all_eq_any_not, hknown]
    simpa using hsome
  have hfree : ¬ (((cs.map (·.toNat)).dedup).any fun c => !(s.admitted 0x0A00 h (u8 cs.length ++ cs)).mayTest c) = true := by
    rw [hmay', ← List.not_all_eq_any_not, hmay]
    decide
  show execBistRun h cs s = _
  simp only [execBistRun]
  rw [State.wcpRun_of_passes _ _ _ _ _ _ _ hpass, if_neg hform, if_neg hfree]

theorem exec_bistStatus {cs : Bytes} {u : State} (hpass : s.passes 0x0A01 h false [] = true) (hu : u = s.admitted 0x0A01 h (u8 cs.length ++ cs))
    (hknown : (cs.all fun c => allBlocks.contains c.toNat) = true) :
    exec (.bistStatus h cs) s = .next (u.reply 0x0A01 h 0 (cs.flatMap fun c => u32 (s.bistWord c.toNat))) := by
  subst hu
  have hform : ¬ (cs.any fun c => !allBlocks.contains c.toNat) = true := by
    rw [← List.not_all_eq_any_not, hknown]
    decide
  show execBistStatus h cs s = _
  rw [execBistStatus, State.wcpReq_of_passes _ _ _ _ _ hpass, if_neg hform]
  simp only [State.bistWord, State.bistRes, State.admitted_bist]

/-- A test whose count is the one expected passes by its signature (R461). -/
theorem testOutcome_counted (ok : Bool) (n : Nat) : testOutcome ok n n = if ok then 2 else 3 := by simp [testOutcome]

/-- A test that counts too little is aborted (R461). -/
theorem testOutcome_short (ok : Bool) {n e : Nat} (hshort : n < e) : testOutcome ok n e = 4 := if_pos hshort

theorem exec_bistComplete {k due n e o : Nat} {ok : Bool} (hrunning : s.bist.running.find? (fun b => b.1 == k) = some (k, due))
    (ho : o = testOutcome ok n e) (hlife : s.sys.lifecycle ≠ .selftest) {u : State} (hu : u = if o = 4 then s else s.advanceTo due) :
    exec (.bistComplete k ok n e) s = .next ((u.bistEnd k o n false false).tested k o) := by
  have hlife' : ¬ u.sys.lifecycle = .selftest := by
    rw [hu]
    split
    · exact hlife
    · exact hlife
  have hexec : exec (.bistComplete k ok n e) s = execBistComplete k ok n e s := rfl
  simp only [execBistComplete, hrunning, ← ho, ← hu, if_neg hlife'] at hexec
  exact hexec

/-- The interval between the scrubs of a kind of memory (R464). -/
def State.scrubGap (s : State) (k : Nat) : Nat := s.parN (0xA00 + k) 0 * (if k = 0 then 1000000000 else 3600000000000)

theorem exec_scrubDue {k : Nat} (hk : k < 3) (hpower : s.sys.power = .p0) {u : State} (hu : u = s.advanceTo (s.bist.scrubs.getD k 0 + s.scrubGap k)) :
    exec (.scrubDue k) s = .next { u with bist := { u.bist with scrubs := s.bist.scrubs.set k u.now } } := by
  subst hu
  show execScrubDue k s = _
  rw [execScrubDue, if_neg (by simp [hpower]; omega)]
  rfl

theorem exec_clusterRotationDue (hidle : s.bist.rotDue = false) : exec .clusterRotationDue s =
    .next { s.advanceTo (s.bist.rotAt + s.parN 0xA03 0 * 3600000000000) with bist := { s.bist with rotDue := true } } := by
  show execClusterRotationDue s = _
  rw [execClusterRotationDue, if_neg (by simp [hidle])]
  rfl

/-- The instant of the next lanes' tests, noted as the last (R465). -/
def State.katDue (s : State) : State :=
  let u := s.advanceTo (s.bist.katAt + s.parN 0xA04 0 * 1000000000)
  { u with bist := { u.bist with katAt := u.now } }

/-- The lanes' tests of a STANDBY begin: one period each is not compared (R465). -/
def State.katBegun (s : State) : State := (s.katDue.idleLanes [0x20, 0x21, 0x22, 0x23]).incBy 0xA20 0 4

theorem State.katBegun_leaves (hstandby : s.isStandby = true) :
    s.katBegun.twin.katIdle = s.twin.katIdle ++ [0, 1, 2, 3] ∧ s.katBegun.bist = { s.bist with katAt := s.katBegun.now }
      ∧ s.katBegun.now = max s.now (s.bist.katAt + s.parN 0xA04 0 * 1000000000) := by
  have hnow : s.katBegun.now = s.katDue.now := s.katDue.idleLanes_now _
  have hbist : s.katBegun.bist = s.katDue.bist := s.katDue.idleLanes_bist _
  rw [hnow, hbist]
  exact ⟨s.katDue.idleLanes_katIdle hstandby, rfl, rfl⟩

theorem exec_standbyKatDue {l : Four LaneTest} (hstandby : s.isStandby = true) (hkat : s.twin.kat = none) (hrunning : s.bist.running = []) :
    exec (.standbyKatDue l) s =
      .next ((List.range 4).foldl (fun v c => (v.bistEnd (0x20 + c) (laneOutcome (l.get c)) (l.get c).count false false).tested
      (0x20 + c) (laneOutcome (l.get c))) s.katBegun) := by
  show execStandbyKatDue l s = _
  rw [execStandbyKatDue, if_neg (by simp [hstandby, hkat, hrunning])]
  rfl

end

/-- Settles O37: each clause is the command's own next state above (`exec_selftestSlotEnd` to `exec_standbyKatDue`), read back. -/
theorem selfTestsComplete : Obligations.SelfTestsComplete := by
  unfold Obligations.SelfTestsComplete
  refine ⟨?slotEnd, ?complete, ?run, ?status, ?counted, ?short, ?scrub, ?rotation, ?kat⟩
  case slotEnd => exact fun s n rs hlife hn hmost hagree => ⟨_, exec_selftestSlotEnd hlife hn hmost hagree, rfl⟩
  case complete => exact fun s hlife hslot hpend hrunning htime => exec_selftestComplete hlife hslot hpend hrunning htime
  case run =>
    intro s h cs l hpass hl hsome hknown hmay
    obtain ⟨u, hu⟩ : ∃ u : State, u = ((s.admitted 0x0A00 h (u8 cs.length ++ cs)).beginTests
      (l.map fun c => (c, (s.admitted 0x0A00 h (u8 cs.length ++ cs)).testUs c))).idleLanes l := ⟨_, rfl⟩
    have hbegun : u.bist = ((s.admitted 0x0A00 h (u8 cs.length ++ cs)).beginTests
      (l.map fun c => (c, (s.admitted 0x0A00 h (u8 cs.length ++ cs)).testUs c))).bist := by rw [hu, State.idleLanes_bist]
    have hruns : u.bist.runs = s.bist.runs := by
      rw [hbegun, State.beginTests_bist]
      simp
    refine ⟨_, exec_bistRun hpass hl hsome hknown hmay hu, ?_, fun c hc => ?_⟩
    · rw [State.reply_bist, ← hruns]
    · rw [State.reply_bist]
      show (u.bist.running.any fun b => b.1 == c) = true
      rw [hbegun]
      exact State.beginTests_running _ (List.mem_map.2 ⟨c, hc, rfl⟩)
  case status => exact fun s h cs u hpass hu hknown => exec_bistStatus hpass hu hknown
  case counted =>
    intro s k due ok n o hrunning ho hlife
    have hended : o ≠ 4 := by
      rw [ho]
      split <;> decide
    exact exec_bistComplete hrunning (ho.trans (testOutcome_counted ok n).symm) hlife (if_neg hended).symm
  case short =>
    exact fun s k due ok n e hrunning hshort hlife => exec_bistComplete hrunning (testOutcome_short ok hshort).symm hlife rfl
  case scrub => exact fun s k hk hpower => ⟨_, exec_scrubDue hk hpower rfl, rfl, rfl⟩
  case rotation => exact fun s hidle => ⟨_, exec_clusterRotationDue hidle, rfl, rfl, rfl⟩
  case kat =>
    intro s l hstandby hkat hrunning
    exact ⟨_, exec_standbyKatDue hstandby hkat hrunning, State.katBegun_leaves hstandby⟩

end Sys2Proof.Machine
end
